-- ==== Sys2Proof/Word.lean ====
section
/-! DEFINITION. Sys2Proof/Word.lean: the byte, the sparse table, and the TS96 time format (R15). -/
namespace Sys2Proof

/-- One byte. -/
abbrev Byte := BitVec 8

/-- A sequence of bytes, the lowest address (or first on the wire) first. -/
abbrev Bytes := List Byte

/-- A sparse table: pairs of an index and an entry, indexes rising. An index that is not listed holds the
default its reader names. -/
abbrev Map (α : Type) := List (Nat × α)

/-- A TS96 time (R15): seconds, nanoseconds, and a fraction in 2^-16 ns. -/
structure TS96 where
  s : Nat
  ns : Nat
  f : Nat
  deriving DecidableEq, Repr, Inhabited

end Sys2Proof
end

