-- ==== Sys2Proof/Syntax.lean ====
section
/-! DEFINITION. Sys2Proof/Syntax.lean: the commands of the block, one constructor per row of spec/opcode_table.json,
and the operand types they carry. -/
namespace Sys2Proof

/-- A port (R8, R9): plain trunk, cipher trunk, feeder, the twin link, the management port. -/
inductive Port where
  | p (i : Fin 16) | c (i : Fin 16) | f (i : Fin 64) | w | mgt
  deriving DecidableEq, Repr

/-- A serial lane (R8, R374). -/
inductive Lane where
  | p (i : Fin 16) | c (i : Fin 16) | f (i : Fin 64) | w (i : Fin 4) | mgt
  deriving DecidableEq, Repr

/-- A die (R7). -/
inductive Die where
  | l (i : Fin 4) | h | v | sp (i : Fin 2)
  deriving DecidableEq, Repr

/-- A time-keeping island other than the grand island (R141): a line die's plain-lane, cipher-lane, feeder-lane or
die-time island, the host I/O island, the twin island. -/
inductive Island where
  | line (die kind : Fin 4) | host | twin
  deriving DecidableEq, Repr

/-- What the host puts into a mailbox before it rings the doorbell (R45, R48): the fields of the header but the
opcode, which the command's row gives, and the bytes after the header (payload and any trailer). -/
structure Request where
  mb : Fin 16
  flags : BitVec 16 := 0
  tag : BitVec 32 := 0
  length : BitVec 32 := 0
  sequence : BitVec 32 := 0
  target : BitVec 32 := 0xF0000000
  reserved : BitVec 96 := 0
  body : Bytes := []
  deriving DecidableEq, Repr

/-- Fields of the function's configuration space that the host writes (R39). -/
inductive CfgField where
  | msixEnable | msixMask | ptmEnable | powerState | maxPayload | maxRead | aspm | aerStatus
  deriving DecidableEq, Repr

/-- What a register write names: an offset in BAR0 with the size of the access, or a field of configuration space (R39, R40). -/
inductive RegPlace where
  | bar0 (off : BitVec 18) (size : Nat)
  | config (f : CfgField)
  deriving DecidableEq, Repr

/-- The PCIe errors of a transfer (R39, R61). -/
inductive PcieError where
  | completerAbort | unsupported | poisoned | timeout
  deriving DecidableEq, Repr

/-- TWROLE as sampled (15_twin.md). -/
inductive TwRole where
  | low | high
  deriving DecidableEq, Repr

/-- An SA slot (R112): its line die, kind, SC index and AN. -/
structure SaId where
  die : Fin 4
  rx : Bool
  sc : Fin 4096
  an : Fin 4
  deriving DecidableEq, Repr


/-- What a flit carries (the flit table before R30); idle and credit-only flits are no commands. -/
inductive FlitKind where
  | cell | management | tunnel | beacon
  deriving DecidableEq, Repr

/-- A frame arriving on a port (R177), from its destination MAC to its FCS, with what only the moment decides. -/
structure RxFrame where
  port : Port
  bytes : Bytes
  /-- a code error inside the frame (R389) -/
  codeError : Bool := false
  /-- its first bit had left before its last byte came, if it was let through (R221) -/
  early : Bool := false
  /-- it was admitted to its queue before its last byte came, whether or not it had begun to leave (R245) -/
  head : Bool := false
  /-- the lookup buffer was full (R193) -/
  lookupFull : Bool := false
  /-- no frame buffer at the decrypt input (R100) -/
  noBuffer : Bool := false
  /-- trunk ports: RS symbols corrected on each lane, codewords corrected and not correctable (R376, R393, R394) -/
  rsSymbols : List Nat := []
  corrected : Nat := 0
  uncorrected : Nat := 0
  deriving DecidableEq, Repr

/-- What an 8b/10b receiver saw in a window of 1 µs (R381, R382, R385, R387). -/
structure LaneWindow where
  /-- code groups of idle or skip ordered sets, and all code groups -/
  idleCodes : Nat
  codes : Nat
  /-- code groups that the partner's clock has gained on this device's, or lost -/
  drift : Int := 0
  /-- code groups in no table, and those not valid for the running disparity -/
  symbolErrors : Nat := 0
  disparityErrors : Nat := 0
  /-- twin lanes: a skip ordered set came without its K28.5 on this lane -/
  skipMissing : Bool := false
  deriving DecidableEq, Repr

/-- A frame that the firmware or the host injects through the CPU path (R301), FCS excluded. -/
structure Injection where
  byHost : Bool
  /-- destination code (R181), or none for the MGT port -/
  dest : Option (BitVec 32)
  cls : Fin 8
  bytes : Bytes
  /-- the cookie of a wanted transmit timestamp -/
  stamp : Option (BitVec 32) := none
  deriving DecidableEq, Repr

/-- A SAK that a key server distributes (R127): its AN, its key number, the key wrapped under the CA's KEK, and the member
identifier of the server. -/
structure DistSak where
  an : Fin 4
  keyNumber : BitVec 32
  wrapped : Bytes
  mi : Bytes
  deriving DecidableEq, Repr

/-- A tap request in a training frame (R378): per tap c(-3) to c(1), 0 hold, 1 increment, 2 decrement; or a preset. -/
structure TapRequest where
  taps : List (Fin 3)
  preset : Option (Fin 6) := none
  deriving DecidableEq, Repr

/-- A HELLO on W (R405); the responder's carries MAC_R. -/
structure TwinHello where
  serial : BitVec 64
  fwVersion : BitVec 32
  recordVersion : BitVec 8
  strapHigh : Bool
  serving : Bool
  nonce : Bytes
  mac : Option Bytes := none
  deriving DecidableEq, Repr

/-- A pending timed action as its twin holds it (R317, R407, R417): instant in 2^-32 ns, kind of R348, completion
handle with the mailbox, tag and opcode it answers, and what it acts on: switches (die, SecY, AN), a key slot, a pulse
(pin, width, polarity), or the new time of a step (seconds, nanoseconds, fraction). -/
structure TwinAction where
  instant : Nat
  kind : Nat
  handle : Nat
  mailbox : Nat
  tag : Nat
  opcode : Nat
  list : List (Nat × Nat × Nat)
  deriving DecidableEq, Repr

/-- The content of a twin record (R407). -/
inductive TwinBody where
  | configSet (active shadow : Option (Nat × Bytes))
  /-- key store slot, activation, blob -/
  | keyBlob (slot mode : Nat) (blob : Bytes)
  /-- the payload of SA_INSTALL with its die -/
  | saBlob (die : Nat) (payload : Bytes)
  /-- SecY number, priority, CKN, CAK blob, peers, latest key number and SAK -/
  | mkaSession (secy priority : Nat) (ckn blob : Bytes) (peers : List Nat) (keyNumber : Nat) (sak : Option DistSak)
  | pnReservation (slot r : Nat)
  | rxState (slot nextPn : Nat)
  /-- every pending action -/
  | timedActions (list : List TwinAction)
  /-- the oper and admin lists of a port, each as the payload of GATE_LIST_INSTALL with its entries, and whether a change
  is pending -/
  | gateList (port : Nat) (oper admin : Option (Bytes × Bytes)) (pending : Bool)
  | portTaps (lane : Nat) (taps : List Int)
  | learned (die fid mac dest : Nat)
  /-- enabled controlled ports, ports with the analysis flag, TX slots in use, pins of MAC entries (die, FID, MAC, end) -/
  | control (enabled analysis inUse : List Nat) (pins : List (Nat × Nat × Nat × Nat))
  deriving DecidableEq, Repr

/-- A record as received (R409): type and version are known, or not. -/
structure TwinRecord where
  seq : Nat
  mustUnderstand : Bool := false
  /-- none: a type or version this twin does not know -/
  body : Option TwinBody
  deriving DecidableEq, Repr

/-- A yo-yo heartbeat (R410). -/
structure YoyoMsg where
  seq : Nat
  /-- the sender's state, as TWIN_QUERY codes it -/
  state : Fin 7
  serving : Bool
  devStatus : BitVec 32
  deriving DecidableEq, Repr

/-- How a verification of a stockpot block ends (R359, R364). -/
inductive VerifyOutcome where
  | passed | corrected | eccData
  | eccNode (level : Fin 5)
  | macGranule
  | macNode (level : Fin 3)
  deriving DecidableEq, Repr

/-- A command of the block: one constructor per row of the table of operations and events.
A mailbox command is steps 1 to 3 of R48 with the opcode of its row in R507: the host writes the request
and rings the doorbell. Every other row is an event of a pin, a timer, a wire or an engine, and carries what
that event brings in from outside the block. -/
inductive Instr where
  /-- PORST_N_ASSERT (R429). A low level on PORST_N resets every die; only OTP, vault NVM and the always-on island keep their contents. -/
  | porstNAssert
  /-- PORST_N_RELEASE (R430). The rising edge of PORST_N starts a cold start-up: the vault decodes the life cycle, processes the tamper latch
      and VSTBY loss, samples TWROLE and starts the grand island at zero. -/
  | porstNRelease (twrole : TwRole) (hubOk vaultOk : Bool)
  /-- SRST_N_ASSERT (R429). A low pulse on SRST_N while PORST_N is high warm-resets every die except the retained parts of the vault. -/
  | srstNAssert
  /-- SRST_N_RELEASE (R430). The rising edge of SRST_N starts a warm start-up with the shortened vault, ROM and stockpot steps. -/
  | srstNRelease (trngOk : Bool)
  /-- POWER_LOSS (R428). A rail of groups 2 and 3 falls for longer than 10 µs, which resets the device without tamper and moves it to
      OFF. -/
  | powerLoss (standby : Bool)
  /-- VSTBY_POWER_ON (R167). The always-on island notes its own power-on, which marks a loss of VSTBY to be recorded, and treated as tamper
      if enabled, at the next PORST_N. -/
  | vstbyPowerOn
  /-- PCIE_PERST (R499). A low level on PCIE_PERST_N while PORST_N is high resets the PCIe endpoint only and acts as a PCIe link down. -/
  | pciePerst
  /-- PCIE_LINK_DOWN (R68). The PCIe link goes down: mailboxes, DMA and the ring behave as for a function-level reset, and the data path
      runs on. -/
  | pcieLinkDown
  /-- FUNCTION_LEVEL_RESET (R68). A function-level reset halts DMA, disables the ring and resets registers, apertures and MSI-X, while a running
      command still writes its response. -/
  | functionLevelReset
  /-- MEMORY_BIST_COMPLETE (R36). Line-die memory BIST ends; a die that fails is marked absent and the die-present mask is fixed. -/
  | memoryBistComplete (passed : BitVec 4)
  /-- HUB_ROM_BOOT (R436). The hub ROM chooses an image slot from boot control, counts a trial, and verifies the image per R162, or stops
      start-up if no slot verifies. -/
  | hubRomBoot
  /-- STOCKPOT_TRAINING_COMPLETE (R352). Stockpot training ends; the vault draws region keys and the counter tree is initialised, or the regions of a
      failed die are held out. -/
  | stockpotTrainingComplete (sp0 : Bool) (sp1 : Bool)
  /-- FIRMWARE_START (R430). The verified firmware starts running, sets fw_ready, reinstalls the key store and loads the start-up set. -/
  | firmwareStart
  /-- PORT_ENABLE_GRACE_EXPIRY (R431). 500 ms after a port was enabled it no longer holds traffic_ready back even if it is not UP. -/
  | portEnableGraceExpiry (p : Port)
  /-- REGISTER_WRITE (R40). A write to a BAR0 register without a row of its own, including reserved space and wrong access sizes, is stored
      or discarded and counted. A write to the function's configuration space (R39) comes by this row too. -/
  | registerWrite (place : RegPlace) (value : BitVec 64)
  /-- MAILBOX_REQUEST_WRITE (R48). A host write to the request half of a mailbox is stored, or discarded and counted while the mailbox is busy. -/
  | mailboxRequestWrite (off : BitVec 18) (data : Bytes)
  /-- MB_DONE_CLEAR (R48). A write of 1 to a bit of MB_DONE clears that mailbox's done bit. -/
  | mbDoneClear (mask : BitVec 32)
  /-- FAULT_CAUSE_CLEAR (R41). A write of 1 to bits of FAULT_CAUSE clears those fault bits. -/
  | faultCauseClear (mask : BitVec 32)
  /-- FW_RESTART_REQUEST (R67). A write of HOST_CTRL.fw_restart starts a firmware restart as the watchdog would. -/
  | fwRestartRequest (value : BitVec 32)
  /-- TSNAP_TRIGGER (R43). A write of TSNAP_CTRL.trigger latches device time from the host I/O island into TSNAP_T0 to T2 and sets valid
      within 200 ns. -/
  | tsnapTrigger (value : BitVec 32)
  /-- NR_ENABLE (R54). A write of NR_CTRL.enable starts the notification ring, or sets NR_CTRL.err and FAULT_CAUSE bit 3 when size or
      base is invalid. -/
  | nrEnable (value : BitVec 32)
  /-- NR_HEAD_WRITE (R55). The host advances NR_HEAD, freeing ring entries for the device. -/
  | nrHeadWrite (value : BitVec 32)
  /-- RING_OVERFLOW (R55). As soon as an entry is free after a loss, the device writes one RING_OVERFLOW entry covering the lost
      notifications. -/
  | ringOverflow
  /-- HOSTIF_CNT_LOW_READ (R69). A 32-bit read of a HOSTIF_CNT low word latches the high word for the next read of that slot. -/
  | hostifCntLowRead (index : Fin 8)
  /-- WINDOW_DATA_WRITE (R64). A write to bytes 0-59 of a table entry through an aperture goes to the staging buffer, discarding and counting
      staging for another entry. -/
  | windowDataWrite (die : Fin 4) (aperture : Fin 16) (entry : Fin 16384) (off : Fin 60) (data : Bytes)
  /-- WINDOW_COMMIT (R64). A write to ENTRY_CTL with staged data commits the whole entry atomically, subject to the write restrictions of
      R203. -/
  | windowCommit (die : Fin 4) (aperture : Fin 16) (entry : Fin 16384) (ctl : BitVec 32)
  /-- WINDOW_CONTROL_WRITE (R64). A write to ENTRY_CTL with nothing staged changes only the valid and lock bits of the entry. -/
  | windowControlWrite (die : Fin 4) (aperture : Fin 16) (entry : Fin 16384) (ctl : BitVec 32)
  /-- WINDOW_READ_SNAPSHOT (R64). A read of bytes 0-3 of an entry, or of a later byte without a snapshot, captures a snapshot of the whole entry. -/
  | windowReadSnapshot (die : Fin 4) (aperture : Fin 16) (entry : Fin 16384) (off : Fin 64)
  /-- DMA_ENABLE (R60). A write of DMA_CTRL.enable starts or stops a DMA channel. -/
  | dmaEnable (ch : Fin 16) (value : BitVec 32)
  /-- DMA_RESET (R60). A write of DMA_CTRL.reset halts the channel, empties its ring and clears its errors. -/
  | dmaReset (ch : Fin 16) (value : BitVec 32)
  /-- DMA_RING_POST (R62). A write of RING_PROD posts descriptors for the channel to take in ring order. -/
  | dmaRingPost (ch : Fin 16) (value : BitVec 32)
  /-- DMA_DESCRIPTOR_START (R62). The channel takes the next descriptor, after earlier ones when fenced, and checks its range, direction and
      length. -/
  | dmaDescriptorStart (ch : Fin 16) (desc : Bytes)
  /-- DMA_DESCRIPTOR_DONE (R62). A descriptor's data transfer ends and its status is written, halting the channel for codes 0x01 to 0x04. -/
  | dmaDescriptorDone (ch : Fin 16) (data : Bytes) (error : Option PcieError)
  /-- FW_ALIVE_TICK (R41). Every 1 ms while the firmware runs, FW_ALIVE is incremented. -/
  | fwAliveTick
  /-- WATCHDOG_EXPIRY (R67). FW_ALIVE has not advanced for 100 ms and the hub watchdog restarts the Marionette firmware. -/
  | watchdogExpiry
  /-- FW_RESTART_COMPLETE (R67). The firmware restart ends: journalled commands are completed or rolled back, interrupted mailboxes answered,
      held notifications and FW_RESTART written. -/
  | fwRestartComplete
  /-- AUTH_LOCKOUT_END (R59). 10 s after a lockout began, authorized commands are verified again and the failure count restarts. -/
  | authLockoutEnd
  /-- SYSTEM_IDENTITY (R445). Returns serial, product, firmware version, die-present mask, life-cycle and power state, reset cause and
      power-cycle count. -/
  | systemIdentity (r : Request)
  /-- SYSTEM_POWER (R446). Requests entry into SLEEP or a wake to RUN. -/
  | systemPower (r : Request)
  /-- SLEEP_ENTRY_COMPLETE (R441). Draining ends or its 100 ms pass; remaining frames are dropped, ports disabled, the stockpot put in self-refresh
      and line dies clock-gated. -/
  | sleepEntryComplete
  /-- WAKE_COMPLETE (R442). The wake ends with trunk ports UP and traffic_ready set, and SYSTEM_POWER run completes. -/
  | wakeComplete
  /-- SYSTEM_RESET (R447). Writes OK and schedules a warm reset 1 ms later. -/
  | systemReset (r : Request)
  /-- SYSTEM_RESET_FIRE (R447). 1 ms after SYSTEM_RESET the device acts as SRST_N. -/
  | systemResetFire (trngOk : Bool)
  /-- STARTUP_SET_SAVE (R448). Starts writing the active set into the older start-up set copy. -/
  | startupSetSave (r : Request)
  /-- STARTUP_SET_SAVE_COMPLETE (R448). The start-up set write ends and the completion reports set_id and crc32c. -/
  | startupSetSaveComplete
  /-- SYSTEM_STARTUP_QUERY (R449). Returns the times of the twelve start-up milestones since the last reset. -/
  | systemStartupQuery (r : Request)
  /-- DEBUG_ENABLE (R450). Opens or closes JTAG debug access, authorized when enabling. -/
  | debugEnable (r : Request)
  /-- PKG_CNT_READ (R38). Returns the state and both direction counter sets of one package link. -/
  | pkgCntRead (r : Request)
  /-- AUTH_CHALLENGE (R57). Returns a TRNG challenge bound to the mailbox, valid for one authorized command within 60 s. -/
  | authChallenge (r : Request)
  /-- FLIT_SEND (R30). A sender holding a credit sends the next flit of a channel, forming encrypted 256-byte blocks. -/
  | flitSend (link : Fin 5) (toHub : Bool) (chan : Fin 4) (kind : FlitKind) (payload : Bytes)
  /-- FLIT_RECEIVE (R34). A flit arrives on a package link and is checked for CRC, protocol and block tag, driving replay, retrain or
      DOWN. -/
  | flitReceive (link : Fin 5) (toHub : Bool) (chan : Fin 4) (seq : BitVec 16) (wire : Bytes) (framesLost : Nat)
  /-- LINK_RETRAIN_COMPLETE (R34). Training and keying of a package link complete with new keys and counters at zero, and the link returns to UP. -/
  | linkRetrainComplete (link : Fin 5)
  /-- LINK_RETRAIN_FAIL (R34). A retrain attempt fails; the third failure in a row holds the link DOWN. -/
  | linkRetrainFail (link : Fin 5)
  /-- BEACON_SEND (R268). Every 1.024 µs the grand island sends a beacon to each time-keeping island. -/
  | beaconSend
  /-- BEACON_RECEIVE (R268). An island receives a beacon and replies, noting t2 and t3. -/
  | beaconReceive (island : Island)
  /-- BEACON_REPLY_RECEIVE (R269). The hub receives the reply, discards an exchange with excess round trip, or corrects the island's offset and
      increment. -/
  | beaconReplyReceive (island : Island)
  /-- ISLAND_UNLOCK (R269). 1 ms without an accepted exchange makes an island unlocked; it free-runs, counts and records. -/
  | islandUnlock (island : Island)
  /-- ISLAND_HUB_LOAD (R269). At the next whole microsecond an island whose offset exceeds 1 ms loads hub time directly and records it. -/
  | islandHubLoad (island : Island)
  /-- CONFIG_LOAD_SHADOW (R77). Starts checking and compiling an image in the staging area into the shadow set. -/
  | configLoadShadow (r : Request)
  /-- CONFIG_LOAD_COMPLETE (R71). Checking of the shadow image ends: it becomes READY, or EMPTY with the failing field reported. -/
  | configLoadComplete
  /-- CONFIG_QUERY (R80). Returns the active and shadow set IDs, CRCs, shadow state and last swap. -/
  | configQuery (r : Request)
  /-- SWAP_SET (R78). Requests an unscheduled or scheduled exchange of the shadow and active sets. -/
  | swapSet (r : Request)
  /-- CONFIG_SWAP_CANCEL (R78). Cancels a pending scheduled swap. -/
  | configSwapCancel (r : Request)
  /-- CONFIG_SWAP_INSTANT (R73). At the swap instant every island exchanges the sets after the R129 checks, and the old set enters DRAINING. -/
  | configSwapInstant
  /-- SWAP_DRAIN_END (R71). No frame in the device carries the old set any more and the shadow returns to READY. -/
  | swapDrainEnd
  /-- SWAP_DRAIN_TIMEOUT (R71). 100 ms after the swap the remaining old-set frames are dropped and counted. -/
  | swapDrainTimeout
  /-- CONFIG_WRITE (R79). Writes a field of the shadow set or a live field of the active set and recomputes the image CRC. -/
  | configWrite (r : Request)
  /-- CAL_READ (R83). Returns factory, user and effective values and the saturated flag of one calibration point. -/
  | calRead (r : Request)
  /-- CFG_CNT_READ (R85). Returns, and optionally clears, the four CFG_CNT counters. -/
  | cfgCntRead (r : Request)
  /-- FRAME_RECEIVE (R177). A frame arrives on a port and is timestamped, checked, decrypted if protected, classified, metered, admitted to
      its queue or dropped. -/
  | frameReceive (rx : RxFrame)
  /-- FRAME_INJECT (R301). The firmware or host injects a frame through the CPU path with its chosen destination, optionally requesting a
      TX timestamp. -/
  | frameInject (inj : Injection)
  /-- WHISK_MATCH (R220). Each 8 ns cell time the whisk matches crossbar inputs to outputs in three request-grant-accept iterations. -/
  | whiskMatch
  /-- FABRIC_FRAME_ARRIVAL (R245). A frame's first cell reaches its egress die from the fabric and is admitted or replicated there. -/
  | fabricFrameArrival (die : Fin 5)
  /-- RESIDUE_ENQUEUE (R228). When a queue can admit again, a waiting multicast residue copy enters before new arrivals. -/
  | residueEnqueue (die : Fin 4)
  /-- RESIDUE_LIFETIME_EXPIRY (R228). A residue copy still refused when its lifetime ends is dropped and counted. -/
  | residueLifetimeExpiry (die : Fin 4)
  /-- PORT_TRANSMIT_SELECT (R252). When a port can start a frame, the scheduler picks the next eligible frame, encrypts it if pre-encryption and
      begins sending it. -/
  | portTransmitSelect (p : Port)
  /-- FRAME_TX_END (R301). A frame's last bit leaves: its SA binding ends and any TX timestamp FIFO entry is written. -/
  | frameTxEnd (p : Port) (fault : Bool)
  /-- SPILL_READBACK (R214). A spilled queue's frames are read back from the stockpot into its prefetch buffer. -/
  | spillReadback (die : Fin 4) (queue : Nat)
  /-- STOCKPOT_BLOCK_WRITE (R353). A gathered 512-byte block is encrypted and written with its granule MACs and counters advanced. -/
  | stockpotBlockWrite
  /-- STOCKPOT_VERIFY_COMPLETE (R359). Verification of a read block ends, releasing waiting readers or raising a late alarm. -/
  | stockpotVerifyComplete (block : Nat) (outcome : VerifyOutcome)
  /-- REGION_REBUILD (R366). Once no frame refers to a quarantined region, the vault draws new keys and the region is rebuilt, or it is held
      out after a third quarantine. -/
  | regionRebuild (region : Fin 128)
  /-- REGION_REBUILD_COMPLETE (R366). The rebuild ends and the region returns to allocation. -/
  | regionRebuildComplete (region : Fin 128) (passed : Bool)
  /-- REKEY_TRIGGER (R362). A counter of a region reaches 2^28 − 2^16 and the region leaves allocation to wait for a re-key. -/
  | rekeyTrigger (region : Fin 128)
  /-- REKEY_START (R363). When no other re-key runs, the next waiting region gets a new key pair and the re-key engine starts. -/
  | rekeyStart
  /-- REKEY_COMPLETE (R362). The re-key engine has rewritten the region and its nodes under the new key and returns it to allocation. -/
  | rekeyComplete
  /-- MEM_STATUS (R370). Returns the stockpot summary and the state of every region. -/
  | memStatus (r : Request)
  /-- MEM_REGION_REKEY (R371). Adds a region to the re-key queue. -/
  | memRegionRekey (r : Request)
  /-- MEM_REGION_RETURN (R372). Rebuilds a held-out region and returns it to allocation. -/
  | memRegionReturn (r : Request)
  /-- MEM_CNT_READ (R373). Returns, and optionally clears, the MEM_CNT counters. -/
  | memCntRead (r : Request)
  /-- SECY_QUERY (R105). Returns the parameters and controlled-port state of a SecY. -/
  | secyQuery (r : Request)
  /-- SECY_CNT_READ (R106). Returns, and optionally clears, the SECY_CNT counters. -/
  | secyCntRead (r : Request)
  /-- SECY_PORT_ENABLE (R107). Sets the controlled-port state of a host-keyed SecY. -/
  | secyPortEnable (r : Request)
  /-- RXSC_CREATE (R108). Creates an RX SC and places its SCI in the SCI table. -/
  | rxscCreate (r : Request)
  /-- RXSC_DELETE (R109). Deletes an RX SC with no installed RX SA. -/
  | rxscDelete (r : Request)
  /-- RXSC_QUERY (R110). Returns an RX SC's parameters, PN state and counters. -/
  | rxscQuery (r : Request)
  /-- CPORT_CNT_READ (R111). Returns, and optionally clears, the CPORT_CNT counters of a port. -/
  | cportCntRead (r : Request)
  /-- MKA_FRAME_PROCESS (R127). The firmware takes an MKA frame from its buffer and runs MKA on it, or passes it to the host in host keying
      mode. -/
  | mkaFrameProcess
  /-- MKA_HELLO_SEND (R127). At each hello time the firmware sends an MKPDU for a CA session. -/
  | mkaHelloSend (die : Fin 4) (secy : Fin 2048)
  /-- MKA_PEER_TIMEOUT (R127). A live peer's life time expires without an MKPDU and it is removed from the CA. -/
  | mkaPeerTimeout (die : Fin 4) (secy : Fin 2048)
  /-- SA_INSTALL (R131). Requests installation of a SAK blob into a TX or RX slot. -/
  | saInstall (r : Request)
  /-- SA_INSTALL_BULK (R132). Requests installation of up to 16,384 staged SA records. -/
  | saInstallBulk (r : Request)
  /-- SA_KEY_LOAD (R115). The vault unwraps and checks a queued SAK, tunnels it to the die, and the die verifies and installs it or
      rejects it. -/
  | saKeyLoad (dieCheckOk : Bool)
  /-- SA_TX_SWITCH (R133). Requests an unscheduled or scheduled switch of a SecY's TX SA. -/
  | saTxSwitch (r : Request)
  /-- SA_TX_SWITCH_INSTANT (R119). At the switch instant an INSTALLED slot becomes the TX SA in use and the old one RETIRING. -/
  | saTxSwitchInstant (die : Fin 4) (secy : Fin 2048)
  /-- SA_BATCH_SWITCH (R134). Requests a switch of up to 8,192 TX SCs at one scheduled instant. -/
  | saBatchSwitch (r : Request)
  /-- SA_BATCH_INSTANT (R122). At the batch instant each die switches every listed SecY on its own counters. -/
  | saBatchInstant (handle : Nat)
  /-- SA_BATCH_CANCEL (R134). Cancels a pending batch switch. -/
  | saBatchCancel (r : Request)
  /-- SA_RETIRE (R135). Zeroizes an INSTALLED TX slot or retires an IN_USE RX slot. -/
  | saRetire (r : Request)
  /-- SA_QUERY (R136). Returns the state and parameters of an SA slot. -/
  | saQuery (r : Request)
  /-- SA_CNT_READ (R137). Returns, and optionally clears, the per-SA counters. -/
  | saCntRead (r : Request)
  /-- KEY_CNT_READ (R137). Returns, and optionally clears, the KEY_CNT counters of a die. -/
  | keyCntRead (r : Request)
  /-- MKA_CA_SET (R138). Installs a CAK blob for a SecY's MKA session, or deletes the session. -/
  | mkaCaSet (r : Request)
  /-- MKA_CA_LOAD (R138). The vault unwraps the CAK, derives the CA's ICK and KEK and zeroizes the CAK. -/
  | mkaCaLoad
  /-- MKA_CA_QUERY (R139). Returns the state of a SecY's MKA session. -/
  | mkaCaQuery (r : Request)
  /-- RX_RETIRE_TIMER_EXPIRY (R121). An RX SA's retire timer expires and the SA becomes RETIRING. -/
  | rxRetireTimerExpiry (sa : SaId)
  /-- SA_DRAINED (R118). A RETIRING slot's frames_bound reaches zero; it is zeroized and SA_RETIRED is notified. -/
  | saDrained (sa : SaId)
  /-- SA_DRAIN_LIMIT_EXPIRY (R118). The drain limit elapses for a RETIRING slot; its bound frames are dropped and it is zeroized. -/
  | saDrainLimitExpiry (sa : SaId)
  /-- SWITCH_GRACE_EXPIRY (R124). switch_grace elapses after exhaustion without a switch, and the waiting frames of the SecY are dropped. -/
  | switchGraceExpiry (die : Fin 4) (secy : Fin 2048)
  /-- TAMPER_LOOP_SAMPLE (R163). Every 16 µs the tamper loops and shield mesh are sampled against their pattern. -/
  | tamperLoopSample (loop0 : Bool) (loop1 : Bool) (mesh : Bool)
  /-- SUPPLY_MONITOR_EVENT (R163). A rail goes above 110 % or dips below 85 % for up to 10 µs while PORST_N is high. -/
  | supplyMonitorEvent (high : Bool) (dipNs : Nat)
  /-- CLOCK_MONITOR_EVENT (R163). SYSCLK or a running island clock leaves ±20 % of nominal or shows a short pulse. -/
  | clockMonitorEvent (die : Die)
  /-- TEMP_SENSOR_READING (R163). Every 1 ms the powered temperature sensors are read and compared with the tamper limits. -/
  | tempSensorReading (raw : List (BitVec 16))
  /-- TRNG_HEALTH_FAIL (R155). A continuous health test fails; the DRBG stops and retests begin. -/
  | trngHealthFail
  /-- TRNG_RETEST (R155). A repeat start-up test runs; a pass reseeds the DRBG, a third failure makes the TRNG FAILED. -/
  | trngRetest (passed : Bool)
  /-- DRBG_RESEED (R155). After 2^16 generate requests or 10 s the DRBG reseeds. -/
  | drbgReseed
  /-- VAULT_STATUS (R169). Returns life-cycle, tamper, TRNG, store and nonce state of the vault. -/
  | vaultStatus (r : Request)
  /-- LC_CHANGE (R170). Authorized change of the life-cycle state. -/
  | lcChange (r : Request)
  /-- LC_TAKE_OWNERSHIP (R173). Authorized ownership: draws and programs owner and recovery roots and exports the owner blobs. -/
  | lcTakeOwnership (r : Request)
  /-- OWNER_ROOT_ROTATE (R173). Authorized rotation to the next owner-root slot. -/
  | ownerRootRotate (r : Request)
  /-- TAMPER_CLEAR (R171). Authorized clearance of a tamper latch or of HELD. -/
  | tamperClear (r : Request)
  /-- VAULT_KEY_INSTALL (R172). Requests installation of a blob into the pending half of a key-store slot. -/
  | vaultKeyInstall (r : Request)
  /-- VAULT_KEY_LOAD (R153). The vault unwraps and checks a key-store blob and activates it per its activate mode, or empties the pending
      half. -/
  | vaultKeyLoad
  /-- VAULT_KEY_ACTIVATE (R172). Makes a slot's pending half active. -/
  | vaultKeyActivate (r : Request)
  /-- VAULT_KEY_DELETE (R172). Deletes one or both halves of a key-store slot. -/
  | vaultKeyDelete (r : Request)
  /-- VAULT_KEY_QUERY (R175). Returns the public fields of a key-store slot. -/
  | vaultKeyQuery (r : Request)
  /-- KEY_ACTIVATION_INSTANT (R318). At a scheduled instant the grand island signals the vault to activate a pending key-store half. -/
  | keyActivationInstant (slot : Fin 1024)
  /-- LA_JOB_START (R174). Starts a look-aside job in a job slot bound to a key. -/
  | laJobStart (r : Request)
  /-- LA_JOB_ABORT (R174). Aborts a look-aside job and zero-fills its output. -/
  | laJobAbort (r : Request)
  /-- LA_JOB_COMPLETE (R160). A look-aside job ends with its result, or with KEY_REJECTED and zero-filled output on a tag mismatch. -/
  | laJobComplete (job : Fin 16)
  /-- LA_JOB_IDLE_TIMEOUT (R158). A job receiving no descriptor for 1 s is aborted. -/
  | laJobIdleTimeout (job : Fin 16)
  /-- NONCE_CEILING_COMMIT (R159). The vault commits the next nonce ceiling to its wear-levelled slots. -/
  | nonceCeilingCommit
  /-- VAULT_RANDOM (R176). Returns DRBG bytes. -/
  | vaultRandom (r : Request)
  /-- OTP_READ (R176). Returns non-secret OTP bytes. -/
  | otpRead (r : Request)
  /-- VAULT_CNT_READ (R176). Returns, and optionally clears, the VAULT_CNT counters. -/
  | vaultCntRead (r : Request)
  /-- LEARN_INSERT (R189). A die's insertion engine takes the next learn, unification copy or add and applies the MAC learning state table. -/
  | learnInsert (die : Fin 4)
  /-- STASH_DRAIN (R189). Every 10 µs with no insertion waiting, a stash entry is retried into the main table. -/
  | stashDrain (die : Fin 4)
  /-- PREFIX_WRITE_APPLY (R194). A held-back prefix commit or delete takes effect once earlier lookups of the family have finished. -/
  | prefixWriteApply (die : Fin 4)
  /-- AGING_SWEEP (R198). Every aging_time/4 the sweeper raises each entry's age and removes entries at age 3. -/
  | agingSweep (die : Fin 4)
  /-- SWEEPER_CLAMP (R196). At least every 24 h the sweeper clamps stored times and ends pins that have passed. -/
  | sweeperClamp (die : Fin 4)
  /-- PIN_EXPIRY (R197). Device time reaches pin_until and a pinned MAC entry returns to LEARNED. -/
  | pinExpiry (die : Fin 4)
  /-- LEARN_TIME_REBASE (R273). Within 10 ms of a step the sweeper rebases the learning times by the step's size. -/
  | learnTimeRebase
  /-- UNIFY_PROPAGATE (R200). The firmware reads a die's learn log and writes the changes to the other dies as remote entries. -/
  | unifyPropagate (die : Fin 4)
  /-- UNIFY_RESYNC (R200). After a log overflow or restart the firmware walks and reconciles all four dies' tables. -/
  | unifyResync
  /-- TABLE_ADD (R206). Adds or replaces a MAC or prefix entry through the insertion engine. -/
  | tableAdd (r : Request)
  /-- TABLE_DELETE (R207). Deletes a MAC or prefix entry by key. -/
  | tableDelete (r : Request)
  /-- TABLE_LOOKUP (R208). Returns the entry with an exact key on one die. -/
  | tableLookup (r : Request)
  /-- TABLE_FLUSH (R209). Starts removing matching entries from a table. -/
  | tableFlush (r : Request)
  /-- TABLE_FLUSH_COMPLETE (R209). The flush ends and reports removed and locked-skipped entries. -/
  | tableFlushComplete (handle : Nat)
  /-- TABLE_INFO (R210). Returns capacity and occupancy of a table. -/
  | tableInfo (r : Request)
  /-- TABLE_UNPIN (R211). Ends a pin on a MAC entry. -/
  | tableUnpin (r : Request)
  /-- CLS_CNT_READ (R212). Returns, and optionally clears, the CLS_CNT counters. -/
  | clsCntRead (r : Request)
  /-- FABRIC_GROUP_SET (R235). Replaces, adds to, removes from or deletes a replication group. -/
  | fabricGroupSet (r : Request)
  /-- FABRIC_GROUP_QUERY (R236). Writes a group's members to staging and returns its version and die mask. -/
  | fabricGroupQuery (r : Request)
  /-- FABRIC_PORT_QUERY (R237). Returns a port's forwarding masks, analysis flag and copy counters. -/
  | fabricPortQuery (r : Request)
  /-- MIRROR_PLAIN_ENABLE (R238). Sets or clears the analysis flag of a plain port, authorized when setting. -/
  | mirrorPlainEnable (r : Request)
  /-- MIRROR_QUERY (R239). Returns a mirror session's definition, state and counters. -/
  | mirrorQuery (r : Request)
  /-- FAB_CNT_READ (R240). Returns, and optionally clears, the FAB_CNT counters. -/
  | fabCntRead (r : Request)
  /-- BUF_STATUS (R241). Returns buffer occupancy and spill state of a die. -/
  | bufStatus (r : Request)
  /-- BUCKET_REFILL (R256). Every 512 ticks each shaper, meter and egg-timer bucket is refilled with its residue carried. -/
  | bucketRefill (die : Fin 4)
  /-- SFQ_IDLE_SWEEP (R254). At least once per millisecond the sweeper invalidates stale F_prev tags of empty queues and classes. -/
  | sfqIdleSweep (die : Fin 4)
  /-- QUEUE_QUERY (R259). Returns a queue's settings, occupancy, tag and counters. -/
  | queueQuery (r : Request)
  /-- SHAPER_QUERY (R260). Returns a shaper's role, rates and token state. -/
  | shaperQuery (r : Request)
  /-- METER_QUERY (R261). Returns a meter's settings, tokens and colour counts. -/
  | meterQuery (r : Request)
  /-- PORT_SCHED_QUERY (R262). Returns a port's scheduler settings and state. -/
  | portSchedQuery (r : Request)
  /-- QUE_CNT_READ (R263). Returns, and optionally clears, the QUE_CNT counters. -/
  | queCntRead (r : Request)
  /-- QUEUE_FLUSH (R264). Drops every frame a queue held when the command started. -/
  | queueFlush (r : Request)
  /-- QUEUE_FLUSH_COMPLETE (R264). A flush of a queue with stockpot frames ends and reports what was dropped. -/
  | queueFlushComplete (handle : Nat)
  /-- PPSIN_EDGE (R276). A PPSIN rising edge is captured and, after a valid TOD message, yields a servo measurement driving the time
      state table. -/
  | ppsinEdge
  /-- TOD_MESSAGE (R276). A TODI message is received and checked, naming the TAI second of the next edge. -/
  | todMessage (msg : Bytes)
  /-- TOD_OUTPUT (R277). 500 ms after each whole second the device sends a TOD message on TODO. -/
  | todOutput
  /-- PPS_MISSING (R276). A second passes without a PPSIN edge and is counted. -/
  | ppsMissing
  /-- TREF10_LOSS (R275). No TREF10 edge for 1 µs: counted, recorded, and frequency taken from the source. -/
  | tref10Loss
  /-- TREF10_RATE_WINDOW (R275). At the end of each 10 s window of TREF10 edges the firmware sets the rate r. -/
  | tref10RateWindow (edges : Nat)
  /-- ACQUIRE_ENTRY (R271). At the entry instant device time enters ACQUIRE, cancelling scheduled actions and suspending timed actions and
      release. -/
  | acquireEntry
  /-- ACQUIRE_TIMEOUT (R270). acquire_timeout passes without completion; the device leaves ACQUIRE without a step. -/
  | acquireTimeout
  /-- TIME_STEP_INSTANT (R272). At step instant T every island loads the new time and the step is counted and recorded. -/
  | timeStepInstant
  /-- SOURCE_LOSS_TIMEOUT (R270). No valid measurement for the source's loss timeout moves device time to HOLDOVER. -/
  | sourceLossTimeout
  /-- PULSE_EDGE (R278). At a one-shot or periodic instant the grand island drives a pulse on a TPO pin. -/
  | pulseEdge (pin : Fin 8)
  /-- TCI_EDGE (R279). A selected edge on a TCI pin is captured into its FIFO, or lost when the FIFO is full. -/
  | tciEdge (pin : Fin 4) (rising : Bool)
  /-- TIME_QUERY (R283). Returns the state, rate, slew and times of device time. -/
  | timeQuery (r : Request)
  /-- TIME_UNLOCK (R284). Requests entry into ACQUIRE. -/
  | timeUnlock (r : Request)
  /-- TIME_STEP (R285). Host step of device time in ACQUIRE at an instant T. -/
  | timeStep (r : Request)
  /-- TIME_RATE (R286). Host sets the rate of the grand island. -/
  | timeRate (r : Request)
  /-- TIME_SLEW (R287). Host starts a slew and supplies a measurement. -/
  | timeSlew (r : Request)
  /-- TIME_PULSE_SET (R288). Sets a TPO pin off, once or periodic. -/
  | timePulseSet (r : Request)
  /-- TIME_CAPTURE_SET (R289). Selects the capture edge of a TCI pin and discards its FIFO. -/
  | timeCaptureSet (r : Request)
  /-- TIME_CAPTURE_READ (R290). Returns and removes captures from a TCI FIFO. -/
  | timeCaptureRead (r : Request)
  /-- TIME_PTM_READ (R291). Runs one PTM dialogue and returns device time with the host's PTM master time. -/
  | timePtmRead (r : Request)
  /-- TIME_CNT_READ (R292). Returns, and optionally clears, the TIME_CNT counters. -/
  | timeCntRead (r : Request)
  /-- PTP_MESSAGE_PROCESS (R303). The firmware processes a PTP message passed to it, yielding offsets, peer delays or responses. -/
  | ptpMessageProcess
  /-- PTP_SYNC_SEND (R303). At its sync interval a firmware master port sends a Sync. -/
  | ptpSyncSend (inst : Fin 4) (p : Port)
  /-- PTP_ANNOUNCE_SEND (R303). At its announce interval a firmware master port sends an Announce. -/
  | ptpAnnounceSend (inst : Fin 4) (p : Port)
  /-- PTP_PDELAY_REQ_SEND (R303). The firmware peer-delay mechanism sends a Pdelay_Req on a P2P port. -/
  | ptpPdelayReqSend (p : Port)
  /-- ANNOUNCE_RECEIPT_TIMEOUT (R304). No Announce from the parent within announce_receipt_timeout, which is a loss of the parent. -/
  | announceReceiptTimeout (inst : Fin 4)
  /-- PTP_TS_READ (R312). Returns and removes entries of a port's host TX timestamp FIFO. -/
  | ptpTsRead (r : Request)
  /-- PTP_PORT_QUERY (R313). Returns a port's PTP mode, link delay, asymmetry and counters. -/
  | ptpPortQuery (r : Request)
  /-- PTP_LINK_DELAY_SET (R314). Host sets a P2P port's link_delay. -/
  | ptpLinkDelaySet (r : Request)
  /-- PTP_INSTANCE_QUERY (R315). Returns the state of a firmware PTP instance. -/
  | ptpInstanceQuery (r : Request)
  /-- TS_CNT_READ (R316). Returns, and optionally clears, the TS_CNT counters. -/
  | tsCntRead (r : Request)
  /-- GATE_LIST_INSTALL (R342). Installs an admin gate list and computes its change time and windows. -/
  | gateListInstall (r : Request)
  /-- GATE_CONFIG_CHANGE_INSTANT (R326). At the change time the admin list becomes the oper list, or gates open for enable 0. -/
  | gateConfigChangeInstant (p : Port)
  /-- GATE_EVENT (R322). At the start of a list entry the port's gates take its gate states. -/
  | gateEvent (p : Port)
  /-- GATE_LIST_RESTART (R320). After ACQUIRE ends, an operating list restarts at its computed instant. -/
  | gateListRestart (p : Port)
  /-- GATE_LIST_CANCEL (R343). Cancels a pending gate-list change. -/
  | gateListCancel (r : Request)
  /-- GATE_LIST_READ (R344). Writes an admin or oper list to staging. -/
  | gateListRead (r : Request)
  /-- GATE_STATUS (R345). Returns a port's gate state and gate counters. -/
  | gateStatus (r : Request)
  /-- EGG_READBACK (R338). No later than 20 µs before its release instant a spilled held frame is read back and verified. -/
  | eggReadback (die : Fin 4)
  /-- EGG_RELEASE (R336). At release instant R a held frame takes its port, or is dropped if the port is not sending. -/
  | eggRelease (die : Fin 4)
  /-- CD_PEER_SET (R346). Host sets the peer's constant-delay capability and delay for a SecY. -/
  | cdPeerSet (r : Request)
  /-- CD_QUERY (R347). Returns a SecY's constant-delay state and counters. -/
  | cdQuery (r : Request)
  /-- ACTION_LIST (R348). Writes the pending scheduled actions to staging. -/
  | actionList (r : Request)
  /-- EGG_CNT_READ (R349). Returns, and optionally clears, the EGG_CNT counters. -/
  | eggCntRead (r : Request)
  /-- TRAINING_FRAME_RECEIVE (R378). A trunk lane receives a training frame and applies the partner's tap request within 2 ms. -/
  | trainingFrameReceive (lane : Lane) (req : TapRequest) (trained : Bool)
  /-- PORT_AN_COMPLETE (R390). Auto-negotiation completes, moving the port to TRAINING or UP, or counting an_fail. -/
  | portAnComplete (p : Port) (ability : BitVec 48) (agreed : Bool)
  /-- PORT_TRAINING_COMPLETE (R378). All lanes of a trunk port are trained and it passes to alignment. -/
  | portTrainingComplete (p : Port)
  /-- PORT_TRAINING_TIMEOUT (R378). A trunk port is not trained 450 ms after training started and returns to AN or training. -/
  | portTrainingTimeout (p : Port)
  /-- PORT_ALIGNED (R390). A port achieves alignment or code-group sync. -/
  | portAligned (p : Port)
  /-- PORT_ALIGN_TIMEOUT (R390). A port does not align within 10 ms. -/
  | portAlignTimeout (p : Port)
  /-- REMOTE_FAULT_RECEIVED (R390). A remote fault moves an UP port to FAULT. -/
  | remoteFaultReceived (p : Port)
  /-- REMOTE_FAULT_CLEARED (R390). The remote fault clears and the port returns to UP. -/
  | remoteFaultCleared (p : Port)
  /-- LINK_SIGNAL_LOSS (R390). A port loses signal, lock or sync and stops sending for link_down_hold. -/
  | linkSignalLoss (p : Port) (cause : Fin 3)
  /-- LINK_SIGNAL_RESTORED (R390). Signal, lock or sync returns within link_down_hold and the port resumes sending. -/
  | linkSignalRestored (p : Port)
  /-- LINK_DOWN_HOLD_EXPIRY (R390). A loss lasts longer than link_down_hold; the port goes down with an event record and notification. -/
  | linkDownHoldExpiry (p : Port)
  /-- PARTNER_AN_RESTART (R390). The partner restarts auto-negotiation and the port returns to AN. -/
  | partnerAnRestart (p : Port)
  /-- ADAPT_WINDOW (R387). At the end of each 1 µs window an 8b/10b receiver freezes or resumes adaptation by the idle share. -/
  | adaptWindow (lane : Lane) (w : LaneWindow)
  /-- TWIN_TRAINING_SET_RECEIVE (R386). A twin lane receives a training ordered set and adapts, applies requests or starts data. -/
  | twinTrainingSetReceive (lane : Fin 4) (set : Bytes)
  /-- TWIN_LANE_TRAIN_TIMEOUT (R386). A twin lane not trained 5 ms after it began restarts training. -/
  | twinLaneTrainTimeout (lane : Fin 4)
  /-- EYE_SCAN_POINT (R388). One eye-scan point finishes its dwell and its entry is written; the last point completes the scan. -/
  | eyeScanPoint (lane : Lane) (errors : Nat)
  /-- PORT_QUERY (R395). Returns a port's state, form and partner ability. -/
  | portQuery (r : Request)
  /-- PORT_ADMIN (R396). Disables, enables, retrains or restarts auto-negotiation of a port. -/
  | portAdmin (r : Request)
  /-- PORT_CNT_READ (R397). Returns, and optionally clears, the PORT_CNT counters. -/
  | portCntRead (r : Request)
  /-- LANE_QUERY (R398). Returns a lane's status, taps and counters. -/
  | laneQuery (r : Request)
  /-- LANE_EYE_SCAN (R399). Starts an eye scan on a lane. -/
  | laneEyeScan (r : Request)
  /-- LANE_EYE_ABORT (R400). Ends a lane's eye scan. -/
  | laneEyeAbort (r : Request)
  /-- TWIN_AUTO_ATTACH (R405). With twin_auto set, the device starts an attach when its twin link comes UP. -/
  | twinAutoAttach
  /-- TWIN_HELLO (R405). A HELLO arrives on W and the twin answers or checks its MAC. -/
  | twinHello (msg : TwinHello)
  /-- TWIN_HANDSHAKE_MAC (R405). The initiator's MAC arrives; both twins derive session keys, settle roles and start syncing. -/
  | twinHandshakeMac (mac : Bytes)
  /-- TWIN_HANDSHAKE_TIMEOUT (R405). No handshake step within 5 ms restarts it, and a third failure ends the attach. -/
  | twinHandshakeTimeout
  /-- TWIN_RECORD_SEND (R242). A twin record waiting in the firmware is sent once its twin-link queue has room. -/
  | twinRecordSend
  /-- TWIN_RECORD_RECEIVE (R407). A twin record arrives, is applied or ignored, and acknowledged. -/
  | twinRecordReceive (rec : TwinRecord)
  /-- TWIN_RECORD_ACK (R407). An acknowledgement arrives, completing sync or releasing a reservation for use. -/
  | twinRecordAck (seq : Nat)
  /-- TWIN_RX_STATE_SEND (R407). Every 1 ms the serving twin sends RX replay state. -/
  | twinRxStateSend
  /-- YOYO_SEND (R410). Every 10 µs a twin sends a yo-yo heartbeat. -/
  | yoyoSend
  /-- YOYO_RECEIVE (R410). A yo-yo heartbeat arrives and a SUSPECT twin returns to PAIRED. -/
  | yoyoReceive (msg : YoyoMsg)
  /-- HEARTBEAT_MISS (R410). A heartbeat interval passes unheard; eight in a row move PAIRED to SUSPECT. -/
  | heartbeatMiss
  /-- TWIN_LOST_TIMEOUT (R410). lost_time without a heartbeat moves a SUSPECT twin to LOST and ends reservations. -/
  | twinLostTimeout
  /-- TWIN_TIME_EXCHANGE (R406). Every 1.024 µs the twin islands exchange times and the SECONDARY disciplines to the PRIMARY. -/
  | twinTimeExchange (offset : Int) (excess : Nat)
  /-- TWFAIL_I_TAKEOVER (R416). TWFAIL_I asserted for 1 µs on a standby starts a hardware takeover. -/
  | twfailITakeover
  /-- TWIN_QUERY (R422). Returns twin state, role, mode and twin details. -/
  | twinQuery (r : Request)
  /-- TWIN_PAIRKEY_INSTALL (R423). Authorized installation of the pairing key into slot 1,023. -/
  | twinPairkeyInstall (r : Request)
  /-- TWIN_ATTACH (R424). Starts attaching to a twin. -/
  | twinAttach (r : Request)
  /-- TWIN_DETACH (R425). Detaches a paired twin on both sides. -/
  | twinDetach (r : Request)
  /-- TWIN_TAKEOVER (R426). Takes over from a LOST twin, hands over, or steps down. -/
  | twinTakeover (r : Request)
  /-- TWIN_CNT_READ (R427). Returns, and optionally clears, the TWIN_CNT counters. -/
  | twinCntRead (r : Request)
  /-- RECORD_WRITE (R466). The vault writes a submitted event record into the ring, or suppresses or loses it. -/
  | recordWrite
  /-- RECORDS_SUPPRESSED (R467). Once per second while suppression lasts, a RECORDS_SUPPRESSED record is written outside the budget. -/
  | recordsSuppressed
  /-- HOURS_COMMIT (R468). Every 0.1 h the operating hours and power-cycle count are committed to the next slot. -/
  | hoursCommit
  /-- PERF_CONFIG (R475). Selects a performance counter's event and clears it. -/
  | perfConfig (r : Request)
  /-- PERF_READ (R476). Latches and returns a die's performance counters, or the last device latch. -/
  | perfRead (r : Request)
  /-- PERF_LATCH (R477). Latches all performance counters of the device at the next swap point. -/
  | perfLatch (r : Request)
  /-- RECORD_RANGE (R478). Returns the oldest and next record positions, hours, power cycles and budget. -/
  | recordRange (r : Request)
  /-- RECORD_READ (R479). Returns bytes of the record ring as they stand. -/
  | recordRead (r : Request)
  /-- TEMP_READ (R480). Returns current and highest readings of the temperature sensors. -/
  | tempRead (r : Request)
  /-- DIAG_LOOPBACK (R481). Sets near-end, far-end or no loopback on a port. -/
  | diagLoopback (r : Request)
  /-- DIAG_PRBS (R482). Starts, stops or reads a lane's PRBS test. -/
  | diagPrbs (r : Request)
  /-- OBS_CNT_READ (R483). Returns, and optionally clears, the OBS_CNT counters. -/
  | obsCntRead (r : Request)
  /-- FW_QUERY (R451). Returns image slots, trial state and rollback level. -/
  | fwQuery (r : Request)
  /-- FW_IMAGE_WRITE (R452). Starts writing staged image data into an image slot. -/
  | fwImageWrite (r : Request)
  /-- FW_IMAGE_WRITE_COMPLETE (R452). The image write to flash ends. -/
  | fwImageWriteComplete
  /-- FW_IMAGE_VERIFY (R453). Starts verifying an image slot. -/
  | fwImageVerify (r : Request)
  /-- FW_IMAGE_VERIFY_COMPLETE (R453). Verification ends with its verdict. -/
  | fwImageVerifyComplete
  /-- FW_ACTIVATE (R454). Starts a trial of an image at the next reset or now by firmware restart. -/
  | fwActivate (r : Request)
  /-- FW_COMMIT (R455). Commits the running trial image and programs its revoke mask. -/
  | fwCommit (r : Request)
  /-- FW_ROLLBACK_ADVANCE (R456). Authorized advance of the rollback level to the running image's security version. -/
  | fwRollbackAdvance (r : Request)
  /-- FIRMWARE_FAULT (R67). A fault of the Marionette firmware starts the same firmware restart as the watchdog, reported with FW_RESTART
      cause 3. -/
  | firmwareFault
  /-- DOORBELL_DISCARD (R48). A doorbell for a busy mailbox, with bits [31:4] not zero, or while fw_ready is 0 is discarded and counted in
      HOSTIF_CNT.doorbell_discard. -/
  | doorbellDiscard (value : BitVec 32)
  /-- RESERVED_OPCODE (R508). A doorbell whose request carries an opcode not in the command index completes with BAD_OPCODE and has no effect. -/
  | reservedOpcode (opcode : BitVec 16) (r : Request)
  /-- PTP_DELAY_REQ_SEND (R304). A firmware slave port using the E2E delay mechanism sends a Delay_Req so that meanPathDelay can be measured. -/
  | ptpDelayReqSend (inst : Fin 4) (p : Port)
  /-- TREF10_RETURN (R275). TREF10 edges resume after a loss, the TREF10-present flag is set, and frequency returns to TREF10 once they have
      run for 10 s. -/
  | tref10Return
  /-- PRBS_LOCK (R472). A running PRBS checker sees 64 error-free bits and locks to the pattern. -/
  | prbsLock (lane : Lane)
  /-- PRBS_LOCK_LOSS (R472). A locked PRBS checker loses lock, counts it, and returns to searching. -/
  | prbsLockLoss (lane : Lane) (errors : Nat)
  deriving DecidableEq, Repr

end Sys2Proof
end

