-- ==== Sys2Proof/Decode.lean ====
section
/-! DEFINITION. Sys2Proof/Decode.lean: commands spelled as words. No row of the table of operations and events has
bits: a command is a request with its payload, or an event with what it brings in. -/
namespace Sys2Proof

/-- The command a word spells by the table's bits: no row has any, so no word spells a command. -/
def decodeTableWord (_nbits _w : Nat) : Option Instr := none

end Sys2Proof
end

