-- ==== Sys2Proof/Machine/Bytes.lean ====
section
/-! DEFINITION. Sys2Proof/Machine/Bytes.lean: byte orders (R11, R12), bit fields, two's complement and TS96
arithmetic (R15 to R17), and the sparse-table operations. -/
namespace Sys2Proof

/-- `le n v`: the `n` low bytes of `v`, least significant first (R11). -/
def le : Nat → Nat → Bytes
  | 0, _ => []
  | n + 1, v => BitVec.ofNat 8 v :: le n (v / 256)

/-- The number whose little-endian bytes these are (R11). -/
def unle : Bytes → Nat
  | [] => 0
  | b :: bs => b.toNat + 256 * unle bs

/-- `be n v`: the `n` low bytes of `v`, most significant first (R12). -/
def be (n v : Nat) : Bytes := (le n v).reverse

/-- The number whose big-endian bytes these are (R12). -/
def unbe (bs : Bytes) : Nat := bs.foldl (fun acc b => acc * 256 + b.toNat) 0

/-- `n` zero bytes. -/
def zeros (n : Nat) : Bytes := List.replicate n 0

/-- `n` bytes from offset `off`; bytes beyond the end read as zero. -/
def slice (bs : Bytes) (off n : Nat) : Bytes :=
  let t := (bs.drop off).take n
  t ++ zeros (n - t.length)

/-- A little-endian field of `n` bytes at offset `off`. -/
def fld (bs : Bytes) (off n : Nat) : Nat := unle (slice bs off n)

/-- A big-endian field of `n` bytes at offset `off`. -/
def fldBe (bs : Bytes) (off n : Nat) : Nat := unbe (slice bs off n)

/-- Overwrite the bytes from offset `off` with `new`, extending with zeros where `bs` is shorter. -/
def splice (bs : Bytes) (off : Nat) (new : Bytes) : Bytes :=
  slice bs 0 off ++ new ++ bs.drop (off + new.length)

/-- Every byte is zero. -/
def allZero (bs : Bytes) : Bool := bs.all (· == 0)

/-- Bit `i` of a number. -/
def bit (v i : Nat) : Bool := v.testBit i

/-- The field `[lo + w - 1 : lo]` of a number. -/
def bits (v lo w : Nat) : Nat := (v / 2 ^ lo) % 2 ^ w

/-- 1 for true, 0 for false. -/
def b2n (b : Bool) : Nat := if b then 1 else 0

/-- The two's-complement reading of the low `w` bits of `v` (R15). -/
def toSigned (w v : Nat) : Int :=
  let m := v % 2 ^ w
  if 2 * m < 2 ^ w then (m : Int) else (m : Int) - (2 ^ w : Nat)

/-- The two's-complement code of `x` in `w` bits (R15). -/
def ofSigned (w : Nat) (x : Int) : Nat := (x % ((2 ^ w : Nat) : Int)).toNat

/-- TS96 zero. -/
def TS96.zero : TS96 := ⟨0, 0, 0⟩

/-- The 96-bit number of a TS96: `[95:48]` seconds, `[47:16]` nanoseconds, `[15:0]` fraction (R15). -/
def TS96.toNat (t : TS96) : Nat := (t.s * 2 ^ 32 + t.ns) * 2 ^ 16 + t.f

/-- The TS96 of a 96-bit number (R15). -/
def TS96.ofNat (n : Nat) : TS96 := ⟨bits n 48 48, bits n 16 32, bits n 0 16⟩

/-- Twelve little-endian bytes of a TS96 in a payload (R11). -/
def TS96.bytes (t : TS96) : Bytes := le 12 t.toNat

/-- The TS96 field at an offset of a payload (R11). -/
def tsFld (bs : Bytes) (off : Nat) : TS96 := TS96.ofNat (fld bs off 12)

/-- R16: a nanosecond field of 10^9 or more is invalid. -/
def TS96.valid (t : TS96) : Bool := t.ns < 1000000000

/-- All zero. -/
def TS96.isZero (t : TS96) : Bool := t.toNat == 0

/-- The exact count of 2^-16 ns of a TS96 (R326). -/
def TS96.count (t : TS96) : Nat := (t.s * 1000000000 + t.ns) * 2 ^ 16 + t.f

/-- The TS96 of a count of 2^-16 ns (R326), seconds modulo 2^48. -/
def TS96.ofCount (c : Nat) : TS96 :=
  ⟨c / (1000000000 * 2 ^ 16) % 2 ^ 48, c / 2 ^ 16 % 1000000000, c % 2 ^ 16⟩

/-- The entry of a sparse table at an index, if it is listed. -/
def Map.get? {α : Type} : Map α → Nat → Option α
  | [], _ => none
  | (i, a) :: m, k => if i = k then some a else Map.get? m k

/-- The entry of a sparse table at an index, or the default. -/
def Map.get {α : Type} (m : Map α) (k : Nat) (dflt : α) : α := (Map.get? m k).getD dflt

/-- Replace or insert one entry, keeping the indexes rising. -/
def Map.put {α : Type} : Map α → Nat → α → Map α
  | [], k, a => [(k, a)]
  | (i, b) :: m, k, a =>
    if i = k then (k, a) :: m else if k < i then (k, a) :: (i, b) :: m else (i, b) :: Map.put m k a

/-- Remove one entry. -/
def Map.del {α : Type} (m : Map α) (k : Nat) : Map α := m.filter (fun e => e.1 ≠ k)

/-- Apply a function to the entry at an index (the default where it is not listed). -/
def Map.upd {α : Type} (m : Map α) (k : Nat) (dflt : α) (f : α → α) : Map α :=
  Map.put m k (f (Map.get m k dflt))

/-- Apply a function to every listed entry. -/
def Map.mapVals {α : Type} (m : Map α) (f : α → α) : Map α := m.map (fun e => (e.1, f e.2))

/-- The listed indexes that pass a test, rising. -/
def Map.keysWhere {α : Type} (m : Map α) (p : α → Bool) : List Nat :=
  (m.filter (fun e => p e.2)).map (·.1)

/-- Is the index listed? -/
def Map.has {α : Type} (m : Map α) (k : Nat) : Bool := (Map.get? m k).isSome

/-- A byte of a sparse memory whose unlisted bytes read as `dflt`. -/
def memByte (dflt : Byte) (m : List (Nat × Byte)) (a : Nat) : Byte := Map.get m a dflt

/-- Write one byte of a sparse memory; the value an unlisted byte reads as is not listed. -/
def memPut (dflt : Byte) (m : List (Nat × Byte)) (a : Nat) (b : Byte) : List (Nat × Byte) :=
  if b = dflt then Map.del m a else Map.put m a b

/-- `n` bytes of a sparse memory. -/
def memRead (dflt : Byte) (m : List (Nat × Byte)) (a n : Nat) : Bytes := (List.range n).map (fun i => memByte dflt m (a + i))

/-- Write a run of bytes. -/
def memWrite (dflt : Byte) : List (Nat × Byte) → Nat → Bytes → List (Nat × Byte)
  | m, _, [] => m
  | m, a, b :: bs => memWrite dflt (memPut dflt m a b) (a + 1) bs

end Sys2Proof
end

