-- ==== Sys2Proof/Machine/Params.lean ====
section
/-! DEFINITION. Sys2Proof/Machine/Params.lean: the content of a configuration set (03_configuration_sets.md and the
chapters that name its fields), with the defaults that the chapters give. -/
namespace Sys2Proof.Machine

/-- R329: constant delay of a SecY. -/
structure CdPrm where
  mode : Nat := 0
  /-- D in ns -/
  delay : Nat := 5000000
  /-- cd_unlock_policy PASS -/
  pass : Bool := false
  requireLocked : Bool := true
  deriving DecidableEq, Repr, Inhabited

/-- R243: a queue-map entry. -/
structure QMap where
  /-- 0 SINGLE, 1 PER_CLASS, 2 PER_VID_CLASS -/
  mode : Nat := 0
  base : Nat := 0
  /-- 0 none, 1 SHARED, 2 PER_CLASS -/
  meterMode : Nat := 0
  meterBase : Nat := 0
  deriving DecidableEq, Repr, Inhabited

/-- R183: the port-entry fields of an ingress source, a port or a SecY. -/
structure Ingress where
  pvid : Nat := 1
  /-- 0 all, 1 tagged only, 2 untagged only -/
  accept : Nat := 0
  filter : Bool := false
  learn : Bool := false
  defaultClass : Nat := 0
  /-- is TPID 0x88A8 recognised for inner tags? -/
  innerAd : Bool := false
  deriving DecidableEq, Repr, Inhabited

/-- A SecY as the set defines it (R88, R95, R105, R121, R124). -/
structure SecyPrm where
  die : Nat
  /-- port number of its cipher port -/
  port : Nat
  index : Nat
  /-- 0 for the untagged SecY -/
  vid : Nat
  suite : Nat := 4
  confOffset : Nat := 0
  /-- 0 Disabled, 1 Check, 2 Strict -/
  validate : Nat := 2
  replayWindow : Nat := 0
  protectFrames : Bool := true
  replayProtect : Bool := true
  confidentiality : Bool := true
  hostKeying : Bool := true
  /-- 0 PROTECT, 1 EXEMPT -/
  ptpTreatment : Nat := 0
  /-- 0 PROTECT, 1 EXEMPT, 2 TO_FIRMWARE, 3 DROP -/
  lldpTreatment : Nat := 0
  txSci : Nat
  implicitSci : Nat
  /-- ms (R121) -/
  retireDelay : Nat := 1000
  /-- where the set gives none, the default of the suite (R124, R125) -/
  pnThreshold : Option Nat := none
  /-- ms (R124) -/
  switchGrace : Nat := 10
  cd : CdPrm := {}
  /-- port-entry fields for decrypted frames (R177) -/
  ingress : Ingress := {}
  qmap : QMap := {}
  /-- twin operation (R403) -/
  home : Nat := 0
  altPort : Option Nat := none
  deriving DecidableEq, Repr, Inhabited

/-- A user policy rule (R95). -/
structure PolicyRule where
  onTx : Bool
  onRx : Bool
  /-- port numbers on which it applies -/
  ports : List Nat
  etype : Nat
  etypeMask : Nat
  da : Nat
  daMask : Nat
  vid : Nat
  vidMask : Nat
  /-- 0 PROTECT, 1 EXEMPT, 2 TO_FIRMWARE, 3 DROP -/
  treatment : Nat
  deriving DecidableEq, Repr, Inhabited

/-- The fields of a formed port (R82, R88, R183, R221, R252, R296, R375, R379, R389). -/
structure PortPrm where
  /-- as R395: 1 100G, 2 200G, 3 400G, 4 1000BASE-X, 5 SGMII, 6 2500BASE-X, 7 twin link -/
  form : Nat
  /-- 0 plain, 1 cipher, 2 neither -/
  side : Nat
  mediumCr : Bool := false
  anEnable : Bool := true
  adminEnable : Bool := true
  rxMax : Nat := 9600
  /-- ms -/
  linkDownHold : Nat := 0
  /-- lanes whose polarity is inverted, as masks -/
  txInvert : Nat := 0
  rxInvert : Nat := 0
  /-- TPID 0x88A8 on a cipher port (R88) -/
  tpidAd : Bool := false
  ingress : Ingress := {}
  ctMask : Nat := 0xFF
  /-- 0 OFF, 1 E2E, 2 P2P -/
  ptpMode : Nat := 0
  ptpProfile : Nat := 0
  pdelayHost : Bool := false
  strictMask : Nat := 0xE0
  /-- weights of the classes, 1 where unlisted -/
  classWeight : Map Nat := []
  portShaper : Option Nat := none
  classShaper : Map Nat := []
  qmap : QMap := {}
  /-- port VID map: slot by VID (R243) -/
  vidMap : Map Nat := []
  /-- VLAN-to-SecY table of a cipher port: SecY index by VID, 0 for the untagged SecY (R88) -/
  vlanSecy : Map Nat := []
  /-- user calibration, in 2^-16 ns (R82) -/
  calTx : Int := 0
  calRx : Int := 0
  calAsym : Int := 0
  calTrim : Int := 0
  /-- twin operation: whose a plain port is (R403) -/
  home : Nat := 0
  deriving DecidableEq, Repr, Inhabited

/-- R184: a valid VLAN entry. -/
structure VlanPrm where
  member : Nat
  /-- 0 BRIDGE, 1 PREFIX, 2 FIXED -/
  fwdMode : Nat
  fid : Nat
  /-- 0 PCP, 1 DSCP map, 2 default class -/
  classMode : Nat
  learn : Bool
  fixedDest : Nat
  unknownDest : Nat
  bcastDest : Nat
  prefixMissDest : Nat
  deriving DecidableEq, Repr, Inhabited

/-- R242, R244: a queue. -/
structure QueuePrm where
  port : Nat
  cls : Nat
  /-- the SecY index of a pre-encryption queue -/
  secy : Option Nat := none
  weight : Nat := 1
  shaper : Option Nat := none
  ecnEnable : Bool := true
  ecnThreshold : Nat := 65536
  dropThreshold : Nat := 262144
  yellowThreshold : Nat := 131072
  limit : Nat := 1048576
  onDie : Nat := 262144
  deriving DecidableEq, Repr, Inhabited

/-- R250: a shaper. -/
structure ShaperPrm where
  /-- 1 QUEUE, 2 CLASS, 3 PORT -/
  role : Nat
  cls : Nat := 0
  port : Nat
  cir : Nat
  pir : Nat
  cbs : Nat
  pbs : Nat
  deriving DecidableEq, Repr, Inhabited

/-- R248: a meter. -/
structure MeterPrm where
  mode : Nat
  colour : Nat
  cir : Nat
  rate2 : Nat
  cbs : Nat
  burst2 : Nat
  deriving DecidableEq, Repr, Inhabited

/-- R230, R231: a mirror session. -/
structure MirrorPrm where
  enabled : Bool
  point : Nat
  /-- source port, or none for FLOW -/
  source : Option Nat
  dest : Nat
  sampleN : Nat
  vid : Nat := 0
  classMask : Nat := 0
  deriving DecidableEq, Repr, Inhabited

/-- R303: a PTP instance. -/
structure PtpPrm where
  role : Nat := 0
  domain : Nat := 0
  profile : Nat := 0
  ports : List Nat := []
  p2p : Bool := false
  oneStep : Bool := false
  priority1 : Nat := 128
  priority2 : Nat := 128
  clockClass : Nat := 248
  clockAccuracy : Nat := 0xFE
  logSync : Int := 0
  logAnnounce : Int := 0
  announceTimeout : Nat := 3
  timeSource : Bool := false
  deriving DecidableEq, Repr, Inhabited

/-- R510: the ports formed with no active set. -/
def defaultPorts : Map PortPrm :=
  (List.range 32).map (fun p => (p, { form := 1, side := p / 16 }))
    ++ (List.range 64).map (fun i => (32 + i, { form := 4, side := 0 }))
    ++ [(96, { form := 7, side := 2 }), (97, { form := 4, side := 2 })]

/-- R215: the default region_map: 28 regions to each line die, 16 to the egg-timer spill pool. -/
def defaultRegionMap : List Nat := (List.range 128).map (fun r => if r < 112 then r / 28 else 4)

/-- The content of a configuration set. -/
structure SetParams where
  ports : Map PortPrm := defaultPorts
  /-- by 2048 die + SecY index -/
  secys : Map SecyPrm := []
  /-- user rules by 64 die + rule (R95) -/
  rules : Map PolicyRule := []
  /-- by 4096 die + VID -/
  vlans : Map VlanPrm := []
  /-- by 2^18 die + queue -/
  queues : Map QueuePrm := []
  /-- by 2^16 die + index -/
  shapers : Map ShaperPrm := []
  meters : Map MeterPrm := []
  mirrors : Map MirrorPrm := []
  ptp : Map PtpPrm := []
  /-- class by DSCP (R187), and colour by 64 die + DSCP: 0 green, 1 yellow, 2 red (R248) -/
  dscpClass : Map Nat := []
  dscpColour : Map Nat := []
  /-- ms, s, s (R196) -/
  moveHold : Nat := 250
  pinTime : Nat := 60
  agingTime : Nat := 300
  learnUnify : Bool := false
  regionMap : List Nat := defaultRegionMap
  /-- bytes of the shared queue pool, by die (R214) -/
  spillWatermark : Map Nat := []
  voqLimit : Nat := 262144
  releaseMask : Nat := 0
  spReleaseMask : Nat := 0
  /-- µs, by class; 1,000 where unlisted (R228) -/
  residueLifetime : Map Nat := []
  cdLateDropMask : Nat := 0
  /-- ms (R118) -/
  drainLimit : Nat := 100
  notifyMask : Nat := 0
  /-- 0 NONE, 1 PTP, 2 PPS_TOD, 3 HOST (R274) -/
  timeSource : Nat := 1
  tref10Use : Bool := false
  acqSamples : Nat := 2
  /-- ns -/
  acquireTimeout : Nat := 30000000000
  lockThreshold : Nat := 100
  lockCount : Nat := 16
  unlockThreshold : Nat := 1000
  slewMax : Nat := 200
  offsetAlarm : Nat := 100000
  hostTimeout : Nat := 10000000000
  /-- user calibration of PPSIN, TCI and TPO pins, in 2^-16 ns (R82) -/
  calPps : Int := 0
  calTci : Map Int := []
  calTpo : Map Int := []
  /-- 0 HOT-STANDBY, 1 SPLIT-ACTIVE -/
  twinMode : Nat := 0
  twinAuto : Bool := true
  /-- ms (R410) -/
  lostTime : Nat := 10
  deriving DecidableEq, Repr, Inhabited

/-- R403, R416: a set as a twin uses it: the SecYs of a home it has taken over run on their alt_port. -/
def altParams (took : Option Nat) (p : SetParams) : SetParams :=
  match took with
  | none => p
  | some h =>
    if p.twinMode = 1 then
      { p with secys := Map.mapVals p.secys (fun x => if x.home = h then { x with port := x.altPort.getD x.port } else x) }
    else p

/-- A section of an image (R70): its ID, the present dies it is for, and its bytes. -/
structure ImgSection where
  id : Nat
  dies : Nat
  bytes : Bytes
  deriving DecidableEq, Repr, Inhabited

/-- What the sections of an image compile to (R77): a content, or the offset of a field that is none. -/
inductive Compiled where
  | params (p : SetParams)
  | badField (ref : Nat)
  deriving DecidableEq, Repr, Inhabited

/-- R76: the fields that may be written while a set is active. -/
inductive LiveField where
  | mirrorEnable | mirrorSample | shaperRate | shaperBurst | meter | ecnThreshold | dropThreshold | weight
  | residueLifetime | mask
  deriving DecidableEq, Repr, Inhabited

/-- What a field number of CONFIG_WRITE names (R76, R79). -/
inductive FieldKind where
  | live (f : LiveField)
  | notLive
  /-- clear the counters of a block (R76) -/
  | counterClear (block : Nat)
  /-- no field has this number -/
  | unknown
  deriving DecidableEq, Repr, Inhabited

end Sys2Proof.Machine
end

