-- ==== Sys2Proof/Config.lean ====
section
/-! DEFINITION. Sys2Proof/Config.lean: what the spec leaves open, as constants without a body (free values). Nothing
can be proved of their values; a statement holds whatever they are. -/
namespace Sys2Proof

/-- Every value the spec leaves open once per use (TRNG and DRBG output, a seed, a fresh key, an unstated choice):
the k-th such value drawn. `k` is the plain counter `Dev.free`. -/
opaque Config.freeNat : Nat → Nat

/-- The device's serial number, programmed in OTP before it leaves the maker (R41, R140). -/
opaque Config.serial : Nat

/-- The bytes of OTP as they left the maker, for the fields the spec calls device specific (R140): roots, link
secrets, factory calibration, temperature offsets. -/
opaque Config.otpFactory : Nat → Nat

/-- The 60-byte top-level public key under which the ROM checks an image (R162): firmware root, the image in its slot. The image
holds no field for it and OTP holds its hash only, so where it stands is open. -/
opaque Config.topKey : Nat → Bytes → Bytes

/-- The bit that the taps of a 31-bit pattern register feed back (R163): the spec does not state them. -/
opaque Config.loopTaps : BitVec 31 → Bool

/-- Does the device know a section ID (R70)? Relust assigns them. -/
opaque Config.sectionKnown : Nat → Bool

/-- What the sections for the present dies compile to (R70, R77): Relust assigns their layout, and the spec does not give
it. -/
opaque Config.compile : List Machine.ImgSection → Machine.Compiled

/-- The error_ref of an image whose content fails one of the checks of its chapters (R77): the byte offset of the failing
field, or the section ID. -/
opaque Config.errorRef : Bytes → Nat → Nat

/-- What a field number of CONFIG_WRITE names (R79): Relust assigns it. -/
opaque Config.fieldKind : Nat → Machine.FieldKind

/-- Does a field accept this target, index and length (R79)? -/
opaque Config.fieldAccepts : (field target index len : Nat) → Bool

/-- The image with one field changed (R79): image, field, target, index, value; its CRC field is set afterwards. -/
opaque Config.patch : Bytes → Nat → Nat → Nat → Bytes → Bytes

/-- The line die whose key SRAM an address of the blocked ranges lies in (R60, R113); from 4 on, the vault's ranges. -/
opaque Config.blockedDie : (addr : Nat) → Nat

/-- The bytes 0 to 59 of a PORT entry with these settings (R182, R183): R183 gives no layout. -/
opaque Config.portEntry : Machine.Ingress → Bytes

/-- The bytes that a twin record takes in the twin link's queue, its framing and tag included (R242, R405): the spec gives no
layout of a record's content. -/
opaque Config.recordLength : TwinBody → Nat

/-- Which of the four encrypt or decrypt pipelines of a die takes a frame, by the frame's number (R460). -/
opaque Config.cryptoSlot : Nat → Nat

/-- The keyed hashes of the tables (R188, R191): seed, table, key, and which of the two. -/
opaque Config.hash : (seed table key which : Nat) → Nat

end Sys2Proof
end

