-- ==== Sys2Proof/Machine/State.lean ====
section
/-! DEFINITION. Sys2Proof/Machine/State.lean: everything the spec gives the block, as plain data, and its value
right after reset. -/
namespace Sys2Proof.Machine

/-- What a command sends out of the block. It is the model's own record of the outputs of the LAST command. -/
inductive Output where
  /-- a write to host memory by the device (R54, R62) -/
  | hostWrite (addr : Nat) (data : Bytes)
  /-- an MSI-X message (R44) -/
  | msix (vector : Nat)
  /-- a frame leaves a port; its FCS is stomped or not (R223) -/
  | frame (port : Nat) (data : Bytes) (stomped : Bool)
  /-- a pulse edge on TPO pin (R278) -/
  | pulse (pin : Nat) (level : Bool)
  /-- a message on TODO (R277) -/
  | tod (data : Bytes)
  /-- a message to the twin over W (15_twin.md) -/
  | twin (kind : Nat) (data : Bytes)
  /-- a twin record (R407) -/
  | twinRecord (seq : Nat) (body : TwinBody)
  /-- a frame passed to the host over the CPU path with its t_in (R126, R294) -/
  | cpu (port : Nat) (tIn : TS96) (data : Bytes)
  /-- a training frame's answer, or a level, on a lane or pin -/
  | lane (lane : Nat) (data : Bytes)
  /-- a flit on a package link: 64 bytes of payload, encrypted, and 16 of control (R30, R31) -/
  | flit (link : Nat) (toHub : Bool) (chan seq : Nat) (data : Bytes)
  /-- a receiver asks the sender of a direction for the replay of a flit (R34) -/
  | replayRequest (link : Nat) (toHub : Bool) (chan seq : Nat)
  /-- the two link keys and the two tunnel keys of a die, each wrapped under its link secret (R32, R33) -/
  | linkKeys (link : Nat) (wrapped : List Bytes)
  /-- key-tunnel content with its tag, to a line die or from it (R33) -/
  | tunnel (die : Nat) (toHub : Bool) (data : Bytes)
  deriving DecidableEq, Repr

/-- R457: the counter blocks. -/
inductive CntBlock where
  | pkg | hostif | cfg | secy | cport | rxsc | sa | key | vault | cls | fab | que | time | ts | egg | mem
  | port | lane | twin | obs | gate | queue | meter | mirror | cd | fport | ptp
  deriving DecidableEq, Repr
/-! ### One-time memory (R140) -/

/-- The bits the device has programmed since it left the maker, by byte offset. -/
structure Otp where
  burned : Map Nat
  deriving DecidableEq, Repr
/-! ### The host attachment (02_host_mailboxes.md) -/

/-- What a mailbox that stays busy waits for (R48): the opcode that runs and the object it holds (R51). -/
structure Running where
  opcode : Nat
  tag : Nat
  sequence : Nat
  flags : Nat
  /-- the copy of header and payload, for R49 -/
  digest : Bytes
  /-- a number naming the object held, by opcode -/
  object : Nat
  deriving DecidableEq, Repr

/-- One mailbox (R45 to R49, R57). -/
structure Mailbox where
  req : Bytes
  resp : Bytes
  busy : Bool
  done : Bool
  running : Option Running
  /-- the sequence value, content and response of the last completed command (R49) -/
  stored : Option (Nat × Bytes × Bytes)
  /-- challenge and the elapsed time of its response (R57) -/
  challenge : Option (Bytes × Nat)
  deriving DecidableEq, Repr

/-- An operation that answered PENDING (R52). -/
structure PendOp where
  handle : Nat
  mailbox : Nat
  tag : Nat
  opcode : Nat
  object : Nat
  /-- the target its command named, the source of its completion (R54) -/
  target : Nat
  /-- elapsed time of its bound -/
  deadline : Nat
  deriving DecidableEq, Repr

/-- A notification raised (R54). -/
structure Notif where
  type : Nat
  seq : Nat
  time : TS96
  source : Nat
  data : Bytes
  deriving DecidableEq, Repr

/-- The descriptor a DMA channel is working on (R61, R62). -/
structure DmaDesc where
  index : Nat
  ctrl : Nat
  length : Nat
  hostAddr : Nat
  devAddr : Nat
  cookie : Nat
  deriving DecidableEq, Repr

/-- A DMA channel (R60). -/
structure DmaChan where
  enable : Bool
  irqEnable : Bool
  running : Bool
  halted : Bool
  err : Nat
  baseLo : Nat
  baseHi : Nat
  size : Nat
  prod : Nat
  cons : Nat
  inFlight : Option DmaDesc
  deriving DecidableEq, Repr

/-- A table-window aperture (R63, R64): its select register, staging buffer and snapshot. -/
structure Aperture where
  sel : Nat
  /-- entry, by 2^22 table + number, and bytes staged -/
  stage : Option (Nat × Bytes)
  snap : Option (Nat × Bytes)
  deriving DecidableEq, Repr

/-- Configuration space of the PCIe function, beside the enables of MSI-X and PTM (R39). -/
structure PciFn where
  /-- the function mask of MSI-X -/
  mask : Bool
  /-- D3hot, else D0 -/
  d3hot : Bool
  /-- payload and read request sizes in bytes -/
  maxPayload : Nat
  maxRead : Nat
  aspmL1 : Bool
  /-- the AER uncorrectable error status -/
  aer : Nat
  deriving DecidableEq, Repr

/-- The host attachment. -/
structure HostIf where
  fwReady : Bool
  fwRestarting : Bool
  /-- cause of the restart in progress (R54) -/
  restartCause : Nat
  /-- mailboxes the restart interrupted, and whether each command's effect is complete -/
  interrupted : List (Nat × Bool)
  trafficReady : Bool
  fwVersion : Nat
  fwAlive : Nat
  /-- elapsed time at which FW_ALIVE last advanced (R67) -/
  aliveAt : Nat
  faultCause : Nat
  nrBaseLo : Nat
  nrBaseHi : Nat
  nrSize : Nat
  nrHead : Nat
  nrTail : Nat
  nrEnable : Bool
  nrErr : Bool
  nrPhase : Bool
  /-- next device-wide notification sequence -/
  nrSeq : Nat
  /-- lost notifications to be covered by RING_OVERFLOW: count and first seq (R55) -/
  lost : Option (Nat × Nat)
  /-- notifications held during a firmware restart, and those lost beyond 256 (R67) -/
  held : List Notif
  heldLost : Option (Nat × Nat)
  tsnapValid : Bool
  tsnap : TS96
  apertures : Map Aperture
  /-- HOSTIF_CNT high words latched by a low-word read (R69) -/
  cntLatch : Map Nat
  dma : Map DmaChan
  /-- MSI-X table entries of 128 bits, pending bits, and the enable of the function (R40, R44) -/
  msix : Map Nat
  pba : Nat
  msixEnable : Bool
  pci : PciFn
  mbs : Map Mailbox
  /-- consecutive AUTH_FAILED results, and the elapsed time at which a lockout began (R59) -/
  authFails : Nat
  lockout : Option Nat
  pend : List PendOp
  nextHandle : Nat
  /-- staging area of 4 MiB: bytes that are not zero -/
  staging : List Host.Cell
  /-- value of the last register or window read, as the host sees it -/
  lastRead : Nat
  deriving DecidableEq, Repr

/-! ### The package (01_package.md) -/

/-- R34: states of a package link, in the order of R38. -/
inductive LinkState where
  | up | retry | retrain | down
  deriving DecidableEq, Repr

/-- One channel of one direction of a package link (R30, R31). -/
structure FlitChan where
  credits : Nat
  /-- next sequence number to send, next expected -/
  seq : Nat
  expect : Nat
  /-- flits of the open block that have been sent, and all four as they go on the wire (R31) -/
  inBlock : Nat
  block : List Bytes
  /-- the replay buffer: flits sent and not yet taken, by sequence number (R34) -/
  sent : Map Bytes
  /-- at the receiver: good flits behind one that is being replayed, and those taken of the open block -/
  ahead : Map Bytes
  taken : List Bytes
  /-- counter values of the blocks on their way, oldest first (R31) -/
  ivs : List Nat
  /-- elapsed time at which the sender ran out of credit with data waiting -/
  stalled : Option Nat
  deriving DecidableEq, Repr

/-- One direction of a package link: its key (empty before it is keyed), its block counter, the elapsed time of its last
block, and its four channels (R31, R32). -/
structure LinkDir where
  key : Bytes
  iv : Nat
  blockAt : Nat
  chans : Map FlitChan
  deriving DecidableEq, Repr

/-- One package link (R34); links 0-3 are L0-H to L3-H, 4 is V-H. -/
structure PkgLink where
  state : LinkState
  /-- the replays under way: failures so far, by (2 channel + (1 toward H)) 2^16 + seq -/
  replays : Map Nat
  /-- retrain failures in a row -/
  retrainFails : Nat
  /-- elapsed times of the authentication failures of the last 10 s -/
  authFails : List Nat
  toHub : LinkDir
  fromHub : LinkDir
  /-- key-tunnel keys and counters of a line die: toward the die, and from it (R33) -/
  tunnelKey : Bytes
  tunnelKeyBack : Bytes
  tunnelIv : Nat
  tunnelIvBack : Nat
  deriving DecidableEq, Repr

/-- The package. -/
structure Package where
  /-- die-present mask (R36, R42) -/
  present : Nat
  links : Map PkgLink
  deriving DecidableEq, Repr
/-! ### Configuration sets (03_configuration_sets.md) -/

/-- R71: states of the shadow set, in the order of R80. -/
inductive ShadowState where
  | empty | loading | ready | draining
  deriving DecidableEq, Repr

/-- A compiled set: its identity, its image as it stands, its content, and the number of the activation by which
frames name it (R72). -/
structure SetImg where
  id : Nat
  crc : Nat
  image : Bytes
  params : SetParams
  gen : Nat
  deriving DecidableEq, Repr

/-- A load in progress (R71): its completion handle and the image taken from staging. -/
structure LoadJob where
  handle : Nat
  /-- the image's place in the staging area -/
  stage : Nat
  image : Bytes
  deriving DecidableEq, Repr

/-- A pending swap (R73, R78): its instant, and the handle (scheduled) or mailbox (unscheduled) that waits. -/
structure SwapPend where
  at_ : Nat
  handle : Option Nat
  mailbox : Option Nat
  deriving DecidableEq, Repr

/-- The two configuration sets. -/
structure Cfg where
  active : Option SetImg
  shadow : Option SetImg
  shadowState : ShadowState
  load : Option LoadJob
  /-- elapsed time at which draining ends (R71) -/
  drainUntil : Nat
  lastSwap : TS96
  /-- the step epoch of device time at the last swap (R73, R273) -/
  swapEpoch : Nat
  swap : Option SwapPend
  /-- number of the next activation -/
  nextGen : Nat
  /-- the sets that only frames held in the egg timer still carry, by activation number: the values each copies into its
  hold record (R340) -/
  kept : Map SetParams
  deriving DecidableEq, Repr
/-! ### SecYs and SAs (04_frame_protection.md, 05_key_changes.md) -/

/-- R114: states of an SA slot, in the order of R136. -/
inductive SaState where
  | empty | loading | installed | inUse | exhausted | retiring
  deriving DecidableEq, Repr

/-- One SA slot of key SRAM (R112, R136). -/
structure SaSlot where
  state : SaState
  key : Bytes
  /-- H = AES_K(0^128), computed when the key arrives -/
  hashKey : Bytes
  ssci : Nat
  salt : Nat
  nextPn : Nat
  keyId : Nat
  installSeq : Nat
  installedAt : TS96
  since : TS96
  /-- line-die elapsed time of the entry into the current state (drain limit, switch grace) -/
  sinceTick : Nat
  /-- a replacement is loading into the pending half (R116) -/
  loading : Bool
  /-- SA_PN_THRESHOLD has been raised -/
  threshold : Bool
  /-- line-die elapsed time at which the retire timer expires (R121) -/
  retireAt : Option Nat
  /-- PN reservation of twin operation, and whether a renewal is on its way (R411) -/
  reserve : Nat
  renewing : Bool
  /-- exhausted and its grace has elapsed: waiting frames are dropped (R124) -/
  graceOver : Bool
  /-- the stamping flag fixed at installation (R330) -/
  stamps : Bool
  /-- the last PN the SA may use while the twin is LOST (R414) -/
  limit : Option Nat
  /-- the blob the key came in, as a KEY_BLOB record carries it (R407, R408) -/
  blob : Bytes
  deriving DecidableEq, Repr

/-- A receive SC (R101, R108). -/
structure RxSc where
  /-- port number of its cipher port -/
  port : Nat
  secy : Nat
  sci : Nat
  confOffset : Nat
  deriving DecidableEq, Repr

/-- A pending single TX switch (R119, R120). -/
structure TxSwitch where
  an : Nat
  at_ : Nat
  handle : Option Nat
  mailbox : Option Nat
  deriving DecidableEq, Repr

/-- A pending batch switch (R122): its instant and its SecYs (die, SecY, AN). -/
structure Batch where
  at_ : Nat
  list : List (Nat × Nat × Nat)
  deriving DecidableEq, Repr

/-- Who waits for an SA installation at the vault (R131, R132, R127). -/
inductive SaWaiter where
  | mailbox (m : Nat) | handle (h : Nat) | bulk (h index : Nat) | mka
  deriving DecidableEq, Repr

/-- An SA installation queued at the vault (R115). -/
structure SaLoad where
  waiter : SaWaiter
  die : Nat
  rx : Bool
  sc : Nat
  an : Nat
  ssci : Nat
  salt : Nat
  nextPn : Nat
  keyId : Nat
  blob : Bytes
  /-- the slot already held a key: load into the pending half (R116) -/
  replace : Bool
  deriving DecidableEq, Repr

/-- A bulk installation in progress (R132). -/
structure Bulk where
  handle : Nat
  stage : Nat
  count : Nat
  /-- records whose outcome is known, and those that succeeded -/
  finished : Nat
  ok : Nat
  deriving DecidableEq, Repr

/-- A peer of a CA: its SCI, member identifier and last message number, and the elapsed time at which its life ends (R127). -/
structure MkaPeer where
  sci : Nat
  mi : Bytes
  mn : Nat
  /-- its key server priority -/
  priority : Nat
  deadline : Nat
  /-- it receives under the latest SAK, and it asks for delay protection -/
  ready : Bool
  delayProtect : Bool
  /-- its announcement of constant delay: stamping requested, D (R331) -/
  cd : Option (Bool × Nat)
  deriving DecidableEq, Repr

/-- An MKA session (R127, R138, R139). -/
structure MkaSession where
  ckn : Bytes
  ick : Bytes
  kek : Bytes
  priority : Nat
  server : Bool
  /-- live peers; and those that are not live yet, since they have not named this device -/
  peers : List MkaPeer
  potential : List MkaPeer
  latestAn : Option Nat
  keyNumber : Nat
  rxBad : Nat
  lastHello : TS96
  /-- elapsed time of the last MKPDU sent -/
  helloAt : Option Nat
  /-- this device's member identifier, and the number of the next MKPDU -/
  mi : Bytes
  msgNumber : Nat
  /-- a new SAK is wanted: a PN has reached its threshold (R124) -/
  rekey : Bool
  /-- the CAK blob, and the latest distributed SAK under the CA's KEK, as an MKA_SESSION record carries them (R407) -/
  blob : Bytes
  sak : Option DistSak
  deriving DecidableEq, Repr

/-- A CAK installation queued at the vault (R138). -/
structure CaLoad where
  handle : Option Nat
  mailbox : Nat
  die : Nat
  secy : Nat
  priority : Nat
  ckn : Bytes
  keyId : Nat
  blob : Bytes
  deriving DecidableEq, Repr

/-- A frame held for the firmware (R94, R294): its port, its SecY if it is of one, its bytes without FCS, t_in in
2^-32 ns with its step epoch, and the set it carries. -/
structure FwFrame where
  port : Nat
  secy : Option Nat
  data : Bytes
  tIn : Nat
  epoch : Nat
  gen : Nat
  deriving DecidableEq, Repr

/-- SecYs, SCs, SAs and MKA. -/
structure Prot where
  /-- controlled ports that are enabled, by SecY number 2048 die + index (R98) -/
  enabled : List Nat
  /-- RX SCs by 4096 die + index -/
  rxscs : Map RxSc
  /-- slots by `saKey` -/
  slots : Map SaSlot
  /-- next install_seq of each die (R112) -/
  installSeq : Map Nat
  /-- pending single switches, by SecY number -/
  switches : Map TxSwitch
  /-- the last TX switch of each SecY, by SecY number: its instant in 2^-32 ns, the step epoch of that instant, and the AN in
  use before it (R117, R273) -/
  switched : Map (Nat × Nat × Nat)
  /-- pending batches, by handle -/
  batches : Map Batch
  loads : List SaLoad
  bulks : List Bulk
  mka : Map MkaSession
  caLoads : List CaLoad
  /-- frames held for the firmware in the 1 MiB buffer (R94) -/
  fwBuf : List FwFrame
  deriving DecidableEq, Repr
/-! ### The vault (06_vault.md) -/

/-- A key in the clear with its class (R150) and key_id. -/
structure Key where
  cls : Nat
  id : Nat
  bytes : Bytes
  deriving DecidableEq, Repr

/-- The pending half of a key-store slot (R153): its key, its activate mode, and for activate 2 the instant and the
handle of its installation. -/
structure PendingKey where
  key : Key
  mode : Nat
  at_ : Option Nat
  handle : Option Nat
  deriving DecidableEq, Repr

/-- A key-store slot (R152, R175). -/
structure KeySlot where
  active : Option Key
  pending : Option PendingKey
  activatedAt : TS96
  deriving DecidableEq, Repr

/-- A key-store installation queued at the vault (R172). -/
structure KeyLoad where
  handle : Option Nat
  mailbox : Nat
  slot : Nat
  mode : Nat
  at_ : Nat
  keyId : Nat
  blob : Bytes
  deriving DecidableEq, Repr

/-- A look-aside job (R157, R174). -/
structure LaJob where
  handle : Nat
  mode : Nat
  hold : Bool
  slot : Nat
  key : Key
  aadLen : Nat
  dataLen : Nat
  iv : Bytes
  tag : Bytes
  /-- bytes received so far, in order -/
  input : Bytes
  /-- next output offset, and the host ranges written so far (channel, address, length) -/
  outOff : Nat
  written : List (Nat × Nat × Nat)
  /-- hold mode: the tag has verified and the output may be drained (R160) -/
  verified : Bool
  /-- the output descriptor held for the tag check: channel, ring index, host address, length, ctrl, cookie (R160) -/
  heldDesc : Option (Nat × DmaDesc)
  /-- elapsed time of the last descriptor (R158) -/
  lastDesc : Nat
  /-- the next offset that a descriptor of either window must start at; input that has arrived past a gap, by offset (R158) -/
  inPosted : Nat
  outPosted : Nat
  parts : Map Bytes
  deriving DecidableEq, Repr

/-- The vault. -/
structure Vault where
  /-- life-cycle state as decoded at PORST_N and changed since (R143) -/
  lc : Nat
  /-- tamper latch in NVM, sources active now, time of the last tamper (R163, R169) -/
  latch : Nat
  live : Nat
  lastTamper : TS96
  /-- the always-on island's own latch cell, and its note of a VSTBY power-on (R165, R167) -/
  aonLatch : Nat
  vstbyLost : Bool
  /-- VSTBY is present (R166) -/
  vstby : Bool
  /-- the pattern registers that drive TAMP0_O and TAMP1_O (R163) -/
  loopPattern : Map (BitVec 31)
  /-- a tamper was latched during start-up: no key is unwrapped (R165) -/
  startHeld : Bool
  /-- loop samples that differed in a row, for TAMP0, TAMP1 and the mesh (R163) -/
  loopBad : Map Nat
  /-- temperature readings out of range in a row, per sensor (R163) -/
  tempBad : Map Nat
  /-- derived keys, by purpose (R149) -/
  derived : Map Key
  store : Map KeySlot
  queue : List KeyLoad
  /-- key area of the boot flash: slot, became active?, blob, by slot and half (R154) -/
  area : Map (Bool × Nat × Bytes)
  /-- 0 OK, 1 retrying, 2 FAILED (R155, R169) -/
  trng : Nat
  trngFails : Nat
  generates : Nat
  /-- elapsed time of the last reseed -/
  reseedAt : Nat
  jobs : Map LaJob
  /-- output of ended jobs that is still posted: job, channel, descriptors of that channel's ring yet to be taken (R160) -/
  deadOut : List (Nat × Nat × Nat)
  /-- next nonce counter value, committed ceiling (R159), and its NVM slots (value, sequence) -/
  nonce : Nat
  ceiling : Nat
  nonceSlots : Map (Nat × Nat)
  /-- elapsed time of the last nonce (R159) -/
  nonceAt : Option Nat
  deriving DecidableEq, Repr
/-! ### The time base (10_time_base.md) -/

/-- R270: the states of device time, in the order of R283. -/
inductive TimeState where
  | freerun | acquire | track | locked | holdover
  deriving DecidableEq, Repr

/-- One island counter disciplined by beacons (R265, R268, R269). -/
structure IslandSt where
  /-- the counter, in 2^-32 ns (R265) -/
  count : Nat
  /-- INC40 -/
  inc : Nat
  /-- does it report locked (R269)? -/
  locked : Bool
  /-- elapsed time of the last accepted exchange -/
  lastOk : Nat
  /-- what is still to be removed of the last offset, in 2^-32 ns (R269) -/
  corr : Int
  /-- island ticks over which it is removed -/
  corrTicks : Nat
  /-- t1, t2 and t3 of the exchange in progress (R268) -/
  t1 : Option Nat
  t2 : Option Nat
  /-- the instant of a direct load (R269) -/
  loadAt : Option Nat
  deriving DecidableEq, Repr

/-- A decided step (R272): at T every island loads N. -/
structure StepPend where
  at_ : Nat
  new : TS96
  /-- completion handle of a scheduled TIME_STEP -/
  handle : Option Nat
  /-- the mailbox of an unscheduled TIME_STEP -/
  mailbox : Option Nat
  /-- decided by an acquisition: the rate taken from its samples -/
  newRate : Option Int
  /-- line dies whose link was up when the step was delivered (R272) -/
  delivered : List Nat
  /-- what the new value lacks of the reference, in 2^-32 ns: slewed after the step (R270) -/
  residual : Int
  deriving DecidableEq, Repr

/-- A pulse output pin (R278, R288). -/
structure Tpo where
  mode : Nat
  polarity : Nat
  width : Nat
  start : TS96
  period : Nat
  /-- next instant, in 2^-32 ns of device time -/
  next : Option Nat
  /-- is the pin at its active level until this instant? -/
  activeUntil : Option Nat
  deriving DecidableEq, Repr

/-- One capture (R279, R290). -/
structure Capture where
  time : TS96
  flags : Nat
  deriving DecidableEq, Repr

/-- A capture input pin (R279, R289). -/
structure Tci where
  edge : Nat
  fifo : List Capture
  lost : Nat
  lastEdge : Option Nat
  deriving DecidableEq, Repr

/-- A measurement taken toward an acquisition: grand count and reference time, in 2^-32 ns. -/
structure Sample where
  local_ : Nat
  ref : Nat
  deriving DecidableEq, Repr

/-- The time base. -/
structure TimeBase where
  /-- does the grand island run? -/
  running : Bool
  /-- the grand counter, in 2^-32 ns, modulo 2^48 s (R265) -/
  grand : Nat
  /-- grand-island ticks since its start; durations on island ticks are measured here (R273) -/
  elapsed : Nat
  /-- the same while the line-die islands run: it stands still in SLEEP (R129, R281) -/
  lineElapsed : Nat
  /-- INC40 without the slew (R266) -/
  inc : Nat
  /-- r, RATE_PPB (R266) -/
  rate : Int
  /-- the slew remainder, signed, in 2^-32 ns (R267) -/
  slew : Int
  /-- islands 0-15: die d, kind k at 4 d + k (plain, cipher, feeder, die-time); 16 host I/O; 17 twin -/
  islands : Map IslandSt
  state : TimeState
  since : TS96
  /-- consecutive measurements toward LOCKED, and toward its loss (R270) -/
  lockRun : Nat
  unlockRun : Nat
  lastOffset : Int
  /-- elapsed time of the last valid measurement (or of the entry that starts its loss timeout) -/
  lastMeas : Nat
  samples : List Sample
  /-- instant of a pending entry into ACQUIRE (R271) -/
  acquireAt : Option Nat
  /-- its cause, as TIME_STATE reports it (R462) -/
  acquireCause : Nat
  /-- elapsed time at which ACQUIRE was entered -/
  acquireStart : Nat
  /-- stepped since reset? -/
  stepped : Bool
  steps : Nat
  lastStep : TS96
  alarm : Bool
  step : Option StepPend
  /-- sizes of the last three steps, newest first, in 2^-32 ns (R273) -/
  stepHist : List Int
  /-- number of steps taken: the step epoch (R273) -/
  epoch : Nat
  /-- device time of the last PPSIN edge, and the elapsed time at which it came (R276) -/
  ppsLast : Option (Nat × Nat)
  /-- the TAI second a valid TOD message named for the next edge (R276) -/
  todNext : Option Nat
  /-- the flags and utc_offset carried by that message (R277) -/
  todInfo : Nat
  /-- the last whole second for which a TODO message has been sent -/
  todSent : Option Nat
  trefPresent : Bool
  trefInUse : Bool
  /-- elapsed time since which TREF10 has run -/
  trefSince : Nat
  /-- grand count at the start of the running 10 s window -/
  trefWindow : Nat
  tpo : Map Tpo
  tci : Map Tci
  /-- PTM Enable of the function's PTM Control register, and link in L0 (R291) -/
  ptmEnabled : Bool
  linkL0 : Bool
  /-- a step whose learning times are still to be rebased, in ms (R273) -/
  rebase : Int
  deriving DecidableEq, Repr
/-! ### Start-up, reset and power (16_startup_power.md) -/

/-- R440: power states; the first four are those of R445. -/
inductive Power where
  | run | sleep | entering | waking | off
  deriving DecidableEq, Repr

/-- The states of the IEEE 1149.1 TAP (R21). -/
inductive TapState where
  | testLogicReset | runTestIdle | selectDr | captureDr | shiftDr | exit1Dr | pauseDr | exit2Dr | updateDr
  | selectIr | captureIr | shiftIr | exit1Ir | pauseIr | exit2Ir | updateIr
  deriving DecidableEq, Repr

/-- An image write in progress (R452). -/
structure ImgWrite where
  handle : Nat
  slot : Nat
  erase : Bool
  offset : Nat
  data : Bytes
  deriving DecidableEq, Repr

/-- Start-up, power, boot flash and firmware images. -/
structure Sys where
  /-- levels of PORST_N and SRST_N -/
  porst : Bool
  srst : Bool
  power : Power
  resetCause : Nat
  /-- start-up is running from the last reset release, and how far it has come (R430) -/
  starting : Bool
  cold : Bool
  vaultDone : Bool
  bistDone : Bool
  romDone : Bool
  stockpotDone : Bool
  fwRunning : Bool
  /-- start-up has stopped: the device stays in reset, or no image slot verifies (R432) -/
  stopped : Bool
  /-- elapsed time of the last reset release, and the twelve milestones in µs (R449) -/
  releaseAt : Nat
  milestones : Map Nat
  /-- has the key-store reinstall ended (R431)? -/
  keysLoaded : Bool
  /-- boot flash: bytes written since the board was made (R434) -/
  flash : List Host.Cell
  /-- TWROLE as sampled at PORST_N (R443) -/
  twrole : TwRole
  runningSlot : Nat
  /-- is the running image a trial (R437)? -/
  runningTrial : Bool
  /-- verdict, security version and firmware version of each slot once verified (R451, R453) -/
  verdicts : Map (Nat × Nat × Nat)
  imgWrite : Option ImgWrite
  /-- handle and slot of a verification in progress -/
  imgVerify : Option (Nat × Nat)
  /-- handle of a start-up set save in progress, and the image it saves (R448) -/
  save : Option (Nat × Bytes)
  /-- order in which the two start-up set copies were saved; 0 for a copy never saved (R439) -/
  saveSeq : Map Nat
  /-- handle of a sleep entry, and elapsed time of its start (R441) -/
  sleepOp : Option (Nat × Nat)
  /-- handle of a wake, asked for or running (R442) -/
  wakeOp : Option Nat
  /-- JTAG debug access is open (R450), and the state of the TAP -/
  debug : Bool
  tap : TapState
  /-- elapsed time at which a SYSTEM_RESET fires (R447) -/
  resetAt : Option Nat
  deriving DecidableEq, Repr
/-! ### Observability (17_observability.md) -/

/-- A performance counter (R458, R459). -/
structure PerfCnt where
  event : Nat
  value : Nat
  ovf : Bool
  deriving DecidableEq, Repr

/-- An event record submitted and not yet written (R466). -/
structure Submission where
  type : Nat
  hours : Nat
  cycles : Nat
  body : Bytes
  deriving DecidableEq, Repr

/-- A record the ring holds: its offset, length and sequence (R464, R466). -/
structure RecInfo where
  offset : Nat
  length : Nat
  seq : Nat
  deriving DecidableEq, Repr

/-- A lane's PRBS test (R472, R482). -/
structure Prbs where
  state : Nat
  lockLosses : Nat
  bits : Nat
  errors : Nat
  /-- elapsed time up to which bits have been counted -/
  since : Nat
  deriving DecidableEq, Repr

/-- Blocks that a crypto slot has processed for a frame whose fate is not known (R460): the frame's number, or that of its stored
frame. -/
structure Tally where
  frame : Nat
  die : Nat
  slot : Nat
  blocks : Nat
  deriving DecidableEq, Repr

/-- Observability. -/
structure Obs where
  /-- counter c of die d (4 is the hub) at 64 d + c -/
  perf : Map PerfCnt
  /-- last PERF_LATCH: its instant and the 320 counters -/
  latch : Option (TS96 × Map PerfCnt)
  /-- record memory of 2 MiB: bytes that are not zero (R464) -/
  ring : List Host.Cell
  /-- records retained, oldest first -/
  recs : List RecInfo
  nextSeq : Nat
  nextOffset : Nat
  /-- budget in bytes and the elapsed time up to which it is credited (R467) -/
  budget : Nat
  budgetAt : Nat
  suppressed : Nat
  firstSuppressed : Nat
  subs : List Submission
  /-- operating hours in 0.01 h, and the elapsed time of the last unit (R468) -/
  hours : Nat
  hoursAt : Nat
  powerCycles : Nat
  /-- the 64 slots of the vault system area: hours, power cycles, sequence -/
  slots : Map (Nat × Nat × Nat)
  /-- current and highest temperature readings, 16-bit codes -/
  temp : Map Nat
  tempHigh : Map Nat
  /-- loopback by port number, PRBS by lane number -/
  loopback : Map Nat
  prbs : Map Prbs
  /-- blocks in the device, and blocks that each slot (at 8 die + slot) has still to spend its cycles on (R460) -/
  tallies : List Tally
  slotBusy : Map Nat
  /-- elapsed time of the last RECORDS_SUPPRESSED record (R467) -/
  suppressedAt : Nat
  deriving DecidableEq, Repr
/-! ### Frames inside the device -/

/-- What the device does with a frame for a SecY (R94). -/
inductive Treatment where
  | plain | protect | exempt
  deriving DecidableEq, Repr

/-- A frame held by the device, from its classification to its departure. -/
structure Frame where
  id : Nat
  /-- the frame from its destination MAC, FCS excluded -/
  data : Bytes
  /-- the activation number of the set it carries (R72) -/
  gen : Nat
  /-- port number it entered by; 97 MGT, 98 the firmware or host -/
  inPort : Nat
  /-- destination code of its ingress source (R181), 0 for an injected frame -/
  source : Nat
  /-- classification time and calibrated arrival time t_in, in 2^-32 ns (R72, R294); the step epoch of t_in (R273) -/
  classTime : Nat
  tIn : Nat
  epoch : Nat
  cls : Nat
  /-- destination code of kind PORT or SECY -/
  dest : Nat
  queue : Nat
  treat : Treatment
  /-- the TX slot it is bound to (R118) -/
  slot : Option Nat
  /-- admission length (R245) -/
  adm : Nat
  /-- the colour its metering gave, for later attempts (R246) -/
  yellow : Bool
  /-- received whole before it may leave (R221, R222) -/
  whole : Bool
  /-- its first bit had left before its last byte came (cut-through) -/
  early : Bool
  /-- admitted before its last byte came (R245) -/
  head : Bool
  /-- it is to be stomped, and the FAB_CNT slot that counts it: 4 R223, 5 R224 -/
  stomp : Option Nat
  /-- a copy of a replication group, and its metering has been done (R227, R246) -/
  copy : Bool
  /-- the mirror session that made it, if it is a mirror copy, and whether its view is plaintext (R230) -/
  mirror : Option Nat
  plainView : Bool
  /-- a transmit timestamp is wanted: by the host?, cookie (R301) -/
  stampFor : Option (Bool × Nat)
  /-- written by the spatula for a firmware master or responder (R305): 1 Sync origin, 2 turnaround from the t_in given -/
  late : Option (Nat × Nat)
  /-- link_delay of the ingress port at t_in (R297) -/
  linkDelay : Int
  /-- sender_locked and sender_holdover at t_in (R332) -/
  timeFlags : Nat
  /-- a stamp that a relayed frame keeps: seconds and nanoseconds, and flags [11:10] (R333) -/
  stamp : Option (Nat × Nat × Nat)
  /-- blocks of the stockpot that hold it; empty on the die (R214) -/
  blocks : List Nat
  /-- read back from the stockpot, and blocks of it still being verified (R359) -/
  readBack : Bool
  unverified : List Nat
  /-- counted in held_for_window (R324) -/
  waited : Bool
  /-- counted in TWIN_CNT.pn_wait (R411) -/
  pnWaited : Bool
  /-- counted in MEM_CNT.verify_waits (R361) -/
  verifyWaited : Bool
  /-- the PN given at encryption; 0 before -/
  pn : Nat
  /-- replication group and version (R229) -/
  group : Option (Nat × Nat)
  /-- the frame stored once for it and the other copies made from it (R227): the id of the frame at classification -/
  stored : Nat
  deriving DecidableEq, Repr
/-! ### Classification tables (07_classification.md) -/

/-- A MAC entry (R201). -/
structure MacEntry where
  fid : Nat
  mac : Nat
  dest : Nat
  override : Nat
  discard : Bool
  lastUpdate : Nat
  firstConflict : Nat
  firstDest : Nat
  conflicts : Nat
  pinUntil : Nat
  lock : Bool
  static : Bool
  pinned : Bool
  remote : Bool
  age : Nat
  deriving DecidableEq, Repr

/-- A prefix write that lookups do not see yet (R194). -/
inductive PfxHeld where
  | added | deleted
  /-- changed in place: destination and class override as lookups still see them -/
  | changed (dest override : Nat)
  deriving DecidableEq, Repr

/-- A prefix entry (R202). -/
structure PfxEntry where
  fid : Nat
  len : Nat
  /-- the prefix as a number of 32 or 128 bits -/
  prefix_ : Nat
  dest : Nat
  override : Nat
  lock : Bool
  held : Option PfxHeld
  deriving DecidableEq, Repr

/-- An SCI entry (R185). -/
structure SciEntry where
  port : Nat
  sci : Nat
  rxsc : Nat
  secy : Nat
  deriving DecidableEq, Repr

/-- An event that waits for the insertion engine of a die (R195, R200). -/
inductive LearnEv where
  /-- an SA seen: fid, MAC, source, ingress time in ms -/
  | learn (fid mac source ms : Nat)
  /-- a unification copy: fid, MAC, destination; or a removal -/
  | copy (fid mac dest : Nat)
  | remove (fid mac : Nat)
  deriving DecidableEq, Repr

/-- A change in a die's log for unification (R200): fid, MAC, and the new destination or none for a removal. -/
structure LogEv where
  fid : Nat
  mac : Nat
  dest : Option Nat
  deriving DecidableEq, Repr

/-- A flush in progress (R209). -/
structure Flush where
  handle : Nat
  /-- dies, table and the request's flags, fid, dest -/
  dies : List Nat
  table : Nat
  flags : Nat
  fid : Nat
  dest : Nat
  deriving DecidableEq, Repr

/-- The classification state of the line dies. Table entries lie at `tblPos` (die, position). -/
structure Cls where
  /-- numbers of the free values that are the hash seeds, by 16 die + table (R188) -/
  seeds : Map Nat
  mac : Map MacEntry
  sci : Map SciEntry
  pfx4 : Map PfxEntry
  pfx6 : Map PfxEntry
  /-- sieve counters that are not zero, by die, family, length and position (R191) -/
  sieve : Map Nat
  learnQ : Map (List LearnEv)
  logs : Map (List LogEv)
  logLost : List Nat
  flushes : List Flush
  /-- empty positions whose lock bit is set, by table and position (R64, R65) -/
  holes : List Nat
  /-- the stash position that the drain tries next, by 16 die + table (R189) -/
  drainAt : Map Nat
  /-- line-die ticks at the last aging sweep of a die (R198); elapsed time at the entry into SLEEP, where pin timers pause (R204) -/
  sweptAt : Map Nat
  sleptAt : Option Nat
  deriving DecidableEq, Repr

/-! ### Fabric, replication and mirrors (08_fabric_buffers.md) -/

/-- A frame on its way through the crossbar (R217 to R220). -/
structure VoqEnt where
  /-- input: die 0-3, or 8 -/
  src : Nat
  /-- outputs still to be served -/
  dsts : List Nat
  inChan : Nat
  outChan : Nat
  /-- bytes not yet carried, frame header included, and whether the first cell has gone -/
  left : Nat
  started : Bool
  /-- a mirror copy: lowest priority (R231) -/
  mirror : Bool
  cls : Nat
  inPort : Nat
  /-- egress port number, 98 for the firmware path, 99 for a replicated frame -/
  port : Nat
  /-- the egress ports of its triples (R27): destination codes, each SecY a port of its own (R242) -/
  outs : List Nat
  /-- the frame, or the copies for the members on the output dies (R227), until its first cell has gone -/
  frames : List Frame
  /-- the stored frame of its frames (R227), which names them once its first cell has gone -/
  stored : Nat
  deriving DecidableEq, Repr

/-- A replication group (R226, R235). -/
structure Group where
  members : List Nat
  version : Nat
  deriving DecidableEq, Repr

/-- A waiting residue copy (R228). -/
structure Residue where
  die : Nat
  frame : Frame
  /-- elapsed time at which its lifetime ends -/
  deadline : Nat
  deriving DecidableEq, Repr

/-- What a live write leaves a mirror session at (R76): frames of the set of this activation number, from this frame
number on. -/
structure MirrorEra where
  gen : Nat
  from_ : Nat
  enabled : Bool
  sampleN : Nat
  deriving DecidableEq, Repr

/-- Buffers, fabric, replication and mirrors. -/
structure Fab where
  voq : List VoqEnt
  /-- frames whose first cell has reached a die, oldest first -/
  arrived : List (Nat × Frame)
  grantPtr : Map Nat
  acceptPtr : Map Nat
  groups : Map Group
  residues : List Residue
  /-- ports whose analysis flag is set (R232) -/
  analysis : List Nat
  /-- the first frame number to which the flag of a port applies (R238) -/
  analysisFrom : Map Nat
  /-- matches of each session modulo sample_n (R231) -/
  sample : Map Nat
  /-- live writes to sessions, newest first (R76) -/
  eras : Map (List MirrorEra)
  mirrorQ : Map (List Frame)
  /-- number of the next frame -/
  nextFrame : Nat
  deriving DecidableEq, Repr

/-! ### Queues, scheduling, shaping and policing (09_queues_scheduling.md) -/

/-- A queue: its frames, start tag if backlogged, and F_prev if valid (R253). -/
structure Queue where
  frames : List Frame
  tag : Nat
  fprev : Option Nat
  deriving DecidableEq, Repr

/-- A class of a port: its start tag, F_prev, and the virtual time of its queues (R253). -/
structure ClassSt where
  tag : Nat
  fprev : Option Nat
  vc : Nat
  deriving DecidableEq, Repr

/-- Two token buckets with their residues (R249, R250, R256). -/
structure Buckets where
  c : Int
  p : Int
  cRes : Nat
  pRes : Nat
  deriving DecidableEq, Repr

/-- A frame being sent (R252, R301). -/
structure Sending where
  frame : Frame
  /-- bytes on the wire, DA to FCS; after encryption and the spatula -/
  wire : Bytes
  /-- elapsed time at which the last bit leaves -/
  ends : Nat
  stomp : Bool
  /-- t_out in 2^-32 ns, and the flags of its FIFO entry -/
  tOut : Nat
  flags : Nat
  /-- released by the egg timer -/
  egg : Bool
  /-- protected before its late-bound fields were written: its ICV is patched (R307) -/
  patched : Bool
  deriving DecidableEq, Repr

/-- A flush of a spilled queue in progress (R264): handle, frames and bytes dropped. -/
structure QFlush where
  handle : Nat
  frames : Nat
  bytes : Nat
  deriving DecidableEq, Repr

/-- Queues and schedulers. -/
structure Que where
  /-- by 2^18 die + queue; hub queues at die 8 -/
  queues : Map Queue
  /-- class state by 8 port + class, and V_p by port -/
  classes : Map ClassSt
  vp : Map Nat
  /-- by 2^16 die + index; an unlisted bucket is full (R250) -/
  shapers : Map Buckets
  meters : Map Buckets
  sending : Map Sending
  flushes : List QFlush
  deriving DecidableEq, Repr
/-! ### Timestamps and PTP (11_timestamps.md) -/

/-- A transmit timestamp (R302). -/
structure TxStamp where
  time : TS96
  seqId : Nat
  msg : Nat
  domain : Nat
  portNumber : Nat
  flags : Nat
  cookie : Nat
  deriving DecidableEq, Repr

/-- What a PTP instance knows of its parent (R304, R315). -/
structure PtpParent where
  identity : Nat
  portNumber : Nat
  priority1 : Nat
  clockClass : Nat
  clockAccuracy : Nat
  variance : Nat
  priority2 : Nat
  grandmaster : Nat
  stepsRemoved : Nat
  deriving DecidableEq, Repr

/-- What an 802.1AS relay passes on (R300, IEEE 802.1AS-2020): origin in ns, corrections with the delay of the link in 2^-16 ns,
arrival in 2^-32 ns, and the rest of the information TLV. -/
structure Relayed where
  origin : Nat
  corr : Int
  tIn : Nat
  info : Bytes
  deriving DecidableEq, Repr

/-- A PTP instance (R303, R304). -/
structure PtpSt where
  slavePort : Option Nat
  parent : Option PtpParent
  /-- elapsed time of the last Announce from the parent -/
  announceAt : Nat
  lastOffset : Int
  meanPathDelay : Option Int
  lastSync : TS96
  syncRx : Nat
  announceTimeouts : Nat
  /-- a Sync that waits for its Follow_Up: sequence, correction, t2 in 2^-32 ns -/
  sync : Option (Nat × Int × Nat)
  /-- t2 - t1 of the last Sync, in 2^-16 ns, corrected (E2E) -/
  masterToSlave : Option Int
  /-- the Delay_Req sent: sequence number, and t3 once known -/
  delayReq : Option (Nat × Option Nat)
  nextSeq : Nat
  /-- what an 802.1AS relay passes on of the last Sync of its slave port (R300) -/
  relay : Option Relayed
  deriving DecidableEq, Repr

/-- The peer-delay exchange of a port (R303): sequence, t1 in 2^-32 ns, t4, and turnaround terms of a two-step
response. -/
structure PdelaySt where
  seq : Nat
  t1 : Option Nat
  t4 : Option Nat
  t2 : Int
  deriving DecidableEq, Repr

/-- Timestamps and PTP. -/
structure Ts where
  /-- link_delay by port, where it has been set (R297) -/
  linkDelay : Map Int
  fifoHost : Map (List TxStamp)
  fifoFw : Map (List TxStamp)
  hostLost : Map Nat
  inst : Map PtpSt
  pdelay : Map PdelaySt
  deriving DecidableEq, Repr

/-! ### Timed actions (12_timed_actions.md) -/

/-- A gate list (R322): entries are gate states and intervals in ns. -/
structure GateList where
  enable : Bool
  init : Nat
  acquire : Nat
  entries : List (Nat × Nat)
  ext : Nat
  base : TS96
  /-- SNS64, in 2^-16 ns -/
  cycle : Nat
  maxSdu : List Nat
  deriving DecidableEq, Repr

/-- The gates of a port (R323, R326). Instants are counts of 2^-16 ns (R326). -/
structure GateSt where
  admin : Option GateList
  oper : Option GateList
  /-- change time of the pending admin list -/
  change : Option Nat
  gates : Nat
  /-- start of the current cycle and entry in force, of an operating list -/
  cycleStart : Nat
  entry : Nat
  /-- ACQUIRE has suspended the list (R320) -/
  suspended : Bool
  /-- restart instant after ACQUIRE -/
  restart : Option Nat
  /-- the cycle in progress is extended to the change time (R326) -/
  extended : Bool
  /-- a pending change was cancelled and no list operates: the gates are the kept admin list's (R323) -/
  cancelled : Bool
  deriving DecidableEq, Repr

/-- A frame in the egg timer with the values it keeps (R337, R340). -/
structure Held where
  die : Nat
  frame : Frame
  port : Nat
  secy : Nat
  /-- R in 2^-32 ns -/
  release : Nat
  pass : Bool
  /-- released without hold: late, or suspended with PASS (R337, R339) -/
  atOnce : Bool
  spilled : Bool
  readBack : Bool
  verified : Bool
  /-- counted in release_collision (R336) -/
  collided : Bool
  deriving DecidableEq, Repr

/-- Timed actions. -/
structure Act where
  gates : Map GateSt
  egg : List Held
  /-- tokens of the egg-timer bucket of each die, residue; unlisted is full (R338) -/
  eggBucket : Map (Int × Nat)
  /-- host keying: peer capability and delay by SecY (R346) -/
  cdPeer : Map (Bool × Nat)
  /-- SecYs whose capability, or delay, differs now (R330) -/
  capMis : List Nat
  delayMis : List Nat
  deriving DecidableEq, Repr

/-! ### Protected stockpot memory (13_stockpot_protection.md) -/

/-- States of a region, in the order of R370. -/
inductive RegionState where
  | inService | waiting | rekeying | quarantined | rebuilding | heldOut
  deriving DecidableEq, Repr

/-- A region (R352, R362, R366). -/
structure Region where
  owner : Nat
  state : RegionState
  ke : Bytes
  km : Bytes
  epoch : Nat
  /-- elapsed times of its quarantines of the last 24 h -/
  quarantines : List Nat
  /-- the operation that waits for a re-key or a return -/
  handle : Option Nat
  /-- the key pair of a re-key in progress (R362) -/
  next : Option (Bytes × Bytes)
  deriving DecidableEq, Repr

/-- A block as DRAM holds it (R354, R355): ciphertext and granule MACs. Its write counter lies in its leaf. -/
structure Blk where
  ct : Bytes
  macs : List Bytes
  deriving DecidableEq, Repr

/-- A node of the counter tree (R356 to R358): counters that are not zero, cached?, dirty?, and its MAC in DRAM. -/
structure Node where
  counters : Map Nat
  cached : Bool
  dirty : Bool
  mac : Bytes
  deriving DecidableEq, Repr

/-- The protected stockpot. -/
structure Mem where
  regions : Map Region
  /-- regions waiting for a re-key, in order (R363) -/
  queue : List Nat
  blocks : Map Blk
  /-- level-0 to level-3 nodes by 2^20 level + number -/
  nodes : Map Node
  /-- blocks gathered and not yet written (R353) -/
  writes : List (Nat × Bytes)
  lastAlarm : TS96
  /-- frames that have left while blocks of theirs are still being verified (R360) -/
  departed : List Frame
  /-- stockpot dies that trained (R352) -/
  trained : List Nat
  /-- TZERO has cleared the region keys: out of use until this elapsed time (R368) -/
  rebuildUntil : Nat
  /-- spill bytes of each line die that the memory cipher has still to carry, written and read, and the elapsed time of
  that figure (R216) -/
  owed : Map (Nat × Nat)
  owedAt : Nat
  deriving DecidableEq, Repr
/-! ### Ports and lanes (14_serial_lanes.md) -/

/-- R390: the states of a port, in the order of R395. -/
inductive LinkSt where
  | disabled | an | training | aligning | up | fault
  deriving DecidableEq, Repr

/-- A port (R390, R395). -/
structure PortSt where
  state : LinkSt
  since : TS96
  /-- elapsed time of the entry into the state -/
  sinceTick : Nat
  hold : Bool
  anComplete : Bool
  lpAbility : Nat
  /-- SGMII: the negotiated speed in Mb/s -/
  speed : Nat
  remoteFault : Bool
  localFault : Bool
  /-- elapsed time of a loss of signal, lock or sync that still lasts (R390) -/
  lossAt : Option Nat
  /-- what was lost, as R462 codes it: 1 signal, 2 lock, 3 sync -/
  lossCause : Nat
  /-- elapsed time at which the port was enabled, while it may hold traffic_ready back (R431) -/
  enabledAt : Option Nat
  deriving DecidableEq, Repr

/-- An eye scan (R388, R399). -/
structure EyeScan where
  handle : Nat
  eye : Nat
  hMin : Int
  hStep : Nat
  nH : Nat
  vMin : Int
  vStep : Nat
  nV : Nat
  dwell : Nat
  stage : Nat
  /-- points done, and elapsed time of the start -/
  done : Nat
  start : Nat
  deriving DecidableEq, Repr

/-- A lane (R378, R386, R387, R398). -/
structure LaneSt where
  taps : List Int
  trained : Bool
  frozen : Bool
  /-- twin lane: lane number received, sets with receiver ready in a row, TOS2 seen -/
  rxId : Nat
  readyRun : Nat
  /-- signal detect, clock recovery, block lock or sync, PLL -/
  signal : Bool
  cdr : Bool
  lock : Bool
  pll : Bool
  scan : Option EyeScan
  /-- elapsed time at which a twin lane's training began (R386) -/
  since : Nat
  /-- code groups by which the elastic buffer is off its centre (R382, R385) -/
  fill : Int
  /-- it has overflowed or run empty in the frame that is being received (R382) -/
  slipped : Bool
  deriving DecidableEq, Repr

/-- Ports by port number, lanes by lane number. -/
structure Ports where
  ports : Map PortSt
  lanes : Map LaneSt
  deriving DecidableEq, Repr

/-! ### Twin operation (15_twin.md) -/

/-- R410: the twin states, in the order of R422. -/
inductive TwinSt where
  | unpaired | attaching | syncing | paired | suspect | lost | solo
  deriving DecidableEq, Repr

/-- The handshake in progress (R405). -/
structure Handshake where
  initiator : Bool
  nonceI : Bytes
  nonceR : Bytes
  serialI : Nat
  serialR : Nat
  /-- elapsed time of the last step, and failures so far -/
  stepAt : Nat
  fails : Nat
  peerServing : Bool
  peerStrap : Bool
  peerVersion : Nat
  peerRecords : Nat
  deriving DecidableEq, Repr

/-- Twin operation. -/
structure Twin where
  state : TwinSt
  since : TS96
  sinceTick : Nat
  /-- 0 none, 1 PRIMARY, 2 SECONDARY -/
  role : Nat
  serving : Bool
  failOut : Bool
  failIn : Bool
  squelch : Bool
  peerSerial : Nat
  peerVersion : Nat
  recordVersion : Nat
  mirrorTables : Bool
  handle : Option Nat
  hs : Option Handshake
  /-- session keys of the two directions (R405): sent and received -/
  keyOut : Bytes
  keyIn : Bytes
  ctrOut : Nat
  ctrIn : Nat
  /-- records waiting in the firmware, and sent records awaiting acknowledgement, by number -/
  waiting : List TwinBody
  unacked : List (Nat × TwinBody)
  /-- the last CONTROL and TIMED_ACTION records sent -/
  lastSent : List TwinBody
  nextRec : Nat
  /-- elapsed time at which the twin link's queue has sent every record in it (R242) -/
  queueUntil : Nat
  acked : Nat
  /-- SecYs marked unprotected (R408) -/
  unprotected : List Nat
  /-- reservations received for the peer's slots, TX (R411) -/
  reservations : Map Nat
  /-- slots whose keys came from the twin (R410) -/
  mirrored : List Nat
  /-- timed actions held for takeover (R417) -/
  actions : List TwinAction
  /-- taps of the peer's lanes; its controlled-port states, analysis flags and TX slots in use (R407) -/
  taps : Map (List Int)
  control : List Nat
  analysis : List Nat
  inUse : List Nat
  missed : Nat
  /-- elapsed time of the last heartbeat -/
  heard : Nat
  yoyoSeq : Nat
  offset : Int
  /-- the peer has sent exact reservations to hand over (R418) -/
  handover : Bool
  /-- the peer's CONTROL record, the last of its synchronisation, has come (R410) -/
  synced : Bool
  /-- the home whose SecYs run on their alt_port since a takeover (R403, R416) -/
  tookHome : Option Nat
  deriving DecidableEq, Repr
/-! ### The block -/

/-- Everything of the block but the queue and one-time memory. -/
structure Dev where
  time : TimeBase
  host : HostIf
  pkg : Package
  cfg : Cfg
  sys : Sys
  vault : Vault
  prot : Prot
  cls : Cls
  fab : Fab
  que : Que
  ts : Ts
  act : Act
  mem : Mem
  port : Ports
  twin : Twin
  obs : Obs
  /-- every 48-bit counter (R457), by `cntKey`; a counter not listed is zero -/
  cnt : Map Nat
  /-- number of the next value the spec leaves open -/
  free : Nat
  /-- what the last command sent out -/
  out : List Output
  deriving DecidableEq, Repr

/-- The state: the commands that wait, first in first out; one-time memory; everything else. -/
structure State where
  pending : List Instr
  otp : Otp
  dev : Dev
  deriving DecidableEq, Repr

/-- No command ends in a fault: the spec gives each an effect. -/
inductive Fault where
  deriving DecidableEq, Repr

/-- Why a command is refused. -/
inductive Refusal where
  /-- raised by an arm of `exec` whose command has no meaning yet; safe, since it stops -/
  | notModelled (mnemonic : String)
  deriving DecidableEq, Repr

/-! ### Reset -/

/-- R68: a mailbox after reset. -/
def Mailbox.empty : Mailbox := ⟨[], [], false, false, none, none, none⟩

/-- R39: configuration space after reset; the sizes are those PCIe gives a function that nothing has configured. -/
def PciFn.reset : PciFn := ⟨false, false, 128, 512, false, 0⟩

/-- The host attachment after reset (R41, R44, R54, R60, R68). Values the spec states no reset for: log entry 3. -/
def HostIf.reset : HostIf where
  fwReady := false
  fwRestarting := false
  restartCause := 0
  interrupted := []
  trafficReady := false
  fwVersion := 0
  fwAlive := 0
  aliveAt := 0
  faultCause := 0
  nrBaseLo := 0
  nrBaseHi := 0
  nrSize := 0
  nrHead := 0
  nrTail := 0
  nrEnable := false
  nrErr := false
  nrPhase := true
  nrSeq := 0
  lost := none
  held := []
  heldLost := none
  tsnapValid := false
  tsnap := ⟨0, 0, 0⟩
  apertures := []
  cntLatch := []
  dma := []
  msix := []
  pba := 0
  msixEnable := false
  pci := PciFn.reset
  mbs := []
  authFails := 0
  lockout := none
  pend := []
  nextHandle := 1
  staging := []
  lastRead := 0

/-- R71, R75. -/
def Cfg.reset : Cfg := ⟨none, none, .empty, none, 0, ⟨0, 0, 0⟩, 0, none, 1, []⟩

/-- R129. -/
def Prot.reset : Prot := ⟨[], [], [], [], [], [], [], [], [], [], [], []⟩

/-- The vault as it stands before its first PORST_N release. -/
def Vault.reset : Vault where
  lc := 0
  latch := 0
  live := 0
  lastTamper := ⟨0, 0, 0⟩
  aonLatch := 0
  vstbyLost := false
  vstby := true
  loopPattern := []
  startHeld := false
  loopBad := []
  tempBad := []
  derived := []
  store := []
  queue := []
  area := []
  trng := 0
  trngFails := 0
  generates := 0
  reseedAt := 0
  jobs := []
  deadOut := []
  nonce := 0
  ceiling := 0
  nonceSlots := []
  nonceAt := none

/-- R265, R266, R270: time stands still at zero until the grand island starts. -/
def TimeBase.reset : TimeBase where
  running := false
  grand := 0
  elapsed := 0
  lineElapsed := 0
  inc := 3435973837
  rate := 0
  slew := 0
  islands := []
  state := .freerun
  since := ⟨0, 0, 0⟩
  lockRun := 0
  unlockRun := 0
  lastOffset := 0
  lastMeas := 0
  samples := []
  acquireAt := none
  acquireCause := 1
  acquireStart := 0
  stepped := false
  steps := 0
  lastStep := ⟨0, 0, 0⟩
  alarm := false
  step := none
  stepHist := []
  epoch := 0
  ppsLast := none
  todNext := none
  todInfo := 0
  todSent := none
  trefPresent := false
  trefInUse := false
  trefSince := 0
  trefWindow := 0
  tpo := []
  tci := []
  ptmEnabled := false
  linkL0 := false
  rebase := 0

/-- R429: the device held in reset. -/
def Sys.reset : Sys where
  porst := false
  srst := true
  power := .run
  resetCause := 0
  starting := false
  cold := true
  vaultDone := false
  bistDone := false
  romDone := false
  stockpotDone := false
  fwRunning := false
  stopped := false
  releaseAt := 0
  milestones := []
  keysLoaded := false
  flash := []
  twrole := .low
  runningSlot := 0
  runningTrial := false
  verdicts := []
  imgWrite := none
  imgVerify := none
  save := none
  saveSeq := []
  sleepOp := none
  wakeOp := none
  debug := false
  tap := .testLogicReset
  resetAt := none

/-- Empty tables (R204). -/
def Cls.reset : Cls := ⟨[], [], [], [], [], [], [], [], [], [], [], [], [], none⟩

/-- Empty buffers (R226, R232). -/
def Fab.reset : Fab := ⟨[], [], [], [], [], [], [], [], [], [], [], 1⟩

/-- Empty queues, full buckets (R250). -/
def Que.reset : Que := ⟨[], [], [], [], [], [], []⟩

/-- R297, R301. -/
def Ts.reset : Ts := ⟨[], [], [], [], [], []⟩

/-- R323. -/
def Act.reset : Act := ⟨[], [], [], [], [], []⟩

/-- The stockpot before its training (R352). -/
def Mem.reset : Mem := ⟨[], [], [], [], [], ⟨0, 0, 0⟩, [], [], 0, [], 0⟩

/-- R410. TWFAIL_O is asserted from reset (R415); TWFAIL_I reads asserted with nothing driving it (R422). -/
def Twin.reset : Twin where
  state := .unpaired
  since := ⟨0, 0, 0⟩
  sinceTick := 0
  role := 0
  serving := false
  failOut := true
  failIn := true
  squelch := false
  peerSerial := 0
  peerVersion := 0
  recordVersion := 0
  mirrorTables := false
  handle := none
  hs := none
  keyOut := []
  keyIn := []
  ctrOut := 0
  ctrIn := 0
  waiting := []
  unacked := []
  lastSent := []
  nextRec := 0
  queueUntil := 0
  acked := 0
  unprotected := []
  reservations := []
  mirrored := []
  actions := []
  taps := []
  control := []
  analysis := []
  inUse := []
  missed := 0
  heard := 0
  yoyoSeq := 0
  offset := 0
  handover := false
  synced := false
  tookHome := none

/-- Observability after reset (R459, R464, R466 to R468). -/
def Obs.reset : Obs where
  perf := []
  latch := none
  ring := []
  recs := []
  nextSeq := 1
  nextOffset := 0
  budget := 262144
  budgetAt := 0
  suppressed := 0
  firstSuppressed := 0
  subs := []
  hours := 0
  hoursAt := 0
  powerCycles := 0
  slots := []
  temp := []
  tempHigh := []
  loopback := []
  prbs := []
  tallies := []
  slotBusy := []
  suppressedAt := 0

/-- Everything but the queue and one-time memory, held in reset. -/
def Dev.reset : Dev where
  time := TimeBase.reset
  host := HostIf.reset
  pkg := ⟨0, []⟩
  cfg := Cfg.reset
  sys := Sys.reset
  vault := Vault.reset
  prot := Prot.reset
  cls := Cls.reset
  fab := Fab.reset
  que := Que.reset
  ts := Ts.reset
  act := Act.reset
  mem := Mem.reset
  port := ⟨[], []⟩
  twin := Twin.reset
  obs := Obs.reset
  cnt := []
  free := 0
  out := []

/-- The machine as it leaves the factory, held in reset by PORST_N. -/
def State.reset : State := ⟨[], ⟨[]⟩, Dev.reset⟩

end Sys2Proof.Machine
end

