-- ==== Sys2Proof/Machine/Ops.lean ====
section
/-! DEFINITION. Sys2Proof/Machine/Ops.lean: the operations the commands share: names of dies and ports, counters,
outputs, notifications, event records, responses and completions. -/
namespace Sys2Proof.Machine

/-! ### Names of dies and ports (R8, R9, R23) -/

/-- The number of a port in the tables of the model: P0-P15, C0-C15 from 16, F0-F63 from 32, W, MGT. -/
def portNum : Port → Nat
  | .p i => i.val
  | .c i => 16 + i.val
  | .f i => 32 + i.val
  | .w => 96
  | .mgt => 97

/-- The number of a lane: as its port; W0-W3 from 96; the lane of MGT 100. -/
def laneNum : Lane → Nat
  | .p i => i.val
  | .c i => 16 + i.val
  | .f i => 32 + i.val
  | .w i => 96 + i.val
  | .mgt => 100

/-- The die that holds a port (R8); 8 is the hub. -/
def portDie (p : Nat) : Nat :=
  if p < 16 then p / 4 else if p < 32 then (p - 16) / 4 else if p < 96 then (p - 32) / 16 else 8

/-- The port kind code of R23. -/
def portKind (p : Nat) : Nat :=
  if p < 16 then 1 else if p < 32 then 2 else if p < 96 then 3 else if p = 96 then 4 else 5

/-- The port index of R23. -/
def portIndex (p : Nat) : Nat :=
  if p < 16 then p else if p < 32 then p - 16 else if p < 96 then p - 32 else 0

/-- The target code of a port with the die that holds it (R23). -/
def portTarget (p : Nat) : Nat := portDie p * 2 ^ 28 + portKind p * 2 ^ 24 + portIndex p * 2 ^ 16

/-- The target code of a die (R23). -/
def dieTarget (die : Nat) : Nat := die * 2 ^ 28

/-- The target code of the device (R23, R462). -/
def deviceTarget : Nat := 0xF0000000

/-- The code of a die (R23). -/
def dieNum : Die → Nat
  | .l i => i.val
  | .h => 8
  | .v => 9
  | .sp i => 10 + i.val

/-- The number of a time-keeping island (R141). -/
def islandNum : Island → Nat
  | .line die kind => 4 * die.val + kind.val
  | .host => 16
  | .twin => 17

/-! ### Time (R17, R265) -/

/-- 2^-32 ns units in one nanosecond. -/
def unitsPerNs : Nat := 2 ^ 32

/-- 2^-32 ns units in one second. -/
def unitsPerS : Nat := 1000000000 * 2 ^ 32

/-- The TS96 report of a counter (R17): the fraction is truncated. -/
def tsOf (u : Nat) : TS96 :=
  ⟨u / unitsPerS % 2 ^ 48, u / unitsPerNs % 1000000000, u / 2 ^ 16 % 2 ^ 16⟩

/-- The count of 2^-32 ns of a TS96. -/
def unitsOf (t : TS96) : Nat := t.count * 2 ^ 16

/-- Device time, as the grand island keeps it. -/
def now (d : Dev) : TS96 := tsOf d.time.grand

/-- Grand-island ticks of 0.8 ns in a number of nanoseconds, rounded up. -/
def ticksNs (ns : Nat) : Nat := (5 * ns + 3) / 4

/-- Grand-island ticks in a number of microseconds. -/
def ticksUs (us : Nat) : Nat := 1250 * us

/-- Grand-island ticks in a number of milliseconds. -/
def ticksMs (ms : Nat) : Nat := 1250000 * ms

/-- The first whole multiple of `unit` nanoseconds of device time at least `lead` ns ahead (R73, R271, R272). -/
def firstWhole (unit lead : Nat) (d : Dev) : Nat :=
  let u := unit * unitsPerNs
  (d.time.grand + lead * unitsPerNs + u - 1) / u * u

/-! ### Counters (R457) -/

/-- A number for each counter block. -/
def CntBlock.code : CntBlock → Nat
  | .pkg => 0 | .hostif => 1 | .cfg => 2 | .secy => 3 | .cport => 4 | .rxsc => 5 | .sa => 6 | .key => 7
  | .vault => 8 | .cls => 9 | .fab => 10 | .que => 11 | .time => 12 | .ts => 13 | .egg => 14 | .mem => 15
  | .port => 16 | .lane => 17 | .twin => 18 | .obs => 19 | .gate => 20 | .queue => 21 | .meter => 22
  | .mirror => 23 | .cd => 24 | .fport => 25 | .ptp => 26

/-- The place of one counter in the counter store: block, object, slot. -/
def cntKey (b : CntBlock) (obj slot : Nat) : Nat := (b.code * 2 ^ 32 + obj) * 64 + slot

/-- The value of a counter. -/
def cntGet (b : CntBlock) (obj slot : Nat) (d : Dev) : Nat := Map.get d.cnt (cntKey b obj slot) 0

/-- R457: count `n` events, modulo 2^48. -/
def bumpBy (b : CntBlock) (obj slot n : Nat) (d : Dev) : Dev :=
  { d with cnt := Map.put d.cnt (cntKey b obj slot) ((cntGet b obj slot d + n) % 2 ^ 48) }

/-- R457: count one event. -/
def bump (b : CntBlock) (obj slot : Nat) (d : Dev) : Dev := bumpBy b obj slot 1 d

/-- The first `n` counters of an object in 8-byte slots with bits [63:48] zero. -/
def cntBytes (b : CntBlock) (obj n : Nat) (d : Dev) : Bytes :=
  (List.range n).flatMap (fun k => le 8 (cntGet b obj k d))

/-- Reset the counters of one object to zero (R106). -/
def cntClear (b : CntBlock) (obj : Nat) (d : Dev) : Dev :=
  { d with cnt := d.cnt.filter (fun e => e.1 / 64 ≠ b.code * 2 ^ 32 + obj) }

/-- R106: clear on request. -/
def clearIf (c : Bool) (b : CntBlock) (obj : Nat) (d : Dev) : Dev := if c then cntClear b obj d else d

/-- R458: `n` occurrences of a performance event on a die (4 is the hub). -/
def perfEvent (die ev n : Nat) (d : Dev) : Dev :=
  { d with obs := { d.obs with perf := d.obs.perf.map (fun e =>
      if e.1 / 64 = die ∧ e.2.event = ev then
        (e.1, { e.2 with value := (e.2.value + n) % 2 ^ 48, ovf := e.2.ovf || decide (2 ^ 48 ≤ e.2.value + n) })
      else e) } }

/-! ### Outputs, interrupts, fresh values -/

/-- Send something out of the block. -/
def emit (o : Output) (d : Dev) : Dev := { d with out := d.out ++ [o] }

/-- Draw the next value the spec leaves open. -/
def fresh (d : Dev) : Nat × Dev := (Config.freeNat d.free, { d with free := d.free + 1 })

/-- Draw `n` bytes the spec leaves open (TRNG, DRBG, keys). -/
def freshBytes (n : Nat) (d : Dev) : Bytes × Dev := (le n (Config.freeNat d.free), { d with free := d.free + 1 })

/-- R44: may a vector fire: neither it nor the function is masked, and the function is in D0? -/
def vectorOpen (v : Nat) (d : Dev) : Bool :=
  !bit (Map.get d.host.msix v (2 ^ 96)) 96 && !d.host.pci.mask && !d.host.pci.d3hot

/-- R44: signal an MSI-X vector; a masked vector sets its pending bit. -/
def signal (v : Nat) (d : Dev) : Dev :=
  if !d.host.msixEnable then d
  else if !vectorOpen v d then { d with host := { d.host with pba := d.host.pba ||| 2 ^ v } }
  else emit (.msix v) d

/-- R41, R44: set a bit of FAULT_CAUSE and signal vector 31. -/
def setFault (b : Nat) (d : Dev) : Dev :=
  signal 31 { d with host := { d.host with faultCause := d.host.faultCause ||| 2 ^ b } }

/-! ### Package links and dies (R34 to R36) -/

/-- A package link; an unlisted link is DOWN. -/
def linkState (k : Nat) (d : Dev) : LinkState :=
  match Map.get? d.pkg.links k with
  | some l => l.state
  | none => .down

/-- R35: does the link carry traffic (neither RETRAIN nor DOWN)? -/
def linkUp (k : Nat) (d : Dev) : Bool :=
  match linkState k d with
  | .up => true
  | .retry => true
  | _ => false

/-- The counter object of a link direction: 2 k toward H, 2 k + 1 from H. -/
def pkgObj (k : Nat) (toHub : Bool) : Nat := 2 * k + (if toHub then 0 else 1)

/-- R36: is the line die present? -/
def diePresent (die : Nat) (d : Dev) : Bool := bit d.pkg.present die

/-- R24, R35: is the line die present and connected? -/
def dieUp (die : Nat) (d : Dev) : Bool := diePresent die d && linkUp die d

/-- R25: can every present line die be reached? -/
def presentUp (d : Dev) : Bool := [0, 1, 2, 3].all (fun k => !diePresent k d || linkUp k d)

/-- R35: can the vault be reached? -/
def vaultUp (d : Dev) : Bool := match linkState 4 d with | .down => false | _ => true

/-- R466: can records be submitted now? -/
def vhOpen (d : Dev) : Bool := linkUp 4 d

/-- R440 to R442: are the line dies clocked and the stockpot in use: neither SLEEP nor OFF? -/
def awake (d : Dev) : Bool := match d.sys.power with | .sleep => false | .off => false | _ => true

/-- R441: do ports receive? Not while SLEEP is entered. -/
def receives (d : Dev) : Bool := match d.sys.power with | .run => true | .waking => true | _ => false

/-! ### The configuration set in force (R70 to R72) -/

/-- The content of the active set; with no active set, the defaults of R510 and of the chapters. -/
def prm (d : Dev) : SetParams := match d.cfg.active with | some a => a.params | none => {}

/-! ### SA slots and the change of sets (R112, R129) -/

/-- The place of an SA slot (R112): die, kind, SC, AN. -/
def saKey (die : Nat) (rx : Bool) (sc an : Nat) : Nat := ((2 * die + b2n rx) * 4096 + sc) * 4 + an

/-- The die of a slot's place. -/
def saDie (k : Nat) : Nat := k / 32768
/-- Is a slot's place on receive? -/
def saRx (k : Nat) : Bool := decide (k / 16384 % 2 = 1)
/-- The SC of a slot's place. -/
def saSc (k : Nat) : Nat := k / 4 % 4096
/-- The AN of a slot's place. -/
def saAn (k : Nat) : Nat := k % 4

/-- The SecY that owns a slot (die, index): its own for TX, that of its RX SC for RX. -/
def saSecy (k : Nat) (d : Dev) : Nat :=
  if saRx k then (match Map.get? d.prot.rxscs (4096 * saDie k + saSc k) with | some r => r.secy | none => 0) else saSc k

/-- R129: has the SecY a slot that is not EMPTY? -/
def secyBusy (die idx : Nat) (d : Dev) : Bool :=
  d.prot.slots.any (fun e => decide (saDie e.1 = die ∧ saSecy e.1 d = idx ∧ e.2.state ≠ .empty))

/-- R129: does a new set change the suite or keying mode of a SecY with keys, or remove it? -/
def swapConflict (new : SetParams) (d : Dev) : Bool :=
  (prm d).secys.any (fun e => secyBusy (e.1 / 2048) (e.1 % 2048) d &&
    (match Map.get? new.secys e.1 with
     | none => true
     | some p => decide (p.suite ≠ e.2.suite) || (p.hostKeying != e.2.hostKeying)))

/-- R72, R73, R78: the shadow whose pending swap has come on a counter that reads `t`. -/
def swapDue (t : Nat) (d : Dev) : Option SetImg :=
  match d.cfg.swap, d.cfg.shadow with
  | some w, some x =>
    if w.at_ ≤ t ∧ d.cfg.shadowState = .ready ∧ (w.mailbox.isSome = true ∨ swapConflict x.params d = false) then some x else none
  | _, _ => none

/-- The content of the set that a frame carries (R72): of the sets in force, of one about to be exchanged, or of one that only
held frames carry (R340). -/
def prmOf (gen : Nat) (d : Dev) : SetParams :=
  if gen = 0 then {}
  else match d.cfg.active.filter (fun a => decide (a.gen = gen)), d.cfg.shadow.filter (fun b => decide (b.gen = gen)),
      d.cfg.shadow.filter (fun _ => decide (d.cfg.nextGen = gen)) with
    | some a, _, _ => a.params
    | none, some b, _ => b.params
    | none, none, some b => altParams d.twin.tookHome b.params
    | none, none, none => Map.get d.cfg.kept gen (prm d)

/-- The number of the active set's activation; 0 with no active set. -/
def activeGen (d : Dev) : Nat := match d.cfg.active with | some a => a.gen | none => 0

/-- R72, R73: the set in force where a counter reads `t`: the shadow once its swap has come there, the old set while the last
swap has not, else the active set. -/
def genAt (t : Nat) (d : Dev) : Nat :=
  if (swapDue t d).isSome then d.cfg.nextGen
  else match d.cfg.shadow, d.cfg.shadowState with
    | some b, .draining => if t < unitsOf d.cfg.lastSwap ∧ d.cfg.swapEpoch = d.time.epoch then b.gen else activeGen d
    | _, _ => activeGen d

/-- The content of the set in force where a counter reads `t` (R73). -/
def prmAt (t : Nat) (d : Dev) : SetParams := prmOf (genAt t d) d

/-! ### Event records (R464 to R467) -/

/-- R468: operating hours now, in 0.01 h (36 s). -/
def hoursNow (d : Dev) : Nat :=
  if d.sys.porst then d.obs.hours + (d.time.elapsed - d.obs.hoursAt) / 45000000000 else d.obs.hours

/-- Pad to a multiple of 16 bytes. -/
def pad16 (bs : Bytes) : Bytes := bs ++ zeros ((16 - bs.length % 16) % 16)

/-- R464, R466: submit an event record. Beyond 64 submissions held while the V-H link is out, it is lost. -/
def record (type source : Nat) (data : Bytes) (d : Dev) : Dev :=
  let d := perfEvent 4 0x232 1 d
  if vhOpen d || decide (d.obs.subs.length < 64) then
    { d with obs := { d.obs with subs := d.obs.subs ++
        [⟨type, hoursNow d, d.obs.powerCycles, pad16 ((now d).bytes ++ le 4 source ++ data)⟩] } }
  else bump .obs 0 2 d

/-! ### Notifications (R54, R55, R462, R463) -/

/-- R462: the types that notify_mask covers, in table order, with the types R463 exempts. -/
def maskTypes : List Nat :=
  [0x10, 0x11, 0x12, 0x20, 0x30, 0x31, 0x40, 0x41, 0x50, 0x51, 0x60, 0x61, 0x70, 0x71, 0x72, 0x73, 0x80]

/-- R463: is the type suppressed? -/
def masked (type : Nat) (d : Dev) : Bool :=
  match maskTypes.findIdx? (· = type) with
  | some i => bit (prm d).notifyMask i && !(decide (type = 0x80 ∨ type = 0x41 ∨ type = 0x60))
  | none => false

/-- R54: the 64 bytes of a ring entry. -/
def notifBytes (n : Notif) (phase : Bool) : Bytes :=
  le 2 n.type ++ le 2 (b2n phase) ++ le 4 n.seq ++ n.time.bytes ++ le 4 n.source ++ slice n.data 0 40

/-- R55: is the ring full? -/
def ringFull (h : HostIf) : Bool := decide ((h.nrTail + 1) % h.nrSize = h.nrHead)

/-- R55: can an entry be written? -/
def ringOpen (h : HostIf) : Bool := h.nrEnable && !ringFull h

/-- R54: write an entry at NR_TAIL, advance NR_TAIL, toggle the phase at the wrap, signal vector 16. -/
def ringWrite (n : Notif) (d : Dev) : Dev :=
  let h := d.host
  let addr := h.nrBaseHi * 2 ^ 32 + h.nrBaseLo + 64 * h.nrTail
  let tail := (h.nrTail + 1) % h.nrSize
  let d := emit (.hostWrite addr (notifBytes n h.nrPhase)) d
  let d := { d with host := { d.host with nrTail := tail,
                                          nrPhase := if tail = 0 then !h.nrPhase else h.nrPhase } }
  signal 16 (perfEvent 4 0x231 1 d)

/-- Take the next notification sequence value (R55). -/
def takeSeq (d : Dev) : Nat × Dev :=
  (d.host.nrSeq, { d with host := { d.host with nrSeq := (d.host.nrSeq + 1) % 2 ^ 32 } })

/-- R55: one more lost notification joins the loss not yet reported. -/
def addLoss (l : Option (Nat × Nat)) (seq : Nat) : Option (Nat × Nat) :=
  match l with
  | none => some (1, seq)
  | some (c, f) => some (c + 1, f)

/-- R55: write one RING_OVERFLOW entry over the whole loss, as soon as an entry is free. -/
def ringOverflow (d : Dev) : Dev :=
  match d.host.lost with
  | none => d
  | some (c, f) =>
    if ringOpen d.host then
      let (q, d) := takeSeq d
      ringWrite ⟨2, q, now d, deviceTarget, le 4 c ++ le 4 f⟩ { d with host := { d.host with lost := none } }
    else d

/-- R55: write a raised notification, or lose it. -/
def place (n : Notif) (d : Dev) : Dev :=
  if ringOpen d.host then ringWrite n d
  else
    let d := bump .hostif 0 4 d
    { d with host := { d.host with lost := addLoss d.host.lost n.seq } }

/-- R55, R67: raise a notification: it takes the next seq; during a firmware restart up to 256 are held. -/
def notify (type source : Nat) (data : Bytes) (d : Dev) : Dev :=
  if masked type d then d
  else if d.host.fwRestarting then
    let (q, d) := takeSeq d
    let n : Notif := ⟨type, q, now d, source, data⟩
    if d.host.held.length < 256 then { d with host := { d.host with held := d.host.held ++ [n] } }
    else
      let d := bump .hostif 0 4 d
      { d with host := { d.host with heldLost := addLoss d.host.heldLost q } }
  else
    let (q, d) := takeSeq (ringOverflow d)
    place ⟨type, q, now d, source, data⟩ d

/-- R464: a notification with its event record: 40 data bytes followed by 8 zero bytes. -/
def notifyRecord (type source : Nat) (data : Bytes) (d : Dev) : Dev :=
  notify type source data (record type source (slice data 0 40 ++ zeros 8) d)

/-! ### Responses and completions (R47 to R53) -/

/-- R53: status codes. -/
inductive Status where
  | ok | pending | badOpcode | badLength | badField | badState | noResource | busy | authRequired | authFailed
  | keyRejected | timePassed | notPaired | tamperHeld | versionMismatch | internalError
  deriving DecidableEq, Repr

/-- R53: the code of a status. -/
def Status.code : Status → Nat
  | .ok => 0 | .pending => 1 | .badOpcode => 0x10 | .badLength => 0x11 | .badField => 0x12 | .badState => 0x13
  | .noResource => 0x14 | .busy => 0x15 | .authRequired => 0x16 | .authFailed => 0x17 | .keyRejected => 0x18
  | .timePassed => 0x19 | .notPaired => 0x1A | .tamperHeld => 0x1B | .versionMismatch => 0x1C
  | .internalError => 0x1F

/-- A mailbox after reset (R68). -/
def emptyMailbox : Mailbox := ⟨[], [], false, false, none, none, none⟩

/-- Mailbox `m`. -/
def mailbox (m : Nat) (d : Dev) : Mailbox := Map.get d.host.mbs m emptyMailbox

/-- Store mailbox `m`. -/
def setMailbox (m : Nat) (b : Mailbox) (d : Dev) : Dev :=
  { d with host := { d.host with mbs := Map.put d.host.mbs m b } }

/-- What a response needs of its command (R47): mailbox, tag, sequence, command flags, and the copy of header and
payload that R49 compares. -/
structure Reply where
  mb : Nat
  tag : Nat
  sequence : Nat
  flags : Nat
  digest : Bytes
  deriving DecidableEq, Repr

/-- R47: the bytes of a response. -/
def respBytes (a : Reply) (status : Status) (rflags : Nat) (pl : Bytes) (d : Dev) : Bytes :=
  le 2 status.code ++ le 2 rflags ++ le 4 a.tag ++ le 4 pl.length ++ le 4 a.sequence ++ (now d).bytes ++ zeros 4 ++ pl

/-- R48 steps 5 and 6, R49: write the response, set MB_DONE, clear MB_BUSY, keep the copy for a duplicate, and
signal the mailbox's vector unless no_irq is set. -/
def respondWith (keep : Bool) (a : Reply) (status : Status) (rflags : Nat) (pl : Bytes) (d : Dev) : Dev :=
  let bs := respBytes a status rflags pl d
  let b := mailbox a.mb d
  let d := setMailbox a.mb { b with resp := bs, busy := false, done := true, running := none,
                                    stored := if keep then some (a.sequence, a.digest, bs) else b.stored } d
  let d := perfEvent 4 0x230 1 d
  if bit a.flags 1 then d else signal a.mb d

/-- R48, R49: write the response of a completed command. -/
def respond (a : Reply) (status : Status) (pl : Bytes) (d : Dev) : Dev := respondWith true a status 0 pl d

/-- The reply of a command that is still running on a mailbox. -/
def Running.reply (r : Running) (m : Nat) : Reply := ⟨m, r.tag, r.sequence, r.flags, r.digest⟩

/-- Complete the command that runs on mailbox `m` (an unscheduled swap, an installation at the vault). During a
firmware restart only the outcome is noted; the response follows the restart (R67). -/
def finish (m : Nat) (status : Status) (pl : Bytes) (d : Dev) : Dev :=
  match (mailbox m d).running with
  | none => d
  | some r =>
    if d.host.fwRestarting then
      { d with host := { d.host with
          interrupted := d.host.interrupted.map (fun e => if e.1 = m then (m, decide (status = .ok)) else e) } }
    else respond (r.reply m) status pl d

/-- R52: end a pending operation with its COMMAND_COMPLETE notification. -/
def complete (handle : Nat) (status : Status) (result : Bytes) (d : Dev) : Dev :=
  match d.host.pend.find? (fun p => p.handle = handle) with
  | none => d
  | some p =>
    let d := { d with host := { d.host with pend := d.host.pend.filter (fun q => q.handle ≠ handle) } }
    notify 1 p.target
      (le 1 p.mailbox ++ zeros 1 ++ le 2 status.code ++ le 4 p.tag ++ le 4 handle ++ slice result 0 28) d

/-- Complete whichever of a pending operation and a running mailbox waits. -/
def settle (handle mb : Option Nat) (status : Status) (result : Bytes) (d : Dev) : Dev :=
  let d := match handle with | some h => complete h status result d | none => d
  match mb with | some m => finish m status result d | none => d

/-- The next completion handle (R52). -/
def nextHandle (d : Dev) : Nat := d.host.nextHandle

/-! ### How a command acts -/

/-- A command's effect on everything but the queue and OTP. The record of outputs starts empty. -/
def onDev (f : Dev → Dev) (s : State) : Host.Outcome State Fault Refusal :=
  .next { s with dev := f { s.dev with out := [] } }

/-- The same for a command that reads OTP. -/
def onOtp (f : Otp → Dev → Dev) (s : State) : Host.Outcome State Fault Refusal :=
  .next { s with dev := f s.otp { s.dev with out := [] } }

/-- The same for a command that may program OTP. -/
def onAll (f : Otp → Dev → Otp × Dev) (s : State) : Host.Outcome State Fault Refusal :=
  .next { s with otp := (f s.otp { s.dev with out := [] }).1, dev := (f s.otp { s.dev with out := [] }).2 }

end Sys2Proof.Machine
end

