-- ==== Sys2Proof/Machine/Clock.lean ====
section
/-! DEFINITION. Sys2Proof/Machine/Clock.lean: how time passes: the island counters, rate and slew (R265 to R269), and
the waits of timed commands. -/
namespace Sys2Proof.Machine

/-- R266: INC of a rate code, exact, ties upward; P is 34,359,738,368 / 10 units of 2^-32 ns. -/
def incOf (r : Int) : Nat :=
  let num : Int := 34359738368 * (1024000000000 + r)
  ((2 * num + 10240000000000) / 20480000000000).toNat

/-- R267: m in the direction of the slew (positive or negative), in units of 2^-10 ppb. -/
def slewRoom (positive : Bool) (d : Dev) : Int :=
  min ((prm d).slewMax * 1024000 : Int) (1024000000 - (if positive then d.time.rate else -d.time.rate))

/-- R267: units of 2^-32 ns that the slew engine adds per tick; none while m is below 1 ppm. -/
def slewUnits (positive : Bool) (d : Dev) : Nat :=
  let m := slewRoom positive d
  if m < 1024000 then 0 else (34359738368 * m / 10240000000000).toNat

/-- R267: what the slew adds over `n` ticks (unsigned), the last tick adding only the remainder. -/
def slewTaken (n : Nat) (d : Dev) : Nat :=
  min (n * slewUnits (decide (0 ≤ d.time.slew)) d) d.time.slew.natAbs

/-- Signed amount of a magnitude in the direction of `x`. -/
def withSign (x : Int) (n : Nat) : Int := if 0 ≤ x then n else -(n : Int)

/-- R265: modulus of a counter: 2^48 seconds. -/
def counterMod : Nat := 2 ^ 48 * unitsPerS

/-- R269: an island over `k` of its ticks, removing its share of the last offset. -/
def islandAdvance (k : Nat) (i : IslandSt) : IslandSt :=
  if k < i.corrTicks then
    let share := i.corr * k / i.corrTicks
    { i with count := ((i.count + k * i.inc : Int) + share).toNat % counterMod,
             corr := i.corr - share, corrTicks := i.corrTicks - k }
  else
    { i with count := ((i.count + k * i.inc : Int) + i.corr).toNat % counterMod, corr := 0, corrTicks := 0 }

/-- Does the island of this number run? The line-die islands stop in SLEEP (R281). -/
def islandRuns (k : Nat) (d : Dev) : Bool :=
  d.time.running && (decide (16 ≤ k) || (match d.sys.power with | .sleep => false | .off => false | _ => true))

/-- R460: of `n` cycles, those in which a slot has no block. -/
def starved (die slot n : Nat) (d : Dev) : Nat := n - Map.get d.obs.slotBusy (8 * die + slot) 0

/-- R324, R459: does a head frame of a line die wait for a window? -/
def anyWaits (die : Nat) (d : Dev) : Bool :=
  d.que.queues.any (fun e => decide (e.1 / 2 ^ 18 = die) && (match e.2.frames with | f :: _ => f.waited | [] => false))

/-- R459: what an event of a line die counts in `n` datapath cycles. -/
def lineCycles (die ev n : Nat) (d : Dev) : Nat :=
  if ev = 0 then n
  else if ev = 0x12 then ((List.range 4).map (fun k => starved die k n d)).sum
  else if ev = 0x16 then ((List.range 4).map (fun k => starved die (4 + k) n d)).sum
  else if 0x40 ≤ ev ∧ ev < 0x60 ∧ ev % 4 = 2 then starved die ((ev - 0x40) / 4) n d
  else if ev = 0xA1 then (if anyWaits die d then n else 0)
  else if ev = 0xA2 then n * (d.act.egg.filter (fun h => decide (h.die = die))).length
  else 0

/-- R458, R460: cycle-counting performance events over the time from `e0` to `e1` grand ticks. -/
def perfCycles (e0 e1 : Nat) (line : Bool) (d : Dev) : Dev :=
  let c (num den : Nat) : Nat := e1 * num / den - e0 * num / den
  let add (die ev : Nat) : Nat :=
    if die < 4 then
      if !line then 0
      else if ev = 1 then c 4 5 else lineCycles die ev (c 27 25) d
    else if ev = 0x202 then c 6 5
    else if ev = 0x221 then c 8 25 else 0
  { d with obs := { d.obs with
      perf := d.obs.perf.map (fun e =>
        let n := add (e.1 / 64) e.2.event
        (e.1, { e.2 with value := (e.2.value + n) % 2 ^ 48, ovf := e.2.ovf || decide (2 ^ 48 ≤ e.2.value + n) }))
      slotBusy := if line then Map.mapVals d.obs.slotBusy (fun b => b - c 27 25) else d.obs.slotBusy } }

/-- Let `n` grand-island ticks pass. -/
def elapse (n : Nat) (d : Dev) : Dev :=
  let t := d.time
  let sl := withSign t.slew (slewTaken n d)
  let e1 := t.elapsed + n
  let line := match d.sys.power with | .sleep => false | .off => false | _ => true
  let k := e1 * 4 / 5 - t.elapsed * 4 / 5
  let d := perfCycles t.elapsed e1 line d
  { d with time := { t with
      grand := if t.running then ((t.grand + n * t.inc : Int) + sl).toNat % counterMod else t.grand
      slew := if t.running then t.slew - sl else t.slew
      elapsed := e1
      lineElapsed := if line then t.lineElapsed + n else t.lineElapsed
      islands := t.islands.map (fun e => if islandRuns e.1 d then (e.1, islandAdvance k e.2) else e) } }

/-- Ceiling of a quotient. -/
def ceilDiv (a b : Nat) : Nat := (a + b - 1) / b

/-- The grand ticks until device time reaches `g`, in 2^-32 ns (none if it has been reached). -/
def ticksUntil (g : Nat) (d : Dev) : Nat :=
  let t := d.time
  let s := slewUnits (decide (0 ≤ t.slew)) d
  let full := if s = 0 then 0 else t.slew.natAbs / s
  let perTick := ((t.inc : Int) + withSign t.slew s).toNat
  if g ≤ t.grand then 0
  else
    let n1 := ceilDiv (g - t.grand) perTick
    if n1 ≤ full then n1
    else max full (ceilDiv (((g - t.grand : Nat) : Int) - withSign t.slew (if s = 0 then 0 else t.slew.natAbs)).toNat t.inc)

/-- Wait until device time reaches the instant `g`; a command of an instant runs when its instant comes. -/
def waitUntil (g : Nat) (d : Dev) : Dev := if d.time.running then elapse (ticksUntil g d) d else d

/-- Wait until `e` grand ticks have passed since the start. -/
def waitTicks (e : Nat) (d : Dev) : Dev := elapse (e - d.time.elapsed) d

/-- Wait until `e` line-die ticks have passed (R129); in SLEEP the timer stands still and nothing passes. -/
def waitLine (e : Nat) (d : Dev) : Dev :=
  match d.sys.power with
  | .sleep => d
  | _ => elapse (e - d.time.lineElapsed) d

/-- An island after reset: not yet locked (R269, R270). -/
def freshIsland : IslandSt := ⟨0, 2 ^ 32, false, 0, 0, 0, none, none, none⟩

/-- The state of an island. -/
def island (k : Nat) (d : Dev) : IslandSt := Map.get d.time.islands k freshIsland

/-- Store an island. -/
def setIsland (k : Nat) (i : IslandSt) (d : Dev) : Dev :=
  { d with time := { d.time with islands := Map.put d.time.islands k i } }

/-- The lane island of a port (R117, R293); none for MGT, which the grand island times. -/
def laneIsland (p : Nat) : Option Nat :=
  if p < 16 then some (4 * portDie p) else if p < 32 then some (4 * portDie p + 1)
  else if p < 96 then some (4 * portDie p + 2) else none

/-- R293: the time that the PCS edge of a port reads, in 2^-32 ns. -/
def portTime (p : Nat) (d : Dev) : Nat := match laneIsland p with | some k => (island k d).count | none => d.time.grand

/-- Wait until an island's own counter reaches the instant `g`. -/
def waitIsland (k g : Nat) (d : Dev) : Dev :=
  let i := island k d
  if g ≤ i.count then d else elapse (ceilDiv (5 * ceilDiv (g - i.count) (max i.inc 1)) 4) d

/-- R29, R318: wait until the counter of a port's lane island reaches the instant `g`. -/
def waitLane (p g : Nat) (d : Dev) : Dev := match laneIsland p with | some k => waitIsland k g d | none => waitUntil g d

/-- R29: the island that times the actions of a line die itself. -/
def dieIsland (die : Nat) : Nat := 4 * die + 3

/-- The time an island reports, TS96 (R17). -/
def islandNow (k : Nat) (d : Dev) : TS96 := tsOf (island k d).count

end Sys2Proof.Machine
end

