-- ==== Sys2Proof/Machine/Otp.lean ====
section
/-! DEFINITION. Sys2Proof/Machine/Otp.lean: one-time memory (R140 to R142) and what it decodes to (R144, R162). -/
namespace Sys2Proof.Machine

/-- OTP as it leaves the maker: the device-specific fields are free values, the device leaves in SHIPPED (R143), the
rest is unprogrammed. -/
def otpFactory (a : Nat) : Nat :=
  if a < 8 then fld (le 8 Config.serial) a 1
  else if a < 12 then fld (le 4 0x160800B1) (a - 8) 1
  else if a = 0x252 then 1
  else if a < 0x50 ∨ (0x270 ≤ a ∧ a < 0x2F0) ∨ (0x300 ≤ a ∧ a < 0x3A0) ∨ (0x400 ≤ a ∧ a < 0x400 + 4 * 107)
      ∨ (0x600 ≤ a ∧ a < 0x620) then Config.otpFactory a % 256
  else 0

/-- A byte of OTP: a programmed bit stays programmed. -/
def otpByte (o : Otp) (a : Nat) : Nat := otpFactory a ||| Map.get o.burned a 0

/-- Program bits of one byte; a bit is never cleared. -/
def burn (a mask : Nat) (o : Otp) : Otp :=
  if mask = 0 then o else ⟨Map.put o.burned a (Map.get o.burned a 0 ||| mask)⟩

/-- Program a run of bytes. -/
def burnBytes : Nat → Bytes → Otp → Otp
  | _, [], o => o
  | a, b :: bs, o => burnBytes (a + 1) bs (burn a b.toNat o)

/-- `n` bytes of OTP from offset `a`. -/
def otpBytes (o : Otp) (a n : Nat) : Bytes := (List.range n).map (fun i => BitVec.ofNat 8 (otpByte o (a + i)))

/-- A little-endian field of OTP. -/
def otpFld (o : Otp) (a n : Nat) : Nat := unle (otpBytes o a n)

/-- The number of set bits among the low `n` bits of `v`. -/
def popCount : Nat → Nat → Nat
  | 0, _ => 0
  | n + 1, v => v % 2 + popCount n (v / 2)

/-- The highest set bit below bit `n`, if any. -/
def highBit : Nat → Nat → Option Nat
  | 0, _ => none
  | n + 1, v => if bit v n then some n else highBit n v

/-- R143: the current slot: the highest burned and not superseded. -/
def ownerSlot (o : Otp) : Option Nat :=
  let b := otpByte o 0x250
  let s := otpByte o 0x251
  (List.range 8).foldl (fun acc n => if bit b n && !bit s n then some n else acc) none

/-- Set bits of held_entry (R144). -/
def heldEntries (o : Otp) : Nat := popCount 16 (otpFld o 0x254 2)

/-- Set bits of held_clear (R144). -/
def heldClears (o : Otp) : Nat := popCount 15 (otpFld o 0x256 2)

/-- R144: the life-cycle state that OTP decodes to. -/
def decodeLc (o : Otp) : Nat :=
  let f := otpByte o 0x252
  let e := heldEntries o
  let c := heldClears o
  if bit f 2 then 4
  else if bit f 1 then
    if e = 16 then 4 else if c < e then 3 else if e = c then 2 else 3
  else if bit f 0 then 1 else 0

/-- R144: more clearances than entries: OTP inconsistency. -/
def otpInconsistent (o : Otp) : Bool :=
  let f := otpByte o 0x252
  !bit f 2 && bit f 1 && decide (heldEntries o ≠ 16 ∧ heldEntries o < heldClears o)

/-- R162: the rollback level: the highest programmed bit of rollback plus 1. -/
def rollbackLevel (o : Otp) : Nat := match highBit 128 (otpFld o 0x258 16) with | some n => n + 1 | none => 0

/-- Program the lowest bit of a thermometer of `n` bits at offset `a` that is not programmed (R144). -/
def burnNext (a n : Nat) (o : Otp) : Otp :=
  let v := otpFld o a ((n + 7) / 8)
  match (List.range n).find? (fun i => !bit v i) with
  | some i => burn (a + i / 8) (2 ^ (i % 8)) o
  | none => o

/-- R142: offset ranges of the secret fields. -/
def otpSecret : List (Nat × Nat) :=
  [(0x10, 0x30), (0x30, 0x50), (0x50, 0x150), (0x150, 0x250), (0x300, 0x3A0)]

/-- R142: does a range overlap a secret field? -/
def overlapsSecret (off len : Nat) : Bool := otpSecret.any (fun r => decide (off < r.2 ∧ r.1 < off + len))

/-- R141: a factory calibration entry, CAL32. -/
def factoryCal (o : Otp) (e : Nat) : Int := toSigned 32 (otpFld o (0x400 + 4 * e) 4)

end Sys2Proof.Machine
end

