-- ==== Sys2Proof/Machine/PortOps.lean ====
section
/-! DEFINITION. Sys2Proof/Machine/PortOps.lean: ports and lanes: their settings, states and rates (R374, R375, R379,
R389 to R391). -/
namespace Sys2Proof.Machine

/-- A port that has never been started: DISABLED. -/
def PortSt.init : PortSt := ⟨.disabled, TS96.zero, 0, false, false, 0, 0, false, false, none, 0, none⟩

/-- A lane at rest. -/
def LaneSt.init : LaneSt := ⟨[0, 0, 0, 0, 0], false, false, 0, 0, false, false, false, false, none, 0, 0, false⟩

/-- The state of a port. -/
def portSt (p : Nat) (d : Dev) : PortSt := Map.get d.port.ports p PortSt.init

/-- Store the state of a port. -/
def setPortSt (p : Nat) (x : PortSt) (d : Dev) : Dev :=
  { d with port := { d.port with ports := Map.put d.port.ports p x } }

/-- The state of a lane. -/
def laneSt (l : Nat) (d : Dev) : LaneSt := Map.get d.port.lanes l LaneSt.init

/-- Store the state of a lane. -/
def setLaneSt (l : Nat) (x : LaneSt) (d : Dev) : Dev :=
  { d with port := { d.port with lanes := Map.put d.port.lanes l x } }

/-- The settings of a port in a set; the twin link and MGT are always formed (R24). -/
def portPrmIn (p : Nat) (s : SetParams) : Option PortPrm :=
  match Map.get? s.ports p with
  | some x => some x
  | none => if p = 96 then some { form := 7, side := 2 } else if p = 97 then some { form := 4, side := 2 } else none

/-- The settings of a port in the set in force. -/
def portPrm (p : Nat) (d : Dev) : Option PortPrm := portPrmIn p (prm d)

/-- Is the port a cipher port in the set in force (R380)? -/
def isCipher (p : Nat) (d : Dev) : Bool := match portPrm p d with | some x => decide (x.side = 1) | none => false

/-- Is the port of the plain side in the set in force? -/
def isPlain (p : Nat) (d : Dev) : Bool := match portPrm p d with | some x => decide (x.side = 0) | none => false

/-- R88: does the port's TPID read 0x88A8? -/
def portTpidAd (p : Nat) (d : Dev) : Bool := match portPrm p d with | some x => x.tpidAd | none => false

/-- R375, R384: the number of lanes of a form. -/
def formLanes (form : Nat) : Nat := if form = 2 then 2 else if form = 3 ∨ form = 7 then 4 else 1

/-- The number of lanes of a port. -/
def portLanes (p : Nat) (d : Dev) : Nat := match portPrm p d with | some x => formLanes x.form | none => 1

/-- R375: the number of a lane of a port; MGT's lane is numbered 100. -/
def laneOfPort (p i : Nat) : Nat := if p = 97 then 100 else p + i

/-- The port that a lane belongs to. -/
def portOfLane (l : Nat) (d : Dev) : Nat :=
  if 100 ≤ l then 97
  else if 96 ≤ l then 96
  else if 32 ≤ l then l
  else
    let g := l / 4 * 4
    match Map.get? (prm d).ports g with
    | some x => if x.form = 3 then g else if x.form = 2 then l / 2 * 2 else l
    | none => if Map.has (prm d).ports (l / 2 * 2) && decide (portLanes (l / 2 * 2) d = 2) then l / 2 * 2 else l

/-- R388: bits per symbol. -/
def laneBitsPerSymbol (l : Nat) : Nat := if l < 32 then 2 else 1

/-- R374: bits that pass on a lane in 10 grand-island ticks (8 ns). -/
def laneBitsPer10 (l : Nat) (d : Dev) : Nat :=
  if l < 32 then 850
  else if 96 ≤ l ∧ l < 100 then 100
  else match portPrm (portOfLane l d) d with
    | some x => if x.form = 6 then 25 else 10
    | none => 10

/-- R374, R388: the baud rate of a lane in kBd. -/
def laneKbaud (l : Nat) (d : Dev) : Nat :=
  if l < 32 then 53125000
  else if 96 ≤ l ∧ l < 100 then 12500000
  else match portPrm (portOfLane l d) d with
    | some x => if x.form = 6 then 3125000 else 1250000
    | none => 1250000

/-- The MAC rate of a port in Mb/s (R374, R379): under SGMII the negotiated speed. -/
def portMbps (p : Nat) (d : Dev) : Nat :=
  match portPrm p d with
  | none => 1000
  | some x =>
    match x.form with
    | 1 => 100000 | 2 => 200000 | 3 => 400000 | 4 => 1000 | 6 => 2500 | 7 => 40000
    | _ => if (portSt p d).speed = 0 then 1000 else (portSt p d).speed

/-- R390: is the port UP? -/
def portIsUp (p : Nat) (d : Dev) : Bool := decide ((portSt p d).state = .up)

/-- R415: is the transmitter squelched? -/
def squelched (p : Nat) (d : Dev) : Bool := decide (p < 96) && d.twin.squelch

/-- R336, R390, R415: is the port sending: UP, within no loss, not squelched? -/
def portSends (p : Nat) (d : Dev) : Bool :=
  let x := portSt p d
  decide (x.state = .up) && x.lossAt.isNone && !squelched p d

/-- R396: is the port held by PORT_ADMIN? -/
def portHeld (p : Nat) (d : Dev) : Bool := (portSt p d).hold

/-- R389, R510: is the port enabled? With no active set only the twin link is: it trains before a set is active
(R430). -/
def adminOn (p : Nat) (d : Dev) : Bool :=
  match d.cfg.active, portPrm p d with
  | some _, some x => x.adminEnable
  | none, _ => decide (p = 96)
  | _, _ => false

/-- R449: a start-up milestone is reached: µs since the last reset release. -/
def milestone (k : Nat) (d : Dev) : Dev :=
  if Map.has d.sys.milestones k then d
  else { d with sys := { d.sys with milestones := Map.put d.sys.milestones k ((d.time.elapsed - d.sys.releaseAt) / 1250) } }

/-- The ports that the set in force forms, with the twin link and MGT. -/
def formedPorts (d : Dev) : List Nat := (((prm d).ports.map (·.1)).filter (fun p => decide (p < 96))) ++ [96, 97]

/-- R431: does a port hold traffic_ready back? -/
def holdsBack (p : Nat) (d : Dev) : Bool :=
  let x := portSt p d
  match x.enabledAt with
  | some e => decide (x.state ≠ .up ∧ d.time.elapsed < e + ticksMs 500)
  | none => false

/-- R401 to R403, R415: may this twin send traffic as far as its role and its squelch go? -/
def mayServe (d : Dev) : Bool := !d.twin.squelch && (decide (d.twin.role ≠ 2) || decide ((prm d).twinMode = 1))

/-- R401, R431: set traffic_ready once its four conditions hold; a twin that may send then serves. -/
def trafficCheck (d : Dev) : Dev :=
  if d.host.trafficReady || d.cfg.active.isNone || !d.sys.keysLoaded || !d.prot.loads.isEmpty || !awake d
      || (formedPorts d).any (fun p => holdsBack p d) then d
  else milestone 10 { d with
    host := { d.host with trafficReady := true }
    twin := { d.twin with serving := d.twin.serving || mayServe d } }

/-- Is a twin attached (R396, R426)? -/
def twinAttached (d : Dev) : Bool :=
  match d.twin.state with
  | .attaching => true | .syncing => true | .paired => true | .suspect => true | _ => false

/-- Is the pair PAIRED, or SUSPECT (R407, R410)? -/
def paired (d : Dev) : Bool := match d.twin.state with | .paired => true | .suspect => true | _ => false

/-- R407: does this twin send records as its state changes? -/
def twinShares (d : Dev) : Bool := match d.twin.state with | .syncing => true | .paired => true | .suspect => true | _ => false

/-- R403, R407: has this twin state to mirror: not the standby of HOT-STANDBY? -/
def twinMirrors (d : Dev) : Bool := twinShares d && !(decide (d.twin.role = 2) && decide ((prm d).twinMode = 0))

/-- R407: a record waits in the firmware to be sent (R242). -/
def twinPost (b : TwinBody) (d : Dev) : Dev :=
  if twinMirrors d then { d with twin := { d.twin with waiting := d.twin.waiting ++ [b] } } else d

/-- R401, R403: does this twin serve what belongs to `home` (0 the PRIMARY, 1 the SECONDARY)? Outside a pair a twin
sends whatever its ports let it send; the two homes of SPLIT-ACTIVE part when the pair is PAIRED. -/
def servesHome (home : Nat) (d : Dev) : Bool :=
  if d.twin.role = 0 ∨ d.twin.state = .solo then true
  else if (prm d).twinMode = 0 ∨ d.twin.state = .syncing then decide (d.twin.role = 1)
  else decide (home + 1 = d.twin.role ∨ d.twin.tookHome = some home)

/-- R407: a command that changes shared state is refused on the SECONDARY of a pair. -/
def pairedSecondary (d : Dev) : Bool := paired d && decide (d.twin.role = 2)

/-- R274, R406: the source of time in force: 0 to 3 as time_source, 4 the twin. -/
def timeSourceNow (d : Dev) : Nat := if pairedSecondary d then 4 else (prm d).timeSource

/-- Enter a state of a port (R390). -/
def portEnter (st : LinkSt) (p : Nat) (d : Dev) : Dev :=
  setPortSt p { portSt p d with state := st, since := now d, sinceTick := d.time.elapsed, lossAt := none } d

/-- The time in grand ticks that `n` bytes take at a rate in Mb/s: 8 n bits, 0.8 ns a tick. -/
def wireTicks (n mbps : Nat) : Nat := (8 * n * 1250 + mbps - 1) / mbps

end Sys2Proof.Machine
end

