-- ==== Sys2Proof/Machine/Calib.lean ====
section
/-! DEFINITION. Sys2Proof/Machine/Calib.lean: calibration values (R81, R82, R141). -/
namespace Sys2Proof.Machine

/-- R81: the effective value: the sum saturated to CAL32, and whether it saturated. -/
def calSum (factory user : Int) : Int × Bool :=
  let s := factory + user
  if s < -2147483648 then (-2147483648, true) else if 2147483647 < s then (2147483647, true) else (s, false)

/-- R141: the lane type of a form; under SGMII, of the speed in force (R81). -/
def calType (form speed : Nat) : Nat :=
  match form with
  | 1 => 0 | 2 => 1 | 3 => 2 | 4 => 3 | 6 => 7
  | _ => if speed = 100 then 5 else if speed = 10 then 6 else 4

/-- R81: the SGMII speed that calibration uses: that of the port while it is UP, else 1000 Mb/s. -/
def calSpeed (p : Nat) (d : Dev) : Nat := if portIsUp p d then (portSt p d).speed else 1000

/-- R141: the entry of points 0x01 and 0x02 of a port; `dir` 0 TX, 1 RX. DESIGN CHOICE: the twin link has those points too, and no
entry: its number lies in reserved OTP, which reads 0, so its factory part is 0 and CAL_READ answers. -/
def calEntry (p form speed dir : Nat) : Nat :=
  if p = 97 then 64 + dir else 16 * portDie p + 2 * calType form speed + dir

/-- R82: the effective TX offset of a port under a set, in 2^-16 ns. -/
def txOffset (o : Otp) (p : Nat) (s : SetParams) (d : Dev) : Int :=
  match portPrmIn p s with
  | some x => (calSum (factoryCal o (calEntry p x.form (calSpeed p d) 0)) x.calTx).1
  | none => 0

/-- R82: the effective RX offset of a port under a set. -/
def rxOffset (o : Otp) (p : Nat) (s : SetParams) (d : Dev) : Int :=
  match portPrmIn p s with
  | some x => (calSum (factoryCal o (calEntry p x.form (calSpeed p d) 1)) x.calRx).1
  | none => 0

/-- R82: the cable asymmetry of a port. -/
def asymOf (p : Nat) (s : SetParams) : Int := match portPrmIn p s with | some x => (calSum 0 x.calAsym).1 | none => 0

/-- R82: the constant-delay trim of a port. -/
def trimOf (p : Nat) (s : SetParams) : Int := match portPrmIn p s with | some x => (calSum 0 x.calTrim).1 | none => 0

/-- The factory and user part of a point, with its index and port (R83); none for an unknown point or an index out of
range. -/
def calPoint (o : Otp) (point idx : Nat) (port : Option Nat) (s : SetParams) (d : Dev) : Option (Int × Int) :=
  match port with
  | some p =>
    match portPrmIn p s with
    | none => none
    | some x =>
      if idx ≠ 0 then none
      else match point with
        | 0x01 => some (factoryCal o (calEntry p x.form (calSpeed p d) 0), x.calTx)
        | 0x02 => some (factoryCal o (calEntry p x.form (calSpeed p d) 1), x.calRx)
        | 0x03 => some (0, x.calAsym)
        | 0x30 => some (0, x.calTrim)
        | _ => none
  | none =>
    match point with
    | 0x10 => if idx < 18 then some (factoryCal o (66 + idx), 0) else none
    | 0x11 => if idx < 10 then some (factoryCal o (84 + idx), 0) else none
    | 0x20 => if idx = 0 then some (factoryCal o 94, s.calPps) else none
    | 0x21 => if idx < 4 then some (factoryCal o (95 + idx), Map.get s.calTci idx 0) else none
    | 0x22 => if idx < 8 then some (factoryCal o (99 + idx), Map.get s.calTpo idx 0) else none
    | _ => none

/-- R81, R141: the speeds for which saturation is judged: MGT has one entry for each direction. -/
def calSpeeds (p form : Nat) : List Nat := if form = 5 ∧ p ≠ 97 then [1000, 100, 10] else [1000]

/-- R77, R81: the calibration points of a set whose effective value saturates. -/
def calSaturated (o : Otp) (s : SetParams) : Nat :=
  let n (b : Bool) : Nat := if b then 1 else 0
  let ports := (s.ports.map (fun e =>
    if e.1 = 96 then 0 else
    ((calSpeeds e.1 e.2.form).map (fun sp => n (calSum (factoryCal o (calEntry e.1 e.2.form sp 0)) e.2.calTx).2
        + n (calSum (factoryCal o (calEntry e.1 e.2.form sp 1)) e.2.calRx).2)).sum
      + n (calSum 0 e.2.calAsym).2 + n (calSum 0 e.2.calTrim).2)).sum
  ports + n (calSum (factoryCal o 94) s.calPps).2
    + ((List.range 4).map (fun i => n (calSum (factoryCal o (95 + i)) (Map.get s.calTci i 0)).2)).sum
    + ((List.range 8).map (fun i => n (calSum (factoryCal o (99 + i)) (Map.get s.calTpo i 0)).2)).sum

end Sys2Proof.Machine
end

