-- ==== Sys2Proof/Machine/Crypto.lean ====
section
/-! DEFINITION. Sys2Proof/Machine/Crypto.lean: AES, AES-CMAC, AES-GCM, AES-KWP, the SP 800-108 KDF and the CRCs that
the spec names by their standards (R58, R70, R90, R148, R151, R277). -/
namespace Sys2Proof

/-! ### AES (FIPS 197) -/

/-- The S-box as one number, entry `i` in bits [8 i + 7 : 8 i]. -/
def aesSboxTable : Nat :=
  0x16bb54b00f2d99416842e6bf0d89a18cdf2855cee9871e9b948ed9691198f8e19e1dc186b95735610ef6034866b53e708a8bbd4b1f74dde8c6b4a61c2e2578ba08ae7a65eaf4566ca94ed58d6d37c8e779e4959162acd3c25c2406490a3a32e0db0b5ede14b8ee4688902a22dc4f816073195d643d7ea7c41744975fec130ccdd2f3ff1021dab6bcf5389d928f40a351a89f3c507f02f94585334d43fbaaefd0cf584c4a39becb6a5bb1fc20ed00d153842fe329b3d63b52a05a6e1b1a2c830975b227ebe28012079a059618c323c7041531d871f1e5a534ccf73f362693fdb7c072a49cafa2d4adf04759fa7dc982ca76abd7fe2b670130c56f6bf27b777c63

/-- The inverse S-box in the same form. -/
def aesInvTable : Nat :=
  0x7d0c2155631469e126d677ba7e042b17619953833cbbebc8b0f52aae4d3be0a0ef9cc9939f7ae52d0d4ab519a97f51605fec8027591012b131c7078833a8dd1ff45acd78fec0db9a2079d2c64b3e56fc1bbe18aa0e62b76f89c5291d711af1476edf751ce837f9e28535ade72274ac9673e6b4f0cecff297eadc674f4111913a6b8a130103bdafc1020f3fca8f1e2cd00645b3b80558e4f70ad3bc8c00abd890849d8da75746155edab9edfd5048706c92b6655dcc5ca4d41698688664f6f87225d18b6d49a25b76b224d92866a12e084ec3fa420b954cee3d23c2a632947b54cbe9dec444438e3487ff2f9b8239e37cfbd7f3819ea340bf38a53630d56a0952

/-- S-box of a byte. -/
def aesSub (b : Nat) : Nat := bits aesSboxTable (8 * b) 8

/-- Inverse S-box of a byte. -/
def aesInvSub (b : Nat) : Nat := bits aesInvTable (8 * b) 8

/-- Multiply by x in GF(2^8). -/
def aesXtime (b : Nat) : Nat := if b < 128 then 2 * b else (2 * b) ^^^ 0x11B

/-- Multiply in GF(2^8) by a small constant (at most 15). -/
def aesMul (c b : Nat) : Nat :=
  let b2 := aesXtime b
  let b4 := aesXtime b2
  let b8 := aesXtime b4
  (if bit c 0 then b else 0) ^^^ (if bit c 1 then b2 else 0) ^^^ (if bit c 2 then b4 else 0)
    ^^^ (if bit c 3 then b8 else 0)

/-- Bytewise exclusive or, to the length of the shorter list. -/
def xorL (a b : List Nat) : List Nat := List.zipWith (· ^^^ ·) a b

/-- Split a list into groups of `n`, with fuel. -/
def chunksAux {α : Type} (n : Nat) : Nat → List α → List (List α)
  | 0, _ => []
  | _, [] => []
  | f + 1, l => l.take n :: chunksAux n f (l.drop n)

/-- Split a list into groups of `n`. -/
def chunks {α : Type} (n : Nat) (l : List α) : List (List α) := chunksAux n l.length l

/-- Key expansion: `k` more words of four bytes; `prev` holds the words so far, newest first. -/
def aesExpand (nk : Nat) : Nat → Nat → Nat → List (List Nat) → List (List Nat)
  | 0, _, _, prev => prev.reverse
  | k + 1, i, rcon, prev =>
    let last := prev.headD []
    let t :=
      if i % nk = 0 then
        match last.map aesSub with
        | [a, b, c, d] => [b ^^^ rcon, c, d, a]
        | l => l
      else if nk > 6 ∧ i % nk = 4 then last.map aesSub else last
    let w := xorL (prev.getD (nk - 1) []) t
    aesExpand nk k (i + 1) (if i % nk = 0 then aesXtime rcon else rcon) (w :: prev)

/-- The round keys, 16 bytes each, of a 16-byte or 32-byte key. -/
def aesRoundKeys (key : Bytes) : List (List Nat) :=
  let ws := chunks 4 (key.map BitVec.toNat)
  let nk := ws.length
  let all := aesExpand nk (4 * (nk + 7) - nk) nk 1 ws.reverse
  (chunks 4 all).map List.flatten

/-- Entry `i` of a 16-byte state. -/
def at16 (s : List Nat) (i : Nat) : Nat := s.getD i 0

/-- ShiftRows, state in column order. -/
def aesShift (s : List Nat) : List Nat :=
  [0, 5, 10, 15, 4, 9, 14, 3, 8, 13, 2, 7, 12, 1, 6, 11].map (at16 s)

/-- Inverse ShiftRows. -/
def aesInvShift (s : List Nat) : List Nat :=
  [0, 13, 10, 7, 4, 1, 14, 11, 8, 5, 2, 15, 12, 9, 6, 3].map (at16 s)

/-- One column times the circulant of (c0, c1, c2, c3). -/
def aesMixCol (c0 c1 c2 c3 : Nat) : List Nat → List Nat
  | [a, b, c, d] =>
    [aesMul c0 a ^^^ aesMul c1 b ^^^ aesMul c2 c ^^^ aesMul c3 d,
     aesMul c3 a ^^^ aesMul c0 b ^^^ aesMul c1 c ^^^ aesMul c2 d,
     aesMul c2 a ^^^ aesMul c3 b ^^^ aesMul c0 c ^^^ aesMul c1 d,
     aesMul c1 a ^^^ aesMul c2 b ^^^ aesMul c3 c ^^^ aesMul c0 d]
  | l => l

/-- The rounds of the cipher from the second round key on. -/
def aesEncRounds : List (List Nat) → List Nat → List Nat
  | [], s => s
  | [k], s => xorL (aesShift (s.map aesSub)) k
  | k :: ks, s =>
    aesEncRounds ks (xorL ((chunks 4 (aesShift (s.map aesSub))).flatMap (aesMixCol 2 3 1 1)) k)

/-- The rounds of the inverse cipher from the second round key (last first) on. -/
def aesDecRounds : List (List Nat) → List Nat → List Nat
  | [], s => s
  | [k], s => xorL ((aesInvShift s).map aesInvSub) k
  | k :: ks, s =>
    aesDecRounds ks ((chunks 4 (xorL ((aesInvShift s).map aesInvSub) k)).flatMap (aesMixCol 14 11 13 9))

/-- AES of one 16-byte block under expanded keys. -/
def aesBlock (rk : List (List Nat)) (b : Bytes) : Bytes :=
  match rk with
  | [] => b
  | k :: ks => (aesEncRounds ks (xorL (b.map BitVec.toNat) k)).map (BitVec.ofNat 8)

/-- AES^-1 of one 16-byte block under expanded keys. -/
def aesInvBlock (rk : List (List Nat)) (b : Bytes) : Bytes :=
  match rk.reverse with
  | [] => b
  | k :: ks => (aesDecRounds ks (xorL (b.map BitVec.toNat) k)).map (BitVec.ofNat 8)

/-- AES_K of one block. -/
def aesEnc (key b : Bytes) : Bytes := aesBlock (aesRoundKeys key) b

/-- Bytewise exclusive or of byte strings. -/
def xorB (a b : Bytes) : Bytes := List.zipWith (· ^^^ ·) a b

/-! ### AES-CMAC (NIST SP 800-38B) -/

/-- Doubling in GF(2^128), most significant bit first. -/
def cmacDouble (v : Nat) : Nat :=
  if bit v 127 then (2 * v) % 2 ^ 128 ^^^ 0x87 else 2 * v

/-- The chain over whole blocks. -/
def cmacChain (rk : List (List Nat)) : List Bytes → Bytes → Bytes
  | [], c => c
  | b :: bs, c => cmacChain rk bs (aesBlock rk (xorB c b))

/-- AES-CMAC of a message. -/
def aesCmac (key m : Bytes) : Bytes :=
  let rk := aesRoundKeys key
  let k1 := cmacDouble (unbe (aesBlock rk (zeros 16)))
  let bs := chunks 16 m
  let last := bs.getLastD []
  let fin := if last.length = 16 then xorB last (be 16 k1)
    else xorB (last ++ [0x80#8] ++ zeros (15 - last.length)) (be 16 (cmacDouble k1))
  cmacChain rk (bs.dropLast ++ [fin]) (zeros 16)

/-! ### AES-GCM (NIST SP 800-38D) -/

/-- Multiply in GF(2^128), SP 800-38D bit order (the first bit is the coefficient of x^0): Horner over the bits of `x`
from the last. -/
def gfMulAux (y : Nat) : Nat → Nat → Nat → Nat
  | 0, _, z => z
  | n + 1, x, z =>
    -- z := z * x (a right shift) and add y when the bit is set; bits of x from the least significant
    let z' := if bit z 0 then (z / 2) ^^^ (0xE1 * 2 ^ 120) else z / 2
    gfMulAux y n (x / 2) (if bit x 0 then z' ^^^ y else z')

/-- The product of two blocks in GF(2^128) (as big-endian numbers). -/
def gfMul (x y : Nat) : Nat := gfMulAux y 128 x 0

/-- GHASH over whole blocks, by Horner (R307). -/
def ghashBlocks (h : Nat) : List Bytes → Nat → Nat
  | [], a => a
  | b :: bs, a => ghashBlocks h bs (gfMul (a ^^^ unbe (b ++ zeros (16 - b.length))) h)

/-- GHASH of AAD and ciphertext with the length block. -/
def ghash (h : Nat) (aad c : Bytes) : Nat :=
  let a := ghashBlocks h (chunks 16 c) (ghashBlocks h (chunks 16 aad) 0)
  gfMul (a ^^^ (aad.length * 8 * 2 ^ 64 + c.length * 8)) h

/-- Keystream of `n` blocks from a 128-bit counter block; GCM counts the low 32 bits, CTR the whole block. -/
def ctrStream (rk : List (List Nat)) (gcm : Bool) : Nat → Nat → Bytes
  | 0, _ => []
  | n + 1, c =>
    let c' := if gcm then c / 2 ^ 32 * 2 ^ 32 + (c + 1) % 2 ^ 32 else (c + 1) % 2 ^ 128
    aesBlock rk (be 16 c) ++ ctrStream rk gcm n c'

/-- The first counter block of a 96-bit IV. -/
def gcmJ0 (iv : Bytes) : Nat := unbe iv * 2 ^ 32 + 1

/-- GCM encryption or decryption of data (the same stream), without the tag. -/
def gcmCrypt (key iv data : Bytes) : Bytes :=
  xorB data (ctrStream (aesRoundKeys key) true ((data.length + 15) / 16) (gcmJ0 iv + 1))

/-- The hash key of a key: H = AES_K(0^128). -/
def hashKeyOf (key : Bytes) : Bytes := aesEnc key (zeros 16)

/-- The GCM tag over AAD and ciphertext, from a key and its hash key. -/
def gcmTagWith (key hash iv aad c : Bytes) : Bytes :=
  xorB (be 16 (ghash (unbe hash) aad c)) (aesEnc key (be 16 (gcmJ0 iv)))

/-- The GCM tag over AAD and ciphertext. -/
def gcmTag (key iv aad c : Bytes) : Bytes := gcmTagWith key (hashKeyOf key) iv aad c

/-- CTR over the whole 128-bit counter block (R157). -/
def ctrCrypt (key iv data : Bytes) : Bytes :=
  xorB data (ctrStream (aesRoundKeys key) false ((data.length + 15) / 16) (unbe iv))

/-! ### AES-KWP (NIST SP 800-38F) -/

/-- One pass over the semiblocks of the wrapping function; `t` counts steps. -/
def kwPass (rk : List (List Nat)) : List Bytes → Nat → Bytes → List Bytes → Bytes × List Bytes × Nat
  | [], t, a, out => (a, out.reverse, t)
  | r :: rs, t, a, out =>
    let b := aesBlock rk (a ++ r)
    kwPass rk rs (t + 1) (xorB (b.take 8) (be 8 (t + 1))) (b.drop 8 :: out)

/-- The wrapping function over `n` passes. -/
def kwLoop (rk : List (List Nat)) : Nat → Nat → Bytes → List Bytes → Bytes × List Bytes
  | 0, _, a, rs => (a, rs)
  | n + 1, t, a, rs =>
    let (a', rs', t') := kwPass rk rs t a []
    kwLoop rk n t' a' rs'

/-- One inverse pass, from the last semiblock (the list is reversed). -/
def kwInvPass (rk : List (List Nat)) : List Bytes → Nat → Bytes → List Bytes → Bytes × List Bytes × Nat
  | [], t, a, out => (a, out, t)
  | r :: rs, t, a, out =>
    let b := aesInvBlock rk (xorB a (be 8 t) ++ r)
    kwInvPass rk rs (t - 1) (b.take 8) (b.drop 8 :: out)

/-- The inverse of the wrapping function over `n` passes. -/
def kwInvLoop (rk : List (List Nat)) : Nat → Nat → Bytes → List Bytes → Bytes × List Bytes
  | 0, _, a, rs => (a, rs)
  | n + 1, t, a, rs =>
    let (a', rs', t') := kwInvPass rk rs.reverse t a []
    kwInvLoop rk n t' a' rs'

/-- The integrity value of the AES key wrap (RFC 3394). -/
def kwCheck : Bytes := List.replicate 8 0xA6

/-- The AES key wrap of a key of whole semiblocks (RFC 3394). -/
def kwWrap (kek p : Bytes) : Bytes :=
  let (a, rs) := kwLoop (aesRoundKeys kek) 6 0 kwCheck (chunks 8 p)
  a ++ rs.flatten

/-- Its inverse: the key, if the integrity value checks. -/
def kwUnwrap (kek c : Bytes) : Option Bytes :=
  let rs := chunks 8 (c.drop 8)
  let (a, rs') := kwInvLoop (aesRoundKeys kek) 6 (6 * rs.length) (c.take 8) rs
  if a = kwCheck then some rs'.flatten else none

/-- AES-KWP wrapping of `p` (at least 9 bytes). -/
def kwpWrap (key p : Bytes) : Bytes :=
  let rk := aesRoundKeys key
  let pad := (8 - p.length % 8) % 8
  let (a, rs) := kwLoop rk 6 0 (be 4 0xA65959A6 ++ be 4 p.length) (chunks 8 (p ++ zeros pad))
  a ++ rs.flatten

/-- AES-KWP unwrapping to a key of `n` bytes: the key, if the integrity value and MLI check. -/
def kwpUnwrap (key c : Bytes) (n : Nat) : Option Bytes :=
  let rk := aesRoundKeys key
  let rs := chunks 8 (c.drop 8)
  let (a, rs') := kwInvLoop rk 6 (6 * rs.length) (c.take 8) rs
  let p := rs'.flatten
  if a = be 4 0xA65959A6 ++ be 4 n ∧ p.length = n + (8 - n % 8) % 8 ∧ allZero (p.drop n) = true then
    some (p.take n)
  else none

/-! ### CRCs -/

/-- One bit of a reflected CRC-32. -/
def crcBits (poly : Nat) : Nat → Nat → Nat
  | 0, c => c
  | n + 1, c => crcBits poly n (if bit c 0 then (c / 2) ^^^ poly else c / 2)

/-- A reflected 32-bit CRC with initial value and final XOR 0xFFFF_FFFF. -/
def crcRefl (poly : Nat) (bs : Bytes) : Nat :=
  bs.foldl (fun c b => crcBits poly 8 (c ^^^ b.toNat)) 0xFFFFFFFF ^^^ 0xFFFFFFFF

/-- CRC-32C (R70). -/
def crc32c (bs : Bytes) : Nat := crcRefl 0x82F63B78 bs

/-- The Ethernet FCS, in the order in which its bytes travel. -/
def fcsOf (bs : Bytes) : Bytes := le 4 (crcRefl 0xEDB88320 bs)

/-- One bit of CRC-16 (R277). -/
def crc16Bits : Nat → Nat → Nat
  | 0, c => c
  | n + 1, c => crc16Bits n (if bit c 15 then (2 * c) % 2 ^ 16 ^^^ 0x1021 else 2 * c)

/-- CRC-16 of R277. -/
def crc16 (bs : Bytes) : Nat := bs.foldl (fun c b => crc16Bits 8 (c ^^^ b.toNat * 2 ^ 8)) 0xFFFF

end Sys2Proof
end

