-- ==== Sys2Proof/Machine/Links.lean ====
section
/-! DEFINITION. Sys2Proof/Machine/Links.lean: the package links as data (R30 to R33): channels and credits, flits and
their protected blocks, keys and tunnels. -/
namespace Sys2Proof.Machine

/-! ### Links and channels (R30) -/

/-- A channel with its 64 credits (R30). -/
def FlitChan.full : FlitChan := ⟨64, 0, 0, 0, [], [], [], [], [], none⟩

/-- A direction before its keying (R32). -/
def LinkDir.unkeyed : LinkDir := ⟨[], 0, 0, []⟩

/-- R34: a link that trains anew: full credit comes with its keys (R32). -/
def linkTraining : PkgLink :=
  ⟨.retrain, [], 0, [], LinkDir.unkeyed, LinkDir.unkeyed, [], [], 0, 0⟩

/-- A package link; one never brought up is DOWN. -/
def pkgLink (k : Nat) (d : Dev) : PkgLink := Map.get d.pkg.links k { linkTraining with state := .down }

/-- Store a package link. -/
def setLink (k : Nat) (l : PkgLink) (d : Dev) : Dev := { d with pkg := { d.pkg with links := Map.put d.pkg.links k l } }

/-- One direction of a link. -/
def linkDir (toHub : Bool) (l : PkgLink) : LinkDir := if toHub then l.toHub else l.fromHub

/-- Replace one direction of a link. -/
def setDir (toHub : Bool) (x : LinkDir) (l : PkgLink) : PkgLink := if toHub then { l with toHub := x } else { l with fromHub := x }

/-- A channel of a direction. -/
def flitChan (chan : Nat) (x : LinkDir) : FlitChan := Map.get x.chans chan FlitChan.full

/-- Store a channel of one direction of a link. -/
def setChanOf (k : Nat) (toHub : Bool) (chan : Nat) (c : FlitChan) (d : Dev) : Dev :=
  let l := pkgLink k d
  let x := linkDir toHub l
  setLink k (setDir toHub { x with chans := Map.put x.chans chan c } l) d

/-- A channel of one direction of a link. -/
def chanOf (k : Nat) (toHub : Bool) (chan : Nat) (d : Dev) : FlitChan := flitChan chan (linkDir toHub (pkgLink k d))

/-- Does the link have the channel: V-H has one? -/
def hasChan (k chan : Nat) : Bool := decide (k < 4 ∨ chan = 0)

/-- R37: nanoseconds of a wait for credit that began at an elapsed time. -/
def stallNs (since : Nat) (d : Dev) : Nat := (d.time.elapsed - since) * 4 / 5

/-- R30, R37: a channel has data and no credit: its wait begins. -/
def noteStall (k : Nat) (toHub : Bool) (chan : Nat) (d : Dev) : Dev :=
  let c := chanOf k toHub chan d
  setChanOf k toHub chan { c with stalled := some (c.stalled.getD d.time.elapsed) } d

/-- R37: the waits for credit of a link that leaves service end, and are counted. -/
def endStalls (k : Nat) (d : Dev) : Dev :=
  [true, false].foldl (fun d toHub =>
    let x := linkDir toHub (pkgLink k d)
    let n := (x.chans.map (fun e => match e.2.stalled with | some t => stallNs t d | none => 0)).sum
    let d := bumpBy .pkg (pkgObj k toHub) 5 n d
    setLink k (setDir toHub { x with chans := Map.mapVals x.chans (fun c => { c with stalled := none }) } (pkgLink k d)) d) d

/-! ### Flits and blocks (R31) -/

/-- The type code of a flit. -/
def flitType : FlitKind → Nat
  | .cell => 1 | .management => 2 | .tunnel => 3 | .beacon => 4

/-- Control bytes 0 to 7 of flit `i` of a block. The credits field is zero: credits return in credit-only flits. -/
def flitControl (kind : FlitKind) (chan seq i : Nat) : Bytes :=
  let ends := if kind = .cell then 4 * b2n (decide (i = 0)) + 8 * b2n (decide (i = 3)) else 0
  le 1 (flitType kind) ++ le 1 (chan + ends) ++ le 2 (seq + i) ++ le 2 0 ++ le 2 0

/-- A flit from its payload, its control bytes 0 to 7 and its quarter of the tag, with its CRC. -/
def flitWire (payload control frag : Bytes) : Bytes :=
  let bs := payload ++ control ++ frag
  bs ++ le 4 (crc32c bs)

/-- R31: the IV of a block. -/
def blockIv (n : Nat) : Bytes := be 12 n

/-- R31: the four flits of a block of 256 bytes under a key and counter value, from sequence number `seq`. -/
def blockFlits (key : Bytes) (iv : Nat) (kind : FlitKind) (chan seq : Nat) (payload : Bytes) : List Bytes :=
  let ct := gcmCrypt key (blockIv iv) (slice payload 0 256)
  let ctl := (List.range 4).map (flitControl kind chan seq)
  let tag := gcmTag key (blockIv iv) ctl.flatten ct
  (List.range 4).map (fun i => flitWire (slice ct (64 * i) 64) (ctl.getD i []) (slice tag (4 * i) 4))

/-- R34: is a flit free of CRC and protocol errors? -/
def flitSound (w : Bytes) : Bool :=
  decide (w.length = 80) && decide (fld w 76 4 = crc32c (w.take 76)) && decide (1 ≤ fld w 64 1 ∧ fld w 64 1 ≤ 5) &&
    decide (fld w 70 2 = 0)

/-- R31: does the tag of a block of four flits match? -/
def blockAuthentic (key : Bytes) (iv : Nat) (flits : List Bytes) : Bool :=
  decide (gcmTag key (blockIv iv) (flits.flatMap (fun w => slice w 64 8)) (flits.flatMap (fun w => slice w 0 64))
    = flits.flatMap (fun w => slice w 72 4))

/-- R31: grand ticks that a block takes on a channel of a link: 8 ns, on V-H 128 ns. -/
def blockTicks (k : Nat) : Nat := if k < 4 then 10 else 160

/-- R31: the most idle blocks that can have filled a direction since its last block, its channels together. -/
def idleBlocks (k : Nat) (x : LinkDir) (d : Dev) : Nat :=
  (d.time.elapsed - x.blockAt) / blockTicks k * (if k < 4 then 4 else 1)

/-! ### The key tunnel (R33) -/

/-- R33: seal content for a line die, or from it, under its tunnel key and the next counter value. -/
def tunnelSend (die : Nat) (toHub : Bool) (content : Bytes) (d : Dev) : Dev :=
  let l := pkgLink die d
  let key := if toHub then l.tunnelKeyBack else l.tunnelKey
  let n := if toHub then l.tunnelIvBack else l.tunnelIv
  let ct := gcmCrypt key (blockIv n) content
  let l := if toHub then { l with tunnelIvBack := (n + 1) % 2 ^ 96 } else { l with tunnelIv := (n + 1) % 2 ^ 96 }
  emit (.tunnel die toHub (ct ++ gcmTag key (blockIv n) [] ct)) (setLink die l d)

/-- R33: can keys pass between the vault and a line die now? -/
def tunnelOpen (die : Nat) (d : Dev) : Bool := linkUp 4 d && linkUp die d

end Sys2Proof.Machine
end

