-- ==== Sys2Proof/Machine/Frames.lean ====
section
/-! DEFINITION. Sys2Proof/Machine/Frames.lean: the frames inside the device, wherever they wait, and their bindings to
SA slots (R118). -/
namespace Sys2Proof.Machine

/-- An empty queue whose tags are invalid. -/
def Queue.empty : Queue := ⟨[], 0, none⟩

/-- The queue at a place (2^18 die + index). -/
def queueAt (q : Nat) (d : Dev) : Queue := Map.get d.que.queues q Queue.empty

/-- Store a queue. -/
def setQueue (q : Nat) (x : Queue) (d : Dev) : Dev := { d with que := { d.que with queues := Map.put d.que.queues q x } }

/-- Keep the frames of a queue that pass a test; a queue that empties keeps its start tag as F_prev (R253). -/
def Queue.keep (p : Frame → Bool) (q : Queue) : Queue :=
  let fs := q.frames.filter p
  if fs.isEmpty && !q.frames.isEmpty then ⟨[], 0, some q.tag⟩ else { q with frames := fs }

/-- Every frame that waits in the device: in queues, on the fabric, at a die, as residue and in mirror queues; not those being
sent. -/
def waitingFrames (d : Dev) : List Frame :=
  d.que.queues.flatMap (fun e => e.2.frames) ++ d.fab.voq.flatMap (·.frames) ++ d.fab.arrived.map (·.2)
    ++ d.fab.residues.map (·.frame) ++ d.fab.mirrorQ.flatMap (·.2)

/-- Every frame in the device but those the egg timer holds (R71, R340) and those in the firmware's buffer. -/
def allFrames (d : Dev) : List Frame := waitingFrames d ++ d.que.sending.map (·.2.frame)

/-- R118: frames bound to a slot. -/
def framesBound (k : Nat) (d : Dev) : Nat := ((allFrames d).filter (fun f => f.slot = some k)).length

/-- Bound frames that have not been encrypted. -/
def framesWaiting (k : Nat) (d : Dev) : Nat := ((waitingFrames d).filter (fun f => f.slot = some k)).length

/-- Keep only the waiting frames that pass a test. -/
def keepFrames (p : Frame → Bool) (d : Dev) : Dev :=
  { d with
    que := { d.que with queues := Map.mapVals d.que.queues (Queue.keep p) }
    fab := { d.fab with
      voq := (d.fab.voq.map (fun e => { e with frames := e.frames.filter p })).filter (fun e => e.started || !e.frames.isEmpty)
      arrived := d.fab.arrived.filter (fun e => p e.2)
      residues := d.fab.residues.filter (fun e => p e.frame)
      mirrorQ := Map.mapVals d.fab.mirrorQ (List.filter p) } }

/-- Change every waiting frame. -/
def mapFrames (g : Frame → Frame) (d : Dev) : Dev :=
  { d with
    que := { d.que with queues := Map.mapVals d.que.queues (fun q => { q with frames := q.frames.map g }) }
    fab := { d.fab with
      voq := d.fab.voq.map (fun e => { e with frames := e.frames.map g })
      arrived := d.fab.arrived.map (fun e => (e.1, g e.2))
      residues := d.fab.residues.map (fun e => { e with frame := g e.frame })
      mirrorQ := Map.mapVals d.fab.mirrorQ (List.map g) } }

/-- Stomp the frames being sent that pass a test (R223). -/
def stompSending (p : Sending → Bool) (d : Dev) : Dev :=
  { d with que := { d.que with sending := Map.mapVals d.que.sending (fun s => if p s then { s with stomp := true } else s) } }

/-- R118: drop the frames bound to a slot; one that is leaving is stomped. -/
def dropBound (k : Nat) (d : Dev) : Dev :=
  stompSending (fun s => decide (s.frame.slot = some k)) (keepFrames (fun f => decide (f.slot ≠ some k)) d)

/-- R124: drop the frames bound to a slot that wait. -/
def dropWaiting (k : Nat) (d : Dev) : Dev := keepFrames (fun f => decide (f.slot ≠ some k)) d

/-- R124: hand the waiting frames of a slot to another. -/
def rebindFrames (old new : Nat) (d : Dev) : Dev :=
  mapFrames (fun f => if f.slot = some old then { f with slot := some new } else f) d

/-- R71: frames that carry the set of a number, those in the firmware's buffer among them. -/
def genFrames (g : Nat) (d : Dev) : Nat :=
  ((allFrames d).filter (fun f => decide (f.gen = g))).length + (d.prot.fwBuf.filter (fun f => decide (f.gen = g))).length

/-- R71: does any frame carry the set of a number? -/
def carriesGen (g : Nat) (d : Dev) : Bool := decide (genFrames g d ≠ 0)

/-! ### Top-down slot accounting (R460) -/

/-- R459, R460: count blocks of a slot in a category, in its own event and in the sum of its four. -/
def slotEvent (t : Tally) (category : Nat) (d : Dev) : Dev :=
  perfEvent t.die (0x10 + 4 * (t.slot / 4) + category) t.blocks (perfEvent t.die (0x40 + 4 * t.slot + category) t.blocks d)

/-- R460: a slot processes the blocks of `bytes` bytes of the frame of a number: encrypt slots 0 to 3, decrypt slots 4 to 7. -/
def tallyBlocks (die number bytes : Nat) (decrypt : Bool) (d : Dev) : Dev :=
  let slot := 4 * b2n decrypt + Config.cryptoSlot number % 4
  let n := (bytes + 15) / 16
  { d with obs := { d.obs with tallies := d.obs.tallies ++ [⟨number, die, slot, n⟩],
                               slotBusy := Map.upd d.obs.slotBusy (8 * die + slot) 0 (· + n) } }

/-- Is a tally one of a frame's: its own, or its stored frame's? -/
def Tally.of (f : Frame) (t : Tally) : Bool := decide (t.frame = f.id ∨ t.frame = f.stored)

/-- R460: a frame has left: its blocks are RETIRED. -/
def retireTallies (f : Frame) (d : Dev) : Dev :=
  (d.obs.tallies.filter (fun t => t.of f)).foldl (fun d t => slotEvent t 0 d)
    { d with obs := { d.obs with tallies := d.obs.tallies.filter (fun t => !t.of f) } }

/-- R460: the numbers of the frames in the device, those the egg timer and the firmware's buffer hold among them. -/
def frameNumbers (d : Dev) : List Nat :=
  (allFrames d ++ d.act.egg.map (·.frame)).flatMap (fun f => [f.id, f.stored]) ++ d.fab.voq.map (·.stored)

/-- R460: the blocks of frames that are no longer in the device, and have not left it, are WASTED. -/
def settleTallies (d : Dev) : Dev :=
  let here := frameNumbers d
  let gone (t : Tally) : Bool := !here.contains t.frame
  (d.obs.tallies.filter gone).foldl (fun d t => slotEvent t 1 d)
    { d with obs := { d.obs with tallies := d.obs.tallies.filter (fun t => !gone t) } }

/-- Bytes of a queue, by admission length (R214, R246). -/
def queueBytes (q : Nat) (d : Dev) : Nat := ((queueAt q d).frames.map (·.adm)).sum

/-- Is a frame in the stockpot? -/
def Frame.spilled (f : Frame) : Bool := !f.blocks.isEmpty

/-- Bytes of a queue in the stockpot. -/
def queueSpilled (q : Nat) (d : Dev) : Nat := (((queueAt q d).frames.filter Frame.spilled).map (·.adm)).sum

/-- Units of 256 bytes that a frame takes in frame SRAM (R213): its length with FCS and frame header. -/
def frameUnits (f : Frame) : Nat := (f.data.length + 4 + 8 + 255) / 256

/-- The die of a queue's place. -/
def queueDie (q : Nat) : Nat := q / 2 ^ 18

/-- R227: copies made from one stored frame count once. -/
def storedOnce : List Frame → List Frame
  | [] => []
  | f :: fs => f :: (storedOnce fs).filter (fun g => decide (g.stored ≠ f.stored))

/-- R213: the frames of a line die in egress and pre-encryption queues, as residue and in mirror queues. -/
def dieFrames (die : Nat) (d : Dev) : List Frame :=
  (d.que.queues.filter (fun e => decide (queueDie e.1 = die))).flatMap (·.2.frames)
    ++ (d.fab.residues.filter (fun r => decide (r.die = die))).map (·.frame)
    ++ d.fab.mirrorQ.flatMap (fun e => e.2.filter (fun f => decide (portDie f.dest = die)))

/-- Units of the shared queue pool that a die uses (R213). -/
def poolUnits (die : Nat) (d : Dev) : Nat :=
  ((storedOnce ((dieFrames die d).filter (fun f => !f.spilled))).map frameUnits).sum

/-- R22: the die of a destination code of kind PORT or SECY. -/
def destDie (code : Nat) : Nat := bits code 24 4

/-- R180: the local port number of a port on its die. -/
def localPort (p : Nat) : Nat :=
  if p < 16 then p % 4 else if p < 32 then 4 + p % 4 else if p < 96 then 8 + (p - 32) % 16 else 0

/-- R180: the port of a die and local port number, if there is one. -/
def portOfLocal (die lp : Nat) : Option Nat :=
  if 4 ≤ die then none
  else if lp < 4 then some (4 * die + lp)
  else if lp < 8 then some (16 + 4 * die + (lp - 4))
  else if lp < 24 then some (32 + 16 * die + (lp - 8)) else none

/-- R181: the port a destination code of kind PORT or SECY names. -/
def destPort (code : Nat) : Option Nat := portOfLocal (bits code 24 4) (bits code 16 8)

/-- R181: the code of a plain port. -/
def portCode (p : Nat) : Nat := 0x10000000 + portDie p * 2 ^ 24 + localPort p * 2 ^ 16

/-- R181: the code of a SecY. -/
def secyCode (p idx : Nat) : Nat := 0x20000000 + portDie p * 2 ^ 24 + localPort p * 2 ^ 16 + idx

end Sys2Proof.Machine
end

