-- ==== Sys2Proof/Machine/Tables.lean ====
section
/-! DEFINITION. Sys2Proof/Machine/Tables.lean: the cuckoo tables of a line die, the sieve and the prefix lookup
(R182, R185, R188 to R194, R201, R202). -/
namespace Sys2Proof.Machine

/-- R182: the cuckoo tables by their table_id. -/
inductive Tid where
  | mac | sci | ipv4 | ipv6
  deriving DecidableEq, Repr

/-- R182: table_id. -/
def Tid.code : Tid → Nat
  | .mac => 3 | .sci => 5 | .ipv4 => 7 | .ipv6 => 9

/-- R182: buckets of four ways. -/
def Tid.buckets : Tid → Nat
  | .mac => 65536 | .sci => 2048 | .ipv4 => 32768 | .ipv6 => 16384

/-- The place of entry `pos` of a die; stash entry `s` is at 2^19 + s. -/
def tblPos (die pos : Nat) : Nat := die * 2 ^ 20 + pos

/-- The position within its die. -/
def posOf (k : Nat) : Nat := k % 2 ^ 20

/-- The stash position `s`. -/
def stashPos (s : Nat) : Nat := 2 ^ 19 + s

/-- R206: the index by which a response names a position. -/
def posIndex (pos : Nat) : Nat := if pos < 2 ^ 19 then pos else 0x80000000 + (pos - 2 ^ 19)

/-- What the engine of a table needs: the table's map, key and lock of an entry, and the die's seed. -/
structure Engine (α : Type) where
  t : Tid
  die : Nat
  seed : Nat
  key : α → Nat
  lock : α → Bool
  /-- empty positions that are locked: nothing is put there (R65) -/
  holes : List Nat

/-- R188: a candidate bucket of a key. -/
def Engine.bucket {α : Type} (g : Engine α) (key which : Nat) : Nat := Config.hash g.seed g.t.code key which % g.t.buckets

/-- R182: the four positions of a bucket. -/
def ways (b : Nat) : List Nat := [4 * b, 4 * b + 1, 4 * b + 2, 4 * b + 3]

/-- R188: the positions a probe reads: both buckets and the stash. -/
def Engine.probe {α : Type} (g : Engine α) (key : Nat) : List Nat :=
  ways (g.bucket key 0) ++ ways (g.bucket key 1) ++ (List.range 64).map stashPos

/-- R188: the position that holds a key. -/
def Engine.find {α : Type} (g : Engine α) (m : Map α) (key : Nat) : Option Nat :=
  (g.probe key).find? (fun p => match Map.get? m (tblPos g.die p) with
    | some e => decide (g.key e = key) | none => false)

/-- Is a position free to take an entry? -/
def Engine.open_ {α : Type} (g : Engine α) (m : Map α) (p : Nat) : Bool :=
  !Map.has m (tblPos g.die p) && !g.holes.contains (tblPos g.die p)

/-- A free way of a bucket. -/
def Engine.free {α : Type} (g : Engine α) (m : Map α) (b : Nat) : Option Nat := (ways b).find? (g.open_ m)

/-- The other candidate bucket of the entry at a position. -/
def Engine.other {α : Type} (g : Engine α) (e : α) (pos : Nat) : Nat :=
  let b0 := g.bucket (g.key e) 0
  if b0 = pos / 4 then g.bucket (g.key e) 1 else b0

/-- R189: relocations from one bucket: a chain that ends in a free way, or the buckets to visit next. -/
def Engine.expand {α : Type} (g : Engine α) (m : Map α) (path : List Nat) :
    List Nat → List (Nat × List Nat) → Sum (List Nat × Nat) (List (Nat × List Nat))
  | [], acc => .inr acc
  | p :: ps, acc =>
    match Map.get? m (tblPos g.die p) with
    | none => g.expand m path ps acc
    | some e =>
      if g.lock e || path.contains p then g.expand m path ps acc
      else
        let ob := g.other e p
        match g.free m ob with
        | some f => .inl (path ++ [p], f)
        | none => g.expand m path ps (if path.length < 2 then acc ++ [(ob, path ++ [p])] else acc)

/-- R189: breadth first, at most 64 buckets and 3 moves. -/
def Engine.search {α : Type} (g : Engine α) (m : Map α) : Nat → List (Nat × List Nat) → Option (List Nat × Nat)
  | 0, _ => none
  | _, [] => none
  | fuel + 1, (b, path) :: rest =>
    match g.expand m path (ways b) [] with
    | .inl r => some r
    | .inr more => g.search m fuel (rest ++ more)

/-- R190: carry out a chain of moves, the last first; the entry freed is the first of the chain. -/
def Engine.shift {α : Type} (g : Engine α) (m : Map α) : List Nat → Nat → Map α
  | [], _ => m
  | p :: ps, f =>
    match Map.get? m (tblPos g.die p) with
    | none => g.shift m ps p
    | some e => g.shift (Map.del (Map.put m (tblPos g.die f) e) (tblPos g.die p)) ps p

/-- A place found for a new entry (R189): position, table after relocations, relocations made, and whether it lies in
the stash. -/
structure Placed (α : Type) where
  pos : Nat
  map : Map α
  moves : Nat
  stash : Bool

/-- R189 steps 2 and 3: a place in the main table. -/
def Engine.placeMain {α : Type} (g : Engine α) (m : Map α) (e : α) : Option (Placed α) :=
  let b0 := g.bucket (g.key e) 0
  let b1 := g.bucket (g.key e) 1
  match (g.free m b0).or (g.free m b1) with
  | some p => some ⟨p, Map.put m (tblPos g.die p) e, 0, false⟩
  | none =>
    match g.search m 64 [(b0, []), (b1, [])] with
    | some (path, f) =>
      let m' := g.shift m path.reverse f
      let p := path.headD 0
      some ⟨p, Map.put m' (tblPos g.die p) e, path.length, false⟩
    | none => none

/-- R189 steps 2 to 5: a place for an entry whose key is not present. -/
def Engine.place {α : Type} (g : Engine α) (m : Map α) (e : α) : Option (Placed α) :=
  match g.placeMain m e with
  | some r => some r
  | none =>
    match ((List.range 64).map stashPos).find? (g.open_ m) with
    | some p => some ⟨p, Map.put m (tblPos g.die p) e, 0, true⟩
    | none => none

/-- The hash seed of a table of a die (R188). -/
def seedOf (die : Nat) (t : Tid) (d : Dev) : Nat := Map.get d.cls.seeds (16 * die + t.code) 0

/-- R64: the number of a position among those of all tables and dies. -/
def holeKey (t : Tid) (k : Nat) : Nat := t.code * 2 ^ 22 + k

/-- R65: the locked empty positions of a table. -/
def holesOf (t : Tid) (d : Dev) : List Nat :=
  (d.cls.holes.filter (fun h => decide (h / 2 ^ 22 = t.code))).map (· % 2 ^ 22)

/-- R64: set or clear the lock of an empty position. -/
def setHole (t : Tid) (k : Nat) (on : Bool) (d : Dev) : Dev :=
  let rest := d.cls.holes.filter (fun h => decide (h ≠ holeKey t k))
  { d with cls := { d.cls with holes := if on then holeKey t k :: rest else rest } }

/-- Entries of a die. -/
def ofDie {α : Type} (die : Nat) (m : Map α) : Map α := m.filter (fun e => decide (e.1 / 2 ^ 20 = die))

/-- R188: the key of a MAC entry. -/
def macKey (fid mac : Nat) : Nat := fid * 2 ^ 48 + mac

/-- The MAC engine of a die. -/
def macEngine (die : Nat) (d : Dev) : Engine MacEntry :=
  ⟨.mac, die, seedOf die .mac d, fun e => macKey e.fid e.mac, fun e => e.lock, holesOf .mac d⟩

/-- The SCI engine of a die. -/
def sciEngine (die : Nat) (d : Dev) : Engine SciEntry :=
  ⟨.sci, die, seedOf die .sci d, fun e => e.port * 2 ^ 64 + e.sci, fun _ => false, holesOf .sci d⟩

/-- R188: the key of a prefix. -/
def pfxKey (fid len prefix_ : Nat) : Nat := (fid * 256 + len) * 2 ^ 128 + prefix_

/-- The prefix engine of a die and family. -/
def pfxEngine (v6 : Bool) (die : Nat) (d : Dev) : Engine PfxEntry :=
  let t := if v6 then Tid.ipv6 else Tid.ipv4
  ⟨t, die, seedOf die t d, fun e => pfxKey e.fid e.len e.prefix_, fun e => e.lock, holesOf t d⟩

/-- The prefix table of a family. -/
def pfxMap (v6 : Bool) (d : Dev) : Map PfxEntry := if v6 then d.cls.pfx6 else d.cls.pfx4

/-- Store the prefix table of a family. -/
def setPfxMap (v6 : Bool) (m : Map PfxEntry) (d : Dev) : Dev :=
  { d with cls := if v6 then { d.cls with pfx6 := m } else { d.cls with pfx4 := m } }

/-- Store the MAC table. -/
def setMacMap (m : Map MacEntry) (d : Dev) : Dev := { d with cls := { d.cls with mac := m } }

/-- R189, R190: count what a placement did. -/
def countPlaced {α : Type} (die : Nat) (r : Placed α) (d : Dev) : Dev :=
  let d := bumpBy .cls die 17 r.moves d
  if r.stash then bump .cls die 18 d else d

/-- R189: insert a new MAC entry. -/
def macPlace (die : Nat) (e : MacEntry) (d : Dev) : Option (Nat × Dev) :=
  match (macEngine die d).place d.cls.mac e with
  | none => none
  | some r => some (r.pos, countPlaced die r (setMacMap r.map d))

/-- R108: place the SCI entry of an RX SC. -/
def sciInsert (die port sci idx secy : Nat) (d : Dev) : Option Dev :=
  match (sciEngine die d).place d.cls.sci ⟨localPort port, sci, idx, secy⟩ with
  | none => none
  | some r => some (countPlaced die r { d with cls := { d.cls with sci := r.map } })

/-- R109: remove the SCI entry of an RX SC. -/
def sciRemove (die idx : Nat) (d : Dev) : Dev :=
  { d with cls := { d.cls with sci := d.cls.sci.filter (fun e => !(decide (e.1 / 2 ^ 20 = die ∧ e.2.rxsc = idx))) } }

/-- R96 step 4: the SCI entry of a port and SCI. -/
def sciFind (port sci : Nat) (d : Dev) : Option SciEntry :=
  let die := portDie port
  let g := sciEngine die d
  match g.find d.cls.sci (localPort port * 2 ^ 64 + sci) with
  | some p => Map.get? d.cls.sci (tblPos die p)
  | none => none

/-! ### The sieve (R191) -/

/-- The bits of an address of a family. -/
def famBits (v6 : Bool) : Nat := if v6 then 128 else 32

/-- An address with its host bits zero. -/
def maskTo (v6 : Bool) (len addr : Nat) : Nat :=
  let h := 2 ^ (famBits v6 - len)
  addr / h * h

/-- R191: the place of one of a prefix's two sieve counters. -/
def sieveKey (v6 : Bool) (die fid len prefix_ which : Nat) (d : Dev) : Nat :=
  let g := pfxEngine v6 die d
  ((2 * die + b2n v6) * 256 + len) * 65536 + Config.hash g.seed g.t.code (pfxKey fid len prefix_) (2 + which) % 65536

/-- R191: raise one counter; at 15 it is stuck and counted. -/
def sieveUp (die k : Nat) (d : Dev) : Dev :=
  let v := Map.get d.cls.sieve k 0
  if v < 15 then
    let d := { d with cls := { d.cls with sieve := Map.put d.cls.sieve k (v + 1) } }
    if v = 14 then bump .cls die 19 d else d
  else d

/-- R191: lower one counter, unless it is stuck. -/
def sieveDown (k : Nat) (d : Dev) : Dev :=
  let v := Map.get d.cls.sieve k 0
  if v = 0 ∨ v = 15 then d
  else if v = 1 then { d with cls := { d.cls with sieve := Map.del d.cls.sieve k } }
  else { d with cls := { d.cls with sieve := Map.put d.cls.sieve k (v - 1) } }

/-- R191: commit a prefix in the sieve; a /0 is kept in the fid map, which the entry itself shows. -/
def sieveAdd (v6 : Bool) (die : Nat) (e : PfxEntry) (d : Dev) : Dev :=
  if e.len = 0 then d
  else sieveUp die (sieveKey v6 die e.fid e.len e.prefix_ 1 d) (sieveUp die (sieveKey v6 die e.fid e.len e.prefix_ 0 d) d)

/-- R191: take a prefix out of the sieve. -/
def sieveDel (v6 : Bool) (die : Nat) (e : PfxEntry) (d : Dev) : Dev :=
  if e.len = 0 then d
  else sieveDown (sieveKey v6 die e.fid e.len e.prefix_ 1 d) (sieveDown (sieveKey v6 die e.fid e.len e.prefix_ 0 d) d)

/-- R191, R209: rebuild the filters of a family on a die. -/
def sieveRebuild (v6 : Bool) (die : Nat) (d : Dev) : Dev :=
  let lo := (2 * die + b2n v6) * 256 * 65536
  let d := { d with cls := { d.cls with sieve := d.cls.sieve.filter (fun e => !(decide (lo ≤ e.1 ∧ e.1 < lo + 256 * 65536))) } }
  (ofDie die (pfxMap v6 d)).foldl (fun d e => if e.2.held = some .added then d else sieveAdd v6 die e.2 d) d

/-! ### The longest-prefix lookup (R191, R192) -/

/-- What lookups see of an entry (R194): destination and class override. -/
def PfxEntry.seen (e : PfxEntry) : Option (Nat × Nat) :=
  match e.held with
  | some .added => none
  | some (.changed de ov) => some (de, ov)
  | _ => some (e.dest, e.override)

/-- What lookups see of the prefix of a key. -/
def pfxSeen (v6 : Bool) (die fid len prefix_ : Nat) (d : Dev) : Option (Nat × Nat) :=
  match (pfxEngine v6 die d).find (pfxMap v6 d) (pfxKey fid len prefix_) with
  | some p => match Map.get? (pfxMap v6 d) (tblPos die p) with | some e => e.seen | none => none
  | none => none

/-- R191: is a length a candidate for an address? -/
def pfxCandidate (v6 : Bool) (die fid addr len : Nat) (d : Dev) : Bool :=
  if len = 0 then (ofDie die (pfxMap v6 d)).any (fun e => decide (e.2.fid = fid ∧ e.2.len = 0) && e.2.seen.isSome)
  else
    let p := maskTo v6 len addr
    decide (Map.get d.cls.sieve (sieveKey v6 die fid len p 0 d) 0 ≠ 0) &&
      decide (Map.get d.cls.sieve (sieveKey v6 die fid len p 1 d) 0 ≠ 0)

/-- R192: probe candidate lengths from the longest down: the hit if any, and the probes used. -/
def pfxProbe (v6 : Bool) (die fid addr : Nat) (d : Dev) : List Nat → Nat → Option (Nat × Nat) × Nat
  | [], n => (none, n)
  | len :: ls, n =>
    if pfxCandidate v6 die fid addr len d then
      match pfxSeen v6 die fid len (maskTo v6 len addr) d with
      | some r => (some r, n + 1)
      | none => pfxProbe v6 die fid addr d ls (n + 1)
    else pfxProbe v6 die fid addr d ls n

/-- R192: the lookup: destination and class override of the longest match, and the passes after the first. -/
def pfxLookup (v6 : Bool) (die fid addr : Nat) (d : Dev) : Option (Nat × Nat) × Nat :=
  let r := pfxProbe v6 die fid addr d (List.range (famBits v6 + 1)).reverse 0
  (r.1, (r.2 + 5) / 6 - 1)

/-! ### Entry formats (R185, R201, R202) -/

/-- R201. -/
def macBytes (e : MacEntry) : Bytes :=
  le 2 e.fid ++ be 6 e.mac ++ le 4 e.dest ++ le 1 e.override ++ le 1 (b2n e.discard) ++ zeros 2 ++ le 4 e.lastUpdate
    ++ le 4 e.firstConflict ++ le 4 e.firstDest ++ le 1 e.conflicts ++ zeros 3 ++ le 4 e.pinUntil ++ zeros 24
    ++ le 4 (1 + 2 * b2n e.lock + 4 * b2n e.static + 8 * b2n e.pinned + 16 * b2n e.remote + 32 * e.age)

/-- R202. -/
def pfxBytes (v6 : Bool) (e : PfxEntry) : Bytes :=
  le 2 e.fid ++ le 1 e.len ++ le 1 (if v6 then 6 else 4) ++ (if v6 then be 16 e.prefix_ else be 4 e.prefix_ ++ zeros 12)
    ++ le 4 e.dest ++ le 1 e.override ++ zeros 35 ++ le 4 (1 + 2 * b2n e.lock)

/-- R185. -/
def sciBytes (e : SciEntry) : Bytes :=
  le 2 e.port ++ le 2 e.rxsc ++ le 2 e.secy ++ zeros 2 ++ le 8 e.sci ++ zeros 44 ++ le 4 1

/-- R184. -/
def vlanBytes (v : VlanPrm) : Bytes :=
  le 3 v.member ++ le 1 v.fwdMode ++ le 2 v.fid ++ le 1 v.classMode ++ le 1 (b2n v.learn) ++ le 4 v.fixedDest
    ++ le 4 v.unknownDest ++ le 4 v.bcastDest ++ le 4 v.prefixMissDest ++ zeros 36 ++ le 4 1

/-- R181: is a destination code one that is not reserved? -/
def destValid (code : Nat) : Bool :=
  let kind := code / 2 ^ 28
  if kind = 0 then decide (code = 0)
  else if kind = 1 then decide (bits code 24 4 < 4 ∧ bits code 16 8 < 24 ∧ bits code 0 16 = 0)
  else if kind = 2 then decide (bits code 24 4 < 4 ∧ 4 ≤ bits code 16 8 ∧ bits code 16 8 < 24 ∧ bits code 11 5 = 0)
  else if kind = 3 then decide (code % 2 ^ 28 < 8192)
  else decide (code = 0x40000000)

/-- R201, R202: a class override is 0 to 7 or 0xFF. -/
def overrideOk (v : Nat) : Bool := decide (v < 8 ∨ v = 0xFF)

end Sys2Proof.Machine
end

