-- ==== Sys2Proof/Machine/Learning.lean ====
section
/-! DEFINITION. Sys2Proof/Machine/Learning.lean: learning, aging and unification of the MAC tables, and the events of
the tables (R189, R194 to R200). -/
namespace Sys2Proof.Machine

/-- R196: device time in ms, modulo 2^32. -/
def msOf (units : Nat) : Nat := units / (1000000 * unitsPerNs) % 2 ^ 32

/-- R196: device time in ms now. -/
def msNow (d : Dev) : Nat := msOf d.time.grand

/-- R196: a difference of ms times, modulo 2^32. -/
def msSince (a b : Nat) : Nat := (a + 2 ^ 32 - b % 2 ^ 32) % 2 ^ 32

/-- The position of a MAC entry of a die. -/
def macFind (die fid mac : Nat) (d : Dev) : Option Nat := (macEngine die d).find d.cls.mac (macKey fid mac)

/-- The MAC entry of a key on a die, as lookups see it (R188). -/
def macGet (die fid mac : Nat) (d : Dev) : Option MacEntry :=
  match macFind die fid mac d with
  | some p => Map.get? d.cls.mac (tblPos die p)
  | none => none

/-- Store a MAC entry at its position. -/
def macSet (die pos : Nat) (e : MacEntry) (d : Dev) : Dev := setMacMap (Map.put d.cls.mac (tblPos die pos) e) d

/-- R407: a learned entry goes to the twin when mirror_tables is set. -/
def mirrorLearned (die : Nat) (e : LogEv) (d : Dev) : Dev :=
  match e.dest with
  | some s => if d.twin.mirrorTables then twinPost (.learned die e.fid e.mac s) d else d
  | none => d

/-- R200: add an event to a die's log of 4,096, for unification. -/
def logAdd (die : Nat) (e : LogEv) (d : Dev) : Dev :=
  let d := mirrorLearned die e d
  if !(prm d).learnUnify then d
  else
    let l := Map.get d.cls.logs die []
    if l.length < 4096 then { d with cls := { d.cls with logs := Map.put d.cls.logs die (l ++ [e]) } }
    else { d with cls := { d.cls with logLost := (d.cls.logLost.filter (· ≠ die)) ++ [die] } }

/-- Remove a MAC entry; a removal of a learned entry is logged (R200). -/
def macRemove (die pos : Nat) (d : Dev) : Dev :=
  match Map.get? d.cls.mac (tblPos die pos) with
  | none => d
  | some e =>
    let d := setMacMap (Map.del d.cls.mac (tblPos die pos)) d
    if e.static || e.remote then d else logAdd die ⟨e.fid, e.mac, none⟩ d

/-- R195: is the event a learn of the queue of 1,024, and not a copy or a removal of unification? -/
def LearnEv.isLearn : LearnEv → Bool
  | .learn _ _ _ _ => true
  | _ => false

/-- R195: post a learn event to a die's queue of 1,024. -/
def postLearn (die fid mac source ms : Nat) (d : Dev) : Dev :=
  let q := Map.get d.cls.learnQ die []
  if q.any (fun e => match e with | .learn f m _ _ => decide (f = fid ∧ m = mac) | _ => false) then d
  else if (q.filter LearnEv.isLearn).length < 1024 then
    { d with cls := { d.cls with learnQ := Map.put d.cls.learnQ die (q ++ [.learn fid mac source ms]) } }
  else bump .cls die 11 d

/-- A learned entry (R197). -/
def learnedEntry (fid mac dest ms : Nat) : MacEntry :=
  ⟨fid, mac, dest, 0xFF, false, ms, 0, 0, 0, 0, false, false, false, false, 0⟩

/-- R197: an SA from `s` at `t` ms meets the entry at `pos`: a static entry does not learn; a learned one follows the state
table. -/
def learnMeets (die pos s t : Nat) (e : MacEntry) (d : Dev) : Dev :=
  if e.static then (if e.dest = s then d else bump .cls die 21 d)
  else if e.lock then bump .cls die 12 d
  else if e.pinned then d
  else if e.dest = s then macSet die pos { e with age := 0 } d
  else if (prm d).moveHold ≤ msSince t e.lastUpdate then
    logAdd die ⟨e.fid, e.mac, some s⟩
      (bump .cls die 13 (macSet die pos { e with dest := s, lastUpdate := t, remote := false } d))
  else
    let d := bump .cls die 14 d
    if e.conflicts = 0 ∨ 10000 ≤ msSince t e.firstConflict then
      macSet die pos { e with conflicts := 1, firstConflict := t, firstDest := e.dest } d
    else if e.conflicts = 1 then macSet die pos { e with conflicts := 2 } d
    else
      let e' := { e with dest := e.firstDest, pinned := true, pinUntil := (t + 1000 * (prm d).pinTime) % 2 ^ 32 }
      notifyRecord 0x20 (dieTarget die) (le 2 e.fid ++ be 6 e.mac ++ le 4 e'.firstDest ++ le 4 s ++ le 4 e'.pinUntil)
        (bump .cls die 15 (macSet die pos e' d))

/-- R197, R200: the insertion engine of a die takes one event. DESIGN CHOICE: a copy for a key whose entry is locked, static or
pinned changes nothing and counts nothing. -/
def learnApply (die : Nat) (ev : LearnEv) (d : Dev) : Dev :=
  match ev with
  | .learn fid mac s t =>
    match macFind die fid mac d with
    | some pos => match Map.get? d.cls.mac (tblPos die pos) with
      | some e => learnMeets die pos s t e d
      | none => d
    | none =>
      match macPlace die (learnedEntry fid mac s t) d with
      | some (_, d) => logAdd die ⟨fid, mac, some s⟩ (bump .cls die 9 d)
      | none => bump .cls die 10 d
  | .copy fid mac dest =>
    match macFind die fid mac d with
    | some pos => match Map.get? d.cls.mac (tblPos die pos) with
      | some e =>
        if e.lock || e.static || e.pinned then d
        else macSet die pos { e with dest := dest, remote := true, conflicts := 0, age := 0,
                                     lastUpdate := msNow d } d
      | none => d
    | none =>
      match macPlace die { learnedEntry fid mac dest (msNow d) with remote := true } d with
      | some (_, d) => d
      | none => bump .cls die 10 d
  | .remove fid mac =>
    match macFind die fid mac d with
    | some pos => match Map.get? d.cls.mac (tblPos die pos) with
      | some e => if e.remote && !e.lock then macRemove die pos d else d
      | none => d
    | none => d

/-- R273: the sweeper moves every learning time by the step's size. -/
def learnTimeRebase (d : Dev) : Dev :=
  let mv (x : Nat) : Nat := (((x : Int) + d.time.rebase) % 4294967296).toNat
  let d := setMacMap (Map.mapVals d.cls.mac (fun e =>
    { e with lastUpdate := mv e.lastUpdate, firstConflict := mv e.firstConflict, pinUntil := mv e.pinUntil })) d
  { d with time := { d.time with rebase := 0 } }

/-- R189: the engine takes the next event; a learn that meets entries not yet rebased rebases first (R273). -/
def learnInsert (die : Nat) (d : Dev) : Dev :=
  match Map.get d.cls.learnQ die [] with
  | [] => d
  | ev :: rest =>
    let d := if d.time.rebase = 0 then d else learnTimeRebase d
    learnApply die ev { d with cls := { d.cls with learnQ := Map.put d.cls.learnQ die rest } }

def execLearnInsert (die : Fin 4) (s : State) : Host.Outcome State Fault Refusal := onDev (learnInsert die.val) s

/-- R189: the stash entry that is retried next, from entry `k` on and around: the first that is not locked. -/
def Engine.drainNext {α : Type} (g : Engine α) (m : Map α) (k : Nat) : Option Nat :=
  ((List.range 64).map (fun i => (k + i) % 64)).find? (fun s => match Map.get? m (tblPos g.die (stashPos s)) with
    | some e => !g.lock e | none => false)

/-- R189: the place in the main table of the stash entry `s`, if there is one. -/
def Engine.retry {α : Type} (g : Engine α) (m : Map α) (s : Nat) : Option (Placed α) :=
  match Map.get? m (tblPos g.die (stashPos s)) with
  | none => none
  | some e => g.placeMain (Map.del m (tblPos g.die (stashPos s))) e

/-- R189: retry a stash entry into the main table; the entry after it is the next to be tried. -/
def Engine.drain {α : Type} (g : Engine α) (m : Map α) (set : Map α → Dev → Dev) (d : Dev) : Dev :=
  let n := 16 * g.die + g.t.code
  match g.drainNext m (Map.get d.cls.drainAt n 0) with
  | none => d
  | some s =>
    let d := { d with cls := { d.cls with drainAt := Map.put d.cls.drainAt n ((s + 1) % 64) } }
    match g.retry m s with
    | some r => countPlaced g.die r (set r.map d)
    | none => d

/-- Store the SCI table. -/
def setSciMap (m : Map SciEntry) (d : Dev) : Dev := { d with cls := { d.cls with sci := m } }

/-- R189: when no other insertion waits, a stash entry of each table is retried. -/
def stashDrain (die : Nat) (d : Dev) : Dev :=
  if !(Map.get d.cls.learnQ die []).isEmpty then d
  else
    let d := (macEngine die d).drain d.cls.mac setMacMap d
    let d := (sciEngine die d).drain d.cls.sci setSciMap d
    let d := (pfxEngine false die d).drain d.cls.pfx4 (setPfxMap false) d
    (pfxEngine true die d).drain d.cls.pfx6 (setPfxMap true) d

def execStashDrain (die : Fin 4) (s : State) : Host.Outcome State Fault Refusal := onDev (stashDrain die.val) s

/-- R194: one held-back prefix write takes effect, with its sieve counters (R191). -/
def pfxApply (v6 : Bool) (k : Nat) (e : PfxEntry) (d : Dev) : Dev :=
  let die := k / 2 ^ 20
  match e.held with
  | none => d
  | some .deleted => sieveDel v6 die e (setPfxMap v6 (Map.del (pfxMap v6 d) k) d)
  | some .added => sieveAdd v6 die e (setPfxMap v6 (Map.put (pfxMap v6 d) k { e with held := none }) d)
  | some (.changed _ _) => setPfxMap v6 (Map.put (pfxMap v6 d) k { e with held := none }) d

/-- R194: the held-back prefix writes of a die take effect. -/
def prefixWriteApply (die : Nat) (d : Dev) : Dev :=
  let d := (ofDie die d.cls.pfx4).foldl (fun d e => pfxApply false e.1 e.2 d) d
  (ofDie die d.cls.pfx6).foldl (fun d e => pfxApply true e.1 e.2 d) d

def execPrefixWriteApply (die : Fin 4) (s : State) : Host.Outcome State Fault Refusal := onDev (prefixWriteApply die.val) s

/-- R198: one visit of the aging sweeper to one entry. -/
def ageVisit (k : Nat) (e : MacEntry) (d : Dev) : Dev :=
  let die := k / 2 ^ 20
  if e.static || e.lock || e.pinned || e.remote then d
  else if e.age < 3 then macSet die (posOf k) { e with age := e.age + 1 } d
  else bump .cls die 16 (macRemove die (posOf k) d)

/-- R198: line-die ticks at which the next sweep of a die is due: a quarter of the aging time after the last. -/
def sweepDue (die : Nat) (d : Dev) : Nat := Map.get d.cls.sweptAt die 0 + ticksMs (250 * (prm d).agingTime)

/-- R198, R204: the next sweep of a die; the sweeper pauses in SLEEP. -/
def agingSweep (die : Nat) (d : Dev) : Dev :=
  if (prm d).agingTime = 0 ∨ awake d = false then d
  else
    let d := waitLine (sweepDue die d) d
    let d := { d with cls := { d.cls with sweptAt := Map.put d.cls.sweptAt die d.time.lineElapsed } }
    (ofDie die d.cls.mac).foldl (fun d e => ageVisit e.1 e.2 d) d

def execAgingSweep (die : Fin 4) (s : State) : Host.Outcome State Fault Refusal := onDev (agingSweep die.val) s

/-- R196: the clamp of one stored time. -/
def clampMs (n x : Nat) : Nat := if 86400000 < msSince n x then (n + 2 ^ 32 - 86400000) % 2 ^ 32 else x

/-- R197: a pin ends. -/
def unpin (n : Nat) (e : MacEntry) : MacEntry :=
  { e with pinned := false, conflicts := 0, lastUpdate := n, age := 0 }

/-- R196: has pin_until passed? -/
def pinPassed (n : Nat) (e : MacEntry) : Bool := e.pinned && decide (msSince n e.pinUntil < 2 ^ 31)

/-- R196: one visit of the clamp. -/
def clampVisit (n : Nat) (e : MacEntry) : MacEntry :=
  let e := { e with lastUpdate := clampMs n e.lastUpdate, firstConflict := clampMs n e.firstConflict }
  if pinPassed n e then unpin n e else e

/-- R196: the clamp of every entry of a die. -/
def sweeperClamp (die : Nat) (d : Dev) : Dev :=
  if !awake d then d
  else setMacMap (d.cls.mac.map (fun e => if e.1 / 2 ^ 20 = die then (e.1, clampVisit (msNow d) e.2) else e)) d

def execSweeperClamp (die : Fin 4) (s : State) : Host.Outcome State Fault Refusal := onDev (sweeperClamp die.val) s

/-- R197: ms until the first pin of a die ends, if any is pinned. -/
def nextPin (die : Nat) (d : Dev) : Option Nat :=
  (ofDie die d.cls.mac).foldl (fun acc e =>
    if e.2.pinned then
      let w := if pinPassed (msNow d) e.2 then 0 else msSince e.2.pinUntil (msNow d)
      match acc with | none => some w | some a => some (min a w)
    else acc) none

/-- R197: device time reaches pin_until. -/
def pinExpiry (die : Nat) (d : Dev) : Dev :=
  if !awake d then d
  else match nextPin die d with
  | none => d
  | some w =>
    let ms := d.time.grand / (1000000 * unitsPerNs)
    let d := if w = 0 then d else waitUntil ((ms + w) * 1000000 * unitsPerNs) d
    setMacMap (d.cls.mac.map (fun e =>
      if e.1 / 2 ^ 20 = die ∧ pinPassed (msNow d) e.2 = true then (e.1, unpin (msNow d) e.2) else e)) d

/-- R204: pin timers stand still from the entry into SLEEP to the wake. -/
def pausePins (d : Dev) : Dev := { d with cls := { d.cls with sleptAt := some d.time.elapsed } }

/-- R204: pin timers run on: every pin ends later by the time slept. -/
def resumePins (d : Dev) : Dev :=
  match d.cls.sleptAt with
  | none => d
  | some t =>
    let ms := (d.time.elapsed - t) / ticksMs 1
    let d := { d with cls := { d.cls with sleptAt := none } }
    setMacMap (Map.mapVals d.cls.mac (fun e => if e.pinned then { e with pinUntil := (e.pinUntil + ms) % 2 ^ 32 } else e)) d

def execPinExpiry (die : Fin 4) (s : State) : Host.Outcome State Fault Refusal := onDev (pinExpiry die.val) s

def execLearnTimeRebase (s : State) : Host.Outcome State Fault Refusal := onDev learnTimeRebase s

/-- R200: post an event to the insertion engine of a die. -/
def postEngine (die : Nat) (ev : LearnEv) (d : Dev) : Dev :=
  { d with cls := { d.cls with learnQ := Map.put d.cls.learnQ die (Map.get d.cls.learnQ die [] ++ [ev]) } }

/-- The other line dies that can be reached. -/
def otherDies (die : Nat) (d : Dev) : List Nat := (List.range 4).filter (fun k => decide (k ≠ die) && dieUp k d)

/-- R200: the firmware writes a die's changes to the other dies. -/
def unifyPropagate (die : Nat) (d : Dev) : Dev :=
  if !(prm d).learnUnify || !dieUp die d || d.host.fwRestarting then d
  else
    let l := Map.get d.cls.logs die []
    let d := { d with cls := { d.cls with logs := Map.put d.cls.logs die [] } }
    l.foldl (fun d e => (otherDies die d).foldl (fun d k =>
      postEngine k (match e.dest with | some s => .copy e.fid e.mac s | none => .remove e.fid e.mac) d) d) d

def execUnifyPropagate (die : Fin 4) (s : State) : Host.Outcome State Fault Refusal := onDev (unifyPropagate die.val) s

/-- R200: reconcile one die with the others: stale remote entries go, its own learned entries are copied. -/
def resyncDie (die : Nat) (d : Dev) : Dev :=
  let stale := (ofDie die d.cls.mac).filter (fun e => e.2.remote && !e.2.lock &&
    (match macGet (destDie e.2.dest) e.2.fid e.2.mac d with
     | some o => o.remote || decide (o.dest ≠ e.2.dest) | none => true))
  let d := stale.foldl (fun d e => macRemove die (posOf e.1) d) d
  let own := (ofDie die d.cls.mac).filter (fun e => !e.2.remote && !e.2.static)
  bump .cls die 20 (own.foldl (fun d e => (otherDies die d).foldl (fun d k =>
    learnApply k (.copy e.2.fid e.2.mac e.2.dest) d) d) d)

/-- R200: after a log overflow or a firmware restart the firmware reconciles the dies. -/
def unifyResync (d : Dev) : Dev :=
  if !(prm d).learnUnify || d.cls.logLost.isEmpty || d.host.fwRestarting then d
  else
    let d := ((List.range 4).filter (fun k => dieUp k d)).foldl (fun d k => resyncDie k d) d
    { d with cls := { d.cls with logs := [], logLost := [] } }

def execUnifyResync (s : State) : Host.Outcome State Fault Refusal := onDev unifyResync s

end Sys2Proof.Machine
end

