-- ==== Sys2Proof/Machine/Parse.lean ====
section
/-! DEFINITION. Sys2Proof/Machine/Parse.lean: the parser of a line die (R179) and the recognition of PTP (R295). -/
namespace Sys2Proof.Machine

/-- What the parser recognises in a frame (R179). -/
structure Parsed where
  /-- inner tags: TPID and TCI, at most two -/
  tags : List (Nat × Nat)
  etype : Nat
  /-- offset of what follows the EtherType -/
  l3 : Nat
  /-- 0 not IP, 4, 6 -/
  ip : Nat
  l3Error : Bool
  tos : Nat
  src : Nat
  dst : Nat
  /-- IPv4 total length, or IPv6 payload length plus 40 -/
  ipLen : Nat
  /-- offset of a UDP header of a first fragment -/
  udp : Option Nat
  deriving DecidableEq, Repr

/-- R179: up to two tags with TPID 0x8100 or 0x88A8 from an offset. -/
def readTags (bs : Bytes) : Nat → Nat → List (Nat × Nat)
  | 0, _ => []
  | n + 1, off =>
    let t := fldBe bs off 2
    if t = 0x8100 ∨ t = 0x88A8 then (t, fldBe bs (off + 2) 2) :: readTags bs n (off + 4) else []

/-- R179: skip up to two IPv6 extension headers: the header that follows them and its offset. A third one is payload. -/
def skipExt (bs : Bytes) : Nat → Nat → Nat → Nat × Nat
  | 0, nh, off => (nh, off)
  | f + 1, nh, off =>
    if nh = 0 ∨ nh = 43 ∨ nh = 60 then skipExt bs f (fld bs off 1) (off + 8 * (fld bs (off + 1) 1 + 1))
    else (nh, off)

/-- R179: a frame that is not IP. -/
def notIp (tags : List (Nat × Nat)) (et l3 : Nat) (err : Bool) : Parsed := ⟨tags, et, l3, 0, err, 0, 0, 0, 0, none⟩

/-- R179: an IPv4 header. -/
def parse4 (tags : List (Nat × Nat)) (l3 lim : Nat) (bs : Bytes) : Parsed :=
  let ihl := fld bs l3 1 % 16
  let tot := fldBe bs (l3 + 2) 2
  let l4 := l3 + 4 * ihl
  if fld bs l3 1 / 16 ≠ 4 ∨ ihl < 5 ∨ tot < 4 * ihl ∨ lim < l4 then notIp tags 0x0800 l3 true
  else ⟨tags, 0x0800, l3, 4, false, fld bs (l3 + 1) 1, fldBe bs (l3 + 12) 4, fldBe bs (l3 + 16) 4, tot,
    if fld bs (l3 + 9) 1 = 17 ∧ fldBe bs (l3 + 6) 2 % 8192 = 0 ∧ l4 + 8 ≤ lim then some l4 else none⟩

/-- R179: an IPv6 header. -/
def parse6 (tags : List (Nat × Nat)) (l3 lim : Nat) (bs : Bytes) : Parsed :=
  let ext := skipExt bs 2 (fld bs (l3 + 6) 1) (l3 + 40)
  if fld bs l3 1 / 16 ≠ 6 ∨ lim < ext.2 then notIp tags 0x86DD l3 true
  else ⟨tags, 0x86DD, l3, 6, false, bits (fldBe bs l3 2) 4 8, fldBe bs (l3 + 8) 16, fldBe bs (l3 + 24) 16,
    fldBe bs (l3 + 4) 2 + 40,
    if ext.1 = 17 ∧ ext.2 + 8 ≤ lim then some ext.2 else none⟩

/-- R179: parse a frame, from its destination MAC, FCS excluded. -/
def parse (bs : Bytes) : Parsed :=
  let tags := readTags bs 2 12
  let o := 12 + 4 * tags.length
  let et := fldBe bs o 2
  let lim := min 192 bs.length
  if et = 0x0800 then parse4 tags (o + 2) lim bs
  else if et = 0x86DD then parse6 tags (o + 2) lim bs
  else notIp tags et (o + 2) false

/-- R183: the first inner tag, where its TPID is recognised. -/
def Parsed.tag (p : Parsed) (ad : Bool) : Option Nat :=
  match p.tags with
  | (t, tci) :: _ => if t = 0x8100 ∨ ad = true then some tci else none
  | [] => none

/-- R179: DSCP. -/
def Parsed.dscp (p : Parsed) : Nat := p.tos / 4

/-- R246: is the frame IP with an ECN field other than 0? -/
def Parsed.ect (p : Parsed) : Bool := decide (p.ip ≠ 0 ∧ p.tos % 4 ≠ 0)

/-- The destination port of a UDP frame. -/
def Parsed.dport (p : Parsed) (bs : Bytes) : Option Nat := p.udp.map (fun o => fldBe bs (o + 2) 2)

/-- R95: the EtherType after any tags. -/
def Parsed.vid (p : Parsed) : Option Nat := match p.tags with | (_, tci) :: _ => some (tci % 4096) | [] => none

/-! ### PTP (R295) -/

/-- A PTP message in a frame: offset of its header, transport (0 Ethernet, 4, 6), is it on port 320? -/
structure PtpRef where
  off : Nat
  udp : Nat
  general : Bool
  /-- bytes available to the message -/
  room : Nat
  deriving DecidableEq, Repr

/-- R295: is the frame a PTP message? -/
def ptpRef (bs : Bytes) : Option PtpRef :=
  let p := parse bs
  if p.etype = 0x88F7 then some ⟨p.l3, 0, false, bs.length - p.l3⟩
  else
    match p.udp with
    | some o =>
      let dp := fldBe bs (o + 2) 2
      let ul := fldBe bs (o + 4) 2
      if dp = 319 ∨ dp = 320 then some ⟨o + 8, p.ip, decide (dp = 320), min (ul - 8) (bs.length - (o + 8))⟩ else none
    | none => none

/-- The message type. -/
def ptpType (bs : Bytes) (r : PtpRef) : Nat := fld bs r.off 1 % 16

/-- R295: an event message. -/
def ptpEvent (bs : Bytes) (r : PtpRef) : Bool := !r.general && decide (ptpType bs r < 4)

/-- The fixed length of a message type (IEEE 1588-2019). -/
def ptpFixed (t : Nat) : Nat :=
  match t with
  | 0 => 44 | 1 => 44 | 2 => 54 | 3 => 54 | 8 => 44 | 9 => 54 | 10 => 54 | 11 => 64 | 12 => 44 | 13 => 48 | _ => 34

/-- R295: does the device process the message? -/
def ptpWellFormed (bs : Bytes) (r : PtpRef) : Bool :=
  let v := fld bs (r.off + 1) 1
  let len := fldBe bs (r.off + 2) 2
  decide (v % 16 = 2 ∧ v / 16 < 2 ∧ ptpFixed (ptpType bs r) ≤ len ∧ len ≤ r.room)

/-- A 64-bit correctionField, signed. -/
def ptpCorr (bs : Bytes) (r : PtpRef) : Int := toSigned 64 (fldBe bs (r.off + 8) 8)

/-- The sequenceId. -/
def ptpSeq (bs : Bytes) (r : PtpRef) : Nat := fldBe bs (r.off + 30) 2

/-- The sourcePortIdentity: clockIdentity and portNumber. -/
def ptpSource (bs : Bytes) (r : PtpRef) : Nat × Nat := (fldBe bs (r.off + 20) 8, fldBe bs (r.off + 28) 2)

/-- The originTimestamp field: seconds and nanoseconds, as a count of ns. -/
def ptpOrigin (bs : Bytes) (r : PtpRef) : Nat := fldBe bs (r.off + 34) 6 * 1000000000 + fldBe bs (r.off + 40) 4

/-- R299: a correction sum, saturated; the flag says whether it saturated. -/
def corrSum (corr : Int) (terms : Int) : Int × Bool :=
  if corr = 0x7FFFFFFFFFFFFFFF then (corr, false)
  else
    let s := corr + terms
    if 2 ^ 63 - 1 < s ∨ s < -(2 ^ 63) then (0x7FFFFFFFFFFFFFFF, true) else (s, false)

/-- R298: a residence time in 2^-16 ns from a difference in 2^-32 ns, ties upward. -/
def residence (diff : Int) : Int := (diff + 32768) / 65536

/-- 16-bit one's-complement addition. -/
def ones (a b : Nat) : Nat := let s := a + b; (s + s / 65536) % 65536

/-- R247: HC' of an IPv4 header whose word m becomes m'. -/
def checksumUpdate (hc m m' : Nat) : Nat := 65535 - ones (ones (65535 - hc) (65535 - m)) m'

/-- R247: set CE in a frame. -/
def setCe (bs : Bytes) : Bytes :=
  let p := parse bs
  if p.ip = 4 then
    let m := fldBe bs p.l3 2
    let m' := m ||| 3
    splice (splice bs p.l3 (be 2 m')) (p.l3 + 10) (be 2 (checksumUpdate (fldBe bs (p.l3 + 10) 2) m m'))
  else if p.ip = 6 then splice bs p.l3 (be 2 (fldBe bs p.l3 2 ||| 0x30))
  else bs

end Sys2Proof.Machine
end

