-- ==== Sys2Proof/Machine/Sched.lean ====
section
/-! DEFINITION. Sys2Proof/Machine/Sched.lean: meters, shapers, start tags, admission to queues and storage
(R213 to R215, R228, R242 to R258). -/
namespace Sys2Proof.Machine

/-! ### Token buckets (R248 to R251, R256) -/

/-- One byte of TOK48. -/
def tok (bytes : Nat) : Int := (bytes * 65536 : Nat)

/-- R256: refill one bucket: rate, burst in bytes, tokens and residue. -/
def refill (rate burst : Nat) (t : Int) (rho : Nat) : Int × Nat :=
  let sum := rate * 512 + rho
  let t' := t + (sum / 65536 : Nat)
  if tok burst < t' then (tok burst, 0) else (t', sum % 65536)

/-- The shaper of a place in the set in force. -/
def shaperPrm (k : Nat) (d : Dev) : Option ShaperPrm := Map.get? (prm d).shapers k

/-- R250: the buckets of a shaper; an unlisted one is full. -/
def shaperBuckets (k : Nat) (d : Dev) : Buckets :=
  match Map.get? d.que.shapers k with
  | some b => b
  | none => match shaperPrm k d with | some p => ⟨tok p.cbs, tok p.pbs, 0, 0⟩ | none => ⟨0, 0, 0, 0⟩

/-- The buckets of a meter. -/
def meterBuckets (k : Nat) (p : MeterPrm) (d : Dev) : Buckets := Map.get d.que.meters k ⟨tok p.cbs, tok p.burst2, 0, 0⟩

/-- R256: refill every bucket of a die. -/
def refillDie (die : Nat) (d : Dev) : Dev :=
  let sh := d.que.shapers.map (fun e =>
    if e.1 / 65536 = die then match shaperPrm e.1 d with
      | some p =>
        let c := refill p.cir p.cbs e.2.c e.2.cRes
        let q := refill p.pir p.pbs e.2.p e.2.pRes
        (e.1, ⟨c.1, q.1, c.2, q.2⟩)
      | none => e
    else e)
  let me := d.que.meters.map (fun e =>
    if e.1 / 65536 = die then match Map.get? (prm d).meters e.1 with
      | some p =>
        let c := refill p.cir p.cbs e.2.c e.2.cRes
        let q := refill p.rate2 p.burst2 e.2.p e.2.pRes
        (e.1, ⟨c.1, q.1, c.2, q.2⟩)
      | none => e
    else e)
  let eb := d.act.eggBucket.map (fun e =>
    if e.1 = die then (e.1, refill 0x0320000000 1048576 e.2.1 e.2.2) else e)
  { d with que := { d.que with shapers := sh, meters := me }, act := { d.act with eggBucket := eb } }

def execBucketRefill (die : Fin 4) (s : State) : Host.Outcome State Fault Refusal := onDev (refillDie die.val) s

/-- A meter's colours. -/
inductive Colour where
  | green | yellow | red
  deriving DecidableEq, Repr

/-- R249: a meter's decision on `b` bytes of an incoming colour: colour and tokens after. -/
def meterJudge (mode : Nat) (inc : Colour) (b : Nat) (tc t2 : Int) : Colour × Int × Int :=
  let n := tok b
  if mode = 1 then
    if inc = .red ∨ t2 < n then (.red, tc, t2)
    else if inc = .yellow ∨ tc < n then (.yellow, tc, t2 - n)
    else (.green, tc - n, t2 - n)
  else if inc = .green ∧ n ≤ tc then (.green, tc - n, t2)
  else if inc ≠ .red ∧ n ≤ t2 then (.yellow, tc, t2 - n)
  else (.red, tc, t2)

/-- R248: the incoming colour of a frame. -/
def inColour (p : MeterPrm) (die : Nat) (ad : Bool) (s : SetParams) (data : Bytes) : Colour :=
  let h := parse data
  match p.colour with
  | 1 => match h.tag ad with | some tci => if bit tci 12 then .yellow else .green | none => .green
  | 2 => if h.ip = 0 then .green else
      match Map.get s.dscpColour (64 * die + h.dscp) 0 with | 1 => .yellow | 2 => .red | _ => .green
  | _ => .green

/-! ### Tags and virtual times (R18, R253, R254) -/

/-- R18: a precedes b over 64 bits. -/
def precedes64 (a b : Nat) : Bool :=
  let x := (b + 2 ^ 64 - a % 2 ^ 64) % 2 ^ 64
  decide (1 ≤ x ∧ x < 2 ^ 63)

/-- R253: the inverse weight. -/
def invWeight (w : Nat) : Nat := 2 ^ 32 / w

/-- R253: the start tag of an entry that becomes backlogged. -/
def wakeTag (v : Nat) (fprev : Option Nat) : Nat := match fprev with | some f => if precedes64 v f then f else v | none => v

/-- R253: the finish tag. -/
def finishTag (s charged w : Nat) : Nat := (s + charged * invWeight w) % 2 ^ 64

/-- A class that has never been backlogged. -/
def ClassSt.init : ClassSt := ⟨0, none, 0⟩

/-- The class state of a port. -/
def classSt (p c : Nat) (d : Dev) : ClassSt := Map.get d.que.classes (8 * p + c) ClassSt.init

/-- Store the class state of a port. -/
def setClassSt (p c : Nat) (x : ClassSt) (d : Dev) : Dev :=
  { d with que := { d.que with classes := Map.put d.que.classes (8 * p + c) x } }

/-- V_p of a port. -/
def vpOf (p : Nat) (d : Dev) : Nat := Map.get d.que.vp p 0

/-- R242: the settings of a frame's queue in the frame's set (R72). -/
def frameQueue (f : Frame) (d : Dev) : Option QueuePrm := Map.get? (prmOf f.gen d).queues f.queue

/-- R257: the port and class a queue sends on now: those of its head frame's set. -/
def queueHead (q : Queue) (d : Dev) : Option (Frame × QueuePrm) :=
  match q.frames with
  | [] => none
  | f :: _ => match frameQueue f d with | some p => some (f, p) | none => none

/-- The backlogged queues of a port: place, queue, head frame and its settings. -/
def portQueues (p : Nat) (d : Dev) : List (Nat × Queue × Frame × QueuePrm) :=
  d.que.queues.filterMap (fun e => match queueHead e.2 d with
    | some (f, x) => if x.port = p then some (e.1, e.2, f, x) else none
    | none => none)

/-- Does a class of a port hold frames? -/
def classBacklog (p c : Nat) (d : Dev) : Bool := (portQueues p d).any (fun e => decide (e.2.2.2.cls = c))

/-- R253: a class with no backlogged queue wakes. -/
def wakeClass (x : QueuePrm) (d : Dev) : Dev :=
  if classBacklog x.port x.cls d then d
  else
    let c := classSt x.port x.cls d
    setClassSt x.port x.cls { c with tag := wakeTag (vpOf x.port d) c.fprev } d

/-- R253: an empty class and an empty queue wake with the frame that enters. -/
def wake (q : Nat) (x : QueuePrm) (d : Dev) : Dev :=
  let d := wakeClass x d
  let y := queueAt q d
  if y.frames.isEmpty then setQueue q { y with tag := wakeTag (classSt x.port x.cls d).vc y.fprev } d else d

/-- R242: the port and class that a queue sends on. -/
def queuePlace (q : Nat) (d : Dev) : Option (Nat × Nat) := (queueHead (queueAt q d) d).map (fun e => (e.2.port, e.2.cls))

/-- R253, R257: a queue whose head now belongs to another port or class becomes backlogged there: its tags were of another
level's virtual time. -/
def joinClass (was : Option (Nat × Nat)) (q : Nat) (d : Dev) : Dev :=
  let y := queueAt q d
  match queueHead y d with
  | none => d
  | some (_, x) =>
    if was = some (x.port, x.cls) then d
    else
      let d := wakeClass x (setQueue q { y with frames := [] } d)
      setQueue q { y with tag := (classSt x.port x.cls d).vc, fprev := none } d

/-- R253, R257: the same for every queue that held frames before. -/
def rejoin (before d : Dev) : Dev :=
  before.que.queues.foldl (fun d e => joinClass (queuePlace e.1 before) e.1 d) d

/-- R254: the sweeper invalidates F_prev of empty entries that V no longer precedes. -/
def sfqIdleSweep (die : Nat) (d : Dev) : Dev :=
  let qs := d.que.queues.map (fun e =>
    if queueDie e.1 = die && e.2.frames.isEmpty then
      match Map.get? (prm d).queues e.1, e.2.fprev with
      | some x, some f => if precedes64 (classSt x.port x.cls d).vc f then e else (e.1, { e.2 with fprev := none })
      | _, _ => e
    else e)
  let cs := d.que.classes.map (fun e =>
    if portDie (e.1 / 8) = die && !classBacklog (e.1 / 8) (e.1 % 8) d then
      match e.2.fprev with
      | some f => if precedes64 (vpOf (e.1 / 8) d) f then e else (e.1, { e.2 with fprev := none })
      | none => e
    else e)
  { d with que := { d.que with queues := qs, classes := cs } }

def execSfqIdleSweep (die : Fin 4) (s : State) : Host.Outcome State Fault Refusal := onDev (sfqIdleSweep die.val) s

/-! ### The stockpot's share of storage (R214, R215, R351, R366) -/

/-- Blocks in one region. -/
def regionBlocks : Nat := 131072

/-- The state of a region; before its training none is in service. -/
def region (r : Nat) (d : Dev) : Region :=
  Map.get d.mem.regions r ⟨(prm d).regionMap.getD r 4, .heldOut, [], [], 0, [], none, none⟩

/-- R368, R370: the state of a region as it counts: after TZERO a region in service is rebuilding until the tree stands. -/
def shownState (r : Nat) (d : Dev) : RegionState :=
  if (region r d).state = .inService ∧ d.time.elapsed < d.mem.rebuildUntil then .rebuilding else (region r d).state

/-- Store a region. -/
def setRegion (r : Nat) (x : Region) (d : Dev) : Dev := { d with mem := { d.mem with regions := Map.put d.mem.regions r x } }

/-- R215: the owner of a region in the set in force: line die, or 4 for the egg-timer pool. -/
def regionOwner (r : Nat) (d : Dev) : Nat := (prm d).regionMap.getD r 4

/-- The blocks that frames hold. -/
def usedBlocks (d : Dev) : List Nat := (allFrames d).flatMap (·.blocks) ++ d.act.egg.flatMap (·.frame.blocks)

/-- R351: the owners whose frames a region holds (line die of the queue, 4 for held frames). -/
def regionUsers (r : Nat) (d : Dev) : List Nat :=
  (allFrames d).filterMap (fun f => if f.blocks.any (fun b => decide (b / regionBlocks = r)) then some (queueDie f.queue) else none)
  ++ d.act.egg.filterMap (fun h => if h.frame.blocks.any (fun b => decide (b / regionBlocks = r)) then some 4 else none)

/-- R351, R362, R366, R368: may the owner allocate from the region? -/
def regionOpen (owner r : Nat) (d : Dev) : Bool :=
  decide (shownState r d = .inService ∧ regionOwner r d = owner) &&
    (regionUsers r d).all (fun u => decide (u = owner))

/-- Free blocks of an owner: `n` of them, lowest first, if there are as many. -/
def allocBlocks (owner n : Nat) (d : Dev) : Option (List Nat) :=
  let used := usedBlocks d
  let free := ((List.range 128).filter (fun r => regionOpen owner r d)).flatMap (fun r =>
    ((List.range regionBlocks).map (fun i => r * regionBlocks + i)).filter (fun b => !used.contains b))
  if n ≤ (free.take n).length then some (free.take n) else none

/-- R353: the blocks a frame's bytes fill, frame header included. -/
def frameBlocks (f : Frame) : Nat := (f.data.length + 4 + 8 + 511) / 512

/-- R353: gather a frame's blocks for writing: the frame header (zero here), the bytes, zeros to the end. -/
def gatherBlocks (f : Frame) (bl : List Nat) (d : Dev) : Dev :=
  let bytes := zeros 8 ++ f.data
  { d with mem := { d.mem with
    writes := d.mem.writes ++ (List.range bl.length).map (fun i => (bl.getD i 0, slice bytes (512 * i) 512)) } }

/-! ### The memory cipher's share (R216) -/

/-- R216: Gb/s that fabric traffic leaves of a die's link in a direction: the channels with no cell queued. -/
def linkRoom (die : Nat) (toHub : Bool) (d : Dev) : Nat :=
  256 * ((List.range 4).filter (fun ch => d.fab.voq.all (fun e =>
    if toHub then decide (e.src ≠ die ∨ e.inChan ≠ ch) else !e.dsts.contains die || decide (e.outChan ≠ ch)))).length

/-- R216: a capacity divided equally among those that ask; what one cannot use goes to the others. -/
def fairShares : Nat → Nat → List (Nat × Nat) → Map Nat
  | 0, _, _ => []
  | n + 1, total, asks =>
    let share := total / asks.length
    let small := asks.filter (fun a => decide (a.2 ≤ share))
    if small.isEmpty then asks.map (fun a => (a.1, share))
    else small ++ fairShares n (total - (small.map (·.2)).sum) (asks.filter (fun a => decide (share < a.2)))

/-- R216: spill bytes that a die's share of the memory cipher has still to carry: written and read. -/
def owedBytes (die : Nat) (d : Dev) : Nat × Nat := Map.get d.mem.owed die (0, 0)

/-- R216: Gb/s that a die can use: what its link leaves for what it has to write and to read. -/
def spillAsk (die : Nat) (d : Dev) : Nat :=
  (if (owedBytes die d).1 = 0 then 0 else linkRoom die true d) + (if (owedBytes die d).2 = 0 then 0 else linkRoom die false d)

/-- R216: the rates at which the dies write and read, in Gb/s, writes first. -/
def spillRates (d : Dev) : List (Nat × Nat × Nat) :=
  let asks := ([0, 1, 2, 3].map (fun k => (k, spillAsk k d))).filter (fun a => decide (a.2 ≠ 0))
  (fairShares 4 3072 asks).map (fun a =>
    let w := if (owedBytes a.1 d).1 = 0 then 0 else min a.2 (linkRoom a.1 true d)
    let r := if (owedBytes a.1 d).2 = 0 then 0 else min (a.2 - w) (linkRoom a.1 false d)
    (a.1, w, r))

/-- R216: carry owed bytes over a time in grand ticks; at each step the rates stand until one demand is met. -/
def carryOwed : Nat → Nat → Dev → Dev
  | 0, _, d => d
  | n + 1, dt, d =>
    let rs := spillRates d
    let ends := rs.flatMap (fun a => (if a.2.1 = 0 then [] else [ceilDiv ((owedBytes a.1 d).1 * 10) a.2.1])
      ++ (if a.2.2 = 0 then [] else [ceilDiv ((owedBytes a.1 d).2 * 10) a.2.2]))
    let step := ends.foldl min dt
    if step = 0 ∨ ends = [] then d
    else
      let owed := rs.foldl (fun m a =>
        let o := owedBytes a.1 d
        Map.put m a.1 (o.1 - a.2.1 * step / 10, o.2 - a.2.2 * step / 10)) d.mem.owed
      carryOwed n (dt - step) { d with mem := { d.mem with owed := owed } }

/-- R216: bring the owed bytes up to now. -/
def settleSpill (d : Dev) : Dev :=
  let d := carryOwed 8 (d.time.elapsed - d.mem.owedAt) d
  { d with mem := { d.mem with owedAt := d.time.elapsed } }

/-- R216: a die has more to write and to read. -/
def oweSpill (die write read : Nat) (d : Dev) : Dev :=
  let d := settleSpill d
  let o := owedBytes die d
  { d with mem := { d.mem with owed := Map.put d.mem.owed die (o.1 + write, o.2 + read) } }

/-- R213: the reception headroom of a line die, in bytes. -/
def headroom : Nat := 2097152

/-- R214, R216: is the die's spill bandwidth saturated: what it still has to write fills the reception headroom? -/
def spillSaturated (die n : Nat) (d : Dev) : Bool := decide (headroom < (owedBytes die (settleSpill d)).1 + n)

/-- R214: is a frame to go to the stockpot? -/
def wantsSpill (die q : Nat) (f : Frame) (x : QueuePrm) (d : Dev) : Bool :=
  decide (0 < queueSpilled q d) || decide (x.onDie < queueBytes q d - queueSpilled q d + f.adm) ||
    decide (Map.get (prmOf f.gen d).spillWatermark die 35651584 < 256 * poolUnits die d)

/-- R227: the copies on a die that were made from the same stored frame. -/
def siblings (die : Nat) (f : Frame) (d : Dev) : List Frame := (dieFrames die d).filter (fun g => decide (g.stored = f.stored))

/-- R213, R227: has the shared queue pool of 34 MiB room for a frame? A copy of a frame that is stored there needs none. -/
def poolFits (die : Nat) (f : Frame) (d : Dev) : Bool :=
  (siblings die f d).any (fun g => !g.spilled) || decide (256 * (poolUnits die d + frameUnits f) ≤ 35651584)

/-- R214, R227: put a frame into the stockpot: into free blocks of the die, or into those that a copy of it already fills. With
the pool full, a die whose spill bandwidth is saturated cannot. -/
def spillFrame (die : Nat) (f : Frame) (d : Dev) : Option (Frame × Dev) :=
  let put (bl : List Nat) (d : Dev) : Frame × Dev :=
    ({ f with blocks := bl, whole := true }, bump .fab die 2 (if f.whole then d else bump .fab die 3 d))
  match (siblings die f d).find? Frame.spilled with
  | some g => some (put g.blocks d)
  | none =>
    let n := 512 * frameBlocks f
    if !poolFits die f d && spillSaturated die n d then none
    else (allocBlocks die (frameBlocks f) d).map (fun bl => put bl (oweSpill die n 0 (gatherBlocks f bl d)))

/-- R214, R222: store an admitted frame: on the die or in the stockpot, or nowhere. A queue that has spilled stores nothing on
the die. -/
def storeFrame (die q : Nat) (f : Frame) (x : QueuePrm) (d : Dev) : Option (Frame × Dev) :=
  let onDie : Option (Frame × Dev) := if poolFits die f d then some (f, d) else none
  if wantsSpill die q f x d then
    match spillFrame die f d with
    | some r => some r
    | none => if 0 < queueSpilled q d then none else onDie
  else match onDie with
    | some r => some r
    | none => spillFrame die f d

/-! ### Admission (R245 to R247) -/

/-- R246: count a frame dropped at admission, in its queue and in a QUE_CNT counter. -/
def queueDrop (q slot : Nat) (d : Dev) : Dev := bump .que (queueDie q) slot (bump .queue q 2 d)

/-- How admission ends. -/
inductive Admission where
  | admitted (d : Dev)
  /-- refused at steps 3 to 5, with the counter that a drop takes -/
  | refused (slot : Nat) (f : Frame) (d : Dev)
  /-- dropped and counted -/
  | dropped (d : Dev)

/-- R243: the queue-map entry of a frame's destination object in a set. -/
def objQMap (s : SetParams) (dest : Nat) : QMap :=
  if dest / 2 ^ 28 = 2 then
    match Map.get? s.secys (2048 * destDie dest + bits dest 0 11) with | some p => p.qmap | none => {}
  else match destPort dest with
    | some p => match Map.get? s.ports p with | some x => x.qmap | none => {}
    | none => {}

/-- R243, R246 step 2: the meter of a frame's object. -/
def frameMeter (f : Frame) (d : Dev) : Option Nat :=
  let m := objQMap (prmOf f.gen d) f.dest
  match m.meterMode with
  | 1 => some (65536 * destDie f.dest + m.meterBase)
  | 2 => some (65536 * destDie f.dest + m.meterBase + f.cls)
  | _ => none

/-- Is TPID 0x88A8 recognised by the frame's ingress source (R183)? -/
def frameAd (f : Frame) (s : SetParams) : Bool :=
  if f.source / 2 ^ 28 = 2 then
    match Map.get? s.secys (2048 * destDie f.source + bits f.source 0 11) with | some p => p.ingress.innerAd | none => false
  else match Map.get? s.ports f.inPort with | some x => x.ingress.innerAd | none => false

/-- R249: meter a frame: its colour, and the state with the meter's buckets and counts. -/
def meterFrame (f : Frame) (d : Dev) : Colour × Dev :=
  match frameMeter f d with
  | none => (.green, d)
  | some k =>
    let s := prmOf f.gen d
    match Map.get? s.meters k with
    | none => (.green, d)
    | some p =>
      let b := meterBuckets k p d
      let r := meterJudge p.mode (inColour p (k / 65536) (frameAd f s) s f.data) f.adm b.c b.p
      let d := { d with que := { d.que with meters := Map.put d.que.meters k { b with c := r.2.1, p := r.2.2 } } }
      (r.1, bump .meter k (match r.1 with | .green => 0 | .yellow => 1 | .red => 2) d)

/-- R246 steps 5 and 6, R247: mark an ECN-capable frame. -/
def markFrame (q : Nat) (f : Frame) (d : Dev) : Frame × Dev :=
  if (parse f.data).tos % 4 = 3 then (f, d)
  else ({ f with data := setCe f.data }, bump .que (queueDie q) 5 (bump .queue q 3 d))

/-- R242, R257: the frame is of a set under which the queue has another port or class than the frames it holds. -/
def rehomes (q : Nat) (x : QueuePrm) (d : Dev) : Bool :=
  match queueHead (queueAt q d) d with
  | some (_, y) => decide (y.port ≠ x.port ∨ y.cls ≠ x.cls)
  | none => false

/-- R246 step 7: store and enqueue. -/
def enqueue (q : Nat) (f : Frame) (x : QueuePrm) (d : Dev) : Admission :=
  let die := queueDie q
  match storeFrame die q f x d with
  | none => .dropped (bump .fab die 1 (bump .queue q 2 d))
  | some (f, d) =>
    let d := if rehomes q x d then bump .que die 9 d else wake q x d
    let y := queueAt q d
    let d := setQueue q { y with frames := y.frames ++ [f] } d
    let d := bumpBy .queue q 1 f.adm (bump .queue q 0 (bump .que die 0 d))
    .admitted (if f.copy then bump .fport x.port 0 (bump .fab die 6 d) else d)

/-- R246 steps 3 to 7, with the colour that step 2 gave. A retry of a residue copy leaves step 6 out. -/
def admitColoured (retry : Bool) (q : Nat) (f : Frame) (x : QueuePrm) (c : Colour) (d : Dev) : Admission :=
  let n := queueBytes q d + f.adm
  let ect := x.ecnEnable && (parse f.data).ect
  if x.limit < n then .refused 1 f d
  else if c = .yellow ∧ x.yellowThreshold < n then .refused 3 f d
  else if x.dropThreshold < n then
    if ect then let r := markFrame q f d; enqueue q r.1 x r.2 else .refused 2 f d
  else if !retry && ect && decide (x.ecnThreshold < n) then let r := markFrame q f d; enqueue q r.1 x r.2
  else enqueue q f x d

/-- R228: does a residue copy wait for a queue? -/
def residueWaits (q : Nat) (d : Dev) : Bool := d.fab.residues.any (fun r => decide (r.frame.queue = q))

/-- R228: the residue lifetime of a class in grand ticks. -/
def residueTicks (f : Frame) (d : Dev) : Nat := ticksUs (Map.get (prmOf f.gen d).residueLifetime f.cls 1000)

/-- R228: a refused copy becomes residue, or is dropped at once when the lifetime is 0. -/
def toResidue (q : Nat) (f : Frame) (d : Dev) : Dev :=
  let die := queueDie q
  let life := residueTicks f d
  if life = 0 ∨ f.stomp.isSome = true then
    bump .fab die 7 (match frameQueue f d with | some x => bump .fport x.port 1 d | none => d)
  else { d with fab := { d.fab with residues := d.fab.residues ++
    [⟨die, { f with whole := true, adm := f.data.length + 4 }, d.time.elapsed + life⟩] } }

/-- R246: put a frame into its queue on the die of its queue. -/
def enterQueue (f : Frame) (d : Dev) : Dev :=
  let q := f.queue
  match frameQueue f d with
  | none => queueDrop q 6 d
  | some x =>
    let (c, d) := meterFrame f d
    if c = .red then queueDrop q 4 d
    else if residueWaits q d then (if f.copy then toResidue q { f with yellow := decide (c = .yellow) } d else queueDrop q 1 d)
    else match admitColoured false q f x c d with
      | .admitted d => d
      | .dropped d => d
      | .refused slot f d => if f.copy then toResidue q { f with yellow := decide (c = .yellow) } d else queueDrop q slot d

/-- R246: the colour of a residue copy. -/
def residueColour (f : Frame) : Colour := if f.yellow then .yellow else .green

/-- R228: a residue copy tries its queue again: the state in which it has entered, if it is admitted. Its colour is that of its
first attempt (R246). -/
def residueTry (r : Residue) (d : Dev) : Option Dev :=
  match frameQueue r.frame d with
  | none => none
  | some x =>
    match admitColoured true r.frame.queue r.frame x (residueColour r.frame) d with
    | .admitted d => some d
    | _ => none

/-- R228: the residue copies of a die that are the first of their queues. -/
def residueHeads (die : Nat) : List Residue → List Residue
  | [] => []
  | r :: rs => if r.die = die then r :: (residueHeads die rs).filter (fun x => decide (x.frame.queue ≠ r.frame.queue))
    else residueHeads die rs

/-- R228: of the first residue copies of a die's queues, the oldest that its queue admits enters it. -/
def residueEnter (die : Nat) (d : Dev) : Dev :=
  match (residueHeads die d.fab.residues).find? (fun r => (residueTry r d).isSome) with
  | none => d
  | some r =>
    let d := (residueTry r d).getD d
    { d with fab := { d.fab with residues := d.fab.residues.filter (fun e => e.frame.id ≠ r.frame.id) } }

def execResidueEnqueue (die : Fin 4) (s : State) : Host.Outcome State Fault Refusal := onDev (residueEnter die.val) s

/-- R228: the oldest residue copy of a die ends its lifetime: it is dropped and counted. -/
def residueExpiry (die : Nat) (d : Dev) : Dev :=
  match d.fab.residues.find? (fun r => decide (r.die = die)) with
  | none => d
  | some r0 =>
    let first := d.fab.residues.foldl (fun a r => if r.die = die ∧ r.deadline < a.deadline then r else a) r0
    let d := waitTicks first.deadline d
    let d := { d with fab := { d.fab with residues := d.fab.residues.filter (fun e => e.frame.id ≠ first.frame.id) } }
    bump .fab die 7 (match frameQueue first.frame d with | some x => bump .fport x.port 1 d | none => d)

def execResidueLifetimeExpiry (die : Fin 4) (s : State) : Host.Outcome State Fault Refusal :=
  onDev (residueExpiry die.val) s

end Sys2Proof.Machine
end

