-- ==== Sys2Proof/Machine/Operands.lean ====
section
/-! DEFINITION. Sys2Proof/Machine/Operands.lean: the target field of a command and the scopes a command accepts
(R23, R24, R35, R440). -/
namespace Sys2Proof.Machine

/-- What a target names. -/
inductive Target where
  | device
  | die (n : Nat)
  | port (p : Nat)
  deriving DecidableEq, Repr

/-- R24.1: a scope a command accepts: the device, dies of given codes, ports of given kinds. -/
inductive Scope where
  | device
  | dies (codes : List Nat)
  | ports (kinds : List Nat)
  deriving DecidableEq, Repr

/-- R23: the die codes that are not reserved. -/
def dieCodes : List Nat := [0, 1, 2, 3, 8, 9, 10, 11, 15]

/-- R24.3: the number of ports of a kind. -/
def kindCount (kind : Nat) : Nat :=
  match kind with | 1 => 16 | 2 => 16 | 3 => 64 | 4 => 1 | 5 => 1 | _ => 0

/-- The port number of a kind and an index. -/
def portOf (kind idx : Nat) : Nat :=
  match kind with | 1 => idx | 2 => 16 + idx | 3 => 32 + idx | 4 => 96 | _ => 97

/-- Does a scope accept a die code and port kind? -/
def Scope.admits (sc : Scope) (die kind : Nat) : Bool :=
  match sc with
  | .device => decide (die = 15 ∧ kind = 0)
  | .dies cs => decide (kind = 0 ∧ die ∈ cs)
  | .ports ks => decide (kind ∈ ks)

/-- R24.4: is the port formed under the set in force (R510 with none)? The twin link and MGT always are. -/
def formed (p : Nat) (d : Dev) : Bool := decide (p = 96 ∨ p = 97) || Map.has (prm d).ports p

/-- R24.5: is the die of this code present and connected? -/
def dieReachable (die : Nat) (d : Dev) : Bool :=
  if die < 4 then dieUp die d else if die = 9 then vaultUp d else true

/-- R23, R24: read a target, or the status of the first check it fails. -/
def readTarget (scopes : List Scope) (t : Nat) (d : Dev) : Except Status Target :=
  let die := bits t 28 4
  let kind := bits t 24 4
  let idx := bits t 16 8
  if bits t 0 16 ≠ 0 ∨ die ∉ dieCodes ∨ 5 < kind then .error .badField
  else if !(scopes.any (·.admits die kind)) then .error .badField
  else if kind = 0 then
    if idx ≠ 0 then .error .badField
    else if die = 15 then .ok .device
    else if dieReachable die d then .ok (.die die) else .error .badState
  else
    let p := portOf kind idx
    if idx < kindCount kind ∧ (die = 15 ∨ die = portDie p) then
      if !formed p d then .error .badState
      else if dieReachable (portDie p) d then .ok (.port p) else .error .badState
    else .error .badField

/-- R440: does a target need a line die or a port, which SLEEP does not offer? -/
def Target.needsAwake : Target → Bool
  | .device => false
  | .die n => decide (n < 4)
  | .port _ => true

/-- The port of a port target. -/
def Target.portNo : Target → Nat
  | .port p => p
  | _ => 0

/-- The line die of a target. -/
def Target.dieNo : Target → Nat
  | .device => 15
  | .die n => n
  | .port p => portDie p

end Sys2Proof.Machine
end

