-- ==== Sys2Proof/Machine/Mailbox.lean ====
section
/-! DEFINITION. Sys2Proof/Machine/Mailbox.lean: how the device takes a mailbox command: the exchange (R48), duplicates
(R49), the order of the checks (R509), authorization (R56 to R59) and pending operations (R52). -/
namespace Sys2Proof.Machine

/-- R507: whether a command needs an authorization trailer. -/
inductive Auth where
  | never | always | enable1
  deriving DecidableEq, Repr

/-- What the spec fixes about a command before its own checks (R507, R509). -/
structure CmdInfo where
  op : Nat
  /-- size of the request payload (R46) -/
  len : Nat
  scopes : List Scope := [.device]
  auth : Auth := .never
  /-- a command of R147 -/
  held : Bool := false
  /-- it needs the vault (R35) -/
  vault : Bool := false
  /-- a device-scoped command that needs line dies or the stockpot (R440) -/
  awake : Bool := false
  /-- it changes state that a pair shares (R407): is the command, with its target and payload, refused on the twin it
  was given to? -/
  shared : Target → Bytes → Dev → Bool := fun _ _ _ => false
  /-- reserved fields and encodings of its payload are in order (R13) -/
  resv : Bytes → Bool := fun _ => true

/-- What a command's own checks and effect read. -/
structure Ctx where
  mb : Nat
  target : Target
  pl : Bytes
  /-- the handle a PENDING answer will carry -/
  handle : Nat

/-- A command's own answer, after the checks common to all. -/
inductive Ans where
  /-- refused, without effect -/
  | fail (st : Status)
  /-- completed at once -/
  | reply (st : Status) (pl : Bytes) (d : Dev)
  /-- accepted; the outcome follows by notification (R52): bound in ms, the object it acts on -/
  | pend (bound object : Nat) (d : Dev)
  /-- executing: the mailbox stays busy until the effect (R48) -/
  | run (object : Nat) (d : Dev)
  /-- completed with OK, and after the response is written this follows -/
  | replyThen (pl : Bytes) (d : Dev) (after : Dev → Dev)
  /-- accepted as `pend`, and after the PENDING response this follows -/
  | replyPend (bound object : Nat) (d : Dev) (after : Dev → Dev)

/-- Completed with OK. -/
def Ans.ok (pl : Bytes) (d : Dev) : Ans := .reply .ok pl d

/-- R407: a command that changes state a pair shares. -/
def sharedState (_ : Target) (_ : Bytes) (d : Dev) : Bool := pairedSecondary d

/-- R407: an SA or SecY command; in SPLIT-ACTIVE it goes to the twin that serves the SecY, whose index `idx` reads from
the payload. -/
def sharedSecy (idx : Bytes → Nat) (t : Target) (pl : Bytes) (d : Dev) : Bool :=
  pairedSecondary d && !(match Map.get? (prm d).secys (2048 * t.dieNo + idx pl) with
    | some p => decide ((prm d).twinMode = 1) && servesHome p.home d
    | none => false)

/-- Check a condition, or refuse. -/
def need (c : Bool) (st : Status) (a : Ans) : Ans := if c then a else .fail st

/-- R45: the 32 bytes of the header as sent. -/
def headerBytes (op : Nat) (r : Request) : Bytes :=
  le 2 op ++ le 2 r.flags.toNat ++ le 4 r.tag.toNat ++ le 4 r.length.toNat ++ le 4 r.sequence.toNat
    ++ le 4 r.target.toNat ++ le 12 r.reserved.toNat

/-- The request half holds 4,096 bytes: what follows the header. -/
def bodyBytes (r : Request) : Bytes := r.body.take 4064

/-- The payload: `length` bytes after the header. -/
def payload (r : Request) : Bytes := slice (bodyBytes r) 0 r.length.toNat

/-- R58: the trailer directly after the payload. -/
def trailer (r : Request) : Bytes := slice (bodyBytes r) r.length.toNat 16

/-- Header and payload, what R49 compares. -/
def digestOf (op : Nat) (r : Request) : Bytes := headerBytes op r ++ slice (bodyBytes r) 0 (min r.length.toNat 4064)

/-- The reply fields of a request. -/
def replyOf (op : Nat) (r : Request) : Reply :=
  ⟨r.mb.val, r.tag.toNat, r.sequence.toNat, r.flags.toNat, digestOf op r⟩

/-- R46. -/
def lengthOk (info : CmdInfo) (r : Request) : Bool :=
  let n := r.length.toNat
  decide (n % 4 = 0 ∧ n + 32 + (if bit r.flags.toNat 0 then 16 else 0) ≤ 4096 ∧ n = info.len)

/-- Reserved fields of the header (R45). -/
def headerOk (r : Request) : Bool := decide (r.flags.toNat / 4 = 0 ∧ r.reserved.toNat = 0)

/-- R56, R507: does this request need a trailer? -/
def needsAuth (info : CmdInfo) (r : Request) : Bool :=
  match info.auth with
  | .never => false
  | .always => true
  | .enable1 => decide (fld (payload r) 0 1 = 1)

/-- R146: may the state's token key authorize the command? LC_CHANGE to RETIRED is told by its target_state. -/
def authAllowed (lc op : Nat) (pl : Bytes) : Bool :=
  let retire := decide (op = 0x0602 ∧ fld pl 0 1 = 4)
  match lc with
  | 0 => true
  | 1 => decide (op = 0x0603 ∨ op = 0x0605 ∨ op = 0x0106) || retire
  | 2 => decide (op ≠ 0x0605)
  | 3 => decide (op = 0x0605) || retire
  | _ => false

/-- R146: the purpose of the token key of a state. -/
def tokenPurpose (lc : Nat) : Nat := match lc with | 0 => 7 | 1 => 6 | 2 => 2 | 3 => 3 | _ => 0

/-- R146: the token key in force, if it is derived. -/
def tokenKey (d : Dev) : Option Key := Map.get? d.vault.derived (tokenPurpose d.vault.lc)

/-- R57: the key_id of the token key. -/
def tokenKeyId (o : Otp) (d : Dev) : Nat :=
  match d.vault.lc with
  | 0 => 0xFFFF0007
  | 1 => 0xFFFF0006
  | 2 => 0xFFFF0002 + 0x100 * ((ownerSlot o).getD 0)
  | 3 => 0xFFFF0003 + 0x100 * ((ownerSlot o).getD 0)
  | _ => 0

/-- R59: is a lockout in force? -/
def lockedOut (d : Dev) : Bool :=
  match d.host.lockout with
  | some t => decide (d.time.elapsed < t + ticksMs 10000)
  | none => false

/-- R509.5: the life-cycle refusal, if any. -/
def lifeRefusal (info : CmdInfo) (r : Request) (d : Dev) : Option Status :=
  let excluded := needsAuth info r && !authAllowed d.vault.lc info.op (payload r)
  match d.vault.lc with
  | 3 => if info.held || excluded then some .tamperHeld else none
  | 4 => if info.held || excluded then some .badState else none
  | _ => if excluded then some .badState else none

/-- R59: one AUTH_FAILED result that counts: the eighth in a row starts a lockout and writes an event record. -/
def countAuthFail (m : Nat) (d : Dev) : Dev :=
  let n := (match d.host.lockout with | some _ => 0 | none => d.host.authFails) + 1
  let d := bump .hostif 0 2 d
  if n < 8 then { d with host := { d.host with authFails := n, lockout := none } }
  else record 0x0103 deviceTarget (le 1 m)
    { d with host := { d.host with authFails := 0, lockout := some d.time.elapsed } }

/-- R57, R58: is the token right? -/
def tokenOk (op : Nat) (r : Request) (ch : Bytes) (d : Dev) : Bool :=
  match tokenKey d with
  | none => false
  | some k => decide (aesCmac k.bytes (ch ++ le 8 Config.serial ++ headerBytes op r ++ payload r) = trailer r)

/-- R57: the challenge on a mailbox that can still be used. -/
def liveChallenge (m : Nat) (d : Dev) : Option Bytes :=
  match (mailbox m d).challenge with
  | some (c, t) => if d.time.elapsed ≤ t + ticksMs 60000 then some c else none
  | none => none

/-- R509.6: authorization: the refusal, if any, and the state after it (a verification consumes the challenge). -/
def authorize (info : CmdInfo) (r : Request) (d : Dev) : Option Status × Dev :=
  let m := r.mb.val
  if !needsAuth info r then (none, d)
  else if !bit r.flags.toNat 0 then (some .authRequired, d)
  else if lockedOut d then (some .authFailed, bump .hostif 0 2 d)
  else
    match liveChallenge m d with
    | none => (some .authFailed, countAuthFail m d)
    | some c =>
      let ok := tokenOk info.op r c d
      let d := setMailbox m { mailbox m d with challenge := none } d
      if ok then (none, { d with host := { d.host with authFails := 0, lockout := none } })
      else (some .authFailed, countAuthFail m d)

/-- R509.7: the target, and what the link and power states take away (R35, R440). -/
def resolve (info : CmdInfo) (r : Request) (d : Dev) : Except Status Target :=
  match readTarget info.scopes r.target.toNat d with
  | .error e => .error e
  | .ok t =>
    if (t.needsAwake || info.awake) && !awake d then .error .badState else .ok t

/-- Steps 7 to 9 of R509, then the command's own answer. -/
def answer (info : CmdInfo) (body : Ctx → Otp → Dev → Ans × Otp) (r : Request) (o : Otp) (d : Dev) : Ans × Otp :=
  match resolve info r d with
  | .error e => (.fail e, o)
  | .ok t =>
    if !info.resv (payload r) then (.fail .badField, o)
    else if info.vault && !vaultUp d then (.fail .badState, o)
    else if info.shared t (payload r) d then (.fail .badState, o)
    else body ⟨r.mb.val, t, payload r, nextHandle d⟩ o d

/-- R51: does a command of an opcode that passes a test still execute on the object of a number, on some mailbox? -/
def runningOn (op : Nat → Bool) (object : Nat) (d : Dev) : Bool :=
  d.host.mbs.any (fun e => match e.2.running with | some r => op r.opcode && decide (r.object = object) | none => false)

/-- R52: the response payload of a PENDING answer. -/
def pendingBytes (handle bound : Nat) : Bytes := le 4 handle ++ le 4 bound

/-- R52: enter a pending operation and write the PENDING response; a 65th completes with BUSY. `d` is the state the
command was given. -/
def concludePend (op : Nat) (a : Reply) (bound object : Nat) (d' : Dev) (after : Dev → Dev) (d : Dev) : Dev :=
  if 64 ≤ d.host.pend.length then respond a .busy [] d
  else
    let h := nextHandle d
    let d' := { d' with host := { d'.host with
      pend := d'.host.pend ++ [⟨h, a.mb, a.tag, op, object, fld a.digest 16 4, d.time.elapsed + ticksMs bound⟩],
      nextHandle := h % (2 ^ 32 - 1) + 1 } }
    after (respond a .pending (pendingBytes h bound) d')

/-- Turn a command's answer into its effect: `d` is the state it was given. -/
def conclude (op : Nat) (a : Reply) (ans : Ans) (d : Dev) : Dev :=
  match ans with
  | .fail st => respond a st [] d
  | .reply st pl d' => respond a st pl d'
  | .pend bound object d' => concludePend op a bound object d' id d
  | .run object d' =>
    setMailbox a.mb { mailbox a.mb d' with
      running := some ⟨op, a.tag, a.sequence, a.flags, a.digest, object⟩ } d'
  | .replyThen pl d' k => k (respond a .ok pl d')
  | .replyPend bound object d' k => concludePend op a bound object d' k d

/-- Steps 2 to 9 of R509 for a request that is no duplicate. -/
def execute (info : CmdInfo) (body : Ctx → Otp → Dev → Ans × Otp) (r : Request) (o : Otp) (d : Dev) : Otp × Dev :=
  let a := replyOf info.op r
  if !lengthOk info r then (o, respond a .badLength [] d)
  else if !headerOk r then (o, respond a .badField [] d)
  else
    match lifeRefusal info r d with
    | some st => (o, respond a st [] d)
    | none =>
      match authorize info r d with
      | (some st, d) => (o, respond a st [] d)
      | (none, d) =>
        let (ans, o') := answer info body r o d
        (match ans with | .fail _ => o | _ => o', conclude info.op a ans d)

/-- R48 step 4: the device sets MB_BUSY, clears MB_DONE and takes a copy of the request. -/
def takeRequest (op : Nat) (r : Request) (d : Dev) : Dev :=
  setMailbox r.mb.val { mailbox r.mb.val d with
    req := headerBytes op r ++ bodyBytes r, busy := true, done := false } d

/-- R49: the answer to a doorbell that repeats the stored sequence: the stored response, or BAD_FIELD that is not
stored. -/
def duplicate (op : Nat) (r : Request) (d : Dev) : Option Dev :=
  match (mailbox r.mb.val d).stored with
  | none => none
  | some (q, dig, resp) =>
    if q = r.sequence.toNat then
      if dig = digestOf op r then
        let b := mailbox r.mb.val d
        let d := perfEvent 4 0x230 1 (setMailbox r.mb.val { b with resp := resp, busy := false, done := true } d)
        some (if bit r.flags.toNat 1 then d else signal r.mb.val d)
      else some (respondWith false (replyOf op r) .badField 0 [] d)
    else none

/-- Is the PCIe function there: out of reset, and enumerated (R430, R432)? -/
def enumerated (d : Dev) : Bool := d.sys.porst && d.sys.srst && d.sys.romDone

/-- Can the host reach BAR0 and BAR2: the function is there, and in D0 (R39)? -/
def hostReaches (d : Dev) : Bool := enumerated d && !d.host.pci.d3hot

/-- R48: writes to the request half of a busy mailbox and its doorbell are discarded and counted; a doorbell while
fw_ready is 0 is discarded and counted. Otherwise the command is taken. DESIGN CHOICE: the row of a command stands for one
write of its request and one doorbell, so that on a busy mailbox it counts one of each. -/
def doorbell (op : Nat) (r : Request) (act : Dev → Otp × Dev) (o : Otp) (d : Dev) : Otp × Dev :=
  if !hostReaches d then (o, d)
  else if (mailbox r.mb.val d).busy then (o, bump .hostif 0 0 (bump .hostif 0 1 d))
  else if !d.host.fwReady then
    (o, bump .hostif 0 0 (setMailbox r.mb.val { mailbox r.mb.val d with req := headerBytes op r ++ bodyBytes r } d))
  else
    let d := takeRequest op r d
    match duplicate op r d with
    | some d => (o, d)
    | none => act d

/-- A mailbox command whose effect may program OTP. -/
def mailboxOtp (info : CmdInfo) (body : Ctx → Otp → Dev → Ans × Otp) (r : Request) (o : Otp) (d : Dev) : Otp × Dev :=
  doorbell info.op r (execute info body r o) o d

/-- A mailbox command. -/
def mailboxCmd (info : CmdInfo) (body : Ctx → Otp → Dev → Ans) (r : Request) (o : Otp) (d : Dev) : Dev :=
  (mailboxOtp info (fun c o d => (body c o d, o)) r o d).2

/-- The meaning of a mailbox command's row. -/
def onMailbox (info : CmdInfo) (body : Ctx → Otp → Dev → Ans) (r : Request) (s : State) :
    Host.Outcome State Fault Refusal :=
  onOtp (mailboxCmd info body r) s

/-! ### Reserved fields of payloads (R13) -/

/-- Bytes `off` to `off + n - 1` are zero. -/
def z (off n : Nat) (pl : Bytes) : Bool := decide (fld pl off n = 0)

/-- The byte at `off` is below `n`. -/
def below (off n : Nat) (pl : Bytes) : Bool := decide (fld pl off 1 < n)

/-- The `n`-byte field at `off` has no bit set from bit `k` on. -/
def onlyBits (off n k : Nat) (pl : Bytes) : Bool := decide (fld pl off n < 2 ^ k)

/-- The clear bit of a 4-byte flags field at offset `off` (R106). -/
def clearFlag (off : Nat) (pl : Bytes) : Bool := bit (fld pl off 4) 0

end Sys2Proof.Machine
end

