-- ==== Sys2Proof/Machine/Observe.lean ====
section
/-! DEFINITION. Sys2Proof/Machine/Observe.lean: performance counters, the event recorder, temperatures, loopback and
PRBS (17_observability.md). -/
namespace Sys2Proof.Machine

/-- R85, R106 and their like: a read of a counter block that the whole device or one die keeps. -/
def cntRead (b : CntBlock) (obj n : Nat) (clear : Bool) (d : Dev) : Ans :=
  .ok (cntBytes b obj n d) (clearIf clear b obj d)

/-! ### Performance counters (R458, R459) -/

/-- The number of a die among those with performance counters: the hub is 4. -/
def perfDie (t : Target) : Nat := if t.dieNo = 8 then 4 else t.dieNo

/-- R459: does the event belong to the kind of die? 0x3FF stops a counter of either. -/
def perfEventOk (die ev : Nat) : Bool :=
  if ev = 0x3FF then true
  else if die < 4 then
    decide (ev ≤ 1 ∨ (0x10 ≤ ev ∧ ev ≤ 0x17) ∨ (0x40 ≤ ev ∧ ev ≤ 0x5F) ∨ (0x80 ≤ ev ∧ ev ≤ 0x82) ∨
      (0x90 ≤ ev ∧ ev ≤ 0x93) ∨ (0xA0 ≤ ev ∧ ev ≤ 0xA2))
  else
    decide ((0x200 ≤ ev ∧ ev ≤ 0x202) ∨ (0x210 ≤ ev ∧ ev ≤ 0x213) ∨ ev = 0x220 ∨ ev = 0x221 ∨
      (0x230 ≤ ev ∧ ev ≤ 0x232))

/-- A performance counter that nothing has configured: stopped. -/
def stoppedPerf : PerfCnt := ⟨0x3FF, 0, false⟩

/-- R476: the slot of a performance counter. -/
def perfSlot (c : PerfCnt) : Bytes := le 8 (c.value + (if c.ovf then 2 ^ 63 else 0))

/-- R476: the 64 slots of a die. -/
def perfBytes (m : Map PerfCnt) (die : Nat) : Bytes :=
  (List.range 64).flatMap (fun c => perfSlot (Map.get m (64 * die + c) stoppedPerf))

/-- R475. -/
def perfConfig (c : Ctx) (d : Dev) : Ans :=
  let d := settleTallies d
  let die := perfDie c.target
  let n := fld c.pl 0 1
  let ev := fld c.pl 2 2
  need (decide (n < 64) && perfEventOk die ev) .badField <|
    .ok [] { d with obs := { d.obs with perf := Map.put d.obs.perf (64 * die + n) ⟨ev, 0, false⟩ } }

def execPerfConfig (r : Request) (s : State) : Host.Outcome State Fault Refusal :=
  onMailbox { op := 0x0E01, len := 4, scopes := [.dies [0, 1, 2, 3, 8]],
              resv := fun p => z 1 1 p && onlyBits 2 2 10 p } (fun c _ d => perfConfig c d) r s

/-- R476: the instant of a latch: the die-time island of a line die, the grand island of the hub. -/
def perfTime (die : Nat) (d : Dev) : TS96 := if die < 4 then islandNow (4 * die + 3) d else now d

/-- R458: clear the counters of a die. -/
def perfClear (die : Nat) (d : Dev) : Dev :=
  { d with obs := { d.obs with perf := d.obs.perf.map (fun e =>
      if e.1 / 64 = die then (e.1, { e.2 with value := 0, ovf := false }) else e) } }

/-- R476. -/
def perfRead (c : Ctx) (d : Dev) : Ans :=
  let d := settleTallies d
  let die := perfDie c.target
  let d' := if clearFlag 0 c.pl then perfClear die d else d
  if bit (fld c.pl 0 4) 1 then
    match d.obs.latch with
    | none => .fail .badState
    | some (t, m) => .ok (t.bytes ++ zeros 4 ++ perfBytes m die) d'
  else .ok ((perfTime die d).bytes ++ zeros 4 ++ perfBytes d.obs.perf die) d'

def execPerfRead (r : Request) (s : State) : Host.Outcome State Fault Refusal :=
  onMailbox { op := 0x0E02, len := 4, scopes := [.dies [0, 1, 2, 3, 8]], resv := fun p => onlyBits 0 4 2 p }
    (fun c _ d => perfRead c d) r s

/-- R477, R73: all counters are latched at the next swap point; the command answers after the latch. -/
def perfLatch (d : Dev) : Ans :=
  let g := firstWhole 1000 20000 d
  let d := settleTallies (waitUntil g d)
  .ok ((tsOf g).bytes ++ zeros 4) { d with obs := { d.obs with latch := some (tsOf g, d.obs.perf) } }

def execPerfLatch (r : Request) (s : State) : Host.Outcome State Fault Refusal :=
  onMailbox { op := 0x0E03, len := 0 } (fun _ _ d => perfLatch d) r s

/-! ### The event recorder (R464 to R469) -/

/-- R464: size of the record ring. -/
def ringSize : Nat := 2097152

/-- Bytes of the record memory (an unwritten byte reads 0). -/
def ringBytes (off n : Nat) (d : Dev) : Bytes := memRead 0 d.obs.ring off n

/-- R467: the record budget now, in bytes: 4 KiB per second up to 256 KiB. -/
def budgetNow (d : Dev) : Nat :=
  min 262144 (d.obs.budget + (d.time.elapsed - d.obs.budgetAt) * 4096 / 1250000000)

/-- Do two byte ranges overlap? -/
def overlaps (a n b m : Nat) : Bool := decide (a < b + m ∧ b < a + n)

/-- R466 step 1: zero the header sequence of every older record that `[off, off + n)` will overwrite, and drop it. -/
def retireOver (off n : Nat) (d : Dev) : Dev :=
  let hit := d.obs.recs.filter (fun r => overlaps r.offset r.length off n)
  { d with obs := { d.obs with
      ring := hit.foldl (fun m r => memWrite 0 m (r.offset + 4) (zeros 4)) d.obs.ring
      recs := d.obs.recs.filter (fun r => !overlaps r.offset r.length off n) } }

/-- R464: the header of a record. -/
def recHeader (len type seq hours cycles : Nat) : Bytes := le 2 len ++ le 2 type ++ le 4 seq ++ le 4 hours ++ le 4 cycles

/-- R466: sequences run from 1 to 0xFFFF_FFFE. -/
def nextRecSeq (q : Nat) : Nat := if q = 0xFFFFFFFE then 1 else q + 1

/-- R466: a record that does not fit before the end is preceded by a pad record that fills the ring to its end. -/
def padRing (n : Nat) (s : Submission) (d : Dev) : Dev :=
  let off := d.obs.nextOffset
  if off + n ≤ ringSize then d
  else
    let len := ringSize - off
    let d := retireOver off len d
    { d with obs := { d.obs with
        ring := memWrite 0 d.obs.ring off (recHeader len 0 0xFFFFFFFF s.hours s.cycles ++ zeros (len - 16))
        nextOffset := 0 } }

/-- R466: write one record: older records in its place are retired, then body, header and sequence. -/
def writeRecord (s : Submission) (d : Dev) : Dev :=
  let n := 16 + s.body.length
  let d := padRing n s d
  let off := d.obs.nextOffset
  let d := retireOver off n d
  let q := d.obs.nextSeq
  let d := { d with obs := { d.obs with
      ring := memWrite 0 d.obs.ring off (recHeader n s.type q s.hours s.cycles ++ s.body)
      recs := d.obs.recs ++ [⟨off, n, q⟩]
      nextSeq := nextRecSeq q
      nextOffset := (off + n) % ringSize } }
  bump .obs 0 0 d

/-- R467: types that are never suppressed. -/
def neverSuppressed (type : Nat) : Bool := decide (type = 0x80 ∨ type = 0x113 ∨ type = 0x114 ∨ type = 0x115)

/-- R466, R467: the vault writes the oldest submission, or suppresses it when the budget is short. -/
def recordWrite (d : Dev) : Dev :=
  match d.obs.subs with
  | [] => d
  | s :: rest =>
    if !vhOpen d then d
    else
      let d := { d with obs := { d.obs with subs := rest } }
      let n := 16 + s.body.length
      let b := budgetNow d
      if neverSuppressed s.type then writeRecord s d
      else if n ≤ b then
        writeRecord s { d with obs := { d.obs with budget := b - n, budgetAt := d.time.elapsed } }
      else
        let d := bump .obs 0 1 d
        { d with obs := { d.obs with
            suppressed := d.obs.suppressed + 1,
            firstSuppressed := if d.obs.suppressed = 0 then s.type else d.obs.firstSuppressed } }

def execRecordWrite (s : State) : Host.Outcome State Fault Refusal := onDev recordWrite s

/-- R467: the record of a second's suppression, written outside the budget: the next comes a second later. -/
def recordsSuppressed (d : Dev) : Dev :=
  if d.obs.suppressed = 0 then d
  else
    let d := waitTicks (d.obs.suppressedAt + 1250000000) d
    let s : Submission := ⟨0x150, hoursNow d, d.obs.powerCycles,
      pad16 ((now d).bytes ++ le 4 deviceTarget ++ le 4 d.obs.suppressed ++ le 2 d.obs.firstSuppressed)⟩
    let d := writeRecord s d
    { d with obs := { d.obs with suppressed := 0, firstSuppressed := 0, suppressedAt := d.time.elapsed } }

def execRecordsSuppressed (s : State) : Host.Outcome State Fault Refusal := onDev recordsSuppressed s

/-- R468: commit hours and power cycles to the next slot. -/
def commitHours (d : Dev) : Dev :=
  let h := hoursNow d
  let top := d.obs.slots.foldl (fun m e => max m e.2.2.2) 0
  bump .obs 0 3 { d with obs := { d.obs with
    slots := Map.put d.obs.slots ((top + 1) % 64) (h, d.obs.powerCycles, top + 1)
    hours := h
    hoursAt := d.obs.hoursAt + (h - d.obs.hours) * 45000000000 } }

/-- R468: the commit of every 0.1 h of operation, ten units after the last. -/
def hoursCommit (d : Dev) : Dev := if d.sys.porst then commitHours (waitTicks (d.obs.hoursAt + 450000000000) d) else d

def execHoursCommit (s : State) : Host.Outcome State Fault Refusal := onDev hoursCommit s

/-- R478. -/
def recordRange (d : Dev) : Ans :=
  let first := d.obs.recs.head?
  .ok (le 4 (match first with | some r => r.seq | none => 0)
    ++ le 4 (match first with | some r => r.offset | none => d.obs.nextOffset)
    ++ le 4 d.obs.nextSeq ++ le 4 d.obs.nextOffset ++ le 4 (hoursNow d) ++ le 4 d.obs.powerCycles
    ++ le 4 (budgetNow d) ++ zeros 4) d

def execRecordRange (r : Request) (s : State) : Host.Outcome State Fault Refusal :=
  onMailbox { op := 0x0E04, len := 0, vault := true } (fun _ _ d => recordRange d) r s

/-- R479. -/
def recordRead (c : Ctx) (d : Dev) : Ans :=
  let off := fld c.pl 0 4
  let n := fld c.pl 4 4
  need (decide (off % 16 = 0 ∧ n % 16 = 0 ∧ 16 ≤ n ∧ n ≤ 4064 ∧ off + n ≤ ringSize)) .badField <|
    .ok (ringBytes off n d) d

def execRecordRead (r : Request) (s : State) : Host.Outcome State Fault Refusal :=
  onMailbox { op := 0x0E05, len := 8, vault := true } (fun c _ d => recordRead c d) r s

/-- R474, R483. -/
def execObsCntRead (r : Request) (s : State) : Host.Outcome State Fault Refusal :=
  onMailbox { op := 0x0E09, len := 4, resv := onlyBits 0 4 1 }
    (fun c _ d => cntRead .obs 0 4 (clearFlag 0 c.pl) d) r s

/-! ### Temperatures (R470, R480) -/

/-- R470: is the sensor powered? Those of the line dies are not in SLEEP; sensor 15 does not exist. -/
def sensorPowered (k : Nat) (d : Dev) : Bool :=
  decide (k < 15) && (decide (8 ≤ k) || awake d)

/-- R470: the current reading code of a sensor. -/
def tempNow (k : Nat) (d : Dev) : Nat := if sensorPowered k d then Map.get d.obs.temp k 0x8000 else 0x8000

/-- R480. -/
def tempRead (d : Dev) : Ans :=
  .ok ((List.range 16).flatMap (fun k => le 2 (tempNow k d))
    ++ (List.range 16).flatMap (fun k => le 2 (Map.get d.obs.tempHigh k 0x8000))) d

def execTempRead (r : Request) (s : State) : Host.Outcome State Fault Refusal :=
  onMailbox { op := 0x0E06, len := 0 } (fun _ _ d => tempRead d) r s

/-! ### Loopback and PRBS (R471, R472) -/

/-- R471, R481: a loopback is allowed only while the port is UP and no twin is attached; mode 0 ends it. -/
def diagLoopback (c : Ctx) (d : Dev) : Ans :=
  let p := c.target.portNo
  let mode := fld c.pl 0 1
  if mode = 0 then .ok [] { d with obs := { d.obs with loopback := Map.del d.obs.loopback p } }
  else
    need (portIsUp p d && !twinAttached d) .badState <|
      .ok [] { d with obs := { d.obs with loopback := Map.put d.obs.loopback p mode } }

def execDiagLoopback (r : Request) (s : State) : Host.Outcome State Fault Refusal :=
  onMailbox { op := 0x0E07, len := 4, scopes := [.ports [1, 2, 3, 5]], resv := fun p => below 0 3 p && z 1 3 p }
    (fun c _ d => diagLoopback c d) r s

/-- A PRBS test that is off. -/
def prbsOff : Prbs := ⟨0, 0, 0, 0, 0⟩

/-- The PRBS test of a lane. -/
def prbs (l : Nat) (d : Dev) : Prbs := Map.get d.obs.prbs l prbsOff

/-- Store the PRBS test of a lane. -/
def setPrbs (l : Nat) (t : Prbs) (d : Dev) : Dev := { d with obs := { d.obs with prbs := Map.put d.obs.prbs l t } }

/-- R472: bring the bits a locked checker has checked up to now. -/
def prbsRun (l : Nat) (d : Dev) : Prbs :=
  let t := prbs l d
  if t.state = 2 then
    { t with bits := t.bits + (d.time.elapsed - t.since) * laneBitsPer10 l d / 10, since := d.time.elapsed }
  else { t with since := d.time.elapsed }

/-- R482: the response. -/
def prbsBytes (t : Prbs) : Bytes := le 1 t.state ++ zeros 3 ++ le 4 t.lockLosses ++ le 8 t.bits ++ le 8 (t.errors % 2 ^ 48)

/-- R472, R482. -/
def diagPrbs (c : Ctx) (d : Dev) : Ans :=
  let p := c.target.portNo
  let l := laneOfPort p (fld c.pl 0 1)
  let op := fld c.pl 1 1
  need (decide (fld c.pl 0 1 < portLanes p d)) .badField <|
  need (portHeld p d) .badState <|
    if op = 0 then .ok (prbsBytes { prbsRun l d with state := 0 }) (setPrbs l { prbsRun l d with state := 0 } d)
    else if op = 1 then
      let t : Prbs := ⟨1, 0, 0, 0, d.time.elapsed⟩
      .ok (prbsBytes t) (setPrbs l t d)
    else if op = 2 then .ok (prbsBytes (prbsRun l d)) (setPrbs l (prbsRun l d) d)
    else .ok (prbsBytes (prbsRun l d)) (setPrbs l { prbsRun l d with lockLosses := 0, bits := 0, errors := 0 } d)

def execDiagPrbs (r : Request) (s : State) : Host.Outcome State Fault Refusal :=
  onMailbox { op := 0x0E08, len := 4, scopes := [.ports [1, 2, 3, 4, 5]], resv := fun p => below 1 4 p && z 2 2 p }
    (fun c _ d => diagPrbs c d) r s

/-- R472: a searching checker sees 64 error-free bits and locks. -/
def prbsLock (l : Nat) (d : Dev) : Dev :=
  let t := prbs l d
  if t.state = 1 then setPrbs l { t with state := 2, since := d.time.elapsed } d else d

def execPrbsLock (lane : Lane) (s : State) : Host.Outcome State Fault Refusal := onDev (prbsLock (laneNum lane)) s

/-- R472: a locked checker loses lock after `errors` bit errors, counts both, and searches again. -/
def prbsLockLoss (l errors : Nat) (d : Dev) : Dev :=
  if (prbs l d).state = 2 then
    let t := prbsRun l d
    setPrbs l { t with state := 1, lockLosses := (t.lockLosses + 1) % 2 ^ 32, errors := (t.errors + errors) % 2 ^ 48 } d
  else d

def execPrbsLockLoss (lane : Lane) (errors : Nat) (s : State) : Host.Outcome State Fault Refusal :=
  onDev (prbsLockLoss (laneNum lane) errors) s

end Sys2Proof.Machine
end

