-- ==== Sys2Proof/Machine/Vault.lean ====
section
/-! DEFINITION. Sys2Proof/Machine/Vault.lean: derivation, blobs, the key store, random numbers and the look-aside
service (06_vault.md). -/
namespace Sys2Proof.Machine

/-! ### Derivation (R148, R149) -/

/-- R148: the 30-byte input of iteration `i`, in network order. -/
def kdfInput (i purpose st index : Nat) : Bytes :=
  be 4 i ++ be 6 0x4C5831363038 ++ be 2 purpose ++ be 1 st ++ be 1 0 ++ be 8 Config.serial ++ be 4 index ++ be 4 0x100

/-- R148: K = PRF(1) then PRF(2). -/
def kdf (root : Bytes) (purpose st index : Nat) : Bytes :=
  aesCmac root (kdfInput 1 purpose st index) ++ aesCmac root (kdfInput 2 purpose st index)

/-- OTP root bytes (R140). -/
def vendorRoot (o : Otp) : Bytes := otpBytes o 0x10 32
/-- OTP root bytes (R140). -/
def identityRoot (o : Otp) : Bytes := otpBytes o 0x30 32
/-- Owner root `n` (R140). -/
def ownerRoot (n : Nat) (o : Otp) : Bytes := otpBytes o (0x50 + 32 * n) 32
/-- Recovery root `n` (R140). -/
def recoveryRoot (n : Nat) (o : Otp) : Bytes := otpBytes o (0x150 + 32 * n) 32

/-- The owner import KEK of slot `n` (R149). -/
def oikOf (n : Nat) (o : Otp) : Key := ⟨1, 0xFFFF0001 + 0x100 * n, kdf (ownerRoot n o) 1 2 n⟩
/-- The token key of slot `n` (R149). -/
def tkOf (n : Nat) (o : Otp) : Key := ⟨4, 0xFFFF0002 + 0x100 * n, kdf (ownerRoot n o) 2 2 n⟩
/-- The unlock key of slot `n` (R149). -/
def ukOf (n : Nat) (o : Otp) : Key := ⟨4, 0xFFFF0003 + 0x100 * n, kdf (recoveryRoot n o) 3 3 n⟩
/-- The attestation key (R149). -/
def attOf (o : Otp) : Key := ⟨2, 0xFFFF0004, kdf (identityRoot o) 4 1 0⟩

/-- R149: the derived keys of a life-cycle state, by purpose; each stands in the internal slot of its purpose number. -/
def deriveAll (lc : Nat) (o : Otp) : Map Key :=
  match lc with
  | 0 => [(7, ⟨4, 0xFFFF0007, kdf (vendorRoot o) 7 0 0⟩)]
  | 1 => [(4, attOf o), (5, ⟨1, 0xFFFF0005, kdf (identityRoot o) 5 1 0⟩), (6, ⟨4, 0xFFFF0006, kdf (identityRoot o) 6 1 0⟩)]
  | 2 => match ownerSlot o with | some n => [(1, oikOf n o), (2, tkOf n o)] | none => []
  | 3 => match ownerSlot o with | some n => [(3, ukOf n o)] | none => []
  | _ => []

/-! ### Key classes and blobs (R150, R151) -/

/-- R150: the attribute of a class: 1 encrypt-only, 2 decrypt-only, 3 wrap-only, 4 derive-only; 0 for a reserved code. -/
def attrOf (cls : Nat) : Nat :=
  match cls with
  | 0x01 => 3 | 0x02 => 4 | 0x03 => 4 | 0x04 => 4 | 0x05 => 4 | 0x10 => 1 | 0x11 => 2 | 0x12 => 1 | 0x13 => 2 | _ => 0

/-- R150: the key lengths of a class. -/
def keyLenOk (cls n : Nat) : Bool :=
  match cls with
  | 0x01 => decide (n = 32) | 0x04 => decide (n = 32) | 0x05 => decide (n = 32)
  | _ => decide (n = 16 ∨ n = 32)

/-- R152: the classes that slots 32 to 1,023 take. -/
def storeClass (cls : Nat) : Bool := decide (cls = 1 ∨ cls = 2 ∨ cls = 5 ∨ cls = 0x12 ∨ cls = 0x13)

/-- An empty key-store slot. -/
def emptySlot : KeySlot := ⟨none, none, TS96.zero⟩

/-- A key-store slot. -/
def keySlot (n : Nat) (d : Dev) : KeySlot := Map.get d.vault.store n emptySlot

/-- Store a key-store slot; an empty one is not listed. -/
def setKeySlot (n : Nat) (k : KeySlot) (d : Dev) : Dev :=
  { d with vault := { d.vault with
      store := if k.active.isNone && k.pending.isNone then Map.del d.vault.store n else Map.put d.vault.store n k } }

/-- The active wrap-only key with a key_id (R151): a derived key or a KEK of the store. -/
def findKek (id : Nat) (d : Dev) : Option Key :=
  match d.vault.derived.find? (fun e => e.2.cls = 1 ∧ e.2.id = id) with
  | some e => some e.2
  | none =>
    (d.vault.store.filterMap (fun e => e.2.active)).find? (fun k => k.cls = 1 ∧ k.id = id)

/-- R151: the key check value of a header under a key. -/
def kcvOf (key hdr : Bytes) : Bytes := (aesCmac key (slice hdr 0 16)).take 8

/-- R151: check and unwrap a blob of `len` bytes; none is KEY_REJECTED. -/
def openBlob (blob : Bytes) (len : Nat) (d : Dev) : Option Key :=
  let cls := fld blob 1 1
  let n := fld blob 3 1
  let id := fld blob 4 4
  if fld blob 0 1 = 1 ∧ attrOf cls ≠ 0 ∧ fld blob 2 1 = attrOf cls ∧ keyLenOk cls n = true ∧ 1 ≤ id ∧ id ≤ 0xFFFEFFFF ∧
      fld blob 12 4 = 0 ∧ len = 24 + n + 8 then
    match findKek (fld blob 8 4) d with
    | none => none
    | some kek =>
      match kwpUnwrap kek.bytes (slice blob 24 (n + 8)) n with
      | none => none
      | some k => if kcvOf k blob = slice blob 16 8 then some ⟨cls, id, k⟩ else none
  else none

/-- Count an accepted or rejected blob (R151, R168). -/
def countBlob (ok : Bool) (d : Dev) : Dev := bump .vault 0 (if ok then 0 else 1) d

/-- R151: wrap a key into a blob under a KEK. -/
def sealBlob (k kek : Key) : Bytes :=
  let hdr := le 1 1 ++ le 1 k.cls ++ le 1 (attrOf k.cls) ++ le 1 k.bytes.length ++ le 4 k.id ++ le 4 kek.id ++ zeros 4
  hdr ++ kcvOf k.bytes hdr ++ kwpWrap kek.bytes k.bytes

/-! ### Instants (R133, R169, R271) -/

/-- R78, R133, R169: a command's instant: in ACQUIRE BAD_STATE; a lead below `minUs` µs TIME_PASSED; beyond 86,400 s
BAD_FIELD. -/
def instantRefusal (t : TS96) (minUs : Nat) (d : Dev) : Option Status :=
  let g := unitsOf t
  if d.time.state = .acquire then some .badState
  else if g < d.time.grand + minUs * 1000 * unitsPerNs then some .timePassed
  else if d.time.grand + 86400 * unitsPerS < g then some .badField
  else none

/-! ### The key store (R152 to R154, R172, R175) -/

/-- The key-area entry of a slot's half (R154). -/
def areaKey (slot : Nat) (pending : Bool) : Nat := 2 * slot + (if pending then 1 else 0)

/-- R154: remove a half's blob from the key area. -/
def areaDel (slot : Nat) (pending : Bool) (d : Dev) : Dev :=
  { d with vault := { d.vault with area := Map.del d.vault.area (areaKey slot pending) } }

/-- R172: the result of an installation. -/
def keyResult (id active : Nat) : Bytes := le 4 id ++ le 4 active ++ zeros 8

/-- R153: cancel the scheduled activation of a pending half, if there is one. -/
def cancelActivation (slot : Nat) (st : Status) (d : Dev) : Dev :=
  match (keySlot slot d).pending with
  | some p =>
    let d := setKeySlot slot { keySlot slot d with pending := some { p with at_ := none, handle := none } } d
    (match p.handle with | some h => complete h st (keyResult p.key.id 0) d | none => d)
  | none => d

/-- R153, R154: the pending half becomes active in one step; the old half's blob leaves the key area. -/
def activateSlot (slot : Nat) (d : Dev) : Dev :=
  let k := keySlot slot d
  match k.pending with
  | none => d
  | some p =>
    let d := setKeySlot slot ⟨some p.key, none, now d⟩ d
    match Map.get? d.vault.area (areaKey slot true) with
    | some (_, m, b) =>
      { d with vault := { d.vault with
          area := Map.put (Map.del d.vault.area (areaKey slot true)) (areaKey slot false) (true, m, b) } }
    | none => { d with vault := { d.vault with area := Map.del d.vault.area (areaKey slot false) } }

/-- R407: the activation of a slot reaches the twin as its KEY_BLOB record with activation at once. -/
def mirrorActive (slot : Nat) (d : Dev) : Dev :=
  match Map.get? d.vault.area (areaKey slot false) with
  | some (_, _, b) => if slot = 1023 then d else twinPost (.keyBlob slot 0 b) d
  | none => d

/-- Is a key_id active in another slot (R152)? -/
def idElsewhere (id slot : Nat) (d : Dev) : Bool :=
  d.vault.store.any (fun e => decide (e.1 ≠ slot) && (match e.2.active with | some k => decide (k.id = id) | none => false))

/-- Is an installation on the slot still executing for a mailbox (R51), the pairing key's own command included? -/
def keyLoadRunning (slot : Nat) (d : Dev) : Bool := runningOn (fun op => decide (op = 0x0606 ∨ op = 0x0D02)) slot d

/-- R172: queue an installation at the vault: at once for an idle vault, else PENDING; always PENDING for activate 2. -/
def keyInstall (c : Ctx) (d : Dev) : Ans :=
  let slot := fld c.pl 0 2
  let mode := fld c.pl 2 1
  let len := fld c.pl 4 2
  let t := tsFld c.pl 12
  let blob := slice c.pl 24 64
  need (decide (32 ≤ slot ∧ slot ≤ 1022 ∧ (len = 48 ∨ len = 64)) && allZero (blob.drop len) &&
    storeClass (fld blob 1 1) && (decide (mode = 2) || t.isZero) && t.valid) .badField <|
  match (if mode = 2 then instantRefusal t 50 d else none) with
  | some st => .fail st
  | none =>
    need (!keyLoadRunning slot d) .busy <|
    need (!idElsewhere (fld c.pl 8 4) slot d) .badState <|
      let ld (h : Option Nat) : KeyLoad := ⟨h, c.mb, slot, mode, if mode = 2 then unitsOf t else 0, fld c.pl 8 4, slice blob 0 len⟩
      if mode = 2 || !d.vault.queue.isEmpty then
        .pend 2000 slot { d with vault := { d.vault with queue := d.vault.queue ++ [ld (some c.handle)] } }
      else .run slot { d with vault := { d.vault with queue := [ld none] } }

def execVaultKeyInstall (r : Request) (s : State) : Host.Outcome State Fault Refusal :=
  onMailbox { op := 0x0606, shared := sharedState, len := 88, held := true, vault := true,
              resv := fun p => below 2 3 p && z 3 1 p && z 6 2 p } (fun c _ d => keyInstall c d) r s

/-- Answer the mailbox or the handle that waits for a queued installation; a scheduled one whose activation was cancelled has
been answered. -/
def keyAnswer (ld : KeyLoad) (st : Status) (res : Bytes) (d : Dev) : Dev :=
  match ld.handle with
  | some h => complete h st res d
  | none => if ld.mode = 2 then d else finish ld.mailbox st res d

/-- R153: cancel the activation of an installation that still waits for the vault; its key goes on to the pending half. -/
def unschedule (ld : KeyLoad) : KeyLoad := if ld.mode = 2 then { ld with handle := none } else ld

/-- R153: cancel every scheduled activation, of loaded pending halves and of installations that still wait for the vault. -/
def cancelActivations (st : Status) (d : Dev) : Dev :=
  let q := d.vault.queue.filter (fun x => decide (x.mode = 2))
  let d := q.foldl (fun d x => keyAnswer x st (keyResult x.keyId 0) d)
    { d with vault := { d.vault with queue := d.vault.queue.map unschedule } }
  (d.vault.store.map (·.1)).foldl (fun d k =>
    match (keySlot k d).pending with
    | some p => if p.at_.isSome then cancelActivation k st d else d
    | none => d) d

/-- R153: an installation failed: the pending half is emptied and the old key stays. -/
def dropPending (slot : Nat) (d : Dev) : Dev := areaDel slot true (setKeySlot slot { keySlot slot d with pending := none } d)

/-- R153: the vault takes the oldest queued installation, checks the blob and activates it as asked, or empties the
pending half. -/
def keyLoad (d : Dev) : Dev :=
  match d.vault.queue with
  | [] => d
  | ld :: rest =>
    let d := { d with vault := { d.vault with queue := rest } }
    match (if fld ld.blob 4 4 = ld.keyId then openBlob ld.blob ld.blob.length d else none) with
    | none => keyAnswer ld .keyRejected [] (dropPending ld.slot (cancelActivation ld.slot .badState (countBlob false d)))
    | some k =>
      let d := cancelActivation ld.slot .badState (countBlob true d)
      if idElsewhere k.id ld.slot d then keyAnswer ld .badState [] (dropPending ld.slot d)
      else
        let at_ := ld.handle.bind (fun _ => if ld.mode = 2 then some ld.at_ else none)
        let p : PendingKey := ⟨k, ld.mode, at_, if ld.mode = 2 then ld.handle else none⟩
        let d := setKeySlot ld.slot { keySlot ld.slot d with pending := some p } d
        let d := { d with vault := { d.vault with
          area := Map.put d.vault.area (areaKey ld.slot true) (false, ld.mode, ld.blob) } }
        let d := if ld.slot = 1023 then d else twinPost (.keyBlob ld.slot ld.mode ld.blob) d
        if ld.mode = 0 then keyAnswer ld .ok (keyResult k.id 1) (activateSlot ld.slot d)
        else if ld.mode = 1 then keyAnswer ld .ok (keyResult k.id 0) d
        else d

def execVaultKeyLoad (s : State) : Host.Outcome State Fault Refusal := onDev keyLoad s

/-- R172: a scheduled activation is taken early; its installation completes with OK. An internal slot has no pending half. R152:
a key_id that is active in another slot is not made active again; DESIGN CHOICE: the pending half then stays loaded. -/
def keyActivate (c : Ctx) (d : Dev) : Ans :=
  let slot := fld c.pl 0 2
  need (decide (slot ≤ 1023)) .badField <|
  need (!keyLoadRunning slot d) .busy <|
  match (keySlot slot d).pending with
  | none => .fail .badState
  | some p =>
    need (!idElsewhere p.key.id slot d) .badState <|
      let d := mirrorActive slot (activateSlot slot d)
      .ok [] (match p.handle with | some h => complete h .ok (keyResult p.key.id 1) d | none => d)

def execVaultKeyActivate (r : Request) (s : State) : Host.Outcome State Fault Refusal :=
  onMailbox { op := 0x0607, shared := sharedState, len := 4, held := true, vault := true, resv := z 2 2 } (fun c _ d => keyActivate c d) r s

/-- R318, R153: at the scheduled instant the pending half becomes active and its installation completes. R152: where its key_id
has become active in another slot, the installation fails with BAD_STATE and the pending half is emptied. -/
def keyActivationInstant (slot : Nat) (d : Dev) : Dev :=
  match (keySlot slot d).pending with
  | none => d
  | some p =>
    match p.at_ with
    | none => d
    | some g =>
      let d := waitUntil g d
      let bad := idElsewhere p.key.id slot d
      let d := if bad then dropPending slot d else mirrorActive slot (activateSlot slot d)
      match p.handle with
      | some h => complete h (if bad then .badState else .ok) (keyResult p.key.id (b2n !bad)) d
      | none => d

def execKeyActivationInstant (slot : Fin 1024) (s : State) : Host.Outcome State Fault Refusal :=
  onDev (keyActivationInstant slot.val) s

/-- Look-aside jobs bound to a slot (R175). -/
def jobsBound (slot : Nat) (d : Dev) : Nat := (d.vault.jobs.filter (fun e => e.2.slot = slot)).length

/-- R172. -/
def keyDelete (c : Ctx) (d : Dev) : Ans :=
  let slot := fld c.pl 0 2
  let pendOnly := bit (fld c.pl 2 2) 0
  let k := keySlot slot d
  need (decide (32 ≤ slot ∧ slot ≤ 1023)) .badField <|
  need (decide (jobsBound slot d = 0) && !keyLoadRunning slot d) .busy <|
  need (k.active.isSome || k.pending.isSome) .badState <|
  need (!pendOnly || k.pending.isSome) .badState <|
    let d := areaDel slot true (cancelActivation slot .badState d)
    if pendOnly then .ok [] (setKeySlot slot { k with pending := none } d)
    else .ok [] (setKeySlot slot emptySlot (areaDel slot false d))

def execVaultKeyDelete (r : Request) (s : State) : Host.Outcome State Fault Refusal :=
  onMailbox { op := 0x0608, shared := sharedState, len := 4, vault := true, resv := onlyBits 2 2 1 } (fun c _ d => keyDelete c d) r s

/-- R175; the class, attribute and length are those of the pending half where no half is active. -/
def keyQuery (c : Ctx) (d : Dev) : Ans :=
  let slot := fld c.pl 0 2
  need (decide (slot ≤ 1023)) .badField <|
    let k : KeySlot := if slot < 32 then ⟨Map.get? d.vault.derived slot, none, TS96.zero⟩ else keySlot slot d
    let a := k.active
    let shown := a <|> k.pending.map (·.key)
    let sched := match k.pending with | some p => p.at_ | none => none
    .ok (le 1 (b2n a.isSome + 2 * b2n k.pending.isSome + 4 * b2n sched.isSome + 8 * b2n (decide (slot < 32)))
      ++ le 1 (match shown with | some x => x.cls | none => 0) ++ le 1 (match shown with | some x => attrOf x.cls | none => 0)
      ++ le 1 (match shown with | some x => x.bytes.length | none => 0) ++ le 4 (match a with | some x => x.id | none => 0)
      ++ le 4 (match k.pending with | some p => p.key.id | none => 0) ++ le 4 (jobsBound slot d)
      ++ k.activatedAt.bytes ++ (match sched with | some g => (tsOf g).bytes | none => zeros 12) ++ zeros 8) d

def execVaultKeyQuery (r : Request) (s : State) : Host.Outcome State Fault Refusal :=
  onMailbox { op := 0x0609, len := 4, vault := true, resv := z 2 2 } (fun c _ d => keyQuery c d) r s

/-! ### Random numbers (R155, R176) -/

/-- R155: a failed health test stops the DRBG; the repeats begin. -/
def trngHealthFail (d : Dev) : Dev :=
  if d.vault.trng = 0 then
    record 0x116 (dieTarget 9) (le 1 0 ++ le 1 0 ++ le 1 0)
      (bump .vault 0 5 { d with vault := { d.vault with trng := 1, trngFails := 0 } })
  else d

def execTrngHealthFail (s : State) : Host.Outcome State Fault Refusal := onDev trngHealthFail s

/-- R155: a repeat passes: the DRBG reseeds and resumes; the third failure makes the TRNG FAILED. -/
def trngRetest (passed : Bool) (d : Dev) : Dev :=
  if d.vault.trng ≠ 1 then d
  else
    let n := d.vault.trngFails + 1
    let d := record 0x116 (dieTarget 9) (le 1 0 ++ le 1 n ++ le 1 (b2n passed)) d
    if passed then
      { (fresh d).2 with vault := { d.vault with trng := 0, trngFails := 0, generates := 0, reseedAt := d.time.elapsed } }
    else { d with vault := { d.vault with trng := if n = 3 then 2 else 1, trngFails := n } }

def execTrngRetest (passed : Bool) (s : State) : Host.Outcome State Fault Refusal := onDev (trngRetest passed) s

/-- R155: the DRBG reseeds after 2^16 generate requests or 10 s, whichever comes first. -/
def drbgReseed (d : Dev) : Dev :=
  if d.vault.trng ≠ 0 then d
  else
    let d := if d.vault.generates < 65536 then waitTicks (d.vault.reseedAt + ticksMs 10000) d else d
    { (fresh d).2 with vault := { d.vault with generates := 0, reseedAt := d.time.elapsed } }

def execDrbgReseed (s : State) : Host.Outcome State Fault Refusal := onDev drbgReseed s

/-- One generate request of the DRBG for `n` bytes. -/
def drbg (n : Nat) (d : Dev) : Bytes × Dev :=
  let (b, d) := freshBytes n d
  (b, { d with vault := { d.vault with generates := d.vault.generates + 1 } })

/-- R176. -/
def vaultRandom (c : Ctx) (d : Dev) : Ans :=
  let n := fld c.pl 0 4
  need (decide (16 ≤ n ∧ n ≤ 256 ∧ n % 16 = 0)) .badField <|
  need (decide (d.vault.trng = 0)) .badState <|
    .ok (drbg n d).1 (drbg n d).2

def execVaultRandom (r : Request) (s : State) : Host.Outcome State Fault Refusal :=
  onMailbox { op := 0x060C, len := 4, vault := true } (fun c _ d => vaultRandom c d) r s

/-- R142, R176. -/
def otpRead (c : Ctx) (o : Otp) (d : Dev) : Ans :=
  let off := fld c.pl 0 2
  let n := fld c.pl 2 2
  need (decide (4 ≤ n ∧ n ≤ 256 ∧ n % 4 = 0 ∧ off + n ≤ 8192) && !overlapsSecret off n) .badField <|
    .ok (otpBytes o off n) d

def execOtpRead (r : Request) (s : State) : Host.Outcome State Fault Refusal :=
  onMailbox { op := 0x060D, len := 4, vault := true } otpRead r s

/-- R168, R176. -/
def execVaultCntRead (r : Request) (s : State) : Host.Outcome State Fault Refusal :=
  onMailbox { op := 0x060E, len := 4, vault := true, resv := onlyBits 0 4 1 }
    (fun c _ d => cntRead .vault 0 8 (clearFlag 0 c.pl) d) r s

/-- R169. -/
def vaultStatus (o : Otp) (d : Dev) : Ans :=
  let v := d.vault
  .ok (le 1 v.lc ++ le 1 ((ownerSlot o).getD 0xFF) ++ le 1 (heldEntries o) ++ le 1 (heldClears o)
    ++ le 1 (rollbackLevel o) ++ le 1 (otpByte o 0x268) ++ le 1 (otpByte o 0x253) ++ le 1 v.trng ++ le 4 v.latch
    ++ le 4 v.live ++ le 2 (v.store.length + v.derived.length) ++ le 2 d.prot.mka.length ++ le 2 v.jobs.length ++ zeros 2
    ++ le 8 v.nonce ++ le 8 v.ceiling ++ v.lastTamper.bytes ++ zeros 12) d

def execVaultStatus (r : Request) (s : State) : Host.Outcome State Fault Refusal :=
  onMailbox { op := 0x0601, len := 0, vault := true } (fun _ o d => vaultStatus o d) r s

/-! ### The look-aside service (R157 to R161, R174) -/

/-- R157: the class a mode requires. -/
def laClass (mode : Nat) : Nat :=
  match mode with | 1 => 0x12 | 2 => 0x13 | 3 => 0x12 | 4 => 0x13 | 5 => 1 | _ => 2

/-- R157, R174: lengths, mode and hold of a job are in order. -/
def laShapeOk (mode aad data : Nat) (hold : Bool) (iv tag : Bytes) : Bool :=
  decide (aad % 16 = 0 ∧ aad ≤ 16777216 ∧ data % 16 = 0 ∧ 16 ≤ data ∧ data ≤ 16777216)
    && (decide (mode ≤ 2) || decide (aad = 0))
    && (!hold || (decide (mode = 2 ∨ mode = 7) && decide (data ≤ 65536)))
    && (match mode with
        | 2 => allZero (iv.drop 12)
        | 3 => true
        | 4 => true
        | _ => allZero iv)
    && (decide (mode = 2 ∨ mode = 7) || allZero tag)

/-- R159: the elapsed time from which the next nonce may be issued: at most one in 10 µs. -/
def nonceDue (d : Dev) : Nat := match d.vault.nonceAt with | some t => t + ticksUs 10 | none => 0

/-- R159: take the next nonce, when the counter stands below the committed ceiling and 10 µs have passed since the last. -/
def takeNonce (o : Otp) (d : Dev) : Bytes × Dev :=
  if d.vault.nonce < d.vault.ceiling ∧ nonceDue d ≤ d.time.elapsed then
    (be 4 (otpFld o 0x0C 4) ++ be 8 d.vault.nonce,
      { d with vault := { d.vault with nonce := d.vault.nonce + 1, nonceAt := some d.time.elapsed } })
  else ([], d)

/-- R174. -/
def laJobStart (c : Ctx) (o : Otp) (d : Dev) : Ans :=
  let j := fld c.pl 0 1
  let mode := fld c.pl 1 1
  let hold := bit (fld c.pl 2 1) 0
  let slot := fld c.pl 4 2
  let aad := fld c.pl 8 4
  let data := fld c.pl 12 4
  let iv := slice c.pl 16 16
  let tag := slice c.pl 32 16
  need (decide (j < 16 ∧ 32 ≤ slot ∧ slot ≤ 1023)) .badField <|
  need (!Map.has d.vault.jobs j) .busy <|
  match (keySlot slot d).active with
  | none => .fail .badState
  | some k =>
    if k.cls ≠ laClass mode then
      (if attrOf k.cls ≠ attrOf (laClass mode) then .reply .badState [] (bump .vault 0 2 d) else .fail .badState)
    else
      need (laShapeOk mode aad data hold iv tag) .badField <|
      need (!(hold && d.vault.jobs.any (fun e => e.2.hold))) .busy <|
        let nd := if mode = 1 then takeNonce o d else (if mode = 2 then iv.take 12 else iv, d)
        let job : LaJob := ⟨c.handle, mode, hold, slot, k, aad, data, nd.1, tag, [], 0, [], false, none, d.time.elapsed, 0, 0, []⟩
        .pend (1000 + ceilDiv (aad + data) 3750) j
          { nd.2 with vault := { nd.2.vault with jobs := Map.put nd.2.vault.jobs j job } }

def execLaJobStart (r : Request) (s : State) : Host.Outcome State Fault Refusal :=
  onMailbox { op := 0x060A, len := 48, held := true, vault := true,
              resv := fun p => decide (1 ≤ fld p 1 1 ∧ fld p 1 1 ≤ 7) && onlyBits 2 1 1 p && z 3 1 p && z 6 2 p }
    laJobStart r s

/-- The data stream of a job so far, after the AAD. -/
def laData (j : LaJob) : Bytes := j.input.drop j.aadLen

/-- R157: has the job received its whole input? -/
def laInputDone (j : LaJob) : Bool := decide (j.aadLen + j.dataLen ≤ j.input.length)

/-- R157: the output stream over the input received so far. -/
def laOutput (j : LaJob) : Bytes :=
  match j.mode with
  | 1 => if j.iv.isEmpty then [] else gcmCrypt j.key.bytes j.iv (laData j)
  | 2 => gcmCrypt j.key.bytes j.iv (laData j)
  | 3 => ctrCrypt j.key.bytes j.iv (laData j)
  | 4 => ctrCrypt j.key.bytes j.iv (laData j)
  | 5 => if laInputDone j then kwpWrap j.key.bytes (laData j) ++ zeros 8 else []
  | _ => []

/-- R157: length of the output stream. -/
def laOutLen (j : LaJob) : Nat :=
  if j.mode = 5 then j.dataLen + 16 else if j.mode ≤ 4 then j.dataLen else 0

/-- The tag a job computes over its whole input. -/
def laTag (j : LaJob) : Bytes :=
  let aad := j.input.take j.aadLen
  match j.mode with
  | 1 => gcmTag j.key.bytes j.iv aad (laOutput j)
  | 2 => gcmTag j.key.bytes j.iv aad (laData j)
  | _ => aesCmac j.key.bytes (laData j)

/-- The parts of the input that follow `n` bytes without a gap, at most `fuel` of them; the first still missing ends them. -/
def laFollow : Nat → Nat → Map Bytes → Bytes × Map Bytes
  | 0, _, ps => ([], ps)
  | fuel + 1, n, ps =>
    match Map.get? ps n with
    | none => ([], ps)
    | some b => let r := laFollow fuel (n + b.length) (Map.del ps n); (b ++ r.1, r.2)

/-- R158: input for the offset `off` arrives; what follows the input so far without a gap joins it. -/
def laFeed (off : Nat) (bs : Bytes) (j : LaJob) : LaJob :=
  let ps := Map.put j.parts off bs
  let r := laFollow ps.length j.input.length ps
  { j with input := j.input ++ r.1, parts := r.2 }

/-- Remove a job. -/
def dropJob (n : Nat) (d : Dev) : Dev := { d with vault := { d.vault with jobs := Map.del d.vault.jobs n } }

/-- Store a job. -/
def setJob (n : Nat) (j : LaJob) (d : Dev) : Dev :=
  { d with vault := { d.vault with jobs := Map.put d.vault.jobs n j } }

/-- R160: write zeros over every host byte range that the job's output descriptors wrote. -/
def zeroFill (j : LaJob) (d : Dev) : Dev :=
  j.written.foldl (fun d w => emit (.hostWrite w.2.1 (zeros w.2.2)) d) d

/-- R161: end a job with its output zero-filled; the held descriptor is written back with code 0x05. -/
def endJob (writeBack : Nat → DmaDesc → Nat → Dev → Dev) (n : Nat) (st : Status) (d : Dev) : Dev :=
  match Map.get? d.vault.jobs n with
  | none => d
  | some j =>
    let d := dropJob n (zeroFill j d)
    let d := match j.heldDesc with | some (ch, ds) => writeBack ch ds 5 d | none => d
    complete j.handle st [] d

end Sys2Proof.Machine
end

