-- ==== Sys2Proof/Machine/Slots.lean ====
section
/-! DEFINITION. Sys2Proof/Machine/Slots.lean: SA slots: names, states, notifications, switching and freeing
(R112 to R125). -/
namespace Sys2Proof.Machine

/-- The SecY of a die and index in the active set. -/
def secyPrm (die idx : Nat) (d : Dev) : Option SecyPrm := Map.get? (prm d).secys (2048 * die + idx)

/-- R87: does the suite have extended packet numbers? -/
def suiteXpn (suite : Nat) : Bool := decide (3 ≤ suite)

/-- R87: the key length of a suite, in bytes. -/
def suiteKeyLen (suite : Nat) : Nat := if suite = 1 ∨ suite = 3 then 16 else 32

/-- An EMPTY slot. -/
def emptySa : SaSlot :=
  ⟨.empty, [], [], 0, 0, 0, 0, 0, TS96.zero, TS96.zero, 0, false, false, none, 0, false, false, false, none, []⟩

/-- The slot at a place. -/
def sa (k : Nat) (d : Dev) : SaSlot := Map.get d.prot.slots k emptySa

/-- Store a slot. -/
def setSa (k : Nat) (x : SaSlot) (d : Dev) : Dev := { d with prot := { d.prot with slots := Map.put d.prot.slots k x } }

/-- R114, R130, R136: zeroize a slot: it is EMPTY from now on, and its counters are discarded. -/
def freeSa (k : Nat) (d : Dev) : Dev :=
  cntClear .sa k (setSa k { emptySa with since := now d, sinceTick := d.time.lineElapsed } d)

/-- Enter a state. -/
def saEnter (st : SaState) (k : Nat) (d : Dev) : Dev :=
  setSa k { sa k d with state := st, since := now d, sinceTick := d.time.lineElapsed } d

/-- R462: the target of the cipher port of a SecY. -/
def secySource (die idx : Nat) (d : Dev) : Nat :=
  match secyPrm die idx d with | some p => portTarget p.port | none => dieTarget die

/-- R462: data of SA_PN_THRESHOLD, SA_PN_EXHAUSTED and SA_RETIRED. -/
def saNotifData (k dropped : Nat) (d : Dev) : Bytes :=
  le 1 (b2n (saRx k)) ++ le 1 (saAn k) ++ le 2 (saSc k) ++ le 4 (sa k d).keyId ++ le 8 (sa k d).nextPn ++ le 4 dropped

/-- The TX SA in use of a SecY (R119); an EXHAUSTED one still is the SecY's (R124). -/
def txInUse (die idx : Nat) (d : Dev) : Option Nat :=
  (List.range 4).find? (fun a => decide ((sa (saKey die false idx a) d).state = .inUse ∨
    (sa (saKey die false idx a) d).state = .exhausted))

/-- R120: the pending switch of a SecY, single or in a batch: its instant and its target AN. -/
def pendingSwitch (die idx : Nat) (d : Dev) : Option (Nat × Nat) :=
  match Map.get? d.prot.switches (2048 * die + idx) with
  | some w => some (w.at_, w.an)
  | none => d.prot.batches.findSome? (fun b =>
      (b.2.list.find? (fun e => decide (e.1 = die ∧ e.2.1 = idx))).map (fun e => (b.2.at_, e.2.2)))

/-- R120: is a switch pending on the SecY? -/
def switchPending (die idx : Nat) (d : Dev) : Bool := (pendingSwitch die idx d).isSome

/-- R120: does a pending switch of the SecY hold the slot of an AN: as its target, or as the slot in use? -/
def heldBySwitch (die idx an : Nat) (d : Dev) : Bool :=
  match pendingSwitch die idx d with
  | some w => decide (w.2 = an) || decide (txInUse die idx d = some an)
  | none => false

/-- R117, R119: the AN whose slot a SecY uses where a counter reads `t`: the target of a switch that has come there; the slot
that was in use before, where the last switch has not; else the slot in use. -/
def txAt (die idx t : Nat) (d : Dev) : Option Nat :=
  let due := match pendingSwitch die idx d with
    | some (g, an) => if g ≤ t ∧ (sa (saKey die false idx an) d).state = SaState.installed then some an else none
    | none => none
  match due, Map.get? d.prot.switched (2048 * die + idx) with
  | some an, _ => some an
  | none, some (g, e, a) =>
    if g ≤ t ∨ e ≠ d.time.epoch then txInUse die idx d
    else if a = 4 then none
    else if (sa (saKey die false idx a) d).state = SaState.retiring then some a else txInUse die idx d
  | none, none => txInUse die idx d

/-- R124, R125: the PN threshold of a SecY: its field, or the default of its suite. -/
def SecyPrm.threshold (p : SecyPrm) : Nat :=
  p.pnThreshold.getD (if suiteXpn p.suite then 0xC000000000000000 else 0xC0000000)

/-- R124: under firmware keying a new SAK is wanted. -/
def wantSak (n : Nat) (p : SecyPrm) (d : Dev) : Dev :=
  match Map.get? d.prot.mka n with
  | some m => if p.hostKeying then d else { d with prot := { d.prot with mka := Map.put d.prot.mka n { m with rekey := true } } }
  | none => d

/-- R124, R125, R414: raise SA_PN_THRESHOLD once when next_pn has reached the SecY's pn_threshold, or, on an SA with a
limit of R414, R_m + 2^39. -/
def checkThreshold (k : Nat) (d : Dev) : Dev :=
  let x := sa k d
  match secyPrm (saDie k) (saSc k) d with
  | none => d
  | some p =>
    let at_ := match x.limit with | some l => min p.threshold (l - 2 ^ 39) | none => p.threshold
    if saRx k || x.threshold || decide (x.nextPn < at_) then d
    else
      let d := bump .key (saDie k) 5 (setSa k { x with threshold := true } d)
      wantSak (2048 * saDie k + saSc k) p (notify 0x10 (portTarget p.port) (saNotifData k 0 d) d)

/-- R97: the lowest acceptable PN of an RX SA. -/
def lowestPn (k : Nat) (d : Dev) : Nat :=
  match secyPrm (saDie k) (saSecy k d) d with
  | some p => max ((sa k d).nextPn - p.replayWindow) 1
  | none => max (sa k d).nextPn 1

/-- R118: free a RETIRING slot and notify SA_RETIRED. -/
def retireSlot (k dropped : Nat) (d : Dev) : Dev :=
  let src := secySource (saDie k) (saSecy k d) d
  let data := saNotifData k dropped d
  notify 0x12 src data (freeSa k d)

/-- R119, R124: make an INSTALLED slot the TX SA in use; the one in use before becomes RETIRING, and frames that wait
on an EXHAUSTED one are handed to the new SA. -/
def doSwitch (die idx an : Nat) (d : Dev) : Dev :=
  let k := saKey die false idx an
  if (sa k d).state ≠ .installed then d
  else
    let d := match txInUse die idx d with
      | none => d
      | some a =>
        let old := saKey die false idx a
        let d := if (sa old d).state = .exhausted then rebindFrames old k d else d
        saEnter .retiring old d
    bump .key die 3 (checkThreshold k (saEnter .inUse k d))

/-- R117, R124: a switch at `g` to an AN is noted, for the frames whose ingress lies before it; those of an EXHAUSTED slot
follow the new one whatever their ingress, so that nothing is noted. -/
def noteSwitch (g die idx an : Nat) (d : Dev) : Dev :=
  if (sa (saKey die false idx an) d).state ≠ .installed then d
  else
    let n := 2048 * die + idx
    let put (a : Nat) : Dev := { d with prot := { d.prot with switched := Map.put d.prot.switched n (g, d.time.epoch, a) } }
    match txInUse die idx d with
    | none => put 4
    | some a =>
      if (sa (saKey die false idx a) d).state = .exhausted then
        { d with prot := { d.prot with switched := Map.del d.prot.switched n } }
      else put a

/-- Set the controlled port of a SecY (R98). -/
def setPortEnabled (n : Nat) (on : Bool) (d : Dev) : Dev :=
  { d with prot := { d.prot with enabled :=
      if on then n :: d.prot.enabled.filter (fun m => m != n) else d.prot.enabled.filter (fun m => m != n) } }

/-- R98: under firmware keying the controlled port is enabled once the TX SA of the latest SAK is in use and a peer is live. -/
def mkaEnable (n : Nat) (d : Dev) : Dev :=
  match Map.get? d.prot.mka n, secyPrm (n / 2048) (n % 2048) d with
  | some m, some p =>
    if !p.hostKeying && !m.peers.isEmpty && m.latestAn.isSome && decide (txInUse (n / 2048) (n % 2048) d = m.latestAn) then
      setPortEnabled n true d
    else d
  | _, _ => d

/-- R98, R117, R119: one SecY switches at its instant. -/
def switchAt (g die idx an : Nat) (d : Dev) : Dev :=
  mkaEnable (2048 * die + idx) (doSwitch die idx an (noteSwitch g die idx an d))

/-- R124, R414: the last PN that a slot may give. -/
def lastPn (k : Nat) (d : Dev) : Nat :=
  match secyPrm (saDie k) (saSc k) d with
  | some p => if suiteXpn p.suite then (sa k d).limit.getD (2 ^ 64 - 1) else 0xFFFFFFFF
  | none => 2 ^ 64 - 1

/-- R124: has a RETIRING slot given its last PN? -/
def spent (k : Nat) (d : Dev) : Bool := decide ((sa k d).state = .retiring ∧ lastPn k d < (sa k d).nextPn)

/-- R114, R124: a RETIRING slot that has given its last PN hands every frame bound to it to the SA in use. -/
def handOverAll (k : Nat) (d : Dev) : Dev :=
  if spent k d then
    match txInUse (saDie k) (saSc k) d with
    | some a => rebindFrames k (saKey (saDie k) false (saSc k) a) d
    | none => d
  else d

/-- R124: a frame bound to a RETIRING slot past its last PN is handed to the SA in use. -/
def handOver (f : Frame) (d : Dev) : Frame :=
  match f.slot with
  | some k =>
    if spent k d then
      match txInUse (saDie k) (saSc k) d with
      | some a => { f with slot := some (saKey (saDie k) false (saSc k) a) }
      | none => f
    else f
  | none => f

/-- R119, R133: the result of a switch. -/
def switchResult (g an : Nat) : Bytes := (tsOf g).bytes ++ le 1 an ++ zeros 3

/-- R330: is the peer of a SecY confirmed stamp-capable? -/
def cdConfirmed (die idx : Nat) (p : SecyPrm) (d : Dev) : Bool :=
  if p.hostKeying then (Map.get d.act.cdPeer (2048 * die + idx) (false, 0)).1
  else match Map.get? d.prot.mka (2048 * die + idx) with
    | some m => !m.peers.isEmpty && m.peers.all (fun x => match x.cd with | some (r, _) => r | none => false)
    | none => false

/-- R411: the block size of a suite. -/
def pnBlock (suite : Nat) : Nat := if suiteXpn suite then 2 ^ 24 else 2 ^ 20

/-- R411: are reservations kept for the SecY's TX SAs: paired, and this twin serves it? -/
def reserves (p : SecyPrm) (d : Dev) : Bool := paired d && servesHome p.home d

/-- R411: mirror a reservation for a TX slot. -/
def reservePn (k rm : Nat) (d : Dev) : Dev := twinPost (.pnReservation k rm) (setSa k { sa k d with renewing := true } d)

/-- R330, R411: a newly installed SA takes its stamping flag, and a TX SA its first reservation. -/
def afterInstall (k : Nat) (d : Dev) : Dev :=
  match secyPrm (saDie k) (saSecy k d) d with
  | none => d
  | some p =>
    let d := setSa k { sa k d with stamps := decide (p.cd.mode = 1) && cdConfirmed (saDie k) (saSecy k d) p d } d
    if !saRx k && reserves p d then reservePn k ((sa k d).nextPn + pnBlock p.suite) d else d

/-- R129, R271: cancel every pending single switch (all of them, or the scheduled ones). -/
def cancelSwitches (scheduledOnly : Bool) (st : Status) (d : Dev) : Dev :=
  let hit := d.prot.switches.filter (fun e => !scheduledOnly || e.2.handle.isSome)
  let d := { d with prot := { d.prot with
    switches := d.prot.switches.filter (fun e => scheduledOnly && !e.2.handle.isSome) } }
  hit.foldl (fun d e => settle e.2.handle e.2.mailbox st [] d) d

/-- R123, R129: cancel every pending batch. -/
def cancelBatches (st : Status) (d : Dev) : Dev :=
  let hs := d.prot.batches.map (·.1)
  hs.foldl (fun d h => complete h st [] d) { d with prot := { d.prot with batches := [] } }

end Sys2Proof.Machine
end

