-- ==== Sys2Proof/Machine/Hss.lean ====
section
/-! DEFINITION. Sys2Proof/Machine/Hss.lean: SHA-256 (FIPS 180-4) and the verification of hash-based signatures (RFC 8554) with
the parameters of R162: two levels of LMS_SHA256_M32_H15 with LMOTS_SHA256_N32_W4. -/
namespace Sys2Proof

/-! ### SHA-256 -/

/-- The 64 round constants as one number, constant `i` in bits [32 i + 31 : 32 i]. -/
def shaRoundTable : Nat :=
  0xc67178f2bef9a3f7a4506ceb90befffa8cc7020884c8781478a5636f748f82ee682e6ff35b9cca4f4ed8aa4a391c0cb334b0bcb52748774c1e376c0819a4c116106aa070f40e3585d6990624d192e819c76c51a3c24b8b70a81a664ba2bfe8a192722c8581c2c92e766a0abb650a735453380d134d2c6dfc2e1b213827b70a851429296706ca6351d5a79147c6e00bf3bf597fc7b00327c8a831c66d983e515276f988da5cb0a9dc4a7484aa2de92c6f240ca1cc0fc19dc6efbe4786e49b69c1c19bf1749bdc06a780deb1fe72be5d74550c7dc3243185be12835b01d807aa98ab1c5ed5923f82a459f111f13956c25be9b5dba5b5c0fbcf71374491428a2f98

/-- The eight initial words in the same form. -/
def shaStartTable : Nat :=
  0x5be0cd191f83d9ab9b05688c510e527fa54ff53a3c6ef372bb67ae856a09e667

/-- The words of a table. -/
def shaWords (table n : Nat) : List (BitVec 32) := (List.range n).map (fun i => BitVec.ofNat 32 (bits table (32 * i) 32))

/-- Rotate right. -/
def ror (n : Nat) (x : BitVec 32) : BitVec 32 := x.rotateRight n

/-- The message padded to whole blocks: a one bit, zeros, and its length in bits. -/
def shaPad (m : Bytes) : Bytes :=
  m ++ [0x80#8] ++ zeros ((119 - m.length % 64) % 64) ++ be 8 (8 * m.length)

/-- Big-endian words of a byte string. -/
def beWords : Bytes → List (BitVec 32)
  | a :: b :: c :: d :: rest => (a ++ b ++ c ++ d) :: beWords rest
  | _ => []

/-- The next word of the message schedule; `w` holds the sixteen before it, oldest first. -/
def shaNext (w : List (BitVec 32)) : BitVec 32 :=
  let at_ (i : Nat) : BitVec 32 := w.getD i 0
  let s0 := ror 7 (at_ 1) ^^^ ror 18 (at_ 1) ^^^ (at_ 1 >>> 3)
  let s1 := ror 17 (at_ 14) ^^^ ror 19 (at_ 14) ^^^ (at_ 14 >>> 10)
  at_ 0 + s0 + at_ 9 + s1

/-- One round on the eight working words with the constant `k` and the message word `w`. -/
def shaRound (k w : BitVec 32) : List (BitVec 32) → List (BitVec 32)
  | [a, b, c, d, e, f, g, h] =>
    let t1 := h + (ror 6 e ^^^ ror 11 e ^^^ ror 25 e) + ((e &&& f) ^^^ (~~~e &&& g)) + k + w
    let t2 := (ror 2 a ^^^ ror 13 a ^^^ ror 22 a) + ((a &&& b) ^^^ (a &&& c) ^^^ (b &&& c))
    [t1 + t2, a, b, c, d + t1, e, f, g]
  | s => s

/-- The rounds over their constants, with the sixteen schedule words from here on. -/
def shaRounds : List (BitVec 32) → List (BitVec 32) → List (BitVec 32) → List (BitVec 32)
  | [], _, s => s
  | k :: ks, w, s => shaRounds ks (w.drop 1 ++ [shaNext w]) (shaRound k (w.headD 0) s)

/-- Compress one block of sixteen words into the hash. -/
def shaBlock (h w : List (BitVec 32)) : List (BitVec 32) :=
  List.zipWith (· + ·) h (shaRounds (shaWords shaRoundTable 64) w h)

/-- Compress the blocks in order, at most `fuel` of them. -/
def shaBlocks : Nat → List (BitVec 32) → List (BitVec 32) → List (BitVec 32)
  | 0, h, _ => h
  | fuel + 1, h, ws => if ws.isEmpty then h else shaBlocks fuel (shaBlock h (ws.take 16)) (ws.drop 16)

/-- SHA-256. -/
def sha256 (m : Bytes) : Bytes :=
  let ws := beWords (shaPad m)
  (shaBlocks (ws.length / 16) (shaWords shaStartTable 8) ws).flatMap (fun x => be 4 x.toNat)

/-! ### LM-OTS (RFC 8554 section 4): n = 32, w = 4, p = 67, ls = 4 -/

/-- Nibbles of a byte string, the high one first (`coef` with w = 4). -/
def nibbles (b : Bytes) : List Nat := b.flatMap (fun x => [x.toNat / 16, x.toNat % 16])

/-- The digits that a message hash signs: its 64 nibbles and the three of its checksum. -/
def otsDigits (q : Bytes) : List Nat :=
  let ns := nibbles q
  ns ++ (nibbles (be 2 (16 * (ns.map (fun x => 15 - x)).sum))).take 3

/-- Hash on along the chain `i` of one signature, `n` steps from the step `j`. -/
def otsChain (pre : Bytes) (i : Nat) : Nat → Nat → Bytes → Bytes
  | 0, _, y => y
  | n + 1, j, y => otsChain pre i n (j + 1) (sha256 (pre ++ be 2 i ++ be 1 j ++ y))

/-- The public key that the signature `sig` (from its type on) of `msg` gives; `pre` is I and q. -/
def otsKey (pre sig msg : Bytes) : Bytes :=
  let digits := otsDigits (sha256 (pre ++ be 2 0x8181 ++ slice sig 4 32 ++ msg))
  sha256 (pre ++ be 2 0x8080 ++
    digits.zipIdx.flatMap (fun x => otsChain pre x.2 (15 - x.1) x.1 (slice sig (36 + 32 * x.2) 32)))

/-! ### LMS (RFC 8554 section 5): height 15 -/

/-- Climb from the node `node` over a path of sibling hashes to the root, at most `fuel` levels. -/
def lmsClimb (id : Bytes) : Nat → Nat → Bytes → Bytes → Bytes
  | 0, _, _, t => t
  | fuel + 1, node, path, t =>
    let pair := if node % 2 = 1 then slice path 0 32 ++ t else t ++ slice path 0 32
    lmsClimb id fuel (node / 2) (path.drop 32) (sha256 (id ++ be 4 (node / 2) ++ be 2 0x8383 ++ pair))

/-- Does the 2,668-byte signature of `msg` verify under a 56-byte LMS public key? -/
def lmsVerify (key sig msg : Bytes) : Bool :=
  let id := slice key 8 16
  let q := fldBe sig 0 4
  let kc := otsKey (id ++ be 4 q) (slice sig 4 2180) msg
  let leaf := sha256 (id ++ be 4 (2 ^ 15 + q) ++ be 2 0x8282 ++ kc)
  decide (slice key 0 8 = be 4 7 ++ be 4 3 ∧ slice sig 4 4 = be 4 3 ∧ slice sig 2184 4 = be 4 7 ∧ q < 2 ^ 15) &&
    decide (lmsClimb id 15 (2 ^ 15 + q) (slice sig 2188 480) leaf = slice key 24 32)

/-! ### HSS (RFC 8554 section 6): two levels -/

/-- Does the 5,396-byte signature of `msg` verify under a 60-byte HSS public key: the level-0 key signs the level-1 key, which
signs the message? -/
def hssVerify (key sig msg : Bytes) : Bool :=
  let pub := slice sig 2672 56
  decide (slice key 0 4 = be 4 2 ∧ slice sig 0 4 = be 4 1) && lmsVerify (key.drop 4) (slice sig 4 2668) pub &&
    lmsVerify pub (slice sig 2728 2668) msg

end Sys2Proof
end

