-- ==== Sys2Proof/Machine/Firmware.lean ====
section
/-! DEFINITION. Sys2Proof/Machine/Firmware.lean: boot flash, firmware images and the FIRMWARE command group
(16_startup_power.md). -/
namespace Sys2Proof.Machine

/-! ### Boot flash (R434 to R437) -/

/-- An erased byte of flash; a byte the device has not written reads so. -/
def flashErased : Byte := 0xFF#8

/-- Bytes of boot flash. -/
def flashRead (off n : Nat) (d : Dev) : Bytes := memRead flashErased d.sys.flash off n

/-- Write boot flash. -/
def flashWrite (off : Nat) (bs : Bytes) (d : Dev) : Dev :=
  { d with sys := { d.sys with flash := memWrite flashErased d.sys.flash off bs } }

/-- Offset of an image slot (R434). -/
def slotBase (slot : Nat) : Nat := slot * 0x1000000

/-- Boot control as a copy gives it (R436). -/
structure BootCtl where
  seq : Nat
  active : Nat
  trial : Nat
  count : Nat
  deriving DecidableEq, Repr

/-- R436: one copy of boot control, if its CRC is valid. -/
def bootCopy (k : Nat) (d : Dev) : Option BootCtl :=
  let bs := flashRead (0x2000000 + k * 0x10000) 16 d
  if fld bs 12 4 = crc32c (slice bs 0 12) then some ⟨fld bs 0 4, fld bs 4 1, fld bs 5 1, fld bs 6 1⟩ else none

/-- R436: the copy that governs, and its number. -/
def bootGoverning (d : Dev) : Option (Nat × BootCtl) :=
  match bootCopy 0 d, bootCopy 1 d with
  | some a, some b => if a.seq < b.seq then some (1, b) else some (0, a)
  | some a, none => some (0, a)
  | none, some b => some (1, b)
  | none, none => none

/-- R436: boot control in force; with no valid copy, slot 0 and no trial. -/
def bootCtl (d : Dev) : BootCtl := match bootGoverning d with | some (_, b) => b | none => ⟨0, 0, 0xFF, 0⟩

/-- R436: a change writes the other copy with seq + 1. -/
def bootWrite (b : BootCtl) (d : Dev) : Dev :=
  let k := match bootGoverning d with | some (k, _) => 1 - k | none => 0
  let bs := le 4 ((bootCtl d).seq + 1) ++ le 1 b.active ++ le 1 b.trial ++ le 1 b.count ++ zeros 5
  flashWrite (0x2000000 + k * 0x10000) (bs ++ le 4 (crc32c bs)) d

/-- What verification finds of an image: verdict (R453), root index, security version, firmware version. -/
structure Verdict where
  verdict : Nat
  root : Nat
  security : Nat
  version : Nat
  deriving DecidableEq, Repr

/-- R162: the SHA-256 of the image's top-level public key is the root it names, which is not revoked. -/
def rootKnown (root : Nat) (key : Bytes) (o : Otp) : Bool :=
  !bit (otpByte o 0x268) root && decide (sha256 key = otpBytes o (0x270 + 32 * root) 32)

/-- R435, R162: verify the image in a slot: header, root, signature, rollback level, in the order of R453. -/
def verifySlot (slot : Nat) (o : Otp) (d : Dev) : Verdict :=
  let h := flashRead (slotBase slot) 32 d
  let sig := fld h 12 4
  let root := fld h 20 1
  let sec := fld h 6 2
  let headerGood := decide (fld h 0 4 = 0x4C584657 ∧ fld h 4 2 = 1 ∧ sec ≤ 128 ∧ sig % 4 = 0 ∧ sig ≤ 16777216 - 5396 ∧
    fld h 16 4 = 5396 ∧ root ≤ 3 ∧ fld h 21 1 < 2 ^ root ∧ fld h 24 8 = 0)
  let key := Config.topKey root (flashRead (slotBase slot) 0x1000000 d)
  let v :=
    if !headerGood then 1
    else if !rootKnown root key o then 2
    else if !hssVerify key (flashRead (slotBase slot + sig) 5396 d) (flashRead (slotBase slot) sig d) then 3
    else if sec < rollbackLevel o then 4 else 0
  ⟨v, root, sec, fld h 8 4⟩

/-- The journal format of the image in a slot (R435, R438). -/
def journalVersion (slot : Nat) (d : Dev) : Nat := fld (flashRead (slotBase slot) 32 d) 22 2

/-- The slots to try in order, and boot control as it is left (R436): a set trial slot below its third count comes
first and is counted. -/
def bootPlan (d : Dev) : List Nat × Dev :=
  let b := bootCtl d
  let rest := [b.active, 1 - b.active]
  if b.trial ≤ 1 ∧ b.count < 3 then
    (b.trial :: rest, bootWrite { b with count := b.count + 1 } d)
  else (rest, d)

/-- R436: the first slot of the plan that verifies. -/
def bootChoose (plan : List Nat) (o : Otp) (d : Dev) : Option Nat :=
  plan.find? (fun k => decide ((verifySlot k o d).verdict = 0))

/-- R436, R437: choose the image as the ROM and every firmware restart do; a fallback writes an event record. -/
def bootSelect (o : Otp) (d : Dev) : Option Nat × Dev :=
  let b := bootCtl d
  let (plan, d) := bootPlan d
  let first := plan.headD 0
  match bootChoose plan o d with
  | none => (none, d)
  | some k =>
    let fellBack := decide (k ≠ first) || (decide (b.trial ≤ 1 ∧ 3 ≤ b.count))
    let tried := if b.trial ≤ 1 ∧ 3 ≤ b.count then b.trial else first
    let v := verifySlot k o d
    let d := { d with
      sys := { d.sys with runningSlot := k, runningTrial := decide (b.trial = k ∧ b.count < 3) }
      host := { d.host with fwVersion := v.version } }
    let d := { d with sys := { d.sys with verdicts := Map.put d.sys.verdicts k (0, v.security, v.version) } }
    (some k, if fellBack then
      record 0x0101 deviceTarget (le 1 tried ++ le 1 k ++ le 1 (verifySlot tried o d).verdict) d else d)

/-! ### The FIRMWARE command group (R451 to R456) -/

/-- The verdict known for a slot: verdict, security version, firmware version; 0xFF when it has not been verified. -/
def slotVerdict (slot : Nat) (d : Dev) : Nat × Nat × Nat := Map.get d.sys.verdicts slot (0xFF, 0xFFFF, 0)

/-- The firmware version FW_QUERY shows for a slot. -/
def shownVersion (slot : Nat) (d : Dev) : Nat := let v := slotVerdict slot d; if v.1 = 0 then v.2.2 else 0

/-- The security version FW_QUERY shows for a slot. -/
def shownSecurity (slot : Nat) (d : Dev) : Nat := let v := slotVerdict slot d; if v.1 = 0 then v.2.1 else 0xFFFF

/-- R451. -/
def fwQuery (o : Otp) (d : Dev) : Ans :=
  let b := bootCtl d
  .ok (le 1 d.sys.runningSlot ++ le 1 b.active ++ le 1 b.trial ++ le 1 b.count
    ++ le 4 (shownVersion 0 d) ++ le 4 (shownVersion 1 d) ++ le 2 (shownSecurity 0 d) ++ le 2 (shownSecurity 1 d)
    ++ le 1 (rollbackLevel o) ++ le 1 (otpByte o 0x268) ++ zeros 14) d

def execFwQuery (r : Request) (s : State) : Host.Outcome State Fault Refusal :=
  onMailbox { op := 0x0F01, len := 0 } (fun _ o d => fwQuery o d) r s

/-- Bytes of the staging area (R60); a byte nothing has written reads 0. -/
def stagingRead (off n : Nat) (d : Dev) : Bytes := memRead 0 d.host.staging off n

/-- R452. -/
def fwImageWrite (c : Ctx) (d : Dev) : Ans :=
  let slot := fld c.pl 0 1
  let off := fld c.pl 4 4
  let len := fld c.pl 8 4
  let stage := fld c.pl 12 4
  need (decide (slot ≤ 1 ∧ off % 256 = 0 ∧ 256 ≤ len ∧ len ≤ 4194304 ∧ len % 256 = 0 ∧ off + len ≤ 16777216 ∧
    stage % 256 = 0 ∧ stage + len ≤ 4194304)) .badField <|
  need (decide (slot ≠ d.sys.runningSlot ∧ slot ≠ (bootCtl d).trial)) .badState <|
  need d.sys.imgWrite.isNone .busy <|
    .pend 120000 slot { d with sys := { d.sys with
      verdicts := Map.del d.sys.verdicts slot
      imgWrite := some ⟨c.handle, slot, bit (fld c.pl 1 1) 0, off, stagingRead stage len d⟩ } }

def execFwImageWrite (r : Request) (s : State) : Host.Outcome State Fault Refusal :=
  onMailbox { op := 0x0F02, len := 16, resv := fun p => onlyBits 1 1 1 p && z 2 2 p }
    (fun c _ d => fwImageWrite c d) r s

/-- R452: the write to flash ends. -/
def fwImageWriteComplete (d : Dev) : Dev :=
  match d.sys.imgWrite with
  | none => d
  | some w =>
    let base := slotBase w.slot
    let fl := if w.erase then d.sys.flash.filter (fun c => c.1 < base ∨ base + 0x1000000 ≤ c.1) else d.sys.flash
    let d := { d with sys := { d.sys with imgWrite := none, flash := memWrite flashErased fl (base + w.offset) w.data } }
    complete w.handle .ok [] d

def execFwImageWriteComplete (s : State) : Host.Outcome State Fault Refusal := onDev fwImageWriteComplete s

/-- R453. -/
def fwImageVerify (c : Ctx) (d : Dev) : Ans :=
  let slot := fld c.pl 0 1
  need (decide (slot ≤ 1)) .badField <|
  need d.sys.imgVerify.isNone .busy <|
    .pend 200 slot { d with sys := { d.sys with imgVerify := some (c.handle, slot) } }

def execFwImageVerify (r : Request) (s : State) : Host.Outcome State Fault Refusal :=
  onMailbox { op := 0x0F03, len := 4, resv := z 1 3 } (fun c _ d => fwImageVerify c d) r s

/-- R453: verification ends; it completes with OK in every case and reports its verdict. -/
def fwImageVerifyComplete (o : Otp) (d : Dev) : Dev :=
  match d.sys.imgVerify with
  | none => d
  | some (h, slot) =>
    let v := verifySlot slot o d
    let d := { d with sys := { d.sys with
      imgVerify := none, verdicts := Map.put d.sys.verdicts slot (v.verdict, v.security, v.version) } }
    complete h .ok (le 1 v.verdict ++ le 1 v.root ++ le 2 v.security ++ le 4 v.version ++ zeros 8) d

def execFwImageVerifyComplete (s : State) : Host.Outcome State Fault Refusal := onOtp fwImageVerifyComplete s

/-- R438: may a trial of the slot start by a firmware restart? -/
def trialNowOk (slot : Nat) (d : Dev) : Bool :=
  let a := journalVersion slot d
  let b := journalVersion d.sys.runningSlot d
  decide (a = b ∨ a = b + 1)

/-- R67: start a firmware restart: mailboxes stop, the commands they run are interrupted, firmware DMA stops. -/
def startFwRestart (cause : Nat) (d : Dev) : Dev :=
  if !d.sys.fwRunning || d.host.fwRestarting then d
  else
    let busy := d.host.mbs.filter (fun e => e.2.busy)
    { d with host := { d.host with
        fwReady := false, fwRestarting := true, restartCause := cause,
        interrupted := busy.map (fun e => (e.1, false))
        dma := d.host.dma.map (fun e =>
          if 14 ≤ e.1 then (e.1, { e.2 with running := false, inFlight := none }) else e) } }

/-- R454: write trial_slot with trial_count 0; with op 1 the response is written before the restart. -/
def fwActivate (c : Ctx) (d : Dev) : Ans :=
  let slot := fld c.pl 0 1
  need (decide (slot ≤ 1)) .badField <|
  need (decide ((slotVerdict slot d).1 = 0)) .badState <|
  need (decide (fld c.pl 1 1 = 0) || trialNowOk slot d) .badState <|
  need (d.sys.save.isNone && d.sys.imgWrite.isNone) .badState <|
    .replyThen [] (bootWrite { bootCtl d with trial := slot, count := 0 } d)
      (fun d => if fld c.pl 1 1 = 1 then startFwRestart 2 d else d)

def execFwActivate (r : Request) (s : State) : Host.Outcome State Fault Refusal :=
  onMailbox { op := 0x0F04, len := 4, resv := fun p => below 1 2 p && z 2 2 p } (fun c _ d => fwActivate c d) r s

/-- R455, R437: commit the running trial image and program its revoke mask. -/
def fwCommit (o : Otp) (d : Dev) : Ans × Otp :=
  let b := bootCtl d
  if !(d.sys.runningTrial && decide (b.trial = d.sys.runningSlot)) then (.fail .badState, o)
  else
    let mask := fld (flashRead (slotBase d.sys.runningSlot) 32 d) 21 1
    (.ok [] (bootWrite { b with active := d.sys.runningSlot, trial := 0xFF, count := 0 }
      { d with sys := { d.sys with runningTrial := false } }), burn 0x268 (mask % 16) o)

def execFwCommit (r : Request) (s : State) : Host.Outcome State Fault Refusal :=
  onAll (mailboxOtp { op := 0x0F05, len := 0, vault := true } (fun _ o d => fwCommit o d) r) s

/-- R162: program the rollback thermometer up to and including bit `n` - 1. -/
def burnRollback (n : Nat) (o : Otp) : Otp := burnBytes 0x258 (le 16 (2 ^ n - 1)) o

/-- R456. -/
def fwRollbackAdvance (c : Ctx) (o : Otp) (d : Dev) : Ans × Otp :=
  let t := fld c.pl 0 1
  if d.vault.lc = 3 then (.fail .tamperHeld, o)
  else if !(!d.sys.runningTrial && decide (t = (slotVerdict d.sys.runningSlot d).2.1)) then (.fail .badState, o)
  else if t ≤ rollbackLevel o then (.fail .badField, o)
  else (.ok (le 1 t ++ zeros 3) d, burnRollback t o)

def execFwRollbackAdvance (r : Request) (s : State) : Host.Outcome State Fault Refusal :=
  onAll (mailboxOtp { op := 0x0F06, len := 4, auth := .always, vault := true, resv := z 1 3 } fwRollbackAdvance r) s

end Sys2Proof.Machine
end

