-- ==== Sys2Proof/Machine/System.lean ====
section
/-! DEFINITION. Sys2Proof/Machine/System.lean: the SYSTEM command group (R38, R57, R445 to R450). -/
namespace Sys2Proof.Machine

/-- R445: the power state code. -/
def powerCode : Power → Nat
  | .run => 0 | .sleep => 1 | .entering => 2 | .waking => 3 | .off => 0

/-- R445. -/
def systemIdentity (d : Dev) : Ans :=
  .ok (le 8 Config.serial ++ le 4 0x160800B1 ++ le 4 d.host.fwVersion ++ le 1 d.pkg.present ++ le 1 d.vault.lc
    ++ le 1 (powerCode d.sys.power) ++ le 1 d.sys.resetCause ++ le 3 0x1FD416 ++ zeros 1 ++ le 4 d.obs.powerCycles
    ++ zeros 4) d

def execSystemIdentity (r : Request) (s : State) : Host.Outcome State Fault Refusal :=
  onMailbox { op := 0x0101, len := 0 } (fun _ _ d => systemIdentity d) r s

/-- R447: OK, and 1 ms later the device acts as SRST_N. -/
def systemReset (d : Dev) : Ans :=
  .ok [] { d with sys := { d.sys with resetAt := some (d.time.elapsed + ticksMs 1) } }

def execSystemReset (r : Request) (s : State) : Host.Outcome State Fault Refusal :=
  onMailbox { op := 0x0103, len := 4, resv := z 0 4 } (fun _ _ d => systemReset d) r s

/-- R448. -/
def startupSetSave (c : Ctx) (d : Dev) : Ans :=
  match d.cfg.active with
  | none => .fail .badState
  | some a =>
    need d.sys.save.isNone .busy <|
      .pend 30000 0 { d with sys := { d.sys with save := some (c.handle, a.image) } }

def execStartupSetSave (r : Request) (s : State) : Host.Outcome State Fault Refusal :=
  onMailbox { op := 0x0104, len := 0 } (fun c _ d => startupSetSave c d) r s

/-- R434: offset of a start-up set copy. -/
def setCopyBase (k : Nat) : Nat := 0x2100000 + k * 0x400000

/-- R439: the copy saved longer ago. -/
def olderCopy (d : Dev) : Nat := if Map.get d.sys.saveSeq 1 0 < Map.get d.sys.saveSeq 0 0 then 1 else 0

/-- R448: the write ends. -/
def startupSetSaveComplete (d : Dev) : Dev :=
  match d.sys.save with
  | none => d
  | some (h, img) =>
    let k := olderCopy d
    let q := Map.get d.sys.saveSeq (1 - k) 0 + 1
    let d := { d with sys := { d.sys with
      save := none, saveSeq := Map.put d.sys.saveSeq k q
      flash := memWrite flashErased d.sys.flash (setCopyBase k) img } }
    complete h .ok (slice img 8 4 ++ slice img 16 4 ++ zeros 8) d

def execStartupSetSaveComplete (s : State) : Host.Outcome State Fault Refusal := onDev startupSetSaveComplete s

/-- R449: a milestone not yet reached reads 0xFFFF_FFFF. -/
def startupQuery (d : Dev) : Ans :=
  .ok ((List.range 12).flatMap (fun k => le 4 (Map.get d.sys.milestones k 0xFFFFFFFF))) d

def execSystemStartupQuery (r : Request) (s : State) : Host.Outcome State Fault Refusal :=
  onMailbox { op := 0x0105, len := 0 } (fun _ _ d => startupQuery d) r s

/-- R450: with enable 1 in HELD, TAMPER_HELD (already refused at step 5 of R509). R35: the vault must be reachable to verify the
token. -/
def debugEnable (c : Ctx) (d : Dev) : Ans :=
  let on := decide (fld c.pl 0 1 = 1)
  need (!(on && decide (d.vault.lc = 3))) .tamperHeld <|
  need (!on || vaultUp d) .badState <|
    .ok [] { d with sys := { d.sys with debug := on } }

def execDebugEnable (r : Request) (s : State) : Host.Outcome State Fault Refusal :=
  onMailbox { op := 0x0106, len := 4, auth := .enable1, resv := fun p => below 0 2 p && z 1 3 p }
    (fun c _ d => debugEnable c d) r s

/-! ### PKG_CNT_READ (R37, R38) -/

/-- R38: the state code of a link; the link of an absent die reports DOWN. -/
def linkCode (k : Nat) (d : Dev) : Nat :=
  if k < 4 && !diePresent k d then 3
  else match linkState k d with | .up => 0 | .retry => 1 | .retrain => 2 | .down => 3

/-- R38. -/
def pkgCntRead (c : Ctx) (d : Dev) : Ans :=
  let k := fld c.pl 0 1
  let cl := bit (fld c.pl 1 1) 0
  .ok (le 1 (linkCode k d) ++ zeros 7 ++ cntBytes .pkg (pkgObj k true) 7 d ++ cntBytes .pkg (pkgObj k false) 7 d)
    (clearIf cl .pkg (pkgObj k true) (clearIf cl .pkg (pkgObj k false) d))

def execPkgCntRead (r : Request) (s : State) : Host.Outcome State Fault Refusal :=
  onMailbox { op := 0x0107, len := 4, resv := fun p => below 0 5 p && onlyBits 1 1 1 p && z 2 2 p }
    (fun c _ d => pkgCntRead c d) r s

/-! ### AUTH_CHALLENGE (R57) -/

/-- R57: a fresh challenge bound to the mailbox; it replaces any outstanding one. It needs fresh randomness (R155). -/
def authChallenge (c : Ctx) (o : Otp) (d : Dev) : Ans :=
  need (decide (d.vault.trng = 0)) .badState <|
    let kid := tokenKeyId o d
    let (ch, d) := freshBytes 16 d
    .ok (ch ++ le 4 60000 ++ le 4 kid) (setMailbox c.mb { mailbox c.mb d with challenge := some (ch, d.time.elapsed) } d)

def execAuthChallenge (r : Request) (s : State) : Host.Outcome State Fault Refusal :=
  onMailbox { op := 0x01F0, len := 0, vault := true } authChallenge r s

end Sys2Proof.Machine
end

