-- ==== Sys2Proof/Machine/Route.lean ====
section
/-! DEFINITION. Sys2Proof/Machine/Route.lean: where a classified frame goes: mirror queues (R230 to R232), the egg
timer (R335 to R339), the hub (R217, R242), virtual output queues (R217 to R219), and admission on its die. -/
namespace Sys2Proof.Machine

/-- The destination code of the firmware (R181). -/
def fwDest : Nat := 0x40000000

/-- Change one mirror queue. -/
def setMirrorQ (k : Nat) (l : List Frame) (d : Dev) : Dev := { d with fab := { d.fab with mirrorQ := Map.put d.fab.mirrorQ k l } }

/-- The mirror queue of a session. -/
def mirrorQ (k : Nat) (d : Dev) : List Frame := Map.get d.fab.mirrorQ k []

/-- Bytes of frames with their FCS. -/
def framesBytes (l : List Frame) : Nat := (l.map (fun f => f.data.length + 4)).sum

/-- R231, R232: a mirror copy is dropped on a die. -/
def mirrorDrop (k die : Nat) (d : Dev) : Dev := bump .fab die 10 (bump .mirror k 2 d)

/-- R230: is the session's view plaintext? -/
def MirrorPrm.plain (m : MirrorPrm) : Bool := decide (m.point = 0 ∨ m.point = 1 ∨ m.point = 4)

/-- R232, R238: is a plaintext session blocked, for the frame of a number, for want of its destination's analysis flag? A flag
holds for frames classified after it was set. -/
def mirrorBlocked (m : MirrorPrm) (id : Nat) (d : Dev) : Bool :=
  m.plain && !(d.fab.analysis.contains m.dest && decide (Map.get d.fab.analysisFrom m.dest 0 ≤ id))

/-- R231, R232: a copy enters its session's queue of 1 MiB on the destination die. -/
def mirrorEnter (k die : Nat) (f : Frame) (d : Dev) : Dev :=
  if (f.plainView && !d.fab.analysis.contains f.dest) || decide (1048576 < framesBytes (mirrorQ k d) + f.data.length + 4) then mirrorDrop k die d
  else setMirrorQ k (mirrorQ k d ++ [f]) d

/-! ### The firmware path and MGT on the hub (R94, R242, R294) -/

/-- R94: bytes of the 1 MiB receive buffer in use. -/
def fwBufBytes (d : Dev) : Nat := (d.prot.fwBuf.map (fun x => x.data.length + 4)).sum

/-- The SecY number that a destination code of kind SECY names. -/
def secyOfCode (code : Nat) : Option Nat := if code / 2 ^ 28 = 2 then some (2048 * destDie code + bits code 0 11) else none

/-- R94: is the port, in the frame's set, of the cipher side? -/
def cipherIn (p : Nat) (s : SetParams) : Bool := match portPrmIn p s with | some x => decide (x.side = 1) | none => false

/-- R94, R294, R460: a frame reaches the firmware, by which it leaves the datapath. It is dropped while the buffer is full. While the firmware restarts it waits in
the buffer; else MKA of a plain port is discarded, MKA of a cipher port and PTP wait for the firmware's work on them, and any
other frame is passed to the host. -/
def fwArrive (f : Frame) (d : Dev) : Dev :=
  let mka := decide ((parse f.data).etype = 0x888E)
  let cipher := cipherIn f.inPort (prmOf f.gen d)
  if 1048576 < fwBufBytes d + f.data.length + 4 then bump .cport f.inPort 3 d
  else
  let d := retireTallies f d
  if mka && !cipher && !d.host.fwRestarting then bump .cport f.inPort 1 d
  else if !mka && (ptpRef f.data).isNone && !d.host.fwRestarting then emit (.cpu f.inPort (tsOf f.tIn) f.data) d
  else
    let d := if mka && cipher then bump .cport f.inPort 1 d else d
    { d with prot := { d.prot with fwBuf := d.prot.fwBuf ++
        [⟨f.inPort, secyOfCode f.source, f.data, f.tIn, f.epoch, f.gen⟩] } }

/-- R242: the hub queue of the firmware path for a class. -/
def fwQueue (cls : Nat) : Nat := 2 ^ 18 * 8 + 8 + cls

/-- R242: the hub serves the firmware path in strict class order. DESIGN CHOICE: as soon as a frame stands in a queue. -/
def fwServe (d : Dev) : Dev :=
  [7, 6, 5, 4, 3, 2, 1, 0].foldl (fun d c =>
    (queueAt (fwQueue c) d).frames.foldl (fun d f => fwArrive f d) (setQueue (fwQueue c) Queue.empty d)) d

/-- R242: a frame enters a hub queue, of 256 KiB. -/
def hubEnter (q : Nat) (f : Frame) (d : Dev) : Dev :=
  if 262144 < queueBytes q d + f.adm then bump .que 8 1 d
  else
    let y := queueAt q d
    setQueue q { y with frames := y.frames ++ [{ f with queue := q }] } d

/-- R242: a frame for MGT or the firmware enters the hub queue of its class. -/
def hubDeliver (f : Frame) (d : Dev) : Dev :=
  let f := { f with adm := f.data.length + 4 }
  if f.dest = fwDest then fwServe (hubEnter (fwQueue f.cls) f d) else hubEnter (2 ^ 18 * 8 + f.cls) f d

/-! ### The egg timer (R335 to R339) -/

/-- R339: are the time-keeping islands of a line die locked? -/
def islandsLocked (die : Nat) (d : Dev) : Bool := (List.range 4).all (fun k => (island (4 * die + k) d).locked)

/-- R339: is release suspended on a die? -/
def eggSuspended (die : Nat) (d : Dev) : Bool :=
  decide (d.time.state = .freerun ∨ d.time.state = .acquire) || !islandsLocked die d

/-- R338: units of 256 bytes in the egg-timer reserve of a die. -/
def eggUnits (die : Nat) (d : Dev) : Nat :=
  ((d.act.egg.filter (fun h => decide (h.die = die) && !h.spilled && !h.atOnce)).map (fun h => frameUnits h.frame)).sum

/-- R335: the release instant in 2^-32 ns. -/
def releaseOf (f : Frame) (port delay : Nat) (s : SetParams) : Nat :=
  match f.stamp with
  | some (sec, ns, _) => (((((sec * 1000000000 + ns + delay) * 65536 : Nat) : Int) + trimOf port s) * 65536).toNat
  | none => 0

/-- R338: the tokens of the egg-timer bucket of a die. -/
def eggTokens (die : Nat) (d : Dev) : Int × Nat := Map.get d.act.eggBucket die (tok 1048576, 0)

/-- Put a frame into the egg timer. -/
def eggPut (h : Held) (d : Dev) : Dev := { d with act := { d.act with egg := d.act.egg ++ [h] } }

/-- R337: nanoseconds before R by which a frame must have entered. -/
def eggLead (port : Nat) : Nat := if port < 32 then 40 else 80

/-- R29, R337, R338: judge a frame that its device time allows to be held, by the counter of the island that releases it, and hold
it. -/
def eggJudge (h : Held) (p : CdPrm) (lateMask : Nat) (d : Dev) : Dev :=
  let die := h.die
  let t := eggTokens die d
  let t0 := portTime h.port d
  let charge := tok (h.frame.data.length + 24)
  if t.1 < charge then bump .egg die 8 d
  else
    let d := { d with act := { d.act with eggBucket := Map.put d.act.eggBucket die (t.1 - charge, t.2) } }
    if h.release < t0 + eggLead h.port * unitsPerNs then
      let d := bump .cd h.secy 2 d
      if bit lateMask h.frame.cls then bump .egg die 4 d
      else eggPut { h with release := t0, atOnce := true } (bump .egg die 3 d)
    else if t0 + (p.delay + 1000000) * unitsPerNs < h.release then bump .egg die 6 d
    else if eggUnits die d + frameUnits h.frame ≤ 32768 then eggPut h (bump .cd h.secy 1 (bump .egg die 1 d))
    else
      match allocBlocks 4 (frameBlocks h.frame) d with
      | none => bump .egg die 7 d
      | some bl =>
        let f := { h.frame with blocks := bl }
        eggPut { h with frame := f, spilled := true, verified := false }
          (oweSpill die (512 * frameBlocks f) 0 (gatherBlocks f bl (bump .egg die 14 (bump .cd h.secy 1 (bump .egg die 1 d)))))

/-- R337 to R339: a stamped frame for a plain port enters the egg timer of the port's die. -/
def eggEnter (die : Nat) (f : Frame) (d : Dev) : Dev :=
  let s := prmOf f.gen d
  match destPort f.dest, secyOfCode f.source with
  | some port, some n =>
    let p : CdPrm := match Map.get? s.secys n with | some x => x.cd | none => {}
    let sender := p.requireLocked && (match f.stamp with | some (_, _, fl) => !bit fl 1 | none => false)
    let h : Held := ⟨die, { f with whole := true }, port, n, releaseOf f port p.delay s, p.pass, false, false, false, true, false⟩
    if eggSuspended die d || sender then
      let d := bump .cd n 4 (if sender then bump .egg die 11 d else d)
      if p.pass then eggPut { h with release := portTime port d, atOnce := true } (bump .egg die 10 d)
      else bump .egg die 9 d
    else eggJudge h p s.cdLateDropMask d
  | _, _ => d

/-! ### Delivery on a die -/

/-- Does a destination code name a plain-side port, where a stamped frame is held (R334)? -/
def heldDest (f : Frame) : Bool := f.stamp.isSome && decide (f.dest / 2 ^ 28 = 1)

/-- R245: a meter's bucket that was charged with a part length is refunded up to its burst, or charged the difference. -/
def fixBucket (old new : Int) (burst part exact : Nat) : Int :=
  if new < old then max 0 (min (tok burst) (new + tok part - tok exact)) else new

/-- R245: correct the buckets that a frame's part length was taken from. -/
def correctMeter (f : Frame) (exact : Nat) (before : Buckets) (d : Dev) : Dev :=
  match frameMeter f d with
  | none => d
  | some k =>
    match Map.get? (prmOf f.gen d).meters k with
    | none => d
    | some m =>
      let b := meterBuckets k m d
      let fixed : Buckets := { b with c := fixBucket before.c b.c m.cbs f.adm exact, p := fixBucket before.p b.p m.burst2 f.adm exact }
      { d with que := { d.que with meters := Map.put d.que.meters k fixed } }

/-- Is a frame in its queue, or residue that waits for it? -/
def inQueue (f : Frame) (d : Dev) : Bool :=
  (queueAt f.queue d).frames.any (fun g => decide (g.id = f.id)) || d.fab.residues.any (fun r => decide (r.frame.id = f.id))

/-- R245: correct a frame that was admitted, or became residue, before its end came: the queue's bytes, and the buckets of its
meter, which stood at `before`. -/
def correctLength (f : Frame) (exact : Nat) (before : Option Buckets) (d : Dev) : Dev :=
  if f.adm = exact || !inQueue f d then d
  else
    let y := queueAt f.queue d
    let d := setQueue f.queue { y with frames := y.frames.map (fun g => if g.id = f.id then { g with adm := exact } else g) } d
    let d := match before with | some b => correctMeter f exact b d | none => d
    bump .que (queueDie f.queue) 8 d

/-- The buckets of a frame's meter. -/
def meterNow (f : Frame) (d : Dev) : Option Buckets :=
  match frameMeter f d with
  | none => none
  | some k => match Map.get? (prmOf f.gen d).meters k with | some m => some (meterBuckets k m d) | none => none

/-- R245: the admission length of a frame that has not wholly arrived. -/
def partLength (f : Frame) : Nat :=
  let h := parse f.data
  if f.whole ∨ h.ip = 0 then 9600 else h.l3 + h.ipLen + 4

/-- R223, R224: a frame that proves faulty before its first bit has left, after it was admitted, leaves its queue; an
emptied queue keeps its tag (R253). -/
def withdraw (f : Frame) (d : Dev) : Dev :=
  let y := queueAt f.queue d
  if y.frames.all (fun g => decide (g.id ≠ f.id)) then d
  else match y.frames.filter (fun g => decide (g.id ≠ f.id)) with
    | [] => setQueue f.queue ⟨[], 0, some y.tag⟩ d
    | l => setQueue f.queue { y with frames := l } d

/-- R223: is the frame in its queue to be stored whole: it has not begun to leave, or the stockpot holds it? -/
def storedWhole (f : Frame) (d : Dev) : Bool :=
  !f.early || (queueAt f.queue d).frames.any (fun g => decide (g.id = f.id) && g.spilled)

/-- R245, R246: put a frame into its queue on its die; one admitted before its end came is charged by its part, and then
corrected. A faulty frame that is stored whole is dropped (R223). -/
def admitFrame (f : Frame) (d : Dev) : Dev :=
  let exact := f.data.length + 4
  if f.stomp.isSome && (match frameQueue f d with | some x => wantsSpill (queueDie f.queue) f.queue f x d | none => false) then d
  else if f.head || (f.early && !f.whole) then
    let g := { f with adm := partLength f }
    let d := correctLength g exact (meterNow g d) (enterQueue g d)
    if f.stomp.isSome && storedWhole f d then withdraw f d else d
  else enterQueue { f with adm := exact } d

/-- A frame reaches the die (or the hub, 8) of its destination. -/
def deliver (die : Nat) (f : Frame) (d : Dev) : Dev :=
  match f.mirror with
  | some k => mirrorEnter k die f d
  | none =>
    if die = 8 then hubDeliver f d
    else if heldDest f then eggEnter die f d
    else admitFrame f d

/-! ### Virtual output queues (R217 to R219) -/

/-- Bytes that a frame adds to cells: itself with its FCS and its frame header (R217). -/
def cellBytes (f : Frame) : Nat := f.data.length + 4 + 8

/-- R218: bytes of one VOQ. -/
def voqBytes (src cls port : Nat) (d : Dev) : Nat :=
  ((d.fab.voq.filter (fun e => decide (e.src = src ∧ e.cls = cls ∧ e.port = port))).map (·.left)).sum

/-- R213, R218: bytes of a die's VOQ pool in use, in units of 256 bytes. -/
def voqPool (src : Nat) (d : Dev) : Nat :=
  ((d.fab.voq.filter (fun e => decide (e.src = src))).map (fun e => 256 * ceilDiv e.left 256)).sum

/-- Cells queued on an input or output channel. -/
def chanCells (inp : Bool) (die ch : Nat) (d : Dev) : Nat :=
  ((d.fab.voq.filter (fun e => if inp then decide (e.src = die ∧ e.inChan = ch) else e.dsts.contains die && decide (e.outChan = ch))).map
    (fun e => ceilDiv e.left 240)).sum

/-- R219: the channel of a die with the fewest cells queued, the lowest of equals. -/
def leastChan (inp : Bool) (die : Nat) (d : Dev) : Nat :=
  if die = 8 then 0
  else [1, 2, 3].foldl (fun b c => if chanCells inp die c d < chanCells inp die b d then c else b) 0

/-- R27, R242: the egress port of a frame's triple: its destination, where each SecY is a port of its own; a mirror copy goes by
its session. -/
def tripleOut (f : Frame) : Nat := match f.mirror with | some k => 2 ^ 36 + k | none => f.dest

/-- R27: do an entry and frames of these egress ports share a triple? -/
def sharesTriple (src inPort cls : Nat) (outs : List Nat) (e : VoqEnt) : Bool :=
  decide (e.src = src ∧ e.inPort = inPort ∧ e.cls = cls) && e.outs.any (fun o => outs.contains o)

/-- R219: the channels of a triple: those it is bound to while it has cells in flight, else the least loaded. -/
def bindChan (src dst inPort cls : Nat) (outs : List Nat) (d : Dev) : Nat × Nat :=
  match d.fab.voq.find? (sharesTriple src inPort cls outs) with
  | some e => (e.inChan, e.outChan)
  | none => (leastChan true src d, leastChan false dst d)

/-- Is the die's package link carrying traffic? The hub needs none. -/
def fabricOpen (die : Nat) (d : Dev) : Bool := decide (die = 8) || linkUp die d

/-- R35: a frame lost on a link. -/
def loseOn (die : Nat) (toHub : Bool) (n : Nat) (d : Dev) : Dev := bumpBy .pkg (pkgObj die toHub) 4 n d

/-- R217, R218, R35: send a frame (or the copies for the members on other dies) across the fabric. -/
def voqSend (src : Nat) (dsts : List Nat) (cls port : Nat) (fs : List Frame) (d : Dev) : Dev :=
  match fs with
  | [] => d
  | f :: _ =>
    if !fabricOpen src d then loseOn src true 1 d
    else
      let open_ := dsts.filter (fun k => fabricOpen k d)
      let d := (dsts.filter (fun k => !fabricOpen k d)).foldl (fun d k =>
        loseOn k false (if f.copy then (fs.filter (fun g => decide (destDie g.dest = k))).length else 1) d) d
      match open_ with
      | [] => d
      | k :: _ =>
        let fs := if f.copy then fs.filter (fun g => open_.contains (destDie g.dest)) else fs
        if src ≠ 8 ∧ ((prmOf f.gen d).voqLimit ≤ voqBytes src cls port d ∨ 4194304 < voqPool src d + 256 * ceilDiv (cellBytes f) 256) then
          let d := bump .fab src 0 d
          match f.mirror with | some m => bump .mirror m 2 d | none => d
        else
          let outs := fs.map tripleOut
          let (ic, oc) := bindChan src k f.inPort cls outs d
          { d with fab := { d.fab with voq := d.fab.voq ++ [⟨src, open_, ic, oc, cellBytes f, false, f.mirror.isSome, cls, f.inPort, port, outs, fs, f.stored⟩] } }

/-- A frame leaves for the die of its destination: at once on the same die, else across the fabric. -/
def sendTo (src dst cls port : Nat) (f : Frame) (d : Dev) : Dev :=
  if src = dst then deliver dst f d else voqSend src [dst] cls port [f] d

/-- Take the next frame number. -/
def takeFrameId (d : Dev) : Nat × Dev := (d.fab.nextFrame, { d with fab := { d.fab with nextFrame := d.fab.nextFrame + 1 } })

/-! ### Mirror sessions (R230 to R232) -/

/-- What a mirror point sees: point, port, VID and class of a FLOW, the frame. -/
structure Seen where
  /-- number of the frame -/
  id : Nat
  point : Nat
  port : Nat
  die : Nat
  vid : Nat := 0
  cls : Nat := 0
  data : Bytes
  gen : Nat

/-- R230: does a session match? -/
def MirrorPrm.hits (m : MirrorPrm) (x : Seen) : Bool :=
  m.enabled && decide (m.point = x.point) &&
    (if x.point = 4 then (decide (m.vid = 0) || decide (m.vid = x.vid)) && bit m.classMask x.cls
     else decide (m.source = some x.port))

/-- The frame record of a copy made outside classification. -/
def plainFrame (id gen inPort : Nat) (data : Bytes) (d : Dev) : Frame :=
  { id := id, data := data, gen := gen, inPort := inPort, source := 0, classTime := d.time.grand, tIn := d.time.grand,
    epoch := d.time.epoch, cls := 0, dest := 0, queue := 0, treat := .plain, slot := none, adm := data.length + 4,
    yellow := false, whole := true, early := false, head := false, stomp := none, copy := false, mirror := none, stampFor := none,
    late := none, plainView := false, stored := id, linkDelay := 0,
    timeFlags := 2 * b2n (decide (d.time.state = .locked)) + b2n (decide (d.time.state = .holdover)), stamp := none, blocks := [], readBack := false,
    unverified := [], waited := false,
    pnWaited := false, verifyWaited := false, pn := 0, group := none }

/-- R76: a session as it stands for a frame: a live write to it holds for frames classified after. -/
def sessionFor (k : Nat) (m : MirrorPrm) (x : Seen) (d : Dev) : MirrorPrm :=
  match (Map.get d.fab.eras k []).find? (fun e => decide (e.gen = x.gen ∧ e.from_ ≤ x.id)) with
  | some e => { m with enabled := e.enabled, sampleN := e.sampleN }
  | none => m

/-- R231: a matched session counts the frame, and copies every sample_n-th unless it is blocked. -/
def mirrorOne (k : Nat) (m : MirrorPrm) (x : Seen) (d : Dev) : Dev :=
  let n := Map.get d.fab.sample k 0
  let d := bump .mirror k 0 { d with fab := { d.fab with sample := Map.put d.fab.sample k ((n + 1) % max m.sampleN 1) } }
  if n ≠ 0 then d
  else if mirrorBlocked m x.id d then bump .mirror k 3 d
  else
    let (id, d) := takeFrameId d
    let dst := portDie m.dest
    sendTo x.die dst 0 m.dest { plainFrame id x.gen x.port x.data d with mirror := some k, plainView := m.plain, dest := m.dest } (bump .mirror k 1 d)

/-- R230: a frame matched by several sessions yields one copy per session. -/
def mirrorAt (x : Seen) (d : Dev) : Dev :=
  (prmOf x.gen d).mirrors.foldl (fun d e =>
    let m := sessionFor e.1 e.2 x d
    if m.hits x then mirrorOne e.1 m x d else d) d

end Sys2Proof.Machine
end

