-- ==== Sys2Proof/Machine/Classify.lean ====
section
/-! DEFINITION. Sys2Proof/Machine/Classify.lean: stages 3 to 9 of classification (R177 to R187), the transmit
treatment (R94, R95), and replication (R226, R227). -/
namespace Sys2Proof.Machine

/-- R177: the port-entry fields of an ingress source (R183). -/
def ingressOf (source inPort : Nat) (s : SetParams) : Ingress :=
  match secyOfCode source with
  | some n => match Map.get? s.secys n with | some p => p.ingress | none => {}
  | none => match portPrmIn inPort s with | some x => x.ingress | none => {}

/-! ### Policy matches (R94, R95) -/

/-- R94: the PTP class. -/
def ptpClass (h : Parsed) (data : Bytes) : Bool :=
  decide (h.etype = 0x88F7) || (match h.dport data with | some q => decide (q = 319 ∨ q = 320) | none => false)

/-- R95: do a rule's match fields match a frame? -/
def ruleMatches (r : PolicyRule) (h : Parsed) (data : Bytes) : Bool :=
  decide (h.etype &&& r.etypeMask = r.etype &&& r.etypeMask) &&
  decide (fldBe data 0 6 &&& r.daMask = r.da &&& r.daMask) &&
  (decide (r.vidMask = 0) || (match h.vid with | some v => decide (v &&& r.vidMask = r.vid &&& r.vidMask) | none => false))

/-- R95: the treatment of the first user rule of a cipher port's die that matches. -/
def userRule (tx : Bool) (port : Nat) (h : Parsed) (data : Bytes) (s : SetParams) : Option Nat :=
  (s.rules.find? (fun e => decide (e.1 / 64 = portDie port) && (if tx then e.2.onTx else e.2.onRx) &&
    e.2.ports.contains port && ruleMatches e.2 h data)).map (fun e => e.2.treatment)

/-- R94: the treatment for a SecY: 0 PROTECT, 1 EXEMPT, 2 TO_FIRMWARE, 3 DROP. MKA comes before this. -/
def treatment (tx : Bool) (p : SecyPrm) (data : Bytes) (s : SetParams) : Nat :=
  let h := parse data
  if ptpClass h data then p.ptpTreatment
  else if h.etype = 0x88CC then p.lldpTreatment
  else (userRule tx p.port h data s).getD 0

/-! ### One destination (R177 stage 8 and 9, R181, R243) -/

/-- R99: the expansion of a SecY under an SA: outer tag, SecTAG and ICV, stamp trailer. -/
def expansion (p : SecyPrm) (stamps : Bool) : Nat := (if p.vid = 0 then 32 else 36) + (if stamps then 12 else 0)

/-- R243: the queue of an object for a class and a VID slot. -/
def queueIndex (m : QMap) (cls slot : Nat) : Nat :=
  match m.mode with | 0 => m.base | 1 => m.base + cls | _ => m.base + 8 * slot + cls

/-- R221, R222: may the frame's first bit leave before its last has come? Forced cases are counted. -/
def settleMode (f : Frame) (port : Nat) (d : Dev) : Frame × Dev :=
  let s := prmOf f.gen d
  let ct := match portPrmIn port s with | some x => bit x.ctMask f.cls | none => false
  let sf : Frame := { f with whole := true, early := false }
  if f.whole || !ct || heldDest f then (sf, d)
  else if portMbps f.inPort d < portMbps port d then (sf, bump .fab (portDie f.inPort) 3 d)
  else ({ f with early := f.early && !(decide (f.source / 2 ^ 28 = 2) && bit s.releaseMask f.cls) }, d)

/-- R181: why a destination of kind PORT or SECY is invalid for a frame under its set. -/
def destOk (dest : Nat) (s : SetParams) (d : Dev) : Bool :=
  match destPort dest with
  | none => false
  | some p =>
    match portPrmIn p s with
    | none => false
    | some x =>
      diePresent (portDie p) d && decide (dest / 2 ^ 28 = 1 ∨ dest / 2 ^ 28 = 2) &&
      (if dest / 2 ^ 28 = 1 then decide (x.side = 0)
       else decide (x.side = 1) && (match Map.get? s.secys (2048 * portDie p + bits dest 0 11) with
         | some y => decide (y.port = p) | none => false))

/-- A frame that is ready to go: its die, its port, and itself; or nothing where it was dropped. -/
abbrev Ready := Option (Nat × Nat × Frame) × Dev

/-- The frame with its mode settled; a faulty one that may not leave early is dropped (R223, R224), here or, where it
is admitted before its end comes, in its queue (R245). -/
def readyAt (die port : Nat) (f : Frame) (d : Dev) : Ready :=
  let r := settleMode f port d
  if r.1.stomp.isSome && !r.1.early && (!r.1.head || decide (die = 8) || heldDest r.1) then (none, r.2) else (some (die, port, r.1), r.2)

/-- R94, R99: a frame that leaves a SecY in the clear, with its outer tag. DESIGN CHOICE: one that its tag would make longer than
9,600 bytes is dropped and counted as too long. -/
def exemptTo (f : Frame) (n : Nat) (p : SecyPrm) (d : Dev) : Ready :=
  if 9600 < f.data.length + 4 + (if p.vid = 0 then 0 else 4) then (none, bump .secy n 5 d)
  else readyAt (portDie p.port) p.port { f with treat := .exempt } d

/-- R94, R98, R99, R117, R124: a frame for a SecY in PROTECT: its SA is the one in use at its classification time. -/
def protectTo (f : Frame) (n : Nat) (p : SecyPrm) (d : Dev) : Ready :=
  let drop (slot : Nat) : Ready := (none, bump .secy n slot d)
  if !d.prot.enabled.contains n then drop 8
  else if !p.protectFrames then exemptTo f n p d
  else
    match txAt (portDie p.port) p.index f.classTime d with
    | none => drop 6
    | some an =>
      let f := handOver { f with treat := .protect, slot := some (saKey (portDie p.port) false p.index an) } d
      let x := sa (f.slot.getD 0) d
      if x.graceOver then drop 7
      else if 9600 < f.data.length + 4 + expansion p x.stamps then drop 5
      else readyAt (portDie p.port) p.port f d

/-- R177 stages 8 and 9 for one destination of kind PORT or SECY. -/
def routeOne (f : Frame) (vid : Nat) (d : Dev) : Ready :=
  let s := prmOf f.gen d
  let die := portDie f.inPort
  if !destOk f.dest s d then (none, bump .cls die 3 d)
  else
    match destPort f.dest with
    | none => (none, d)
    | some port =>
      let m := objQMap s f.dest
      let slot := match portPrmIn port s with | some x => Map.get x.vidMap vid 0 | none => 0
      let f := { f with queue := 2 ^ 18 * portDie port + queueIndex m f.cls slot }
      match secyOfCode f.dest with
      | none => readyAt (portDie port) port f d
      | some n =>
        match Map.get? s.secys n with
        | none => (none, d)
        | some p =>
          match treatment true p f.data s with
          | 0 => protectTo f n p d
          | 1 => exemptTo f n p d
          | 2 => (if f.stomp.isSome then none else some (8, 98, { f with dest := fwDest, whole := true, early := false, head := false }), d)
          | _ => (none, bump .cport port 5 d)

/-! ### Replication (R226, R227, R229) -/

/-- R227: make the copies for the members, in list order: those for this die are delivered, the others collected. -/
def copiesFor (die : Nat) (f : Frame) (vid g ver : Nat) : List Nat → List Frame → Dev → List Frame × Dev
  | [], acc, d => (acc, d)
  | m :: ms, acc, d =>
    if m = f.source then copiesFor die f vid g ver ms acc d
    else
      let (id, d) := takeFrameId d
      match routeOne { f with id := id, dest := m, copy := true, group := some (g, ver) } vid d with
      | (none, d) => copiesFor die f vid g ver ms acc d
      | (some (k, _, c), d) =>
        if k = die then copiesFor die f vid g ver ms acc (deliver die c d)
        else if k = 8 then copiesFor die f vid g ver ms acc (voqSend die [8] c.cls 98 [{ c with copy := false }] d)
        else copiesFor die f vid g ver ms (acc ++ [c]) d

/-- R227: replicate a frame to a group; it crosses each package link once. -/
def replicate (die g : Nat) (f : Frame) (vid : Nat) (d : Dev) : Dev :=
  match Map.get? d.fab.groups g with
  | none => bump .fab die 8 d
  | some grp =>
    if grp.members.isEmpty then bump .fab die 8 d
    else
      let (cs, d) := copiesFor die f vid g grp.version grp.members [] d
      if cs.isEmpty then d
      else voqSend die ((List.range 4).filter (fun k => cs.any (fun c => decide (destDie c.dest = k)))) f.cls 99 cs d

/-- R181, R227: send a classified frame to its destination. -/
def sendClassified (f : Frame) (vid : Nat) (d : Dev) : Dev :=
  let die := portDie f.inPort
  let kind := f.dest / 2 ^ 28
  if f.dest = 0 then bump .cls die 2 d
  else if kind = 4 then
    let d' := if (ptpRef f.data).isSome then bump .ts die 10 d else d
    if f.stomp.isSome then d else sendTo die 8 f.cls 98 { f with dest := fwDest } d'
  else if kind = 3 then replicate die (f.dest % 65536) f vid d
  else if f.dest = f.source then bump .cls die 4 d
  else match routeOne f vid d with
    | (none, d) => d
    | (some (k, port, f), d) => sendTo die k f.cls port f d

/-! ### Stages 3 to 8 (R179, R183 to R187, R191, R192, R295, R297) -/

/-- R181: what chose the destination: its code, and a class override. -/
structure Choice where
  dest : Nat
  override : Nat := 0xFF

/-- R186: a frame forwarded by its DA. -/
def bridge (v : VlanPrm) (die da : Nat) (group : Bool) (d : Dev) : Choice × Dev :=
  match macGet die v.fid da d with
  | some e => (⟨e.dest, e.override⟩, d)
  | none => if group then (⟨v.bcastDest, 0xFF⟩, d) else (⟨v.unknownDest, 0xFF⟩, bump .cls die 5 d)

/-- R186, R192, R193: the destination by fwd_mode; none where the lookup buffer was full. -/
def chooseDest (v : VlanPrm) (die : Nat) (f : Frame) (h : Parsed) (full : Bool) (d : Dev) : Option Choice × Dev :=
  let da := fldBe f.data 0 6
  let grp := bit (fld f.data 0 1) 0
  if v.fwdMode = 2 then (some ⟨v.fixedDest, 0xFF⟩, d)
  else if v.fwdMode = 1 ∧ h.ip ≠ 0 then
    let r := pfxLookup (decide (h.ip = 6)) die v.fid h.dst d
    let d := perfEvent die 0x081 (r.2 + 1) d
    if r.2 ≠ 0 ∧ full = true then (none, bump .cls die 8 d)
    else
      let d := if r.2 = 0 then d else bumpBy .cls die 7 r.2 (bump .cls die 6 d)
      match r.1 with
      | some (dest, ov) => (some ⟨dest, ov⟩, d)
      | none => (some ⟨v.prefixMissDest, 0xFF⟩, d)
  else
    let r := bridge v die da grp d
    (some r.1, r.2)

/-- R187: the class before an override. -/
def baseClass (v : VlanPrm) (ing : Ingress) (h : Parsed) (s : SetParams) : Nat :=
  match v.classMode with
  | 0 => match h.tag ing.innerAd with | some tci => tci / 8192 | none => ing.defaultClass
  | 1 => if h.ip = 0 then ing.defaultClass else Map.get s.dscpClass h.dscp 0
  | _ => ing.defaultClass

/-- R195: does the frame's SA teach? -/
def learns (v : VlanPrm) (ing : Ingress) (data : Bytes) : Bool :=
  v.learn && ing.learn && !bit (fld data 6 1) 0 && decide (fldBe data 6 6 ≠ 0)

/-- R177 stages 6 to 9. -/
def forwardFrame (f : Frame) (vid : Nat) (v : VlanPrm) (ing : Ingress) (h : Parsed) (full : Bool) (d : Dev) : Dev :=
  let die := portDie f.inPort
  let s := prmOf f.gen d
  let sa := fldBe f.data 6 6
  let discard := match macGet die v.fid sa d with | some e => e.discard | none => false
  let d := if learns v ing f.data then perfEvent die 0x082 1 (postLearn die v.fid sa f.source (msOf f.classTime) d) else d
  match chooseDest v die f h full d with
  | (none, d) => d
  | (some c, d) =>
    let cls := if c.override < 8 then c.override else baseClass v ing h s
    let f := { f with dest := c.dest, cls := cls }
    let d := mirrorAt { id := f.id, point := 4, port := f.inPort, die := die, vid := vid, cls := cls, data := f.data, gen := f.gen } d
    if discard then bump .cls die 2 d else sendClassified f vid d

/-- R183, R184: stages 1 and 5: the VLAN of a frame, or a drop. -/
def vlanStage (f : Frame) (h : Parsed) (full : Bool) (d : Dev) : Dev :=
  let die := portDie f.inPort
  let s := prmOf f.gen d
  let ing := ingressOf f.source f.inPort s
  let tagVid := match h.tag ing.innerAd with | some tci => tci % 4096 | none => 0
  let vid := if tagVid = 0 then ing.pvid else tagVid
  if (ing.accept = 1 ∧ tagVid = 0) ∨ (ing.accept = 2 ∧ tagVid ≠ 0) ∨ vid = 4095 then bump .cls die 1 d
  else match Map.get? s.vlans (4096 * die + vid) with
    | none => bump .cls die 1 d
    | some v =>
      if ing.filter && !bit v.member (localPort f.inPort) then bump .cls die 1 d
      else forwardFrame f vid v ing h full d

/-- R297: what a P2P port does with a well-formed message: 0 nothing special, 1 discard, 2 pass to the firmware. -/
def p2pAct (t : Nat) (event : Bool) : Nat :=
  if t = 1 then (if event then 1 else 0)
  else if t = 2 ∨ t = 3 then (if event then 2 else 0)
  else if t = 9 then 1 else if t = 10 then 2 else 0

/-- R295 to R297, R300: PTP at ingress: counts, and what a P2P or 802.1AS port takes out; `none` where the frame goes
on. -/
def ptpStage (f : Frame) (d : Dev) : Option Dev × Dev :=
  match ptpRef f.data with
  | none => (none, d)
  | some r =>
    let die := portDie f.inPort
    let x := (portPrmIn f.inPort (prmOf f.gen d)).getD { form := 1, side := 0 }
    let ev := ptpEvent f.data r
    let d := if ev then bump .ts die 0 d else d
    if !ptpWellFormed f.data r then (none, bump .ts die 5 d)
    else
      let toFw : Dev := sendTo die 8 f.cls 98 { f with dest := fwDest, early := false, head := false, whole := true } (bump .ts die 10 d)
      if x.ptpProfile = 3 ∧ fld f.data r.off 1 / 16 = 1 then (some (if f.stomp.isSome then d else toFw), d)
      else if x.ptpMode = 2 then
        match p2pAct (ptpType f.data r) ev with
        | 1 => (some (bump .ptp f.inPort 2 (bump .ts die 7 d)), d)
        | 2 => (some (if f.stomp.isSome then d else toFw), d)
        | _ => (none, d)
      else (none, d)

/-- R177: stages 3 to 9 of a frame of its ingress source. -/
def classify (f : Frame) (full : Bool) (d : Dev) : Dev :=
  let h := parse f.data
  let die := portDie f.inPort
  let d := perfEvent die 0x080 1 d
  let d := if h.l3Error then bump .cls die 0 d else d
  match ptpStage f d with
  | (some d, _) => d
  | (none, d) => vlanStage f h full d

end Sys2Proof.Machine
end

