-- ==== Sys2Proof/Machine/Receive.lean ====
section
/-! DEFINITION. Sys2Proof/Machine/Receive.lean: a frame arrives on a port (R177, R293, R294, R389): SecY selection,
receive policy, the checks of R96, replay (R97), decryption and the stamp trailer (R334). -/
namespace Sys2Proof.Machine

/-! ### SecY selection (R88) -/

/-- R88: a frame of a cipher port without its outer tag, and the VID that indexes the VLAN-to-SecY table. -/
def outerTag (tpid : Nat) (data : Bytes) : Bytes × Nat :=
  if fldBe data 12 2 = tpid then (data.take 12 ++ data.drop 16, fldBe data 14 2 % 4096) else (data, 0)

/-! ### The SecTAG (R91, R92) -/

/-- A SecTAG on the wire, in a frame without outer tag. -/
structure SecTag where
  es : Bool
  sc : Bool
  scb : Bool
  e : Bool
  c : Bool
  v : Bool
  an : Nat
  sl : Nat
  pn : Nat
  sci : Nat
  /-- where the secure data begins -/
  start : Nat
  deriving DecidableEq, Repr

/-- R90: the fields of a SecTAG at offset 12. -/
def readSecTag (data : Bytes) : SecTag :=
  let t := fld data 14 1
  let sc := bit t 5
  { v := bit t 7, es := bit t 6, sc := sc, scb := bit t 4, e := bit t 3, c := bit t 2, an := t % 4, sl := fld data 15 1,
    pn := fldBe data 16 4, sci := fldBe data 20 8, start := if sc then 28 else 20 }

/-- R91: is the SecTAG valid in a frame of this length (FCS excluded)? -/
def SecTag.valid (t : SecTag) (len : Nat) (xpn : Bool) : Bool :=
  !t.v && !(t.sc && t.es) && !(t.sc && t.scb) && !(t.e && !t.c) && decide (t.sl < 48) && decide (t.start + 16 ≤ len) &&
  (if t.sl = 0 then decide (48 ≤ len - t.start - 16) else decide (len - t.start - 16 = t.sl)) &&
  (xpn || decide (t.pn ≠ 0))

/-- R92: the receive SCI. -/
def SecTag.rxSci (t : SecTag) (data : Bytes) (implicit : Nat) : Nat :=
  if t.sc then t.sci else if t.es then fldBe data 6 6 * 65536 + 1 else implicit

/-- R97: recover the 64-bit PN from its low half and the lowest acceptable PN. -/
def recoverPn (low p : Nat) : Nat :=
  if low % 2 ^ 32 ≤ p then (low / 2 ^ 32 * 2 ^ 32 + p) % 2 ^ 64 else ((low / 2 ^ 32 + 1) * 2 ^ 32 + p) % 2 ^ 64

/-- R87: the IV of a frame. -/
def ivOf (xpn : Bool) (sci ssci salt pn : Nat) : Bytes :=
  if xpn then be 12 ((ssci * 2 ^ 64 + pn % 2 ^ 64) ^^^ salt) else be 8 sci ++ be 4 pn

/-- R90, R93: secure data as sent, split at the confidentiality offset: authenticated part and encrypted part. -/
def splitSecure (e : Bool) (off : Nat) (sec : Bytes) : Bytes × Bytes := if e then (sec.take off, sec.drop off) else (sec, [])

/-- R96 step 7: the ICV that a frame must carry, and its plain secure data. -/
def openSecure (s : SaSlot) (iv head sec : Bytes) (e : Bool) (off : Nat) : Bytes × Bytes :=
  let (a, c) := splitSecure e off sec
  (gcmTagWith s.key s.hashKey iv (head ++ a) c, a ++ gcmCrypt s.key iv c)

/-! ### The stamp trailer (R332, R334) -/

/-- R332: seconds field, nanoseconds and flags of a trailer, if it is valid. -/
def readTrailer (t : Bytes) : Option (Nat × Nat × Nat) :=
  let vf := fldBe t 2 2
  if fldBe t 0 2 = 0x5A7E ∧ vf / 4096 = 1 ∧ vf % 1024 = 0 ∧ fldBe t 8 4 < 1000000000 then
    some (fldBe t 4 4, fldBe t 8 4, vf / 1024 % 4) else none

/-- R334: the full seconds of a stamp. -/
def restoreSeconds (sNow lo : Nat) : Nat :=
  let s := sNow / 2 ^ 32 * 2 ^ 32 + lo
  if sNow + 2 ^ 31 < s then s - 2 ^ 32 else if s + 2 ^ 31 < sNow then s + 2 ^ 32 else s

/-! ### Progress of a frame through stage 2 -/

/-- A frame at the end of stage 2: it goes on to classification, or it has ended. -/
inductive Stage2 where
  | go (f : Frame) (d : Dev)
  | done (d : Dev)

/-- R96: a frame delivered after stripping is padded to 64 bytes with its FCS. -/
def padded (data : Bytes) : Bytes := data ++ zeros (60 - data.length)

/-- Deliver a frame of a SecY with this content. -/
def deliverAs (f : Frame) (data : Bytes) (d : Dev) : Stage2 := .go { f with data := padded data } d

/-- R334: the trailer of a frame under a stamping SA: `verified` tells whether its ICV has been. -/
def trailerStage (f : Frame) (n : Nat) (verified : Bool) (head sec : Bytes) (d : Dev) : Stage2 :=
  let die := portDie f.inPort
  match (if sec.length < 12 then none else readTrailer (sec.drop (sec.length - 12))) with
  | none => .done (bump .cd n 3 (bump .egg die 5 d))
  | some (lo, ns, fl) =>
    let data := head ++ sec.take (sec.length - 12)
    if verified then
      deliverAs { f with stamp := some (restoreSeconds (now d).s lo, ns, fl) } data d
    else deliverAs f data (bump .egg die 17 d)

/-- R96, R334: deliver stripped data under an RX SA. -/
def stripTo (f : Frame) (n k : Nat) (verified : Bool) (data sec : Bytes) (d : Dev) : Stage2 :=
  if (sa k d).stamps then trailerStage f n verified (data.take 12) sec d else deliverAs f (data.take 12 ++ sec) d

/-- R121: a frame verified under the newest SA starts the retire timers of the others. -/
def startRetire (die sc an delayMs : Nat) (d : Dev) : Dev :=
  let key (a : Nat) : Nat := saKey die true sc a
  let inUse (a : Nat) : Bool := decide ((sa (key a) d).state = .inUse)
  let others := [0, 1, 2, 3].filter (fun a => decide (a ≠ an) && inUse a)
  if inUse an && others.all (fun a => decide ((sa (key a) d).installSeq < (sa (key an) d).installSeq)) then
    others.foldl (fun d a =>
      let x := sa (key a) d
      if x.retireAt.isSome then d else setSa (key a) { x with retireAt := some (d.time.lineElapsed + ticksMs delayMs) } d) d
  else d

/-- What step 5 knows. -/
structure RxCtx where
  n : Nat
  p : SecyPrm
  t : SecTag
  data : Bytes
  sci : Nat
  die : Nat
  sc : RxSc
  scIdx : Nat

/-- The number of the RX SC. -/
def RxCtx.obj (x : RxCtx) : Nat := 4096 * x.die + x.scIdx
/-- The slot the AN names. -/
def RxCtx.slot (x : RxCtx) : Nat := saKey x.die true x.scIdx x.t.an
/-- The secure data as received. -/
def RxCtx.sec (x : RxCtx) : Bytes := (x.data.drop x.t.start).take (x.data.length - x.t.start - 16)

/-- R96: delivered octets. -/
def countOctets (x : RxCtx) (d : Dev) : Dev := bumpBy .rxsc x.obj (if x.t.e then 9 else 8) x.sec.length d

/-- R96 steps 7 and 8. -/
def icvStage (f : Frame) (x : RxCtx) (pn low : Nat) (d : Dev) : Stage2 :=
  let d := tallyBlocks x.die f.id x.sec.length true d
  let k := x.slot
  let s := sa k d
  let xpn := suiteXpn x.p.suite
  let r := openSecure s (ivOf xpn x.sci s.ssci s.salt pn) (x.data.take x.t.start) x.sec x.t.e x.sc.confOffset
  if r.1 = x.data.drop (x.data.length - 16) then
    let d := setSa k { s with nextPn := max s.nextPn (pn + 1) } d
    let d := startRetire x.die x.scIdx x.t.an x.p.retireDelay d
    let d := countOctets x (bump .sa k 0 (bump .rxsc x.obj (if pn < low then 4 else 0) d))
    stripTo f x.n k true x.data r.2 d
  else if x.p.validate = 1 ∧ x.t.e = false then
    stripTo f x.n k false x.data r.2 (countOctets x (bump .sa k 1 (bump .rxsc x.obj 1 d)))
  else
    let d := bump .sa k 2 (bump .rxsc x.obj 2 d)
    if f.early || f.head then deliverAs { f with stomp := some 5 } (x.data.take 12 ++ r.2) d else .done d

/-- R96 steps 5 and 6, and validateFrames Disabled. -/
def saStage (f : Frame) (x : RxCtx) (d : Dev) : Stage2 :=
  let k := x.slot
  let st := (sa k d).state
  let strict := decide (x.p.validate = 2)
  let note (slot : Nat) (d : Dev) : Dev := if st = .empty then d else bump .sa k slot d
  if x.p.validate = 0 then
    if x.t.e then .done (bump .rxsc x.obj 2 d)
    else
      let d := countOctets x (bump .rxsc x.obj 5 d)
      if st = .inUse then stripTo f x.n k false x.data x.sec d else deliverAs f (x.data.take 12 ++ x.sec) d
  else if st ≠ .inUse then
    if strict || x.t.c then .done (note 3 (bump .rxsc x.obj 6 d))
    else deliverAs f (x.data.take 12 ++ x.sec) (countOctets x (note 4 (bump .rxsc x.obj 7 d)))
  else
    let low := lowestPn k d
    let pn := if suiteXpn x.p.suite then recoverPn low x.t.pn else x.t.pn
    if suiteXpn x.p.suite = false ∧ x.p.replayProtect = true ∧ pn < low then .done (bump .rxsc x.obj 3 d)
    else icvStage f x pn low d

/-- R96 steps 1 to 4. -/
def protectedStage (f : Frame) (n : Nat) (p : SecyPrm) (data : Bytes) (d : Dev) : Stage2 :=
  let strict := decide (p.validate = 2)
  if !d.prot.enabled.contains n then .done (bump .secy n 16 d)
  else if fldBe data 12 2 ≠ 0x88E5 then
    if strict then .done (bump .secy n 10 d) else deliverAs f data (bump .secy n 9 d)
  else
    let t := readSecTag data
    if !t.valid data.length (suiteXpn p.suite) then .done (bump .secy n 11 d)
    else
      let sci := t.rxSci data p.implicitSci
      let die := portDie p.port
      let hit := match sciFind p.port sci d with
        | some e => if e.secy = p.index then (match Map.get? d.prot.rxscs (4096 * die + e.rxsc) with
            | some r => some (e.rxsc, r) | none => none) else none
        | none => none
      match hit with
      | none =>
        if strict || t.c then .done (bump .secy n 13 d)
        else deliverAs f (data.take 12 ++ (data.drop t.start).take (data.length - t.start - 16)) (bump .secy n 12 d)
      | some (i, r) => saStage f ⟨n, p, t, data, sci, die, r, i⟩ d

/-- R100: are the frame SRAM of a line die and its share of the stockpot both full for a frame? -/
def decryptFull (die : Nat) (f : Frame) (d : Dev) : Bool :=
  !poolFits die f d && (allocBlocks die (frameBlocks f) d).isNone

/-- R177 stage 2: SecY selection, receive policy, and R96. -/
def cipherStage (f : Frame) (x : PortPrm) (noBuffer : Bool) (d : Dev) : Stage2 :=
  let s := prmOf f.gen d
  let (data, vid) := outerTag (if x.tpidAd then 0x88A8 else 0x8100) f.data
  let die := portDie f.inPort
  match (if vid = 4095 then none else Map.get? x.vlanSecy vid) with
  | none => .done (bump .cport f.inPort 0 d)
  | some idx =>
    let n := 2048 * die + idx
    match Map.get? s.secys n with
    | none => .done (bump .cport f.inPort 0 d)
    | some p =>
      let f := { f with source := secyCode f.inPort idx }
      let h := parse data
      let toFw : Stage2 := .done (if f.stomp.isSome then d else
        sendTo die 8 x.ingress.defaultClass 98 { f with data := padded data, cls := x.ingress.defaultClass, dest := fwDest, whole := true } d)
      if fldBe data 12 2 = 0x88E5 then
        (if noBuffer && decryptFull die f d then .done (bump .secy n 14 d) else protectedStage f n p data d)
      else if h.etype = 0x888E then toFw
      else match treatment false p data s with
        | 0 => protectedStage f n p data d
        | 1 => deliverAs f data (bump .secy n 15 d)
        | 2 => toFw
        | _ => .done (bump .cport f.inPort 4 d)

/-! ### The checks at the port (R389) -/

/-- R389: the first row that applies to a received frame: its counter, and whether the fault shows only after a frame
may have been admitted, or have begun to leave (it is then stomped). -/
def portCheck (x : PortPrm) (bytes : Bytes) (codeError : Bool) : Option (Nat × Bool) :=
  let data := bytes.take (bytes.length - 4)
  if bytes.length < 64 then some (5, false)
  else if x.rxMax < bytes.length then some (6, true)
  else if bytes.drop (bytes.length - 4) ≠ fcsOf data then some (4, true)
  else if codeError then some (7, true)
  else if fldBe data 12 2 = 0x8808 then some (8, false)
  else none

/-- R294: t_in from a raw reading. -/
def calibrated (raw : Nat) (offset : Int) : Nat := (((raw : Int) + offset * 65536) % (counterMod : Int)).toNat

/-- A frame as it stands after the port's checks. -/
def arrived (o : Otp) (p : Nat) (data : Bytes) (early head : Bool) (stomp : Option Nat) (d : Dev) : Frame × Dev :=
  let (id, d) := takeFrameId d
  let raw := portTime p d
  let s := prmAt raw d
  let f := plainFrame id (genAt raw d) p data d
  ({ f with source := portCode p, classTime := raw, tIn := calibrated raw (-(rxOffset o p s d)), whole := false, early := early,
            head := head || early, stomp := stomp,
            linkDelay := (match portPrmIn p s with | some x => if x.ptpMode = 2 then Map.get d.ts.linkDelay p 0 else 0 | none => 0) }, d)

/-- R94: an MKA frame goes to the firmware, whatever its VLAN and destination. -/
def mkaTaken (x : PortPrm) (f : Frame) (d : Dev) : Dev :=
  if f.stomp.isSome then d
  else sendTo (portDie f.inPort) 8 x.ingress.defaultClass 98 { f with cls := x.ingress.defaultClass, dest := fwDest, whole := true, early := false, head := false } d

/-- R177: a frame that the port's checks let through. -/
def acceptFrame (o : Otp) (p : Nat) (x : PortPrm) (rx : RxFrame) (data : Bytes) (stomp : Option Nat) (d : Dev) : Dev :=
  let (f, d) := arrived o p data (rx.early && decide (p ≠ 97)) (rx.head && decide (p ≠ 97)) stomp d
  let die := portDie p
  if p = 97 then
    let d := match ptpRef data with | some r => bump .ts 8 10 (if ptpEvent data r then bump .ts 8 0 d else d) | none => d
    hubDeliver { f with dest := fwDest, source := 0 } d
  else
    let d := mirrorAt { id := f.id, point := if x.side = 1 then 2 else 0, port := p, die := die, data := data, gen := f.gen } d
    if x.side = 1 then
      match cipherStage f x rx.noBuffer d with
      | .done d => d
      | .go f d => if (parse f.data).etype = 0x888E then mkaTaken x f d else classify f rx.lookupFull d
    else if (parse data).etype = 0x888E then
      mkaTaken x f d
    else classify f rx.lookupFull d

/-- R177, R389: a frame arrives on a port that is up. -/
def receiveOn (o : Otp) (p : Nat) (rx : RxFrame) (d : Dev) : Dev :=
  match portPrm p d with
  | none => d
  | some x =>
    match portCheck x rx.bytes rx.codeError with
    | none =>
      let data := rx.bytes.take (rx.bytes.length - 4)
      acceptFrame o p x rx data none (bumpBy .port p 1 rx.bytes.length (bump .port p 0 d))
    | some (slot, late) =>
      let d := bump .port p slot d
      if late && (rx.early || rx.head) && decide (p ≠ 97) then
        acceptFrame o p x rx (rx.bytes.take (min x.rxMax rx.bytes.length - 4)) (some 4) d
      else d

/-- R390, R391, R471: does the port take frames from its line? -/
def portReceives (p : Nat) (d : Dev) : Bool :=
  receives d && decide (p ≠ 96) && portIsUp p d && (portSt p d).lossAt.isNone

/-- R376, R393, R394: what a trunk port's FEC corrected in a frame, by lane and by codeword, and what it could not. -/
def countFec (p : Nat) (rx : RxFrame) (d : Dev) : Dev :=
  if 32 ≤ p then d
  else
    let d := ((List.range (portLanes p d)).zip rx.rsSymbols).foldl (fun d e => bumpBy .lane (laneOfPort p e.1) 0 e.2 d) d
    bumpBy .port p 15 rx.uncorrected (bumpBy .port p 14 rx.corrected d)

/-- R382, R389: a frame whose lane slipped, or that lies in an uncorrectable codeword, is a code error. -/
def lineErrors (p : Nat) (rx : RxFrame) (d : Dev) : RxFrame :=
  { rx with codeError := rx.codeError || (laneSt (laneOfPort p 0) d).slipped || decide (p < 32 ∧ rx.uncorrected ≠ 0) }

/-- R177. Under either loopback line input is not delivered (R471). -/
def frameReceive (rx : RxFrame) (o : Otp) (d : Dev) : Dev :=
  let p := portNum rx.port
  if portReceives p d && !Map.has d.obs.loopback p then
    let rx := lineErrors p rx d
    let l := laneOfPort p 0
    let d := if (laneSt l d).slipped then setLaneSt l { laneSt l d with slipped := false } d else d
    receiveOn o p rx (countFec p rx d)
  else d

def execFrameReceive (rx : RxFrame) (s : State) : Host.Outcome State Fault Refusal := onOtp (frameReceive rx) s

/-! ### Injection (R301) -/

/-- R94: an injected MKA frame leaves in the clear, by the uncontrolled port of its SecY. DESIGN CHOICE: one that the host
injects counts in CPORT_CNT.tx_mka too, which R104 names for those of the firmware. -/
def injectMka (f : Frame) (d : Dev) : Dev :=
  let s := prmOf f.gen d
  match (if destOk f.dest s d then destPort f.dest else none) with
  | none => bump .cls 8 3 d
  | some port =>
    let q := 2 ^ 18 * portDie port + queueIndex (objQMap s f.dest) f.cls 0
    let secy := decide (f.dest / 2 ^ 28 = 2)
    let d := if secy then bump .cport port 2 d else d
    sendTo 8 (portDie port) f.cls port { f with queue := q, treat := if secy then .exempt else .plain } d

/-- R301, R117, R177: inject a frame: it skips the stages of classification, not the transmit treatment of its SecY.
`late` is what a firmware clock wants the spatula to write (R305). DESIGN CHOICE: nothing is injected that no port could carry
(R99). -/
def injectFrame (byHost : Bool) (dest : Option Nat) (cls : Nat) (data : Bytes) (stamp : Option Nat)
    (late : Option (Nat × Nat)) (d : Dev) : Dev :=
  if !awake d || decide (9600 < data.length + 4) then d
  else
    let (id, d) := takeFrameId d
    let f := plainFrame id (genAt d.time.grand d) 98 (padded data) d
    let f := { f with cls := cls, stampFor := stamp.map (fun c => (byHost, c)), late := late }
    match dest with
    | none => deliver 8 f d
    | some code =>
      let f := { f with dest := code }
      if (parse f.data).etype = 0x888E then injectMka f d else sendClassified f 0 d

def execFrameInject (inj : Injection) (s : State) : Host.Outcome State Fault Refusal :=
  onDev (injectFrame inj.byHost (inj.dest.map BitVec.toNat) inj.cls.val inj.bytes (inj.stamp.map BitVec.toNat) none) s

end Sys2Proof.Machine
end

