-- ==== Sys2Proof/Machine/Sa.lean ====
section
/-! DEFINITION. Sys2Proof/Machine/Sa.lean: the SA command group and the events of SA slots (05_key_changes.md). -/
namespace Sys2Proof.Machine

/-! ### Installing (R115, R116, R131, R132) -/

/-- What an SA_INSTALL payload asks, read at an offset of a byte string. -/
def readSaLoad (w : SaWaiter) (die : Nat) (pl : Bytes) : SaLoad :=
  let len := fld pl 32 2
  { waiter := w, die := die, rx := decide (fld pl 0 1 = 1), sc := fld pl 2 2, an := fld pl 1 1, ssci := fld pl 4 4,
    salt := fldBe pl 8 12, nextPn := fld pl 24 8, keyId := fld pl 36 4, blob := slice pl 40 (min len 64), replace := false }

/-- The SecY index that an SC of a load belongs to on a port, if the SC is defined there. -/
def scSecy (die port : Nat) (rx : Bool) (sc : Nat) (d : Dev) : Option SecyPrm :=
  if rx then
    match Map.get? d.prot.rxscs (4096 * die + sc) with
    | some r => if r.port = port then secyPrm die r.secy d else none
    | none => none
  else match secyPrm die sc d with
    | some p => if p.port = port then some p else none
    | none => none

/-- R407: SA_INSTALL and SA_RETIRE name their SecY by an SC (fields at offsets 0 and 2). -/
def sharedSa (t : Target) (pl : Bytes) (d : Dev) : Bool :=
  let rx := decide (fld pl 0 1 = 1)
  match scSecy t.dieNo t.portNo rx (fld pl 2 2) d with
  | some p => sharedSecy (fun _ => p.index) t pl d
  | none => pairedSecondary d

/-- R13: reserved fields and encodings of an SA_INSTALL payload. -/
def saInstallResv (p : Bytes) : Bool := below 0 2 p && below 1 4 p && z 20 4 p && z 34 2 p

/-- R131: the fields of an SA_INSTALL payload against the SecY's suite. -/
def saFieldsOk (x : SaLoad) (p : SecyPrm) (pl : Bytes) : Bool :=
  let len := fld pl 32 2
  decide (16 ≤ len ∧ len ≤ 64 ∧ len % 8 = 0) && allZero ((slice pl 40 64).drop len) &&
  (if suiteXpn p.suite then decide (1 ≤ x.nextPn)
   else decide (x.ssci = 0 ∧ x.salt = 0 ∧ 1 ≤ x.nextPn ∧ x.nextPn < 2 ^ 32))

/-- R112: RX slots of a die in use. -/
def rxSlotsUsed (die : Nat) (d : Dev) : Nat :=
  (d.prot.slots.filter (fun e => saDie e.1 = die && saRx e.1 && decide (e.2.state ≠ .empty))).length

/-- R51, R116: is the slot LOADING its first key for a command that is still executing? -/
def saBusy (k : Nat) (d : Dev) : Bool :=
  decide ((sa k d).state = .loading) && runningOn (fun op => decide (op = 0x0501)) k d

/-- R51, R114, R116, R120, R126: the refusal of an installation by state, if any. -/
def saInstallRefusal (x : SaLoad) (p : SecyPrm) (d : Dev) : Option Status :=
  let k := saKey x.die x.rx x.sc x.an
  let st := (sa k d).state
  if saBusy k d then some .busy
  else if !p.hostKeying then some .badState
  else if !(decide (st = .empty ∨ st = .installed)) || (sa k d).loading then some .badState
  else if !x.rx && heldBySwitch x.die x.sc x.an d then some .badState
  else if x.rx && decide (st = .empty) && decide (8192 ≤ rxSlotsUsed x.die d) then some .noResource
  else none

/-- R114, R116: an accepted installation: an EMPTY slot is LOADING, an INSTALLED one loads its pending half. -/
def saAccept (x : SaLoad) (d : Dev) : Dev :=
  let k := saKey x.die x.rx x.sc x.an
  let rep := decide ((sa k d).state = .installed)
  let d := if rep then setSa k { sa k d with loading := true } d else saEnter .loading k d
  { d with prot := { d.prot with loads := d.prot.loads ++ [{ x with replace := rep }] } }

/-- R131. -/
def saInstall (c : Ctx) (d : Dev) : Ans :=
  let die := c.target.dieNo
  let x := readSaLoad (.mailbox c.mb) die c.pl
  match scSecy die c.target.portNo x.rx x.sc d with
  | none => .fail .badField
  | some p =>
    need (saFieldsOk x p c.pl) .badField <|
    match saInstallRefusal x p d with
    | some st => .fail st
    | none =>
      let obj := saKey die x.rx x.sc x.an
      if d.prot.loads.isEmpty then .run obj (saAccept x d)
      else .pend 2000 obj (saAccept { x with waiter := .handle c.handle } d)

def execSaInstall (r : Request) (s : State) : Host.Outcome State Fault Refusal :=
  onMailbox { op := 0x0501, shared := sharedSa, len := 104, scopes := [.ports [2, 3]], held := true, vault := true, resv := saInstallResv }
    (fun c _ d => saInstall c d) r s

/-- Write bytes of the staging area. -/
def stagingWrite (off : Nat) (bs : Bytes) (d : Dev) : Dev :=
  { d with host := { d.host with staging := memWrite 0 d.host.staging off bs } }

/-- R132: note the outcome of one record of a bulk installation, and complete the command after the last. -/
def bulkNote (h idx : Nat) (st : Status) (d : Dev) : Dev :=
  match d.prot.bulks.find? (fun b => b.handle = h) with
  | none => d
  | some b =>
    let b' := { b with finished := b.finished + 1, ok := b.ok + (if st = .ok then 1 else 0) }
    let d := stagingWrite (b.stage + 112 * idx + 108) (le 4 st.code) d
    let others := d.prot.bulks.filter (fun e => e.handle ≠ h)
    if b'.finished = b'.count then
      complete h .ok (le 4 b'.ok ++ le 4 (b'.count - b'.ok) ++ zeros 8) { d with prot := { d.prot with bulks := others } }
    else { d with prot := { d.prot with bulks := others ++ [b'] } }

/-- R132: one record: check it as SA_INSTALL would and queue it, or note its status. -/
def bulkRecord (h : Nat) (idx : Nat) (bs : Bytes) (d : Dev) : Dev :=
  match readTarget [.ports [2, 3]] (fld bs 0 4) d with
  | .error e => bulkNote h idx e d
  | .ok t =>
    let pl := slice bs 4 104
    let x := readSaLoad (.bulk h idx) t.dieNo pl
    if !saInstallResv pl then bulkNote h idx .badField d
    else match scSecy t.dieNo t.portNo x.rx x.sc d with
      | none => bulkNote h idx .badField d
      | some p =>
        if !saFieldsOk x p pl then bulkNote h idx .badField d
        else match saInstallRefusal x p d with
          | some st => bulkNote h idx st d
          | none => saAccept x d

/-- R132: each record succeeds or fails on its own. -/
def saInstallBulk (c : Ctx) (d : Dev) : Ans :=
  let off := fld c.pl 0 4
  let n := fld c.pl 4 4
  need (decide (off % 64 = 0 ∧ 1 ≤ n ∧ n ≤ 16384 ∧ off + 112 * n ≤ 4194304)) .badField <|
    let d1 := { d with prot := { d.prot with bulks := d.prot.bulks ++ [⟨c.handle, off, n, 0, 0⟩] } }
    .replyPend 2000 0 d1 (fun d => (List.range n).foldl
      (fun e i => bulkRecord c.handle i (memRead 0 d.host.staging (off + 112 * i) 112) e) d)

def execSaInstallBulk (r : Request) (s : State) : Host.Outcome State Fault Refusal :=
  onMailbox { op := 0x0507, shared := fun _ _ d => pairedSecondary d && decide ((prm d).twinMode = 0), len := 8, held := true, vault := true, awake := true } (fun c _ d => saInstallBulk c d) r s

/-- Answer whoever waits for an SA installation. -/
def saAnswer (w : SaWaiter) (st : Status) (res : Bytes) (d : Dev) : Dev :=
  match w with
  | .mailbox m => finish m st res d
  | .handle h => complete h st res d
  | .bulk h i => bulkNote h i st d
  | .mka => d

/-- R115: a failed installation leaves the slot its earlier contents. -/
def saUndo (x : SaLoad) (d : Dev) : Dev :=
  let k := saKey x.die x.rx x.sc x.an
  if x.replace then setSa k { sa k d with loading := false } d else freeSa k d

/-- R115, R130: an installation that ends in KEY_REJECTED. -/
def saReject (x : SaLoad) (d : Dev) : Dev :=
  saAnswer x.waiter .keyRejected [] (bump .key x.die 1 (saUndo x d))

/-- R112, R114, R116: the key stands in its slot with its hash key: next install_seq, INSTALLED (TX) or IN_USE (RX). DESIGN
CHOICE: a replacement counts as an entry into the state, for state_since. -/
def saPlace (x : SaLoad) (key : Bytes) (d : Dev) : Dev :=
  let k := saKey x.die x.rx x.sc x.an
  let q := Map.get d.prot.installSeq x.die 1
  let slot : SaSlot := { emptySa with
    state := if x.rx then .inUse else .installed, key := key, hashKey := hashKeyOf key, ssci := x.ssci, salt := x.salt, nextPn := x.nextPn,
    keyId := x.keyId, blob := x.blob, installSeq := q, installedAt := now d, since := now d, sinceTick := d.time.lineElapsed }
  let d := { d with prot := { d.prot with installSeq := Map.put d.prot.installSeq x.die (q + 1) } }
  checkThreshold k (bump .key x.die 0 (setSa k slot (cntClear .sa k d)))

/-- R407: the SA_INSTALL payload of an installation, as its KEY_BLOB record carries it. -/
def saPayload (x : SaLoad) : Bytes :=
  le 1 (b2n x.rx) ++ le 1 x.an ++ le 2 x.sc ++ le 4 x.ssci ++ be 12 x.salt ++ zeros 4 ++ le 8 x.nextPn
    ++ le 2 x.blob.length ++ zeros 2 ++ le 4 x.keyId ++ slice x.blob 0 64

/-- R115: the check block, "LX1608-SAK-CHECK". -/
def sakCheckBlock : Bytes := be 16 0x4C58313630382D53414B2D434845434B

/-- R33, R115 step 5: the key and the first 8 bytes of its check value go to the die through its tunnel. -/
def sendSak (die : Nat) (key : Bytes) (d : Dev) : Dev :=
  tunnelSend die false (key ++ slice (aesEnc key sakCheckBlock) 0 8) d

/-- R115 steps 2 to 6 for the oldest queued installation. While the link of the vault retrains it waits. -/
def saKeyLoad (dieOk : Bool) (d : Dev) : Dev :=
  match d.prot.loads with
  | [] => d
  | x :: rest =>
    if vaultUp d && !linkUp 4 d then d else
    let d := { d with prot := { d.prot with loads := rest } }
    let k := saKey x.die x.rx x.sc x.an
    if !(dieUp x.die d && tunnelOpen x.die d) then saAnswer x.waiter .badState [] (saUndo x d)
    else
      let opened :=
        if fld x.blob 1 1 = (if x.rx then 0x11 else 0x10) ∧ fld x.blob 4 4 = x.keyId then
          openBlob x.blob x.blob.length d else none
      let len := match secyPrm x.die (if x.rx then saSecy k d else x.sc) d with
        | some p => suiteKeyLen p.suite | none => 32
      match opened with
      | none => saReject x (countBlob false d)
      | some key =>
        if key.bytes.length ≠ len then saReject x (countBlob false d)
        else if !dieOk then
          let d := bump .key x.die 2 (sendSak x.die key.bytes (countBlob true d))
          saReject x (record 0x111 (secySource x.die (saSecy k d) d)
            (le 1 (b2n x.rx) ++ le 1 x.an ++ le 2 x.sc ++ le 4 x.keyId) d)
        else
          let q := Map.get d.prot.installSeq x.die 1
          saAnswer x.waiter .ok (le 4 q ++ le 4 x.keyId ++ zeros 8)
            (twinPost (.saBlob x.die (saPayload x)) (afterInstall k (saPlace x key.bytes (sendSak x.die key.bytes (countBlob true d)))))

/-- R431, R449: the queue at the vault has emptied. -/
def saKeyLoadRow (dieOk : Bool) (d : Dev) : Dev :=
  if d.prot.loads.isEmpty then d
  else
    let d := saKeyLoad dieOk d
    if d.prot.loads.isEmpty then trafficCheck (milestone 9 d) else d

def execSaKeyLoad (dieCheckOk : Bool) (s : State) : Host.Outcome State Fault Refusal := onDev (saKeyLoadRow dieCheckOk) s

/-! ### Switching (R119, R122, R133, R134) -/

/-- A bound on completion for an instant, in ms from now. -/
def boundTo (g : Nat) (d : Dev) : Nat := (g - d.time.grand) / (1000000 * unitsPerNs) + 1

/-- R133. -/
def saTxSwitch (c : Ctx) (d : Dev) : Ans :=
  let die := c.target.dieNo
  let idx := fld c.pl 0 2
  let an := fld c.pl 2 1
  let t := tsFld c.pl 4
  match scSecy die c.target.portNo false idx d with
  | none => .fail .badField
  | some p =>
    need t.valid .badField <|
    need (!saBusy (saKey die false idx an) d) .busy <|
    match (if t.isZero then (if d.time.state = .acquire then some .badState else none) else instantRefusal t 50 d) with
    | some st => .fail st
    | none =>
      let x := sa (saKey die false idx an) d
      need p.hostKeying .badState <|
      need (decide (x.state = .installed) && !x.loading && !switchPending die idx d) .badState <|
        let put (g : Nat) (h mb : Option Nat) : Dev :=
          { d with prot := { d.prot with switches := Map.put d.prot.switches (2048 * die + idx) ⟨an, g, h, mb⟩ } }
        if t.isZero then .run (2048 * die + idx) (put (firstWhole 1000 20000 d) none (some c.mb))
        else .pend (boundTo (unitsOf t) d) (2048 * die + idx) (put (unitsOf t) (some c.handle) none)

def execSaTxSwitch (r : Request) (s : State) : Host.Outcome State Fault Refusal :=
  onMailbox { op := 0x0503, shared := sharedSecy (fun p => fld p 0 2), len := 16, scopes := [.ports [2, 3]], held := true, resv := fun p => below 2 4 p && z 3 1 p }
    (fun c _ d => saTxSwitch c d) r s

/-- R134: the entries of a batch list: die, SecY index, AN, or none for an entry outside its field ranges. -/
def batchEntry (bs : Bytes) (d : Dev) : Option (Nat × Nat × Nat) :=
  let die := fld bs 0 1
  let p := portOf (fld bs 1 1) (fld bs 2 1)
  if die < 4 ∧ (fld bs 1 1 = 2 ∨ fld bs 1 1 = 3) ∧ fld bs 2 1 < kindCount (fld bs 1 1) ∧ portDie p = die ∧
      fld bs 3 1 < 4 ∧ fld bs 6 2 = 0 ∧ (scSecy die p false (fld bs 4 2) d).isSome = true then
    some (die, fld bs 4 2, fld bs 3 1) else none

/-- R25, R134: the first failing entry of a list, in order: its index and status. An entry on a die that cannot be reached is, as
one on an absent die, a conflict. -/
def batchCheck (d : Dev) : Nat → List Bytes → List (Nat × Nat × Nat) → Except (Status × Nat) (List (Nat × Nat × Nat))
  | _, [], acc => .ok acc.reverse
  | i, b :: bs, acc =>
    match batchEntry b d with
    | none => .error (.badField, i)
    | some (die, idx, an) =>
      if acc.any (fun e => decide (e.1 = die ∧ e.2.1 = idx)) then .error (.badField, i)
      else
        let x := sa (saKey die false idx an) d
        if !dieUp die d || decide (x.state ≠ .installed) || x.loading || switchPending die idx d then
          .error (.badState, i)
        else batchCheck d (i + 1) bs ((die, idx, an) :: acc)

/-- R134: a refused batch reports its first failing entry. -/
def saBatchSwitch (c : Ctx) (d : Dev) : Ans :=
  let off := fld c.pl 0 4
  let n := fld c.pl 4 4
  let t := tsFld c.pl 8
  let refuse (st : Status) (ref : Nat) : Ans := .reply st (le 4 ref) d
  if !(z 20 4 c.pl && decide (off % 8 = 0 ∧ 1 ≤ n ∧ n ≤ 8192 ∧ off + 8 * n ≤ 4194304) && t.valid) then refuse .badField 0xFFFFFFFF
  else match instantRefusal t 1000 d with
    | some st => refuse st 0xFFFFFFFF
    | none =>
      match batchCheck d 0 (chunks 8 (memRead 0 d.host.staging off (8 * n))) [] with
      | .error (st, i) => refuse st i
      | .ok l =>
        if 4 ≤ d.prot.batches.length then refuse .busy 0xFFFFFFFF
        else .pend (boundTo (unitsOf t) d) 0
          { d with prot := { d.prot with batches := Map.put d.prot.batches c.handle ⟨unitsOf t, l⟩ } }

def execSaBatchSwitch (r : Request) (s : State) : Host.Outcome State Fault Refusal :=
  onMailbox { op := 0x0505, shared := fun _ _ d => pairedSecondary d && decide ((prm d).twinMode = 0), len := 24, held := true, awake := true } (fun c _ d => saBatchSwitch c d) r s

/-- R134. -/
def saBatchCancel (c : Ctx) (d : Dev) : Ans :=
  let h := fld c.pl 0 4
  match Map.get? d.prot.batches h with
  | none => .fail .badField
  | some b =>
    need (decide (d.time.grand + 20000 * unitsPerNs ≤ b.at_)) .badState <|
      .ok [] (complete h .badState [] { d with prot := { d.prot with batches := Map.del d.prot.batches h } })

def execSaBatchCancel (r : Request) (s : State) : Host.Outcome State Fault Refusal :=
  onMailbox { op := 0x0506, shared := fun _ _ d => pairedSecondary d && decide ((prm d).twinMode = 0), len := 4 } (fun c _ d => saBatchCancel c d) r s

/-! ### Retiring (R118, R121, R124, R135) -/

/-- R135. -/
def saRetire (c : Ctx) (d : Dev) : Ans :=
  let die := c.target.dieNo
  let rx := decide (fld c.pl 0 1 = 1)
  let an := fld c.pl 1 1
  let sc := fld c.pl 2 2
  match scSecy die c.target.portNo rx sc d with
  | none => .fail .badField
  | some p =>
    let k := saKey die rx sc an
    let x := sa k d
    need (!saBusy k d) .busy <|
    need (p.hostKeying && !x.loading) .badState <|
    need (!(!rx && heldBySwitch die sc an d)) .badState <|
      if !rx && decide (x.state = .installed) then .ok [] (freeSa k d)
      else if rx && decide (x.state = .inUse) then
        .ok [] (saEnter .retiring k (setSa k { x with retireAt := none } d))
      else .fail .badState

def execSaRetire (r : Request) (s : State) : Host.Outcome State Fault Refusal :=
  onMailbox { op := 0x0504, shared := sharedSa, len := 4, scopes := [.ports [2, 3]], resv := fun p => below 0 2 p && below 1 4 p }
    (fun c _ d => saRetire c d) r s

/-- The place an operand names. -/
def saIdKey (i : SaId) : Nat := saKey i.die.val i.rx i.sc.val i.an.val

/-- R121: a retire timer expires. -/
def rxRetireExpiry (k : Nat) (d : Dev) : Dev :=
  match (sa k d).retireAt with
  | none => d
  | some t =>
    let d := waitLine t d
    if (sa k d).state ≠ .inUse || decide (d.time.lineElapsed < t) then d
    else bump .key (saDie k) 7 (saEnter .retiring k (setSa k { sa k d with retireAt := none } d))

def execRxRetireTimerExpiry (i : SaId) (s : State) : Host.Outcome State Fault Refusal := onDev (rxRetireExpiry (saIdKey i)) s

/-- R118: a RETIRING slot with no bound frame is zeroized. -/
def saDrained (k : Nat) (d : Dev) : Dev :=
  if (sa k d).state = .retiring ∧ framesBound k d = 0 then retireSlot k 0 d else d

def execSaDrained (i : SaId) (s : State) : Host.Outcome State Fault Refusal := onDev (saDrained (saIdKey i)) s

/-- R118: the drain limit elapses: bound frames are dropped, or stomped if leaving, and counted. -/
def saDrainLimit (k : Nat) (d : Dev) : Dev :=
  let due := (sa k d).sinceTick + ticksMs (prm d).drainLimit
  let d := if (sa k d).state = .retiring then waitLine due d else d
  if (sa k d).state ≠ .retiring || decide (d.time.lineElapsed < due) then d
  else
    let n := framesBound k d
    let d := bumpBy .key (saDie k) 4 n (dropBound k d)
    let d := if n = 0 then d else
      record 0x112 (secySource (saDie k) (saSecy k d) d)
        (le 1 (b2n (saRx k)) ++ le 1 (saAn k) ++ le 2 (saSc k) ++ le 4 (sa k d).keyId ++ le 4 n) d
    retireSlot k n d

def execSaDrainLimitExpiry (i : SaId) (s : State) : Host.Outcome State Fault Refusal := onDev (saDrainLimit (saIdKey i)) s

/-- R124: switch_grace elapses: the waiting frames of the exhausted SA are dropped and counted. -/
def switchGrace (die idx : Nat) (d : Dev) : Dev :=
  match txInUse die idx d, secyPrm die idx d with
  | some a, some p =>
    let k := saKey die false idx a
    let due := (sa k d).sinceTick + ticksMs p.switchGrace
    let d := waitLine due d
    if (sa k d).state ≠ .exhausted || (sa k d).graceOver || decide (d.time.lineElapsed < due) then d
    else
      let n := framesWaiting k d
      let d := bumpBy .secy (2048 * die + idx) 7 n (dropWaiting k d)
      setSa k { sa k d with graceOver := true } d
  | _, _ => d

def execSwitchGraceExpiry (die : Fin 4) (secy : Fin 2048) (s : State) : Host.Outcome State Fault Refusal :=
  onDev (switchGrace die.val secy.val) s

/-! ### Queries (R136, R137) -/

/-- R136: the state code. -/
def saCode : SaState → Nat
  | .empty => 0 | .loading => 1 | .installed => 2 | .inUse => 3 | .exhausted => 4 | .retiring => 5

/-- R136. -/
def saQuery (c : Ctx) (d : Dev) : Ans :=
  let die := c.target.dieNo
  let rx := decide (fld c.pl 0 1 = 1)
  let sc := fld c.pl 2 2
  match scSecy die c.target.portNo rx sc d with
  | none => .fail .badField
  | some p =>
    let k := saKey die rx sc (fld c.pl 1 1)
    let x := sa k d
    let sw := !rx && (match pendingSwitch die sc d with | some w => decide (w.2 = fld c.pl 1 1) | none => false)
    .ok (le 1 (saCode x.state) ++ le 1 (if rx then 2 else 1) ++ le 1 p.suite
      ++ le 1 (b2n x.loading + 2 * b2n sw + 4 * b2n x.threshold + 8 * b2n x.retireAt.isSome)
      ++ le 4 x.keyId ++ le 4 x.installSeq ++ le 4 (framesBound k d) ++ le 8 x.nextPn
      ++ le 8 (if rx then (if x.state = .empty then 0 else lowestPn k d) else x.reserve)
      ++ x.installedAt.bytes ++ zeros 4 ++ x.since.bytes ++ zeros 4) d

def execSaQuery (r : Request) (s : State) : Host.Outcome State Fault Refusal :=
  onMailbox { op := 0x0502, len := 4, scopes := [.ports [2, 3]], resv := fun p => below 0 2 p && below 1 4 p }
    (fun c _ d => saQuery c d) r s

/-- R130, R137. -/
def saCntRead (c : Ctx) (d : Dev) : Ans :=
  let die := c.target.dieNo
  let rx := decide (fld c.pl 0 1 = 1)
  match scSecy die c.target.portNo rx (fld c.pl 2 2) d with
  | none => .fail .badField
  | some _ => cntRead .sa (saKey die rx (fld c.pl 2 2) (fld c.pl 1 1)) 5 (clearFlag 4 c.pl) d

def execSaCntRead (r : Request) (s : State) : Host.Outcome State Fault Refusal :=
  onMailbox { op := 0x0508, len := 8, scopes := [.ports [2, 3]],
              resv := fun p => below 0 2 p && below 1 4 p && onlyBits 4 4 1 p } (fun c _ d => saCntRead c d) r s

def execKeyCntRead (r : Request) (s : State) : Host.Outcome State Fault Refusal :=
  onMailbox { op := 0x0509, len := 4, scopes := [.dies [0, 1, 2, 3]], resv := onlyBits 0 4 1 }
    (fun c _ d => cntRead .key c.target.dieNo 9 (clearFlag 0 c.pl) d) r s

end Sys2Proof.Machine
end

