-- ==== Sys2Proof/Machine/Secy.lean ====
section
/-! DEFINITION. Sys2Proof/Machine/Secy.lean: the SECY command group (04_frame_protection.md). -/
namespace Sys2Proof.Machine

/-- The SecY a command names on its target port. -/
def secyOn (c : Ctx) (idx : Nat) (d : Dev) : Option SecyPrm := scSecy c.target.dieNo c.target.portNo false idx d

/-- RX SCs of a SecY. -/
def rxScCount (die idx : Nat) (d : Dev) : Nat :=
  (d.prot.rxscs.filter (fun e => decide (e.1 / 4096 = die ∧ e.2.secy = idx))).length

/-- Is the controlled port of a SecY enabled (R98)? -/
def portEnabled (n : Nat) (d : Dev) : Bool := d.prot.enabled.contains n

/-- R105. -/
def secyQuery (c : Ctx) (d : Dev) : Ans :=
  let die := c.target.dieNo
  let idx := fld c.pl 0 2
  match secyOn c idx d with
  | none => .fail .badField
  | some p =>
    .ok (le 2 idx ++ le 2 p.vid ++ le 1 (b2n (portTpidAd p.port d)) ++ le 1 p.suite ++ le 1 p.confOffset ++ le 1 p.validate
      ++ le 4 p.replayWindow
      ++ le 2 (b2n p.protectFrames + 2 * b2n p.replayProtect + 4 * b2n p.confidentiality + 8 * b2n p.hostKeying
          + 16 * b2n (portEnabled (2048 * die + idx) d))
      ++ le 1 p.ptpTreatment ++ le 1 p.lldpTreatment ++ le 8 p.txSci ++ le 8 p.implicitSci
      ++ le 1 ((txInUse die idx d).getD 0xFF) ++ zeros 1 ++ le 2 (rxScCount die idx d)
      ++ le 4 (match d.cfg.active with | some a => a.id | none => 0) ++ zeros 8) d

def execSecyQuery (r : Request) (s : State) : Host.Outcome State Fault Refusal :=
  onMailbox { op := 0x0401, len := 4, scopes := [.ports [2, 3]], resv := z 2 2 } (fun c _ d => secyQuery c d) r s

/-- R103, R106. -/
def secyCntRead (c : Ctx) (d : Dev) : Ans :=
  match secyOn c (fld c.pl 0 2) d with
  | none => .fail .badField
  | some _ => cntRead .secy (2048 * c.target.dieNo + fld c.pl 0 2) 17 (bit (fld c.pl 2 2) 0) d

def execSecyCntRead (r : Request) (s : State) : Host.Outcome State Fault Refusal :=
  onMailbox { op := 0x0402, len := 4, scopes := [.ports [2, 3]], resv := onlyBits 2 2 1 }
    (fun c _ d => secyCntRead c d) r s

/-- R107: has the SecY a TX SA installed? -/
def hasTxSa (die idx : Nat) (d : Dev) : Bool :=
  (List.range 4).any (fun a => match (sa (saKey die false idx a) d).state with
    | .installed => true | .inUse => true | .exhausted => true | _ => false)

/-- R107. -/
def secyPortEnable (c : Ctx) (d : Dev) : Ans :=
  let die := c.target.dieNo
  let idx := fld c.pl 0 2
  let on := decide (fld c.pl 2 1 = 1)
  match secyOn c idx d with
  | none => .fail .badField
  | some p =>
    need p.hostKeying .badState <|
      if portEnabled (2048 * die + idx) d = on then .ok [] d
      else need (!(on && p.protectFrames && !hasTxSa die idx d)) .badState <|
        .ok [] (setPortEnabled (2048 * die + idx) on d)

def execSecyPortEnable (r : Request) (s : State) : Host.Outcome State Fault Refusal :=
  onMailbox { op := 0x0403, shared := sharedSecy (fun p => fld p 0 2), len := 4, scopes := [.ports [2, 3]], held := true, resv := fun p => below 2 2 p && z 3 1 p }
    (fun c _ d => secyPortEnable c d) r s

/-- The RX SC a command names on its target port. -/
def rxScOn (c : Ctx) (idx : Nat) (d : Dev) : Option RxSc :=
  match Map.get? d.prot.rxscs (4096 * c.target.dieNo + idx) with
  | some r => if r.port = c.target.portNo then some r else none
  | none => none

/-- ANs of an RX SC whose slot passes a test, as a mask. -/
def anMask (die sc : Nat) (p : SaState → Bool) (d : Dev) : Nat :=
  (List.range 4).foldl (fun m a => if p (sa (saKey die true sc a) d).state then m + 2 ^ a else m) 0

/-- R110: the newest AN in use: the highest install_seq. -/
def newestAn (die sc : Nat) (d : Dev) : Option Nat :=
  (List.range 4).foldl (fun best a =>
    let x := sa (saKey die true sc a) d
    if x.state = .inUse then
      match best with
      | none => some a
      | some b => if (sa (saKey die true sc b) d).installSeq < x.installSeq then some a else best
    else best) none

/-- R110. -/
def rxscQuery (c : Ctx) (d : Dev) : Ans :=
  let die := c.target.dieNo
  let idx := fld c.pl 0 2
  match rxScOn c idx d with
  | none => .fail .badField
  | some r =>
    let obj := 4096 * die + idx
    let nw := newestAn die idx d
    .ok (le 8 r.sci ++ le 2 r.secy ++ le 1 r.confOffset ++ le 1 (anMask die idx (fun st => decide (st ≠ .empty ∧ st ≠ .loading)) d)
      ++ le 1 (anMask die idx (fun st => decide (st = .inUse)) d) ++ zeros 3
      ++ le 8 (match nw with | some a => lowestPn (saKey die true idx a) d | none => 0)
      ++ le 8 (match nw with | some a => (sa (saKey die true idx a) d).nextPn | none => 0)
      ++ cntBytes .rxsc obj 10 d) (clearIf (bit (fld c.pl 2 2) 0) .rxsc obj d)

def execRxscQuery (r : Request) (s : State) : Host.Outcome State Fault Refusal :=
  onMailbox { op := 0x0406, len := 4, scopes := [.ports [2, 3]], resv := onlyBits 2 2 1 }
    (fun c _ d => rxscQuery c d) r s

/-- R108: create an RX SC of a SecY with an SCI: the lowest free index and its SCI-table entry. -/
def createRxSc (die port secy sci conf : Nat) (d : Dev) : Option (Nat × Dev) :=
  match (List.range 4096).find? (fun i => !Map.has d.prot.rxscs (4096 * die + i)) with
  | none => none
  | some i =>
    match sciInsert die port sci i secy d with
    | none => none
    | some d => some (i, { d with prot := { d.prot with
        rxscs := Map.put d.prot.rxscs (4096 * die + i) ⟨port, secy, sci, conf⟩ } })

/-- R108: does the SCI already exist on the port? -/
def sciOnPort (port sci : Nat) (d : Dev) : Bool := d.prot.rxscs.any (fun e => decide (e.2.port = port ∧ e.2.sci = sci))

/-- R108. -/
def rxscCreate (c : Ctx) (d : Dev) : Ans :=
  let die := c.target.dieNo
  let idx := fld c.pl 0 2
  match secyOn c idx d with
  | none => .fail .badField
  | some p =>
    need (p.hostKeying && !sciOnPort c.target.portNo (fld c.pl 8 8) d) .badState <|
    match createRxSc die c.target.portNo idx (fld c.pl 8 8) (fld c.pl 2 1) d with
    | none => .fail .noResource
    | some (i, d) => .ok (le 2 i ++ zeros 2) d

def execRxscCreate (r : Request) (s : State) : Host.Outcome State Fault Refusal :=
  onMailbox { op := 0x0404, len := 16, scopes := [.ports [2, 3]],
              resv := fun p => decide (fld p 2 1 = 0 ∨ fld p 2 1 = 30 ∨ fld p 2 1 = 50) && z 3 5 p }
    (fun c _ d => rxscCreate c d) r s

/-- R109: delete an RX SC: its SCI-table entry and counters go, its index becomes free. -/
def deleteRxSc (die idx : Nat) (d : Dev) : Dev :=
  let d := sciRemove die idx d
  cntClear .rxsc (4096 * die + idx) { d with prot := { d.prot with rxscs := Map.del d.prot.rxscs (4096 * die + idx) } }

/-- R109. -/
def rxscDelete (c : Ctx) (d : Dev) : Ans :=
  let die := c.target.dieNo
  let idx := fld c.pl 0 2
  match rxScOn c idx d with
  | none => .fail .badField
  | some r =>
    let host := match secyPrm die r.secy d with | some p => p.hostKeying | none => true
    need (host && decide (anMask die idx (fun st => decide (st ≠ .empty)) d = 0)) .badState <|
      .ok [] (deleteRxSc die idx d)

def execRxscDelete (r : Request) (s : State) : Host.Outcome State Fault Refusal :=
  onMailbox { op := 0x0405, len := 4, scopes := [.ports [2, 3]], resv := z 2 2 } (fun c _ d => rxscDelete c d) r s

/-- R104, R111: on a port that is not a cipher port, slots 0, 2, 4 and 5 read zero. -/
def cportCntRead (c : Ctx) (d : Dev) : Ans :=
  let p := c.target.portNo
  if isCipher p d then cntRead .cport p 6 (clearFlag 0 c.pl) d
  else .ok ((List.range 6).flatMap (fun k => le 8 (if k = 1 ∨ k = 3 then cntGet .cport p k d else 0)))
    (clearIf (clearFlag 0 c.pl) .cport p d)

def execCportCntRead (r : Request) (s : State) : Host.Outcome State Fault Refusal :=
  onMailbox { op := 0x0407, len := 4, scopes := [.ports [1, 2, 3]], resv := onlyBits 0 4 1 }
    (fun c _ d => cportCntRead c d) r s

end Sys2Proof.Machine
end

