-- ==== Sys2Proof/Machine/Fabric.lean ====
section
/-! DEFINITION. Sys2Proof/Machine/Fabric.lean: the whisk (R220), arrival from the fabric (R245), and the FABRIC command
group (R226 to R241). -/
namespace Sys2Proof.Machine

/-! ### The whisk (R220) -/

/-- The crossbar port of a die's channel; 16 is the hub's. -/
def xbarPort (die ch : Nat) : Nat := if die = 8 then 16 else 4 * die + ch

/-- The output port an entry asks for. -/
def VoqEnt.output (e : VoqEnt) : Nat := match e.dsts with | k :: _ => xbarPort k e.outChan | [] => 16

/-- The input port an entry waits at. -/
def VoqEnt.input (e : VoqEnt) : Nat := xbarPort e.src e.inChan

/-- The priority of an entry: mirror copies lowest (R231), then by class. -/
def VoqEnt.prio (e : VoqEnt) : Nat := if e.mirror then 1 else e.cls + 2

/-- R220 step 1: the priority with which an input requests an output; 0 for no request. -/
def request (voq : List VoqEnt) (i o : Nat) : Nat :=
  voq.foldl (fun m e => if e.input = i ∧ e.output = o then max m e.prio else m) 0

/-- The 17 places from a pointer on. -/
def fromPtr (p : Nat) : List Nat := (List.range 17).map (fun k => (p + k) % 17)

/-- The first place in an order with the highest positive priority. -/
def pickBest (order : List Nat) (prio : Nat → Nat) : Option Nat :=
  order.foldl (fun best k =>
    if prio k = 0 then best
    else match best with
      | none => some k
      | some b => if prio b < prio k then some k else best) none

/-- R220: one iteration: grants by outputs, accepts by inputs; the new pairs (input, output). -/
def iterateMatch (req : Nat → Nat → Nat) (gp ap : Map Nat) (done : List (Nat × Nat)) : List (Nat × Nat) :=
  let inFree (i : Nat) : Bool := done.all (fun e => decide (e.1 ≠ i))
  let outFree (o : Nat) : Bool := done.all (fun e => decide (e.2 ≠ o))
  let grants := ((List.range 17).filter outFree).filterMap (fun o =>
    (pickBest ((fromPtr (Map.get gp o 0)).filter inFree) (fun i => req i o)).map (fun i => (i, o)))
  ((List.range 17).filter inFree).filterMap (fun i =>
    let mine := (grants.filter (fun g => decide (g.1 = i))).map (·.2)
    (pickBest ((fromPtr (Map.get ap i 0)).filter (fun o => mine.contains o)) (fun o => req i o)).map (fun o => (i, o)))

/-- R217: carry up to 240 bytes of one VOQ: the entries after it, each in its place, and the entries whose first byte went. -/
def carry (mine : VoqEnt → Bool) (room : Nat) : List VoqEnt → List VoqEnt × List VoqEnt
  | [] => ([], [])
  | e :: es =>
    if !mine e || decide (room = 0) then
      let r := carry mine room es
      (e :: r.1, r.2)
    else
      let n := min room e.left
      let r := carry mine (room - n) es
      let begun := if e.started then r.2 else e :: r.2
      if e.left ≤ n then (r.1, begun) else ({ e with left := e.left - n, started := true, frames := [] } :: r.1, begun)

/-! ### What may be carried (R27, R30) -/

/-- R30: has a channel credits for the four flits of a cell? The hub's own channel needs none. -/
def hasCredit (die : Nat) (toHub : Bool) (chan : Nat) (d : Dev) : Bool :=
  decide (die = 8) || decide (4 ≤ (chanOf die toHub chan d).credits)

/-- R30: has an entry credits on every link it crosses? -/
def entryCredit (e : VoqEnt) (d : Dev) : Bool :=
  hasCredit e.src true e.inChan d && e.dsts.all (fun k => hasCredit k false e.outChan d)

/-- R27: the entries with none before them that shares a triple and goes by other channels: a frame of several triples may find
them bound apart. -/
def inOrder : List VoqEnt → List VoqEnt → List VoqEnt
  | _, [] => []
  | before, e :: es =>
    let behind := before.any (fun b => sharesTriple e.src e.inPort e.cls e.outs b &&
      decide (b.inChan ≠ e.inChan ∨ b.outChan ≠ e.outChan ∨ b.dsts ≠ e.dsts ∨ b.port ≠ e.port))
    let rest := inOrder (before ++ [e]) es
    if behind then rest else e :: rest

/-- The entries that the whisk may serve. -/
def readyVoq (d : Dev) : List VoqEnt := (inOrder [] d.fab.voq).filter (fun e => entryCredit e d)

/-- R30, R37: a channel with cells and no credit: its wait begins. -/
def noteStalls (d : Dev) : Dev :=
  (inOrder [] d.fab.voq).foldl (fun d e =>
    let d := if hasCredit e.src true e.inChan d then d else noteStall e.src true e.inChan d
    e.dsts.foldl (fun d k => if hasCredit k false e.outChan d then d else noteStall k false e.outChan d) d) d

/-- R245: the frames whose first cell reached their dies. -/
def arrivals (e : VoqEnt) : List (Nat × Frame) :=
  e.dsts.flatMap (fun k => (e.frames.filter (fun f => !f.copy || decide (destDie f.dest = k))).map (fun f => (k, f)))

/-- Is the entry of the same VOQ and path as another? -/
def VoqEnt.sameVoq (a b : VoqEnt) : Bool :=
  decide (a.src = b.src ∧ a.cls = b.cls ∧ a.port = b.port ∧ a.dsts = b.dsts ∧ a.inChan = b.inChan ∧ a.outChan = b.outChan) &&
    decide (a.mirror = b.mirror)

/-- R220: a matched channel carries one cell of the oldest entry with the highest class. -/
def carryCell (io : Nat × Nat) (d : Dev) : Dev :=
  let ready := readyVoq d
  let top := request ready io.1 io.2
  match ready.find? (fun e => decide (e.input = io.1 ∧ e.output = io.2 ∧ e.prio = top)) with
  | none => d
  | some e =>
    let r := carry e.sameVoq 240 d.fab.voq
    let d := { d with fab := { d.fab with voq := r.1, arrived := d.fab.arrived ++ r.2.flatMap arrivals } }
    let d := if e.src = 8 then d else perfEvent e.src 0x090 1 d
    perfEvent 4 0x200 1 (e.dsts.foldl (fun d k => if k = 8 then d else perfEvent k 0x091 1 d) d)

/-- R220: one cell time of the whisk. -/
def whiskMatch (d : Dev) : Dev :=
  if !awake d then d
  else
    let d := noteStalls d
    let req := request (readyVoq d)
    let it := iterateMatch req d.fab.grantPtr d.fab.acceptPtr
    let m1 := it []
    let m2 := m1 ++ it m1
    let m3 := m2 ++ it m2
    let d := { d with fab := { d.fab with
      grantPtr := m1.foldl (fun m e => Map.put m e.2 ((e.1 + 1) % 17)) d.fab.grantPtr
      acceptPtr := m1.foldl (fun m e => Map.put m e.1 ((e.2 + 1) % 17)) d.fab.acceptPtr } }
    let left := ((List.range 17).flatMap (fun i => (List.range 17).filter (fun o => decide (req i o ≠ 0) && !m3.contains (i, o)))).length
    m3.foldl (fun d io => carryCell io d) (perfEvent 4 0x201 left d)

def execWhiskMatch (s : State) : Host.Outcome State Fault Refusal := onDev whiskMatch s

/-- R245: the oldest frame that has reached a die is admitted there (4 is the hub). -/
def fabricArrival (die : Nat) (d : Dev) : Dev :=
  let k := if die = 4 then 8 else die
  match d.fab.arrived.find? (fun e => decide (e.1 = k)) with
  | none => d
  | some (_, f) =>
    deliver k f { d with fab := { d.fab with arrived := d.fab.arrived.filter (fun e => !(decide (e.1 = k ∧ e.2.id = f.id))) } }

def execFabricFrameArrival (die : Fin 5) (s : State) : Host.Outcome State Fault Refusal := onDev (fabricArrival die.val) s

/-! ### Groups (R226, R229, R235, R236) -/

/-- A group; one never set has no members. -/
def group (g : Nat) (d : Dev) : Group := Map.get d.fab.groups g ⟨[], 0⟩

/-- R229: does any frame refer to an earlier version of a group? -/
def oldVersionUsed (g : Nat) (d : Dev) : Bool :=
  (allFrames d ++ d.act.egg.map (·.frame)).any (fun f => match f.group with | some (n, v) => decide (n = g ∧ v ≠ (group g d).version) | none => false)

/-- The 4-byte codes of a list. -/
def readCodes (bs : Bytes) : List Nat := (chunks 4 bs).map unle

/-- A list without repeats? -/
def distinct : List Nat → Bool
  | [] => true
  | x :: xs => !xs.contains x && distinct xs

/-- R226: member entries that a die holds besides those of a group. -/
def otherEntries (g die : Nat) (d : Dev) : Nat :=
  ((d.fab.groups.filter (fun e => decide (e.1 ≠ g))).map (fun e => (e.2.members.filter (fun m => decide (destDie m = die))).length)).sum

/-- R235: the list after an operation; none for BAD_STATE. -/
def groupAfter (op : Nat) (old new : List Nat) : Option (List Nat) :=
  match op with
  | 0 => some new
  | 1 => if new.any (fun m => old.contains m) then none else some (old ++ new)
  | 2 => if new.all (fun m => old.contains m) then some (old.filter (fun m => !new.contains m)) else none
  | _ => some []

/-- R235. -/
def groupSet (c : Ctx) (d : Dev) : Ans :=
  let g := fld c.pl 0 2
  let op := fld c.pl 2 1
  let n := fld c.pl 4 4
  let off := fld c.pl 8 4
  let codes := readCodes (stagingRead off (4 * n) d)
  need (decide (g < 8192 ∧ n ≤ 1024 ∧ (op = 3 → n = 0) ∧ off % 4 = 0 ∧ off + 4 * n ≤ 4194304)) .badField <|
  need (codes.all (fun m => destValid m && decide (m / 2 ^ 28 = 1 ∨ m / 2 ^ 28 = 2)) && distinct codes) .badField <|
  need (presentUp d) .badState <|
  match groupAfter op (group g d).members codes with
  | none => .fail .badState
  | some l =>
    need (decide (l.length ≤ 1024) && (List.range 4).all (fun k =>
      decide ((l.filter (fun m => decide (destDie m = k))).length + otherEntries g k d ≤ 65536))) .noResource <|
    need (!oldVersionUsed g d) .busy <|
      let v := ((group g d).version + 1) % 2 ^ 32
      .ok (le 4 l.length ++ le 4 v ++ zeros 8) { d with fab := { d.fab with groups := Map.put d.fab.groups g ⟨l, v⟩ } }

def execFabricGroupSet (r : Request) (s : State) : Host.Outcome State Fault Refusal :=
  onMailbox { op := 0x0901, len := 12, awake := true, resv := fun p => below 2 4 p && z 3 1 p } (fun c _ d => groupSet c d) r s

/-- R236. -/
def groupQuery (c : Ctx) (d : Dev) : Ans :=
  let g := fld c.pl 0 2
  let off := fld c.pl 4 4
  let x := group g d
  need (decide (g < 8192 ∧ off % 4 = 0 ∧ off + 4 * x.members.length ≤ 4194304)) .badField <|
    let mask := ((List.range 4).map (fun k => if x.members.any (fun m => decide (destDie m = k)) then 2 ^ k else 0)).sum
    .ok (le 4 x.members.length ++ le 4 x.version ++ le 4 mask ++ zeros 4) (stagingWrite off (x.members.flatMap (le 4)) d)

def execFabricGroupQuery (r : Request) (s : State) : Host.Outcome State Fault Refusal :=
  onMailbox { op := 0x0902, len := 8, resv := z 2 2 } (fun c _ d => groupQuery c d) r s

/-! ### Ports and mirrors (R232, R237 to R239) -/

/-- R237. -/
def fabricPortQuery (c : Ctx) (d : Dev) : Ans :=
  let p := c.target.portNo
  let s := prm d
  let ct := match portPrm p d with | some x => x.ctMask | none => 0
  .ok (le 1 ct ++ le 1 s.releaseMask ++ le 1 (b2n (d.fab.analysis.contains p) + 2 * b2n (isPlain p d)) ++ zeros 1
    ++ cntBytes .fport p 3 d ++ zeros 4) (clearIf (clearFlag 0 c.pl) .fport p d)

def execFabricPortQuery (r : Request) (s : State) : Host.Outcome State Fault Refusal :=
  onMailbox { op := 0x0905, len := 4, scopes := [.ports [1, 2, 3]], resv := onlyBits 0 4 1 }
    (fun c _ d => fabricPortQuery c d) r s

/-- R232: the plaintext sessions toward a port. -/
def plainSessions (p : Nat) (s : SetParams) : List Nat :=
  (s.mirrors.filter (fun e => e.2.plain && decide (e.2.dest = p))).map (·.1)

/-- R232: clear a port's analysis flag: the plaintext copies queued for it are discarded and counted as dropped. -/
def analysisOff (p : Nat) (d : Dev) : Dev :=
  let d := { d with fab := { d.fab with analysis := d.fab.analysis.filter (· ≠ p), analysisFrom := Map.del d.fab.analysisFrom p } }
  let here (f : Frame) : Bool := f.plainView && decide (f.dest = p)
  d.fab.mirrorQ.foldl (fun d e =>
    let n := (e.2.filter here).length
    bumpBy .fab (portDie p) 10 n (bumpBy .mirror e.1 2 n (setMirrorQ e.1 (e.2.filter (fun f => !here f)) d))) d

/-- R231, R232, R238: set a port's analysis flag, for frames classified from now on: its plaintext sessions start, their match
counts at 0. -/
def analysisOn (p : Nat) (d : Dev) : Dev :=
  if d.fab.analysis.contains p then d
  else { d with fab := { d.fab with analysis := p :: d.fab.analysis,
                                    analysisFrom := Map.put d.fab.analysisFrom p d.fab.nextFrame,
                                    sample := (plainSessions p (prm d)).foldl (fun m k => Map.put m k 0) d.fab.sample } }

/-- R238. R35: the vault must be reachable to verify the token. -/
def mirrorPlainEnable (c : Ctx) (d : Dev) : Ans :=
  let p := c.target.portNo
  need (isPlain p d) .badField <|
  need (decide (fld c.pl 0 1 = 0) || vaultUp d) .badState <|
    .ok [] (if fld c.pl 0 1 = 1 then analysisOn p d else analysisOff p d)

def execMirrorPlainEnable (r : Request) (s : State) : Host.Outcome State Fault Refusal :=
  onMailbox { op := 0x0903, shared := sharedState, len := 4, scopes := [.ports [1, 2, 3]], auth := .enable1,
              resv := fun p => below 0 2 p && z 1 3 p } (fun c _ d => mirrorPlainEnable c d) r s

/-- R239. -/
def mirrorQuery (c : Ctx) (d : Dev) : Ans :=
  let k := fld c.pl 0 1
  let head : Bytes := match Map.get? (prm d).mirrors k with
    | none => le 1 k ++ le 1 0xFF ++ zeros 10 ++ le 4 1 ++ zeros 8
    | some m =>
      le 1 k ++ le 1 m.point ++ le 1 (b2n m.plain)
        ++ le 1 (if mirrorBlocked m d.fab.nextFrame d && m.enabled then 2 else if m.enabled then 1 else 0)
        ++ le 4 (match m.source with | some p => if m.point = 4 then 0 else portTarget p | none => 0) ++ le 4 (portTarget m.dest) ++ le 4 m.sampleN
        ++ le 2 (if m.point = 4 then m.vid else 0) ++ le 1 (if m.point = 4 then m.classMask else 0) ++ zeros 1 ++ le 4 (match d.cfg.active with | some a => a.id | none => 0)
  .ok (head ++ cntBytes .mirror k 4 d) (clearIf (bit (fld c.pl 1 1) 0) .mirror k d)

def execMirrorQuery (r : Request) (s : State) : Host.Outcome State Fault Refusal :=
  onMailbox { op := 0x0904, len := 4, resv := fun p => below 0 8 p && onlyBits 1 1 1 p && z 2 2 p }
    (fun c _ d => mirrorQuery c d) r s

def execFabCntRead (r : Request) (s : State) : Host.Outcome State Fault Refusal :=
  onMailbox { op := 0x0906, len := 4, scopes := [.dies [0, 1, 2, 3]], resv := onlyBits 0 4 1 }
    (fun c _ d => cntRead .fab c.target.dieNo 11 (clearFlag 0 c.pl) d) r s

/-- R241: in KiB, rounded up. -/
def kib (bytes : Nat) : Nat := ceilDiv bytes 1024

/-- R241: frames of a die that the stockpot holds. -/
def spilledOf (die : Nat) (d : Dev) : List Frame :=
  (d.que.queues.filter (fun e => decide (queueDie e.1 = die))).flatMap (fun e => e.2.frames.filter Frame.spilled)

/-- R241. -/
def bufStatus (c : Ctx) (d : Dev) : Ans :=
  let die := c.target.dieNo
  let regions := (List.range 128).filter (fun r => decide (regionOwner r d = die))
  let quar := regions.filter (fun k =>
    decide ((region k d).state = .quarantined ∨ (region k d).state = .rebuilding ∨ (region k d).state = .heldOut))
  let qs := d.que.queues.filter (fun e => decide (queueDie e.1 = die) && e.2.frames.any Frame.spilled)
  let eggB := ((d.act.egg.filter (fun h => decide (h.die = die) && h.spilled)).map (fun h => h.frame.data.length + 4)).sum
  .ok (le 4 (kib (256 * poolUnits die d)) ++ le 4 (kib (voqPool die d)) ++ le 4 (kib (256 * eggUnits die d))
    ++ le 2 regions.length ++ le 2 quar.length ++ le 8 (framesBytes (spilledOf die d) + eggB) ++ le 4 qs.length ++ zeros 4) d

def execBufStatus (r : Request) (s : State) : Host.Outcome State Fault Refusal :=
  onMailbox { op := 0x0907, len := 0, scopes := [.dies [0, 1, 2, 3]] } (fun c _ d => bufStatus c d) r s

end Sys2Proof.Machine
end

