-- ==== Sys2Proof/Machine/TwinOps.lean ====
section
/-! DEFINITION. Sys2Proof/Machine/TwinOps.lean: entering and leaving twin states, for the ports and the twin commands
(R405, R410). -/
namespace Sys2Proof.Machine

/-- R410: enter a state. -/
def twinEnter (st : TwinSt) (d : Dev) : Dev :=
  { d with twin := { d.twin with state := st, since := now d, sinceTick := d.time.elapsed } }

/-- R465: the TWIN_EVENT record: kind 1 attach fault, 2 key mirror fault, 3 TWFAIL_I while syncing. -/
def twinEvent (kind : Nat) (st : Status) (d : Dev) : Dev :=
  record 0x140 deviceTarget (le 1 kind ++ le 2 st.code ++ le 8 d.twin.peerSerial) d

/-- R411: reservations end. -/
def endReservations (d : Dev) : Dev :=
  { d with prot := { d.prot with slots := Map.mapVals d.prot.slots (fun x => { x with reserve := 0, renewing := false }) } }

/-- R405, R410: nothing of the pair remains but the level of the squelch and what serves: session keys are zeroized,
records and what they brought for a takeover are dropped. -/
def twinForget (d : Dev) : Dev :=
  { d with twin := { d.twin with
      hs := none, keyOut := [], keyIn := [], ctrOut := 0, ctrIn := 0, waiting := [], unacked := [], lastSent := [], queueUntil := 0
      unprotected := [], reservations := [], mirrored := [], actions := [], taps := [], control := [], analysis := []
      inUse := [], missed := 0, handover := false, synced := false } }

/-- R410: the pair ends: UNPAIRED, without a role. -/
def twinEnd (d : Dev) : Dev :=
  let d := twinEnter .unpaired (endReservations (twinForget d))
  { d with twin := { d.twin with
      role := 0, peerSerial := 0, peerVersion := 0, recordVersion := 0, offset := 0, tookHome := none } }

/-- R405, R424: an attach fails: counted, and completed if the host asked for it. -/
def attachFail (st : Status) (d : Dev) : Dev :=
  let h := d.twin.handle
  let d := bump .twin 0 4 d
  let d := if st = .authFailed then twinEvent 1 st (bump .twin 0 5 d) else d
  let d := twinEnd { d with twin := { d.twin with handle := none } }
  match h with | some h => complete h st [] d | none => d

/-- R410: SYNCING ends without a pair: an event record, UNPAIRED. -/
def syncFail (st : Status) (d : Dev) : Dev := attachFail st (twinEvent 1 st d)

/-- R410: W leaves UP; in SYNCING this ends the attach. -/
def linkLost (d : Dev) : Dev := if d.twin.state = .syncing then syncFail .internalError d else d

end Sys2Proof.Machine
end

