-- ==== Sys2Proof/Machine/Ports.lean ====
section
/-! DEFINITION. Sys2Proof/Machine/Ports.lean: port states (R390, R391), link training (R377 to R379, R386), adaptation
(R387), eye scans (R388) and the PORT commands (R395 to R400). -/
namespace Sys2Proof.Machine

/-! ### Lanes -/

/-- The lanes of a port. -/
def lanesOf (p : Nat) (d : Dev) : List Nat := (List.range (portLanes p d)).map (laneOfPort p)

/-- Change every lane of a port. -/
def onLanes (p : Nat) (g : LaneSt → LaneSt) (d : Dev) : Dev :=
  (lanesOf p d).foldl (fun d l => setLaneSt l (g (laneSt l d)) d) d

/-- Count on every lane of a port (R394). -/
def bumpLanes (p slot : Nat) (d : Dev) : Dev := (lanesOf p d).foldl (fun d l => bump .lane l slot d) d

/-- R501: the ranges of the transmitter taps c(-3) to c(1) of a lane. -/
def tapRange (l : Nat) : List (Int × Int) :=
  if l < 32 then [(-8, 0), (0, 16), (-48, 0), (64, 127), (-32, 0)]
  else if 96 ≤ l ∧ l < 100 then [(0, 0), (0, 0), (-32, 0), (48, 63), (-24, 0)]
  else [(0, 0), (0, 0), (-16, 0), (32, 63), (-24, 0)]

/-- A preset of the taps: the spec gives ranges and no values. -/
def presetTaps (l : Nat) (d : Dev) : List Int × Dev :=
  (tapRange l).foldl (fun a r => let (v, d) := fresh a.2; (a.1 ++ [r.1 + ((v % ((r.2 - r.1).toNat + 1) : Nat) : Int)], d)) ([], d)

/-- R378: one tap after a request (0 hold, 1 increment, 2 decrement) and the status returned: 0 not updated, 1 updated,
2 at minimum, 3 at maximum. -/
def tapStep (req : Nat) (r : Int × Int) (t : Int) : Int × Nat :=
  if req = 1 then (if r.2 ≤ t then (t, 3) else (t + 1, 1))
  else if req = 2 then (if t ≤ r.1 then (t, 2) else (t - 1, 1))
  else (t, 0)

/-- R378: all taps of a lane after a request. -/
def tapSteps (l : Nat) (reqs : List Nat) (taps : List Int) : List (Int × Nat) :=
  ((tapRange l).zip taps).zip (reqs ++ List.replicate 5 0) |>.map (fun e => tapStep e.2 e.1.1 e.1.2)

/-! ### Leaving UP, going down, starting (R390, R391) -/

/-- R388: a scan ends before its last point. -/
def endScan (l : Nat) (d : Dev) : Dev :=
  match (laneSt l d).scan with
  | some s => complete s.handle .badState [] (setLaneSt l { laneSt l d with scan := none } d)
  | none => d

/-- R388, R391: a port leaves UP: the frame being sent is stomped, its lanes' scans end. -/
def leaveUp (p : Nat) (d : Dev) : Dev :=
  if (portSt p d).state ≠ .up then d
  else
    let s := d.que.sending.map (fun (e : Nat × Sending) => if e.1 = p then (e.1, { e.2 with stomp := true }) else e)
    let d := if p = 96 then linkLost d else d
    (lanesOf p d).foldl (fun d l => endScan l d) { d with que := { d.que with sending := s } }

/-- R390: a port enters a state. -/
def portTo (st : LinkSt) (p : Nat) (d : Dev) : Dev := portEnter st p (if st = .up then d else leaveUp p d)

/-- R390: negotiation starts afresh. -/
def anReset (p : Nat) (d : Dev) : Dev := setPortSt p { portSt p d with anComplete := false, lpAbility := 0 } d

/-- R390: lanes off, transmitters squelched. -/
def portOff (p : Nat) (d : Dev) : Dev :=
  let d := portTo .disabled p d
  let d := setPortSt p { portSt p d with anComplete := false, lpAbility := 0, speed := 0, remoteFault := false, localFault := false } d
  onLanes p (fun x => { x with trained := false, frozen := false, readyRun := 0, signal := false, cdr := false, lock := false, pll := false, fill := 0, slipped := false }) d

/-- R376, R377, R379: does the port negotiate? -/
def negotiates (x : PortPrm) : Bool := (decide (x.form ≤ 4) && x.anEnable) || decide (x.form = 5)

/-- R377, R378: training starts: every lane from the initial condition, or from the taps it keeps (R442). -/
def startTraining (keep : Bool) (p : Nat) (d : Dev) : Dev :=
  let d := portTo .training p d
  (lanesOf p d).foldl (fun d l =>
    let (t, d) := if keep then ((laneSt l d).taps, d) else presetTaps l d
    setLaneSt l { laneSt l d with taps := t, trained := false, readyRun := 0, since := d.time.elapsed } d) d

/-- R377: a trunk port goes to AN or, without auto-negotiation, to training. -/
def trunkStart (keep : Bool) (x : PortPrm) (p : Nat) (d : Dev) : Dev :=
  if x.anEnable then portTo .an p (anReset p d) else startTraining keep p d

/-- R386: the twin lanes start from the preset taps. -/
def twinLanesStart (d : Dev) : Dev :=
  (lanesOf 96 d).foldl (fun d l =>
    let (t, d) := presetTaps l d
    setLaneSt l { laneSt l d with taps := t, trained := false, readyRun := 0, since := d.time.elapsed } d) d

/-- R390: where a port goes from DISABLED, and after a timeout of ALIGNING. -/
def portAgain (keep : Bool) (p : Nat) (d : Dev) : Dev :=
  match portPrm p d with
  | none => d
  | some x =>
    if x.form ≤ 3 then trunkStart keep x p d
    else if x.form = 7 then portTo .aligning p (twinLanesStart d)
    else portTo .aligning p (anReset p d)

/-- R390, R147, R36, R440: may the port start? -/
def mayStart (p : Nat) (d : Dev) : Bool :=
  adminOn p d && !(portSt p d).hold && (decide (96 ≤ p) || diePresent (portDie p) d) && awake d && decide (d.vault.lc ≠ 4 ∨ 96 ≤ p)

/-- R390, R431: start a DISABLED port. -/
def portStart (keep : Bool) (p : Nat) (d : Dev) : Dev :=
  if (portSt p d).state = .disabled ∧ mayStart p d = true then
    let d := portAgain keep p (onLanes p (fun x => { x with pll := true }) d)
    setPortSt p { portSt p d with enabledAt := if d.host.trafficReady then none else some d.time.elapsed } d
  else d

/-- Start every port that may start. -/
def portsStart (keep : Bool) (d : Dev) : Dev := (formedPorts d).foldl (fun d p => portStart keep p d) d

/-- Take every port to DISABLED. -/
def portsOff (d : Dev) : Dev := (d.port.ports.map (·.1)).foldl (fun d p => if (portSt p d).state = .disabled then d else portOff p d) d

/-- R390, R407, R431, R449: a port comes up. -/
def portUp (p : Nat) (d : Dev) : Dev :=
  let d := portTo .up p d
  let d := setPortSt p { portSt p d with localFault := false, remoteFault := false } d
  let d := onLanes p (fun x => { x with signal := true, cdr := true, lock := true }) d
  let d := if (formedPorts d).all (fun q => !adminOn q d || portIsUp q d) then milestone 8 d else d
  let d := if p < 32 then (lanesOf p d).foldl (fun d l => twinPost (.portTaps l (laneSt l d).taps) d) d else d
  trafficCheck d

/-! ### Events of the port states (R390) -/

/-- The port is in a state. -/
def portIn (st : LinkSt) (p : Nat) (d : Dev) : Bool := decide ((portSt p d).state = st)

/-- R377, R379: is the partner's ability acceptable? Half duplex is refused (the words of Clause 37 and SGMII). -/
def abilityOk (x : PortPrm) (ability : Nat) : Bool :=
  if x.form = 4 then bit ability 5 || !bit ability 6 else if x.form = 5 then bit ability 12 else true

/-- R379: the speed that an SGMII partner reports. -/
def sgmiiSpeed (ability : Nat) : Nat := match bits ability 10 2 with | 0 => 10 | 1 => 100 | _ => 1000

/-- R377, R379, R390: a negotiation completes. -/
def portAnComplete (p ability : Nat) (agreed : Bool) (d : Dev) : Dev :=
  match portPrm p d with
  | none => d
  | some x =>
    if !portIn .an p d || decide (x.form = 7) then d
    else if !(agreed && abilityOk x ability) then bump .port p 13 d
    else
      let d := setPortSt p { portSt p d with anComplete := true, lpAbility := ability, speed := if x.form = 5 then sgmiiSpeed ability else 0 } d
      if x.form ≤ 3 then startTraining false p d else portUp p d

def execPortAnComplete (p : Port) (ability : BitVec 48) (agreed : Bool) (s : State) : Host.Outcome State Fault Refusal :=
  onDev (portAnComplete (portNum p) ability.toNat agreed) s

/-- R378: a training frame on a trunk lane. -/
def trainingFrame (l : Nat) (req : TapRequest) (trained : Bool) (d : Dev) : Dev :=
  let p := portOfLane l d
  if 32 ≤ l || !portIn .training p d then d
  else
    let x := laneSt l d
    let r : List (Int × Nat) := tapSteps l (req.taps.map (·.val)) x.taps
    let (taps, d) : List Int × Dev := match req.preset with | some _ => presetTaps l d | none => (r.map (·.1), d)
    let d := setLaneSt l { laneSt l d with taps := taps, trained := trained, signal := true, cdr := true } d
    emit (.lane l (r.map (fun e => BitVec.ofNat 8 (if req.preset.isSome then 1 else e.2)))) d

def execTrainingFrameReceive (lane : Lane) (req : TapRequest) (trained : Bool) (s : State) : Host.Outcome State Fault Refusal :=
  onDev (trainingFrame (laneNum lane) req trained) s

/-- R378: every lane of the port is trained. -/
def portTrainingComplete (p : Nat) (d : Dev) : Dev :=
  if portIn .training p d && (lanesOf p d).all (fun l => (laneSt l d).trained) then portTo .aligning p d else d

def execPortTrainingComplete (p : Port) (s : State) : Host.Outcome State Fault Refusal := onDev (portTrainingComplete (portNum p)) s

/-- R378: 450 ms without completion. -/
def portTrainingTimeout (p : Nat) (d : Dev) : Dev :=
  match portPrm p d with
  | none => d
  | some x =>
    if !portIn .training p d then d
    else
      let d := waitTicks ((portSt p d).sinceTick + ticksMs 450) d
      trunkStart false x p (bumpLanes p 6 (bump .port p 12 d))

def execPortTrainingTimeout (p : Port) (s : State) : Host.Outcome State Fault Refusal := onDev (portTrainingTimeout (portNum p)) s

/-- R390: alignment, or code-group sync. -/
def portAligned (p : Nat) (d : Dev) : Dev :=
  match portPrm p d with
  | none => d
  | some x =>
    if !portIn .aligning p d then d
    else
      let d := onLanes p (fun x => { x with signal := true, cdr := true, lock := true }) d
      if decide (3 < x.form) && (negotiates x || decide (x.form = 7)) then portTo .an p d else portUp p d

def execPortAligned (p : Port) (s : State) : Host.Outcome State Fault Refusal := onDev (portAligned (portNum p)) s

/-- R390: 10 ms without alignment. -/
def portAlignTimeout (p : Nat) (d : Dev) : Dev :=
  if !portIn .aligning p d then d
  else
    let d := waitTicks ((portSt p d).sinceTick + ticksMs 10) d
    portAgain false p (bumpLanes p 5 d)

def execPortAlignTimeout (p : Port) (s : State) : Host.Outcome State Fault Refusal := onDev (portAlignTimeout (portNum p)) s

/-- R390: a remote fault. -/
def remoteFault (p : Nat) (d : Dev) : Dev :=
  if portIn .up p d then
    let d := portTo .fault p d
    setPortSt p { portSt p d with remoteFault := true } d
  else d

def execRemoteFaultReceived (p : Port) (s : State) : Host.Outcome State Fault Refusal := onDev (remoteFault (portNum p)) s

/-- R390: the remote fault clears. -/
def remoteFaultCleared (p : Nat) (d : Dev) : Dev := if portIn .fault p d then portUp p d else d

def execRemoteFaultCleared (p : Port) (s : State) : Host.Outcome State Fault Refusal := onDev (remoteFaultCleared (portNum p)) s

/-- Is the port UP or in FAULT? -/
def portLinked (p : Nat) (d : Dev) : Bool := portIn .up p d || portIn .fault p d

/-- R390, R394: signal, lock or sync is lost (1, 2, 3): the port sends nothing. -/
def signalLoss (p cause : Nat) (d : Dev) : Dev :=
  let x := portSt p d
  if !portLinked p d || x.lossAt.isSome then d
  else
    let d := setPortSt p { x with lossAt := some d.time.elapsed, lossCause := cause, localFault := true } d
    let d := onLanes p (fun y => { y with signal := decide (cause ≠ 1), cdr := decide (cause ≠ 1), lock := false }) d
    if cause = 1 then d else bumpLanes p 5 d

def execLinkSignalLoss (p : Port) (cause : Fin 3) (s : State) : Host.Outcome State Fault Refusal :=
  onDev (signalLoss (portNum p) (cause.val + 1)) s

/-- R390: it returns within link_down_hold. -/
def signalRestored (p : Nat) (d : Dev) : Dev :=
  let x := portSt p d
  if !portLinked p d || x.lossAt.isNone then d
  else
    let d := setPortSt p { x with lossAt := none, localFault := false } d
    onLanes p (fun y => { y with signal := true, cdr := true, lock := true }) d

def execLinkSignalRestored (p : Port) (s : State) : Host.Outcome State Fault Refusal := onDev (signalRestored (portNum p)) s

/-- R462: the state code of a port. -/
def linkStCode : LinkSt → Nat
  | .disabled => 0 | .an => 1 | .training => 2 | .aligning => 3 | .up => 4 | .fault => 5

/-- R390, R462: a link that was up goes down: count, event record, notification. -/
def linkDown (p cause : Nat) (d : Dev) : Dev :=
  let old := (portSt p d).state
  let d := bump .port p 11 d
  notifyRecord 0x40 (portTarget p) (le 1 (linkStCode old) ++ le 1 cause ++ zeros 2 ++ le 4 (cntGet .port p 11 d)) d

/-- R390: a loss lasts longer than link_down_hold. -/
def holdExpiry (p : Nat) (d : Dev) : Dev :=
  match (portSt p d).lossAt, portPrm p d with
  | some e, some x =>
    if !portLinked p d then d
    else
      let d := waitTicks (e + ticksMs x.linkDownHold) d
      portAgain false p (linkDown p (portSt p d).lossCause d)
  | _, _ => d

def execLinkDownHoldExpiry (p : Port) (s : State) : Host.Outcome State Fault Refusal := onDev (holdExpiry (portNum p)) s

/-- R390: the partner restarts auto-negotiation. -/
def partnerRestart (p : Nat) (d : Dev) : Dev :=
  match portPrm p d with
  | none => d
  | some x => if portLinked p d && negotiates x then portTo .an p (anReset p (linkDown p 4 d)) else d

def execPartnerAnRestart (p : Port) (s : State) : Host.Outcome State Fault Refusal := onDev (partnerRestart (portNum p)) s

/-- R431: 500 ms after a port was enabled. -/
def graceExpiry (p : Nat) (d : Dev) : Dev :=
  match (portSt p d).enabledAt with
  | none => d
  | some e =>
    let d := waitTicks (e + ticksMs 500) d
    trafficCheck (setPortSt p { portSt p d with enabledAt := none } d)

def execPortEnableGraceExpiry (p : Port) (s : State) : Host.Outcome State Fault Refusal := onDev (graceExpiry (portNum p)) s

/-- R387: adaptation stops while more than 7/8 of a window's code groups are idle. Trunk lanes never freeze. -/
def adaptStep (l idle codes : Nat) (d : Dev) : Dev :=
  let x := laneSt l d
  if 7 * codes < 8 * idle then
    let d := setLaneSt l { x with frozen := true } d
    if x.frozen then d else bump .lane l 4 d
  else setLaneSt l { x with frozen := false } d

/-- R382: the elastic buffer of a feeder or MGT lane after a window: whole /I2/ sets of two code groups are deleted from the gaps,
or inserted there; beyond 16 code groups off its centre it is recentred, and a frame in progress is a code error. -/
def elasticStep (l : Nat) (w : LaneWindow) (d : Dev) : Dev :=
  let x := laneSt l d
  let fill := x.fill + w.drift
  if 16 < fill.natAbs then setLaneSt l { x with fill := 0, slipped := x.slipped || decide (w.idleCodes < w.codes) } d
  else if w.idleCodes < 2 then setLaneSt l { x with fill := fill } d
  else if 0 ≤ fill then
    let n := min (w.idleCodes / 2) (fill.natAbs / 2)
    bumpBy .lane l 3 n (setLaneSt l { x with fill := fill - 2 * n } d)
  else
    let n := fill.natAbs / 2
    bumpBy .lane l 2 n (setLaneSt l { x with fill := fill + 2 * n } d)

/-- R385: the skip ordered set that a twin lane sends. -/
def skipSet : Bytes := [0xBC, 0x1C, 0x1C, 0x1C]

/-- R385: the skip ordered sets of a window on a twin lane: one goes out, and in one that comes in up to two K28.0 are deleted or
inserted, each counted. -/
def skipStep (l : Nat) (w : LaneWindow) (d : Dev) : Dev :=
  let x := laneSt l d
  let fill := x.fill + w.drift
  let n := min 2 fill.natAbs
  let d := if portIsUp 96 d then emit (.lane l skipSet) d else d
  if 0 ≤ fill then bumpBy .lane l 3 n (setLaneSt l { x with fill := fill - n } d)
  else bumpBy .lane l 2 n (setLaneSt l { x with fill := fill + n } d)

/-- R385: a skip ordered set came without its K28.5 on a lane: the loss is counted there, and the link realigns. -/
def skipLoss (l : Nat) (d : Dev) : Dev :=
  let x := portSt 96 d
  if !portLinked 96 d then d
  else
    let d := if x.lossAt.isSome then d
      else setPortSt 96 { x with lossAt := some d.time.elapsed, lossCause := 3, localFault := true } d
    bump .lane l 5 (setLaneSt l { laneSt l d with lock := false } d)

/-- R381, R382, R385, R387: a window of 1 µs ends on an 8b/10b lane; a trunk lane has none. -/
def adaptWindow (l : Nat) (w : LaneWindow) (d : Dev) : Dev :=
  if l < 32 then d
  else
    let d := bumpBy .lane l 1 w.disparityErrors (bumpBy .lane l 0 w.symbolErrors (adaptStep l w.idleCodes w.codes d))
    if 96 ≤ l ∧ l < 100 then
      let d := skipStep l w d
      if w.skipMissing then skipLoss l d else d
    else elasticStep l w d

def execAdaptWindow (lane : Lane) (w : LaneWindow) (s : State) : Host.Outcome State Fault Refusal :=
  onDev (adaptWindow (laneNum lane) w) s

/-! ### Twin lanes (R386) -/

/-- R386: is a training ordered set well formed? -/
def tosOk (t : Bytes) : Bool :=
  decide (t.length = 16 ∧ fld t 0 1 = 0xBC ∧ fld t 1 1 < 4 ∧ (fld t 2 1 = 1 ∨ fld t 2 1 = 2) ∧ fld t 3 1 < 128 ∧ fld t 4 1 < 128
    ∧ fld t 7 1 = 0)

/-- R386: a training ordered set arrives on a twin lane. The receiver is taken as adapted. -/
def twinTrainingSet (i : Nat) (t : Bytes) (d : Dev) : Dev :=
  if !tosOk t || !(portIn .aligning 96 d || portIn .an 96 d) then d
  else
    let d := if portIn .aligning 96 d then portTo .an 96 d else d
    let l := 96 + i
    let x := laneSt l d
    let req := fld t 3 1
    let r := tapSteps l [0, 0, bits req 0 2, bits req 2 2, bits req 4 2] x.taps
    let (taps, d) := if bit req 6 then presetTaps l d else (r.map (·.1), d)
    let run := if bit (fld t 4 1) 6 then x.readyRun + 1 else 0
    let done := x.trained || decide (8 ≤ run)
    let st := r.map (·.2)
    let answer := le 1 0xBC ++ le 1 i ++ le 1 (if done then 2 else 1) ++ zeros 1
      ++ le 1 (st.getD 2 0 + 4 * st.getD 3 0 + 16 * st.getD 4 0 + 64) ++ slice t 5 2 ++ zeros 1 ++ List.replicate 8 0x4A
    let y := { laneSt l d with taps := taps, rxId := fld t 1 1, readyRun := run, trained := done, signal := true, cdr := true, lock := true }
    let d := emit (.lane l answer) (setLaneSt l y d)
    if (lanesOf 96 d).all (fun k => (laneSt k d).trained) then portUp 96 d else d

def execTwinTrainingSetReceive (lane : Fin 4) (set : Bytes) (s : State) : Host.Outcome State Fault Refusal :=
  onDev (twinTrainingSet lane.val set) s

/-- R386, R393: a twin lane is not trained 5 ms after it began. -/
def twinLaneTimeout (i : Nat) (d : Dev) : Dev :=
  let l := 96 + i
  let x := laneSt l d
  if x.trained || !(portIn .aligning 96 d || portIn .an 96 d) then d
  else
    let d := waitTicks (x.since + ticksMs 5) d
    let (t, d) := presetTaps l d
    setLaneSt l { laneSt l d with taps := t, readyRun := 0, since := d.time.elapsed } (bump .lane l 6 (bump .port 96 12 d))

def execTwinLaneTrainTimeout (lane : Fin 4) (s : State) : Host.Outcome State Fault Refusal := onDev (twinLaneTimeout lane.val) s

/-! ### Eye scans (R388, R399, R400) -/

/-- R388: binary search for the largest `n` in a range with 10^(2n-1) e^512 ≤ b^512, that is n ≤ 256 log10(b/e) + 1/2. -/
def berSearch (b512 e512 : Nat) : Nat → Nat → Nat
  | 0, lo => lo
  | k + 1, lo =>
    let n := lo + 2 ^ k
    if n ≤ 65535 ∧ 10 ^ (2 * n - 1) * e512 ≤ b512 then berSearch b512 e512 k n else berSearch b512 e512 k lo

/-- R388: ber_code of `errors` in `bits` compared bits; with none the upper bound of 3. -/
def berCode (errors bits : Nat) : Nat :=
  let e := if errors = 0 then 3 else errors
  berSearch (bits ^ 512) (e ^ 512) 16 0

/-- R388: nanoseconds that `n` points take, rounded up. -/
def scanNs (l dwell n : Nat) (d : Dev) : Nat := (n * (dwell * 1000000 + 10000 * laneKbaud l d) + laneKbaud l d - 1) / laneKbaud l d

/-- R388: offsets h and v of point `k`. -/
def scanPoint (s : EyeScan) (k : Nat) : Int × Int := (s.hMin + (k % s.nH * s.hStep : Nat), s.vMin + (k / s.nH * s.vStep : Nat))

/-- R399: the entry of a point. -/
def scanEntry (s : EyeScan) (l errors : Nat) : Bytes :=
  let (h, v) := scanPoint s s.done
  le 1 (ofSigned 8 h) ++ le 1 (ofSigned 8 v) ++ le 1 s.eye ++ le 1 (b2n (decide (errors = 0)))
    ++ le 2 (berCode errors (s.dwell * laneBitsPerSymbol l)) ++ zeros 2 ++ le 8 errors

/-- R388: a point finishes its dwell. -/
def eyeScanPoint (l errors : Nat) (d : Dev) : Dev :=
  match (laneSt l d).scan with
  | none => d
  | some s =>
    let d := waitTicks (s.start + ticksNs (scanNs l s.dwell (s.done + 1) d)) d
    let d := stagingWrite (s.stage + 16 * s.done) (scanEntry s l errors) d
    let s' := { s with done := s.done + 1 }
    if s'.done < s.nH * s.nV then setLaneSt l { laneSt l d with scan := some s' } d
    else
      complete s.handle .ok (le 4 s'.done ++ le 4 (scanNs l s.dwell s'.done d / 1000) ++ zeros 8)
        (setLaneSt l { laneSt l d with scan := none } d)

def execEyeScanPoint (lane : Lane) (errors : Nat) (s : State) : Host.Outcome State Fault Refusal :=
  onDev (eyeScanPoint (laneNum lane) errors) s

/-- R399: fields in range. -/
def scanOk (trunk : Bool) (pl : Bytes) : Bool :=
  let hMin := toSigned 8 (fld pl 4 1)
  let hMax := toSigned 8 (fld pl 5 1)
  let vMin := toSigned 8 (fld pl 6 1)
  let vMax := toSigned 8 (fld pl 7 1)
  decide (fld pl 1 1 < (if trunk then 3 else 1) ∧ 1 ≤ fld pl 2 1 ∧ fld pl 2 1 ≤ 64 ∧ 1 ≤ fld pl 3 1 ∧ fld pl 3 1 ≤ 128
    ∧ -32 ≤ hMin ∧ hMin ≤ hMax ∧ hMax ≤ 32 ∧ -64 ≤ vMin ∧ vMin ≤ vMax ∧ vMax ≤ 63
    ∧ 10000 ≤ fld pl 8 8 ∧ fld pl 8 8 ≤ 1000000000000 ∧ fld pl 16 4 % 16 = 0)

/-- R399: LANE_EYE_SCAN. -/
def laneEyeScan (c : Ctx) (d : Dev) : Ans :=
  let p := c.target.portNo
  let l := laneOfPort p (fld c.pl 0 1)
  let hMin := toSigned 8 (fld c.pl 4 1)
  let vMin := toSigned 8 (fld c.pl 6 1)
  let nH := (toSigned 8 (fld c.pl 5 1) - hMin).toNat / fld c.pl 2 1 + 1
  let nV := (toSigned 8 (fld c.pl 7 1) - vMin).toNat / fld c.pl 3 1 + 1
  let dwell := fld c.pl 8 8
  let stage := fld c.pl 16 4
  let ns := scanNs l dwell (nH * nV) d
  need (decide (fld c.pl 0 1 < portLanes p d) && scanOk (decide (p < 32)) c.pl) .badField <|
  need (decide (stage + 16 * (nH * nV) ≤ 4194304 ∧ ns ≤ 3600000000000)) .badField <|
  need (portIsUp p d) .badState <|
  need (laneSt l d).scan.isNone .busy <|
  .pend (100 + (ns + 999999) / 1000000) l
    (setLaneSt l { laneSt l d with scan := some ⟨c.handle, fld c.pl 1 1, hMin, fld c.pl 2 1, nH, vMin, fld c.pl 3 1, nV, dwell, stage, 0,
                                                d.time.elapsed⟩ } d)

/-- R396, R400: the scopes of the PORT commands: every port. -/
def everyPort : List Scope := [.ports [1, 2, 3, 4, 5]]

def execLaneEyeScan (r : Request) (s : State) : Host.Outcome State Fault Refusal :=
  onMailbox { op := 0x0305, len := 24, scopes := everyPort, resv := z 20 4 } (fun c _ d => laneEyeScan c d) r s

/-- R400: LANE_EYE_ABORT. -/
def laneEyeAbort (c : Ctx) (d : Dev) : Ans :=
  let p := c.target.portNo
  let l := laneOfPort p (fld c.pl 0 1)
  need (decide (fld c.pl 0 1 < portLanes p d)) .badField <|
  need (laneSt l d).scan.isSome .badState <|
  .replyThen [] d (endScan l)

def execLaneEyeAbort (r : Request) (s : State) : Host.Outcome State Fault Refusal :=
  onMailbox { op := 0x0306, len := 4, scopes := everyPort, resv := z 1 3 } (fun c _ d => laneEyeAbort c d) r s

/-! ### Queries and PORT_ADMIN (R395 to R398) -/

/-- R376, R379: an_enable is a field of trunk ports and of feeder ports and MGT in 1000BASE-X. -/
def anShown (x : PortPrm) : Bool := x.anEnable && decide (x.form ≤ 4)

/-- R395: PORT_QUERY. -/
def portQuery (c : Ctx) (d : Dev) : Ans :=
  let p := c.target.portNo
  let x := portSt p d
  let y := (portPrm p d).getD { form := 1, side := 0 }
  let fl := b2n x.hold + 2 * b2n (anShown y) + 4 * b2n x.anComplete + 8 * b2n x.remoteFault + 16 * b2n x.localFault
    + 32 * b2n y.mediumCr + 64 * b2n (squelched p d)
  .ok (le 1 (linkStCode x.state) ++ le 1 y.form ++ le 1 y.side ++ le 1 (formLanes y.form) ++ le 1 fl ++ zeros 3
    ++ le 4 (if portLinked p d then portMbps p d else 0) ++ le 4 y.rxMax ++ x.since.bytes ++ zeros 4 ++ le 8 x.lpAbility ++ zeros 8) d

def execPortQuery (r : Request) (s : State) : Host.Outcome State Fault Refusal :=
  onMailbox { op := 0x0301, len := 0, scopes := everyPort } (fun c _ d => portQuery c d) r s

/-- R396: disable. -/
def adminDisable (p : Nat) (d : Dev) : Dev := let d := portOff p d; setPortSt p { portSt p d with hold := true } d

/-- R396, R472: enable: the hold is cleared, PRBS tests end, and the port starts if the set enables it. -/
def adminEnable (p : Nat) (d : Dev) : Dev :=
  let held := (portSt p d).hold
  let d := setPortSt p { portSt p d with hold := false } d
  let d := if held then (lanesOf p d).foldl (fun d l => setPrbs l { prbsRun l d with state := 0 } d) d else d
  portStart false p d

/-- R396: PORT_ADMIN. -/
def portAdmin (c : Ctx) (d : Dev) : Ans :=
  let p := c.target.portNo
  let op := fld c.pl 0 1
  match portPrm p d with
  | none => .fail .badState
  | some x =>
    let off := portIn .disabled p d
    need (!(decide (p = 96) && twinAttached d)) .badState <|
    if op = 0 then .ok [] (adminDisable p d)
    else if op = 1 then need (decide (d.vault.lc ≠ 4)) .badState <| .ok [] (adminEnable p d)
    else if op = 2 then
      need (!off && decide (x.form ≤ 3 ∨ x.form = 7)) .badState <|
      .ok [] (if x.form = 7 then portAgain false p d else startTraining false p d)
    else need (!off && negotiates x) .badState <| .ok [] (portTo .an p (anReset p d))

def execPortAdmin (r : Request) (s : State) : Host.Outcome State Fault Refusal :=
  onMailbox { op := 0x0302, len := 4, scopes := everyPort, resv := fun p => below 0 4 p && z 1 3 p } (fun c _ d => portAdmin c d) r s

/-- R397: PORT_CNT_READ. -/
def execPortCntRead (r : Request) (s : State) : Host.Outcome State Fault Refusal :=
  onMailbox { op := 0x0303, len := 4, scopes := everyPort, resv := onlyBits 0 4 1 }
    (fun c _ d => .ok (cntBytes .port c.target.portNo 16 d) (clearIf (clearFlag 0 c.pl) .port c.target.portNo d)) r s

/-- R398: the kind of a lane. -/
def laneKind (l : Nat) : Nat := if l < 32 then 1 else if l < 96 then 2 else if l < 100 then 3 else 4

/-- R398: LANE_QUERY. -/
def laneQuery (c : Ctx) (d : Dev) : Ans :=
  let p := c.target.portNo
  let i := fld c.pl 0 1
  let l := laneOfPort p i
  let x := laneSt l d
  let y := (portPrm p d).getD { form := 1, side := 0 }
  let st := b2n x.signal + 2 * b2n x.cdr + 4 * b2n x.lock + 8 * b2n x.frozen + 16 * b2n (bit y.txInvert i) + 32 * b2n (bit y.rxInvert i)
    + 64 * b2n x.pll
  need (decide (i < portLanes p d)) .badField <|
  .ok (le 1 (laneKind l) ++ le 1 st ++ le 1 (if laneKind l = 3 then x.rxId else i) ++ zeros 1
    ++ ((List.range 5).flatMap (fun k => le 1 (ofSigned 8 (x.taps.getD k 0)))) ++ zeros 7 ++ cntBytes .lane l 7 d)
    (clearIf (bit (fld c.pl 1 1) 0) .lane l d)

def execLaneQuery (r : Request) (s : State) : Host.Outcome State Fault Refusal :=
  onMailbox { op := 0x0304, len := 4, scopes := everyPort, resv := fun p => onlyBits 1 1 1 p && z 2 2 p } (fun c _ d => laneQuery c d) r s

end Sys2Proof.Machine
end

