-- ==== Sys2Proof/Machine/SetCheck.lean ====
section
/-! DEFINITION. Sys2Proof/Machine/SetCheck.lean: the checks that the chapters make of the content of a set (R77): ranges of
fields, what one object says of another, die capacities. -/
namespace Sys2Proof.Machine

/-- Does a value lie in a range, its ends included? -/
def within (lo hi x : Nat) : Bool := decide (lo ≤ x ∧ x ≤ hi)

/-- R17: a value of CAL32. -/
def cal32 (x : Int) : Bool := decide (-2147483648 ≤ x ∧ x ≤ 2147483647)

/-- R17: a value of RATE40. -/
def rate40 (x : Nat) : Bool := decide (x < 2 ^ 40)

/-- How many bits of a class mask are set. -/
def maskCount (m : Nat) : Nat := ((List.range 8).filter (fun c => bit m c)).length

/-- The side of a port that the set forms: 0 plain, 1 cipher, 2 neither. -/
def sideIn (p : Nat) (s : SetParams) : Option Nat := (Map.get? s.ports p).map (·.side)

/-! ### Ports (R183, R243, R252, R296, R375, R379, R380, R389) -/

/-- R183. -/
def ingressOk (x : Ingress) : Bool := within 1 4094 x.pvid && within 0 2 x.accept && within 0 7 x.defaultClass

/-- R243: the values of a queue-map entry; mode 2 only where there is a port VID map. -/
def qmapOk (plain : Bool) (x : QMap) : Bool :=
  decide (x.mode ≤ (if plain then 2 else 1) ∧ x.base < 2 ^ 18 ∧ x.meterMode ≤ 2 ∧ x.meterBase < 65536)

/-- R375, R379, R380, R389: the form and side of a port. A trunk group takes one form. -/
def formOk (p : Nat) (x : PortPrm) (s : SetParams) : Bool :=
  if p < 32 then
    within 1 3 x.form && decide (x.side = p / 16 ∧ p % 2 ^ (x.form - 1) = 0) &&
      s.ports.all (fun e => decide (32 ≤ e.1 ∨ e.1 / 4 ≠ p / 4 ∨ e.2.form = x.form))
  else if p < 96 then within 4 6 x.form && decide (x.side ≤ 1)
  else if p = 96 then decide (x.form = 7 ∧ x.side = 2)
  else within 4 5 x.form && decide (p = 97 ∧ x.side = 2)

/-- The values of the fields of a port. -/
def portOk (p : Nat) (x : PortPrm) : Bool :=
  within 64 9600 x.rxMax && decide (x.linkDownHold ≤ 1000 ∧ x.txInvert < 16 ∧ x.rxInvert < 16) && ingressOk x.ingress &&
    decide (x.ctMask < 256 ∧ x.ptpMode ≤ 2 ∧ x.ptpProfile ≤ 3 ∧ x.strictMask < 256 ∧ x.home ≤ 1) &&
    x.classWeight.all (fun e => decide (e.1 < 8) && within 1 65535 e.2) &&
    x.vidMap.all (fun e => decide (e.1 < 4096 ∧ e.2 < 4096)) &&
    x.vlanSecy.all (fun e => decide (x.side = 1 ∧ e.1 ≤ 4094 ∧ e.2 < 2048)) &&
    (decide (x.side ≠ 0 ∨ 96 ≤ p) || qmapOk true x.qmap) &&
    cal32 x.calTx && cal32 x.calRx && cal32 x.calAsym && cal32 x.calTrim

/-- R250: the shaper of an index, where the set defines it, has the role and port of what names it. -/
def shaperNamed (die role cls port : Nat) (i : Option Nat) (s : SetParams) : Bool :=
  match i with
  | none => true
  | some k => decide (k < 65536) && (match Map.get? s.shapers (2 ^ 16 * die + k) with
    | some x => decide (x.role = role ∧ x.port = port ∧ (role ≠ 2 ∨ x.cls = cls))
    | none => true)

/-- R250: the shapers of a port and its classes. -/
def portShapersOk (p : Nat) (x : PortPrm) (s : SetParams) : Bool :=
  shaperNamed (portDie p) 3 0 p x.portShaper s &&
    x.classShaper.all (fun e => decide (e.1 < 8) && shaperNamed (portDie p) 2 e.1 p (some e.2) s)

/-! ### SecYs, rules, VLANs (R86 to R88, R95, R105, R121, R124, R125, R184, R329, R403) -/

/-- R124, R125: pn_threshold has the width of the suite's packet number. -/
def pnThresholdOk (suite : Nat) (x : Option Nat) : Bool :=
  match x with
  | none => true
  | some v => within 1 (2 ^ (if 3 ≤ suite then 64 else 32) - 1) v

/-- The values of the fields of a SecY. -/
def secyOk (n : Nat) (x : SecyPrm) (s : SetParams) : Bool :=
  decide (n = 2048 * x.die + x.index ∧ portDie x.port = x.die ∧ sideIn x.port s = some 1) &&
    decide (x.vid ≤ 4094 ∧ (x.confOffset = 0 ∨ x.confOffset = 30 ∨ x.confOffset = 50)) && within 1 4 x.suite &&
    decide (x.validate ≤ 2 ∧ x.replayWindow ≤ 2 ^ 30 ∧ x.ptpTreatment ≤ 1 ∧ x.lldpTreatment ≤ 3) &&
    decide (x.retireDelay ≤ 60000 ∧ x.switchGrace ≤ 1000 ∧ x.cd.mode ≤ 1) && pnThresholdOk x.suite x.pnThreshold &&
    within 2000 100000000 x.cd.delay && ingressOk x.ingress && qmapOk false x.qmap

/-- R403: home names a twin, and alt_port a cipher port of the set. -/
def homeOk (x : SecyPrm) (s : SetParams) : Bool :=
  decide (x.home ≤ 1) && (match x.altPort with | some p => decide (sideIn p s = some 1) | none => true)

/-- R95: rule `n`, 64 to a die. -/
def ruleOk (n : Nat) (x : PolicyRule) : Bool :=
  decide (x.treatment ≤ 3 ∧ x.etype < 65536 ∧ x.etypeMask < 65536 ∧ x.da < 2 ^ 48 ∧ x.daMask < 2 ^ 48 ∧ x.vid < 4096 ∧
    x.vidMask < 4096) && x.ports.all (fun p => decide (16 ≤ p ∧ p < 96 ∧ portDie p = n / 64))

/-- R181, R184: the values of a VLAN entry. -/
def vlanOk (x : VlanPrm) : Bool :=
  decide (x.member < 2 ^ 24 ∧ x.fwdMode ≤ 2 ∧ x.fid < 4096 ∧ x.classMode ≤ 2) && destValid x.fixedDest &&
    destValid x.unknownDest && destValid x.bcastDest && destValid x.prefixMissDest

/-! ### Queues (R242 to R244, R248, R250) -/

/-- R242, R244: the values and the order of the thresholds of queue `q`. -/
def queueOk (q : Nat) (x : QueuePrm) (s : SetParams) : Bool :=
  decide (x.port < 96 ∧ portDie x.port = q / 2 ^ 18 ∧ x.cls ≤ 7 ∧ sideIn x.port s = some (if x.secy.isSome then 1 else 0)) &&
    (match x.secy with
     | some i => (match Map.get? s.secys (2048 * (q / 2 ^ 18) + i) with | some y => decide (y.port = x.port) | none => false)
     | none => true) &&
    within 1 65535 x.weight && shaperNamed (q / 2 ^ 18) 1 0 x.port x.shaper s &&
    decide (x.ecnThreshold ≤ x.dropThreshold ∧ x.dropThreshold ≤ x.limit ∧ x.yellowThreshold ≤ x.dropThreshold) &&
    within 65536 (2 ^ 32 - 1) x.limit && decide (x.onDie ≤ 35651584)

/-- R250. -/
def shaperOk (n : Nat) (x : ShaperPrm) : Bool :=
  within 1 3 x.role && decide (x.cls ≤ 7 ∧ portDie x.port = n / 2 ^ 16 ∧ 0 < x.pir ∧ x.cir ≤ x.pir ∧ x.cbs ≤ 2 ^ 24 ∧
    x.pbs ≤ 2 ^ 24) && rate40 x.pir

/-- R248. -/
def meterOk (x : MeterPrm) : Bool :=
  within 1 2 x.mode && decide (x.colour ≤ 2 ∧ (x.mode = 2 ∨ x.cir ≤ x.rate2)) && rate40 x.cir && rate40 x.rate2 &&
    within 64 16777216 x.cbs && within 64 16777216 x.burst2

/-- R243: the slots of a queue-map entry. -/
def slotsOf (m : QMap) (vids : Map Nat) : List Nat := if m.mode = 2 then 0 :: vids.map (·.2) else [0]

/-- R243: every queue and meter that an entry can yield lies on the die, is its object's and has its class. -/
def qmapYields (die port : Nat) (secy : Option Nat) (m : QMap) (vids : Map Nat) (s : SetParams) : Bool :=
  let classes := if m.mode = 0 then [0] else List.range 8
  let queue (c q : Nat) : Bool := decide (q < 2 ^ 18) && (match Map.get? s.queues (2 ^ 18 * die + q) with
    | some x => decide (x.port = port ∧ x.secy = secy ∧ (m.mode = 0 ∨ x.cls = c))
    | none => false)
  (slotsOf m vids).all (fun slot => classes.all (fun c => queue c (m.base + 8 * slot + c))) &&
    decide (m.meterBase + (if m.meterMode = 2 then 7 else 0) < 65536)

/-! ### The device's fields and objects (R196, R214, R215, R218, R228, R230 to R232, R274, R303, R410) -/

/-- R230, R231, R232: the values of a mirror session, its source and its destination. -/
def mirrorOk (x : MirrorPrm) (s : SetParams) : Bool :=
  let plain := decide (x.point ≠ 2 ∧ x.point ≠ 3)
  let source := match x.source with
    | some p => decide (x.point ≠ 4 ∧ p < 96 ∧ sideIn p s = some (if plain then 0 else 1))
    | none => decide (x.point = 4)
  let dest := if plain then decide (x.dest < 96 ∧ sideIn x.dest s = some 0) else decide (x.dest ≠ 96) && (sideIn x.dest s).isSome
  decide (x.point ≤ 4 ∧ x.vid ≤ 4094 ∧ x.classMask < 256) && within 1 16777216 x.sampleN && source && dest

/-- R303: the values of a PTP instance. -/
def ptpOk (x : PtpPrm) (s : SetParams) : Bool :=
  decide (x.role ≤ 3 ∧ x.domain ≤ 255 ∧ x.profile ≤ 3 ∧ x.ports.length ≤ 32 ∧ x.priority1 ≤ 255 ∧ x.priority2 ≤ 255) &&
    decide (x.clockClass ≤ 255 ∧ x.clockAccuracy ≤ 255 ∧ -4 ≤ x.logSync ∧ x.logSync ≤ 4 ∧ -3 ≤ x.logAnnounce ∧ x.logAnnounce ≤ 4) &&
    within 2 255 x.announceTimeout && x.ports.all (fun p => decide (p ≠ 96) && (sideIn p s).isSome)

/-- R303: a port belongs to one instance at most, and one instance at most is the time source. -/
def ptpTogether (s : SetParams) : Bool :=
  decide ((s.ptp.flatMap (fun e => e.2.ports)).Nodup ∧ (s.ptp.filter (fun e => e.2.timeSource)).length ≤ 1)

/-- R215: the split assigns every region, with four or more to each present die. -/
def regionMapOk (present : Nat) (l : List Nat) : Bool :=
  decide (l.length = 128) && l.all (fun x => decide (x ≤ 4)) &&
    (List.range 4).all (fun die => !bit present die || decide (4 ≤ l.count die))

/-- R274: the servo's fields. -/
def servoOk (s : SetParams) : Bool :=
  decide (s.timeSource ≤ 3) && within 2 64 s.acqSamples && within 1000000000 3600000000000 s.acquireTimeout &&
    within 10 1000000 s.lockThreshold && within 1 255 s.lockCount && within s.lockThreshold 10000000 s.unlockThreshold &&
    within 1 200 s.slewMax && within 1000 1000000000 s.offsetAlarm &&
    (decide (s.hostTimeout = 0) || within 1000000000 3600000000000 s.hostTimeout)

/-- The other device fields (R82, R118, R187, R196, R218, R228, R248, R329, R403, R410, R463). -/
def deviceOk (s : SetParams) : Bool :=
  decide (s.moveHold ≤ 10000 ∧ s.cdLateDropMask < 256 ∧ s.releaseMask < 256 ∧ s.spReleaseMask < 256 ∧ s.twinMode ≤ 1 ∧
    s.notifyMask < 2 ^ 64) && within 1 86400 s.pinTime && (decide (s.agingTime = 0) || within 10 1000000 s.agingTime) &&
    within 16384 1048576 s.voqLimit && within 1 10000 s.drainLimit && within 1 1000 s.lostTime &&
    s.residueLifetime.all (fun e => decide (e.1 < 8 ∧ e.2 ≤ 100000)) &&
    s.dscpClass.all (fun e => decide (e.1 < 64 ∧ e.2 ≤ 7)) && s.dscpColour.all (fun e => decide (e.2 ≤ 2)) &&
    cal32 s.calPps && s.calTci.all (fun e => cal32 e.2) && s.calTpo.all (fun e => cal32 e.2)

/-! ### All of a set (R77) -/

/-- R36, R77: the field checks, in the order of the chapters. What belongs to an absent die is not looked at. -/
def fieldChecks (present : Nat) (s : SetParams) : List Bool :=
  let die (n : Nat) : Bool := bit (present % 16) n
  let ports := s.ports.filter (fun e => decide (96 ≤ e.1) || die (portDie e.1))
  let secys := s.secys.filter (fun e => die (e.1 / 2048))
  [secys.all (fun e => secyOk e.1 e.2 s), s.rules.all (fun e => !die (e.1 / 64) || ruleOk e.1 e.2),
   s.vlans.all (fun e => !die (e.1 / 4096) || vlanOk e.2), regionMapOk present s.regionMap,
   s.mirrors.all (fun e => mirrorOk e.2 s),
   secys.all (fun e => qmapYields e.2.die e.2.port (some e.2.index) e.2.qmap [] s),
   ports.all (fun e => decide (e.2.side ≠ 0 ∨ 96 ≤ e.1) || qmapYields (portDie e.1) e.1 none e.2.qmap e.2.vidMap s),
   s.queues.all (fun e => !die (e.1 / 2 ^ 18) || queueOk e.1 e.2 s), s.meters.all (fun e => !die (e.1 / 2 ^ 16) || meterOk e.2),
   s.shapers.all (fun e => !die (e.1 / 2 ^ 16) || shaperOk e.1 e.2),
   ports.all (fun e => decide (maskCount e.2.strictMask ≤ 4) && portShapersOk e.1 e.2 s), servoOk s,
   s.ptp.all (fun e => ptpOk e.2 s) && ptpTogether s, ports.all (fun e => formOk e.1 e.2 s && portOk e.1 e.2),
   secys.all (fun e => homeOk e.2 s), deviceOk s]

/-- R77, R101, R230, R242, R248, R250, R303: the capacities: no object lies beyond the last one that a die, or the device, has. -/
def capacityChecks (s : SetParams) : List Bool :=
  let below (n : Nat) (l : List Nat) : Bool := l.all (fun k => decide (k < n))
  [below 2048 (s.secys.map (·.2.index)), below 8192 (s.secys.map (·.1)), below 256 (s.rules.map (·.1)), below 16384 (s.vlans.map (·.1)),
   below (2 ^ 20) (s.queues.map (·.1)), below (2 ^ 18) (s.shapers.map (·.1)), below (2 ^ 18) (s.meters.map (·.1)),
   below 8 (s.mirrors.map (·.1)), below 4 (s.ptp.map (·.1)), below 98 (s.ports.map (·.1))]

/-- The number of the first check that fails. -/
def firstFailing (l : List Bool) : Option Nat := l.findIdx? (· == false)

/-- R77: the first check that the content of a set fails on the dies present: its status and number. -/
def setFailure (present : Nat) (s : SetParams) : Option (Status × Nat) :=
  match firstFailing (fieldChecks present s) with
  | some k => some (.badField, k)
  | none =>
    match firstFailing (capacityChecks s) with
    | some k => some (.noResource, k)
    | none => none

end Sys2Proof.Machine
end

