-- ==== Sys2Proof/Machine/Gates.lean ====
section
/-! DEFINITION. Sys2Proof/Machine/Gates.lean: gate-control lists: windows and fit (R321 to R325), change times (R326 to
R328), suspension (R320), and their commands (R342 to R345). Instants of this file are counts of 2^-16 ns (R326). -/
namespace Sys2Proof.Machine

/-- R323: gates after reset: all open, no list. -/
def GateSt.init : GateSt := ⟨none, none, none, 0xFF, 0, 0, false, none, false, false⟩

/-- The gates of a port. -/
def gateSt (p : Nat) (d : Dev) : GateSt := Map.get d.act.gates p GateSt.init

/-- Store the gates of a port. -/
def setGate (p : Nat) (g : GateSt) (d : Dev) : Dev := { d with act := { d.act with gates := Map.put d.act.gates p g } }

/-- The time at a port's timestamp point, in 2^-16 ns (R322). -/
def portTime16 (p : Nat) (d : Dev) : Nat := portTime p d / 65536

/-- Wait until the counter of a port's lane island reaches an instant (R318, R322). -/
def waitPort (p t16 : Nat) (d : Dev) : Dev := waitLane p (t16 * 65536) d

/-- R322: the entries of a cycle that begin before its end: their offsets in 2^-16 ns and their gate states. -/
def gateSlots (l : GateList) : List (Nat × Nat) :=
  (l.entries.foldl (fun (a : Nat × List (Nat × Nat)) e =>
    (a.1 + e.2 * 65536, if a.1 < l.cycle then a.2 ++ [(a.1, e.1)] else a.2)) (0, [])).2

/-- The offset at which slot `i` of a cycle ends. -/
def slotEnd (l : GateList) (i : Nat) : Nat :=
  match (gateSlots l)[i + 1]? with | some (o, _) => o | none => l.cycle

/-- The first slot of a list of slots, with their starts, whose gate of a class is closed. -/
def firstClosed (c : Nat) (slots : List (Nat × Nat)) : Option Nat :=
  (slots.find? (fun e => !bit e.2 c)).map (·.1)

/-- R324: the first instant, after the start of slot `e` of the cycle that began at `s`, at which the gate of a class
closes; none where it never does. -/
def closeIn (l : GateList) (s e c : Nat) : Option Nat :=
  let sl := gateSlots l
  let here := (sl.drop (e + 1)).map (fun x => (s + x.1, x.2))
  let next := (sl.take (e + 1)).map (fun x => (s + l.cycle + x.1, x.2))
  firstClosed c (here ++ next)

/-- R323, R324: the first instant at which a list that starts at `t` leaves the gate of a class closed: `t` itself where
its first entry is closed. -/
def closeFrom (n : GateList) (t c : Nat) : Option Nat :=
  if !n.enable then none
  else match gateSlots n with
    | (_, g) :: _ => if bit g c then closeIn n t 0 c else some t
    | [] => none

/-- R326: the first start of an old cycle that is withheld before the change time `t`. -/
def withheldStart (g : GateSt) (l n : GateList) (t : Nat) : Option Nat :=
  let ext := n.ext * 65536
  let c := max l.cycle 1
  let k := max 1 ((t - ext - g.cycleStart) / c + 1)
  let s := g.cycleStart + k * c
  if s < t ∧ t - s < ext then some s else none

/-- The list that operates now: not stopped by ACQUIRE and not awaiting its restart (R320). -/
def GateSt.operating (g : GateSt) : Option GateList := if g.suspended || g.restart.isSome then none else g.oper

/-- R324: the end of the window of a class whose gate is open now; none where no end is known. -/
def windowEnd (g : GateSt) (c : Nat) : Option Nat :=
  let afterChange (t : Nat) : Option Nat := match g.admin with | some n => closeFrom n t c | none => none
  let noList : Option Nat :=
    match g.change with
    | some t => afterChange t
    | none => none
  match g.operating with
  | some l =>
    let old := if g.extended then none else closeIn l g.cycleStart g.entry c
    match g.change with
    | none => old
    | some t =>
      let lim := match g.admin with | some n => (withheldStart g l n t).getD t | none => t
      (match old with
       | some x => if x < lim then some x else afterChange t
       | none => afterChange t)
  | none =>
    match g.restart, g.oper with
    | some r, some l =>
      (match g.change with
       | some t => if t ≤ r then afterChange t else closeFrom l r c
       | none => closeFrom l r c)
    | _, _ => noList

/-- R325: the largest window of a class over a list, in whole ns; none for a class whose gate never closes. -/
def maxWindow (l : GateList) (c : Nat) : Option Nat :=
  let sl := gateSlots l
  if sl.all (fun e => bit e.2 c) then none
  else
    let lens := (List.range sl.length).map (fun i => (bit (sl.getD i (0, 0)).2 c, slotEnd l i - (sl.getD i (0, 0)).1))
    let r := (lens ++ lens).foldl (fun (a : Nat × Nat) e =>
      if e.1 then (a.1 + e.2, max a.2 (a.1 + e.2)) else (0, a.2)) (0, 0)
    some (r.2 / 65536)

/-- The time that bits take on a port, in 2^-16 ns, rounded up. -/
def bitTime16 (bytes mbps : Nat) : Nat := ceilDiv (bytes * 8 * 1000 * 65536) (max mbps 1)

/-- R325: does a transmission of `n` bytes (and 8 of preamble) exceed the largest window of a class? -/
def exceedsWindow (l : GateList) (c n mbps : Nat) : Bool :=
  match maxWindow l c with
  | none => false
  | some w => decide (w * mbps < (n + 8) * 8 * 1000)

/-! ### Change times (R326) -/

/-- Instants of now, in 2^-16 ns. -/
def now16 (d : Dev) : Nat := d.time.grand / 65536

/-- R326: the lead of a change. -/
def gateLead : Nat := 10000 * 65536

/-- R326: the first base + N × cycle at least the lead ahead. -/
def changeTime (base cycle now_ : Nat) : Nat :=
  if now_ + gateLead ≤ base then base
  else base + ceilDiv (now_ + gateLead - base) (max cycle 1) * cycle

/-- The ports that have gates (R321). -/
def gatedPorts : List Nat := List.range 96

/-- R462: GATE_CONFIG_CHANGE. -/
def gateNotify (p : Nat) (g : GateSt) (t : Nat) (st : Status) (d : Dev) : Dev :=
  let en := match g.admin with | some n => n.enable | none => false
  let count := match g.admin with | some n => n.entries.length | none => 0
  notify 0x50 (portTarget p) (le 2 st.code ++ le 1 (b2n en) ++ zeros 1 ++ (TS96.ofCount t).bytes ++ le 2 count) d

/-- R328: is a frame being sent overtaken by the close of its class's gate under the new list? -/
def overrun (p t : Nat) (n : GateList) (d : Dev) : Bool :=
  match Map.get? d.que.sending p with
  | none => false
  | some s =>
    if s.egg || s.frame.mirror.isSome then false
    else
      let c := match frameQueue s.frame d with | some x => x.cls | none => s.frame.cls
      let fin := t + (s.ends - d.time.elapsed) * 4 * 65536 / 5
      match closeFrom n t c with | some x => decide (x < fin) | none => false

/-- R326 to R328: the change time of a port comes: the admin list operates, or every gate opens. -/
def gateChange (p : Nat) (d : Dev) : Dev :=
  let g0 := gateSt p d
  match g0.change, g0.admin with
  | some t, some n =>
    let d := waitPort p t d
    let d := if overrun p t n d then bump .gate p 3 d else d
    let g : GateSt :=
      if n.enable then
        { g0 with oper := some n, change := none, cycleStart := t, entry := 0, restart := none, extended := false,
                  gates := (match gateSlots n with | (_, x) :: _ => x | [] => 0xFF) }
      else { g0 with oper := none, change := none, cycleStart := 0, entry := 0, restart := none, extended := false, gates := 0xFF }
    gateNotify p g t .ok (bump .gate p 4 (setGate p g d))
  | _, _ => d

def execGateConfigChangeInstant (p : Port) (s : State) : Host.Outcome State Fault Refusal := onDev (gateChange (portNum p)) s

/-- R322, R326: the next event of an operating list: its instant, the new cycle start, entry and gates; none where a
change comes first or the cycle is extended to it. -/
def nextGateEvent (g : GateSt) : Option (Nat × Nat × Nat × Nat) :=
  match g.operating with
  | none => none
  | some l =>
    if g.extended then none
    else
      let sl := gateSlots l
      let e := match sl[g.entry + 1]? with
        | some (o, x) => some (g.cycleStart + o, g.cycleStart, g.entry + 1, x)
        | none => match sl with
          | (_, x) :: _ => some (g.cycleStart + l.cycle, g.cycleStart + l.cycle, 0, x)
          | [] => none
      match e, g.change with
      | some e, some t => if e.1 < t then some e else none
      | e, _ => e

/-- R326: does the next event start a cycle that is withheld? -/
def eventWithheld (g : GateSt) (cycleStart : Nat) : Bool :=
  match g.operating, g.admin, g.change with
  | some l, some n, some t => decide (withheldStart g l n t = some cycleStart) && decide (cycleStart ≠ g.cycleStart)
  | _, _, _ => false

/-- R322: the next gate event of a port. -/
def gateEvent (p : Nat) (d : Dev) : Dev :=
  let g := gateSt p d
  if !awake d then d
  else match nextGateEvent g with
  | none => d
  | some (t, cs, e, x) =>
    let d := waitPort p t d
    if eventWithheld g cs then setGate p { g with extended := true } d
    else setGate p { g with cycleStart := cs, entry := e, gates := x } d

def execGateEvent (p : Port) (s : State) : Host.Outcome State Fault Refusal := onDev (gateEvent (portNum p)) s

/-- R320: a stopped list restarts at its instant. -/
def gateRestart (p : Nat) (d : Dev) : Dev :=
  let g := gateSt p d
  match g.restart, g.oper with
  | some t, some l =>
    let d := waitPort p t d
    setGate p { g with restart := none, cycleStart := t, entry := 0, extended := false,
                       gates := (match gateSlots l with | (_, x) :: _ => x | [] => 0xFF) } d
  | _, _ => d

def execGateListRestart (p : Port) (s : State) : Host.Outcome State Fault Refusal := onDev (gateRestart (portNum p)) s

/-! ### ACQUIRE and SLEEP (R320, R340) -/

/-- R320: entry into ACQUIRE, for one port. -/
def gateAcquire (p : Nat) (d : Dev) : Dev :=
  let g := gateSt p d
  let d' := match g.change with
    | some t => gateNotify p g t .timePassed (bump .gate p 5 d)
    | none => d
  let kept := g.oper.isNone && (g.change.isSome || g.cancelled)
  let l := if kept then g.admin else g.oper
  setGate p { g with change := none, extended := false, restart := none, suspended := true, cancelled := kept,
                     gates := (match l with | some x => x.acquire | none => g.gates) } d'

/-- R320: ACQUIRE has ended, for one port. -/
def gateAcquireEnd (p : Nat) (d : Dev) : Dev :=
  let g := gateSt p d
  match g.oper with
  | some l => setGate p { g with suspended := false, restart := some (changeTime l.base.count l.cycle (now16 d)) } d
  | none => setGate p { g with suspended := false,
                               gates := (match g.admin with | some n => if g.cancelled then n.init else 0xFF | none => 0xFF) } d

/-- Act on every port that has gates listed. -/
def onGates (f : Nat → Dev → Dev) (d : Dev) : Dev := (d.act.gates.map (·.1)).foldl (fun d p => f p d) d

/-- R340: operating lists stop in SLEEP. -/
def gateSleep (p : Nat) (d : Dev) : Dev :=
  let g := gateSt p d
  match g.oper with
  | some l => setGate p { g with suspended := true, restart := none, extended := false, gates := l.init } d
  | none => d

/-- R340: and restart at the wake by the rule of R326; in ACQUIRE they stay stopped. -/
def gateWake (p : Nat) (d : Dev) : Dev :=
  if d.time.state = .acquire then gateAcquire p d
  else
    let g := gateSt p d
    match g.oper with
    | some l => setGate p { g with suspended := false, restart := some (changeTime l.base.count l.cycle (now16 d)) } d
    | none => d

/-! ### GATE_LIST_INSTALL (R342) -/

/-- The list that a request and its staged entries describe. -/
def readGateList (pl entries : Bytes) : GateList where
  enable := decide (fld pl 0 1 = 1)
  init := fld pl 1 1
  acquire := fld pl 2 1
  entries := (List.range (fld pl 4 2)).map (fun i => (fld entries (8 * i) 1, fld entries (8 * i + 4) 4))
  ext := fld pl 12 4
  base := tsFld pl 16
  cycle := fld pl 32 8
  maxSdu := (List.range 8).map (fun c => fld pl (40 + 2 * c) 2)

/-- R13, R322: entries use the one operation, and their reserved bytes are zero. -/
def entriesOk (n : Nat) (entries : Bytes) : Bool :=
  (List.range n).all (fun i => decide (fld entries (8 * i + 1) 3 = 0 ∧ 1 ≤ fld entries (8 * i + 4) 4))

/-- R322, R326, R342: are the fields in range? -/
def gateListOk (l : GateList) (n stage : Nat) (entries : Bytes) : Bool :=
  l.base.valid && decide (stage % 8 = 0) &&
  if l.enable then
    decide (0x3E80000 ≤ l.cycle ∧ l.cycle ≤ 0x2540BE4000000 ∧ l.ext ≤ 1000000000 ∧ l.ext * 65536 < l.cycle ∧
      1 ≤ n ∧ n ≤ 1024 ∧ stage + 8 * n ≤ 4194304) &&
    entriesOk n entries && l.maxSdu.all (fun x => decide (64 ≤ x ∧ x ≤ 9600))
  else decide (l.cycle = 0 ∧ l.ext = 0 ∧ n = 0) && l.maxSdu.all (· == 0)

/-- R326: the change time of a list accepted at an instant. -/
def listChange (l : GateList) (now_ : Nat) : Nat :=
  if l.enable then changeTime l.base.count l.cycle now_ else max l.base.count (now_ + gateLead)

/-- R342: the response. -/
def gateInstallResp (l : GateList) (change now_ mbps : Nat) : Bytes :=
  let w (c : Nat) : Nat := match (if l.enable then maxWindow l c else none) with
    | none => 0xFFFFFFFF | some x => if 4294967294 ≤ x then 0xFFFFFFFE else x
  let exceeding : Nat := ((List.range 8).map (fun c => if l.enable && exceedsWindow l c (l.maxSdu.getD c 0) mbps then 2 ^ c else 0)).sum
  (TS96.ofCount change).bytes ++ (TS96.ofCount now_).bytes ++ le 1 exceeding ++ zeros 3 ++ (List.range 8).flatMap (fun c => le 4 (w c)) ++ zeros 4

/-- R327: is a change pending less than 20 µs ahead? -/
def changeClose (g : GateSt) (d : Dev) : Bool :=
  match g.change with | some t => decide (t < now16 d + 20000 * 65536) | none => false

/-- R342: the admin list becomes pending. -/
def gateAccept (p : Nat) (l : GateList) (change : Nat) (d : Dev) : Dev :=
  let g := gateSt p d
  setGate p { g with admin := some l, change := some change, extended := false, cancelled := false,
                     gates := if g.oper.isNone then l.init else g.gates } d

/-- R344: the layout of a list. -/
def gateListBytes (l : GateList) (stage : Nat) : Bytes :=
  le 1 (b2n l.enable) ++ le 1 l.init ++ le 1 l.acquire ++ zeros 1 ++ le 2 l.entries.length ++ zeros 2 ++ le 4 stage
    ++ le 4 l.ext ++ l.base.bytes ++ zeros 4 ++ le 8 l.cycle ++ l.maxSdu.flatMap (le 2) ++ zeros 8

/-- R407: a list as a record carries it. -/
def listRecord (l : GateList) : Bytes × Bytes :=
  (gateListBytes l 0, l.entries.flatMap (fun e => le 1 e.1 ++ zeros 3 ++ le 4 e.2))

/-- R407: the GATE_LIST record of a port. -/
def gateRecord (p : Nat) (d : Dev) : TwinBody :=
  let g := gateSt p d
  .gateList p (g.oper.map listRecord) (g.admin.map listRecord) g.change.isSome

/-- R407: a port's lists go to the twin. -/
def postGates (p : Nat) (d : Dev) : Dev := twinPost (gateRecord p d) d

/-- R342: GATE_LIST_INSTALL. -/
def gateListInstall (c : Ctx) (d : Dev) : Ans :=
  let p := c.target.portNo
  let n := fld c.pl 4 2
  let stage := fld c.pl 8 4
  let entries := stagingRead stage (8 * n) d
  let l := readGateList c.pl entries
  let t := now16 d
  let change := listChange l t
  need (gateListOk l n stage entries && decide (change ≤ t + 86400 * 1000000000 * 65536)) .badField <|
  need (decide (d.time.state ≠ .acquire) && !changeClose (gateSt p d) d) .badState <|
  .ok (gateInstallResp l change t (portMbps p d)) (postGates p (gateAccept p l change d))

/-- The kinds of the ports that have gates. -/
def gatePorts : List Scope := [.ports [1, 2, 3]]

def execGateListInstall (r : Request) (s : State) : Host.Outcome State Fault Refusal :=
  onMailbox { op := 0x0B01, len := 64, scopes := gatePorts, shared := sharedState,
              resv := fun p => below 0 2 p && z 3 1 p && z 6 2 p && z 28 4 p && z 56 8 p } (fun c _ d => gateListInstall c d) r s

/-- R343: GATE_LIST_CANCEL. -/
def gateListCancel (c : Ctx) (d : Dev) : Ans :=
  let p := c.target.portNo
  let g := gateSt p d
  need (g.change.isSome && !changeClose g d) .badState <|
  .ok [] (postGates p (setGate p { g with change := none, extended := false, cancelled := g.oper.isNone } d))

def execGateListCancel (r : Request) (s : State) : Host.Outcome State Fault Refusal :=
  onMailbox { op := 0x0B02, len := 0, scopes := gatePorts, shared := sharedState } (fun c _ d => gateListCancel c d) r s

/-- R344: GATE_LIST_READ. -/
def gateListRead (c : Ctx) (d : Dev) : Ans :=
  let g := gateSt c.target.portNo d
  let stage := fld c.pl 4 4
  match (if fld c.pl 0 1 = 0 then g.admin else g.oper) with
  | none => need (decide (stage % 8 = 0)) .badField (.fail .badState)
  | some l =>
    need (decide (stage % 8 = 0 ∧ stage + 8 * l.entries.length ≤ 4194304)) .badField <|
    .ok (gateListBytes l stage) (stagingWrite stage (l.entries.flatMap (fun e => le 1 e.1 ++ zeros 3 ++ le 4 e.2)) d)

def execGateListRead (r : Request) (s : State) : Host.Outcome State Fault Refusal :=
  onMailbox { op := 0x0B03, len := 8, scopes := gatePorts, resv := fun p => below 0 2 p && z 1 3 p }
    (fun c _ d => gateListRead c d) r s

/-- R345: the state code. -/
def gateStateCode (g : GateSt) : Nat :=
  if g.oper.isSome then (if g.restart.isSome then 1 else if g.suspended then 3 else 2)
  else if g.change.isSome then 1 else 0

/-- R345: GATE_STATUS. -/
def gateStatus (c : Ctx) (d : Dev) : Ans :=
  let p := c.target.portNo
  let g := gateSt p d
  let en := match g.admin with | some n => n.enable | none => false
  let running := g.operating.isSome
  let ch := match g.change with | some t => some t | none => g.restart
  .ok (le 1 (gateStateCode g) ++ le 1 g.gates ++ le 1 (b2n g.change.isSome + 2 * b2n (g.change.isSome && en)) ++ zeros 1
    ++ le 2 (if running then g.entry else 0) ++ zeros 2
    ++ (if running then TS96.ofCount g.cycleStart else TS96.zero).bytes
    ++ (match ch with | some t => TS96.ofCount t | none => TS96.zero).bytes
    ++ cntBytes .gate p 6 d ++ zeros 16) (clearIf (clearFlag 0 c.pl) .gate p d)

def execGateStatus (r : Request) (s : State) : Host.Outcome State Fault Refusal :=
  onMailbox { op := 0x0B04, len := 4, scopes := gatePorts, resv := onlyBits 0 4 1 } (fun c _ d => gateStatus c d) r s

end Sys2Proof.Machine
end

