-- ==== Sys2Proof/Machine/Egress.lean ====
section
/-! DEFINITION. Sys2Proof/Machine/Egress.lean: selection at an egress port (R251 to R253, R324, R325), protection of
the selected frame (R88, R90, R124, R411), the spatula (R297 to R308), and the end of a transmission (R223, R301). -/
namespace Sys2Proof.Machine

/-! ### Shapers on a frame's path (R251) -/

/-- Has the shaper of a place P ≥ 0? No shaper counts as ready. -/
def pReady (die : Nat) (k : Option Nat) (d : Dev) : Bool :=
  match k with
  | none => true
  | some i => match shaperPrm (65536 * die + i) d with
    | none => true
    | some _ => decide (0 ≤ (shaperBuckets (65536 * die + i) d).p)

/-- Has it C ≥ 0? -/
def cReady (die : Nat) (k : Option Nat) (d : Dev) : Bool :=
  match k with
  | none => true
  | some i => match shaperPrm (65536 * die + i) d with
    | none => true
    | some _ => decide (0 ≤ (shaperBuckets (65536 * die + i) d).c)

/-- R251: charge a shaper: P, and C of a committed frame. -/
def charge (die n : Nat) (committed : Bool) (d : Dev) (k : Option Nat) : Dev :=
  match k with
  | none => d
  | some i =>
    let key := 65536 * die + i
    match shaperPrm key d with
    | none => d
    | some _ =>
      let b := shaperBuckets key d
      let b' : Buckets := { b with p := b.p - tok n, c := if committed then b.c - tok n else b.c }
      { d with que := { d.que with shapers := Map.put d.que.shapers key b' } }

/-- The settings of a queue in the set in force; where that does not define it, those of its head frame's set. -/
def liveQueue (q : Nat) (x : QueuePrm) (d : Dev) : QueuePrm := (Map.get? (prmAt (portTime x.port d) d).queues q).getD x

/-- The settings of a port in the set in force. -/
def livePort (p : Nat) (d : Dev) : PortPrm := (portPrmIn p (prmAt (portTime p d) d)).getD { form := 1, side := 0 }

/-! ### The head of a queue -/

/-- The SecY of a frame, in its set. -/
def frameSecy (f : Frame) (d : Dev) : Option SecyPrm :=
  match secyOfCode f.dest with | some n => Map.get? (prmOf f.gen d).secys n | none => none

/-- R88, R99: the bytes that a frame's treatment adds. -/
def frameExpansion (f : Frame) (d : Dev) : Nat :=
  match frameSecy f d with
  | none => 0
  | some p =>
    match f.treat, f.slot with
    | .protect, some k => expansion p (sa k d).stamps
    | _, _ => if p.vid = 0 then 0 else 4

/-- R245, R252: the length of a frame on its egress port. -/
def wireLength (f : Frame) (d : Dev) : Nat := f.data.length + 4 + frameExpansion f d

/-- R252: the charged length. -/
def charged (f : Frame) (d : Dev) : Nat := min 9620 (wireLength f d + 20)

/-- R324: Lf: the exact length of a store-and-forward frame, max_sdu of the class for a cut-through one (R221, R222);
with no list, 9,600 for one admitted before its end came. -/
def fitLength (f : Frame) (p c : Nat) (d : Dev) : Nat :=
  if f.whole then wireLength f d
  else match (gateSt p d).operating with
    | some l => l.maxSdu.getD c 9600
    | none => if f.early || f.head then 9600 else wireLength f d

/-- R297: does a residence correction apply to the frame (R296, R300)? -/
def corrects (f : Frame) (p : Nat) (d : Dev) : Bool :=
  let s := prmOf f.gen d
  match ptpRef f.data, portPrmIn f.inPort s, portPrmIn p s with
  | some r, some x, some y =>
    f.mirror.isNone && decide (f.inPort < 96 ∧ p < 96 ∧ x.ptpMode = y.ptpMode ∧ x.ptpMode ≠ 0 ∧ x.ptpProfile ≠ 3 ∧ y.ptpProfile ≠ 3)
      && ptpEvent f.data r && ptpWellFormed f.data r && (decide (x.ptpMode = 1) || decide (ptpType f.data r = 0))
  | _, _, _ => false

/-- R305: will t_in of the frame be used against t_out? -/
def usesArrival (f : Frame) (p : Nat) (d : Dev) : Bool :=
  corrects f p d || (match f.late with | some (2, _) => true | _ => false)

/-- R273: is a timestamp that the frame needs older than the last three steps? -/
def stale (f : Frame) (p : Nat) (d : Dev) : Bool := usesArrival f p d && decide (f.epoch + 3 < d.time.epoch)

/-- Why a frame is dropped at the head of its queue. -/
inductive HeadDrop where
  | oversize | sdu | grace | stale
  deriving DecidableEq, Repr

/-- R124, R273, R325: is the head frame of a queue to be dropped? -/
def headDrop (f : Frame) (p c : Nat) (d : Dev) : Option HeadDrop :=
  let grace : Bool := match f.slot with | some k => decide ((sa k d).state = .exhausted) && (sa k d).graceOver | none => false
  if grace then some .grace
  else if stale f p d then some .stale
  else match (gateSt p d).operating with
    | none => none
    | some l =>
      if f.whole && decide (l.maxSdu.getD c 9600 < wireLength f d) then some .sdu
      else if exceedsWindow l c (fitLength f p c d) (portMbps p d) then some .oversize
      else none

/-- Count a frame dropped at the head of its queue. -/
def countHeadDrop (r : HeadDrop) (f : Frame) (p : Nat) (d : Dev) : Dev :=
  match r with
  | .oversize => bump .gate p 0 d
  | .sdu => bump .gate p 1 d
  | .grace => match f.slot with | some k => bump .secy (2048 * saDie k + saSc k) 7 d | none => d
  | .stale => bump .time 0 11 d

/-- Take the head frame out of a queue without charging it: an emptied queue keeps its tag as F_prev (R253). -/
def dropHead (q : Nat) (d : Dev) : Dev :=
  let y := queueAt q d
  match y.frames with
  | [] => d
  | [_] => setQueue q ⟨[], 0, some y.tag⟩ d
  | _ :: rest => joinClass (queuePlace q d) q (setQueue q { y with frames := rest } d)

/-- Replace the head frame of a queue. -/
def setHead (q : Nat) (f : Frame) (d : Dev) : Dev :=
  let y := queueAt q d
  setQueue q { y with frames := f :: y.frames.drop 1 } d

/-- R124, R273, R325: drop what must be dropped at the head of a queue of a port. -/
def cleanHead (p q : Nat) : Nat → Dev → Dev
  | 0, d => d
  | n + 1, d =>
    match queueHead (queueAt q d) d with
    | none => d
    | some (f0, x) =>
      if x.port ≠ p then d
      else
        let f := handOver f0 d
        match headDrop f p x.cls d with
        | some r => cleanHead p q n (countHeadDrop r f p (dropHead q d))
        | none => if f = f0 then d else setHead q f d

/-- Clean the heads of every queue of a port. -/
def cleanPort (p : Nat) (d : Dev) : Dev :=
  (portQueues p d).foldl (fun d e => cleanHead p e.1 e.2.1.frames.length d) d

/-! ### Eligibility (R252, R324, R361, R411) -/

/-- R124, R411, R414: may the slot give a PN now? -/
def pnReady (f : Frame) (d : Dev) : Bool :=
  match f.slot with
  | none => true
  | some k =>
    let x := sa k d
    (decide (x.state = .inUse) || decide (x.state = .retiring)) &&
      (match secyPrm (saDie k) (saSc k) d with
       | some p => !reserves p d || decide (x.nextPn < x.reserve)
       | none => true)

/-- R411: does the frame wait for a reservation? -/
def waitsReserve (f : Frame) (d : Dev) : Bool :=
  match f.slot with
  | none => false
  | some k => (decide ((sa k d).state = .inUse) || decide ((sa k d).state = .retiring)) && !pnReady f d

/-- R361: does a spilled frame wait for verification? -/
def waitsVerify (f : Frame) (d : Dev) : Bool :=
  f.spilled && !f.unverified.isEmpty && bit (prmOf f.gen d).spReleaseMask f.cls

/-- R324: the next pending release on a port, in 2^-16 ns. -/
def nextRelease (p : Nat) (d : Dev) : Option Nat :=
  (d.act.egg.filter (fun h => decide (h.port = p))).foldl (fun a h =>
    match a with | none => some (h.release / 65536) | some r => some (min r (h.release / 65536))) none

/-- R324: does a transmission of Lf bytes end, with its gap, before the next release? -/
def beforeRelease (p lf : Nat) (d : Dev) : Bool :=
  match nextRelease p d with
  | none => true
  | some r => decide (portTime16 p d + bitTime16 (lf + 20) (portMbps p d) ≤ r)

/-- R324: does it end within its window? -/
def inWindow (p c lf : Nat) (d : Dev) : Bool :=
  match windowEnd (gateSt p d) c with
  | none => true
  | some e => decide (portTime16 p d + bitTime16 (lf + 8) (portMbps p d) ≤ e)

/-- Is the gate of a class open? -/
def gateOpen (p c : Nat) (d : Dev) : Bool := bit (gateSt p d).gates c

/-- A backlogged queue of a port: its place, its head and its settings in force. -/
structure Cand where
  q : Nat
  tag : Nat
  f : Frame
  cls : Nat
  live : QueuePrm

/-- The backlogged queues of a port, in rising index. -/
def candidates (p : Nat) (d : Dev) : List Cand :=
  (portQueues p d).map (fun e => ⟨e.1, e.2.1.tag, e.2.2.1, e.2.2.2.cls, liveQueue e.1 e.2.2.2 d⟩)

/-- R252: could a queue be served, were its head frame on the die? -/
def servable (p : Nat) (d : Dev) (c : Cand) : Bool :=
  let lf := fitLength c.f p c.cls d
  pReady (portDie p) c.live.shaper d && gateOpen p c.cls d && inWindow p c.cls lf d && beforeRelease p lf d && pnReady c.f d

/-- R252: is a queue eligible? -/
def eligible (p : Nat) (d : Dev) (c : Cand) : Bool :=
  servable p d c && (!c.f.spilled || c.f.readBack) && !waitsVerify c.f d

/-- R251: is the head of a queue committed on its whole path? -/
def committed (p : Nat) (d : Dev) (c : Cand) : Bool :=
  let y := livePort p d
  let die := portDie p
  cReady die c.live.shaper d && cReady die (Map.get? y.classShaper c.cls) d && cReady die y.portShaper d

/-- R324, R361, R411: count the first wait of each head frame for its window, its verification or its reservation. -/
def noteWaits (p : Nat) (d : Dev) : Dev :=
  (candidates p d).foldl (fun d c =>
    let f := c.f
    let late := !(gateOpen p c.cls d && inWindow p c.cls (fitLength f p c.cls d) d) && !f.waited
    let pn := waitsReserve f d && !f.pnWaited
    let ver := waitsVerify f d && f.readBack && !f.verifyWaited
    let f' := { f with waited := f.waited || late, pnWaited := f.pnWaited || pn, verifyWaited := f.verifyWaited || ver }
    let d := if late then bump .gate p 2 d else d
    let d := if pn then bump .twin 0 8 d else d
    let d := if ver then bump .mem 0 13 d else d
    if late || pn || ver then setHead c.q f' d else d) d

/-! ### The choice (R252, R253) -/

/-- The earliest of a list by tag, the first of equals. -/
def earliest {α : Type} (tag : α → Nat) : List α → Option α
  | [] => none
  | a :: l => some (l.foldl (fun b x => if precedes64 (tag x) (tag b) then x else b) a)

/-- R252 step 2: the class served next among eligible queues. -/
def chooseClass (p : Nat) (es : List Cand) (d : Dev) : Option Nat :=
  let y := livePort p d
  let cs := [7, 6, 5, 4, 3, 2, 1, 0].filter (fun c => es.any (fun e => decide (e.cls = c)) &&
    pReady (portDie p) (Map.get? y.classShaper c) d)
  match cs.find? (fun c => bit y.strictMask c) with
  | some c => some c
  | none =>
    let tag (c : Nat) : Nat := (classSt p c d).tag
    match earliest tag (cs.filter (fun c => es.any (fun e => decide (e.cls = c) && committed p d e))) with
    | some c => some c
    | none => earliest tag cs

/-- R252: the queue served next. -/
def choose (p : Nat) (d : Dev) : Option Cand :=
  if !pReady (portDie p) (livePort p d).portShaper d then none
  else
    let es := (candidates p d).filter (eligible p d)
    match chooseClass p es d with
    | none => none
    | some c =>
      let qs := es.filter (fun e => decide (e.cls = c))
      match earliest Cand.tag (qs.filter (committed p d)) with
      | some e => some e
      | none => earliest Cand.tag qs

/-- R253: the tags after a frame of charged length `n` leaves a queue. -/
def advanceTags (p n : Nat) (c : Cand) (d : Dev) : Dev :=
  let y := livePort p d
  let cl := classSt p c.cls d
  let q := queueAt c.q d
  let fq := finishTag c.tag n c.live.weight
  let rest := q.frames.drop 1
  let d := joinClass (some (p, c.cls)) c.q (setQueue c.q (if rest.isEmpty then ⟨[], 0, some fq⟩ else { q with frames := rest, tag := fq }) d)
  let cl := { cl with vc := c.tag }
  let still := classBacklog p c.cls d
  if bit y.strictMask c.cls then
    setClassSt p c.cls (if still then cl else { cl with fprev := some cl.tag }) d
  else
    let fc := finishTag cl.tag n (Map.get y.classWeight c.cls 1)
    let d := { d with que := { d.que with vp := Map.put d.que.vp p cl.tag } }
    setClassSt p c.cls (if still then { cl with tag := fc } else { cl with tag := 0, fprev := some fc }) d

/-- Take the chosen head out of its queue, charging its shapers and moving the tags. -/
def takeChosen (p : Nat) (c : Cand) (d : Dev) : Dev :=
  let y := livePort p d
  let n := charged c.f d
  let com := committed p d c
  let d := [c.live.shaper, Map.get? y.classShaper c.cls, y.portShaper].foldl (charge (portDie p) n com) d
  advanceTags p n c d

/-! ### The spatula (R297 to R308) -/

/-- R273: t_in of a frame, moved over the steps since its epoch. -/
def movedArrival (t epoch : Nat) (d : Dev) : Int := (t : Int) + (d.time.stepHist.take (d.time.epoch - epoch)).sum

/-- A message with fields to be written: the new bytes, and what is counted. -/
structure LateWrite where
  data : Bytes
  wrote : Bool := false
  oneStep : Bool := false
  corrected : Bool := false
  saturated : Bool := false
  noPad : Bool := false

/-- R297: the terms added to a transit message, in 2^-16 ns. -/
def transitTerms (f : Frame) (p : Nat) (r : PtpRef) (tOut : Nat) (d : Dev) : Int :=
  let s := prmOf f.gen d
  let res := residence ((tOut : Int) - movedArrival f.tIn f.epoch d)
  let t := ptpType f.data r
  let p2p := match portPrmIn f.inPort s with | some x => decide (x.ptpMode = 2) | none => false
  if t = 1 ∨ t = 2 then res - asymOf p s
  else res + (if p2p then f.linkDelay else 0) + asymOf f.inPort s

/-- R305: the message with its late-bound fields, before any checksum. -/
def lateFields (f : Frame) (p : Nat) (r : PtpRef) (tOut : Nat) (d : Dev) : LateWrite :=
  let corr (x : Int) : Bytes × Bool :=
    let y := corrSum (ptpCorr f.data r) x
    (splice f.data (r.off + 8) (be 8 (ofSigned 64 y.1)), y.2)
  match f.late with
  | some (1, _) =>
    let c := corr ((tOut / 65536 % 65536 : Nat) : Int)
    let ns := tOut / unitsPerNs
    { data := splice c.1 (r.off + 34) (be 6 (ns / 1000000000) ++ be 4 (ns % 1000000000)), wrote := true, oneStep := true, saturated := c.2 }
  | some (_, tin) =>
    let c := corr (residence ((tOut : Int) - movedArrival tin f.epoch d))
    { data := c.1, wrote := true, oneStep := true, saturated := c.2 }
  | none =>
    if corrects f p d then
      let c := corr (transitTerms f p r tOut d)
      { data := c.1, wrote := true, corrected := true, saturated := c.2 }
    else { data := f.data }

/-- R308: the one's-complement sum of the 16-bit words from an offset that differ, read from `a`. -/
def changedSum (a b : Bytes) (off n : Nat) : Nat :=
  (List.range n).foldl (fun s i =>
    let x := fldBe a (off + 2 * i) 2
    if x = fldBe b (off + 2 * i) 2 then s else ones s x) 0

/-- R308: repair the UDP checksum of a written message; over IPv6 without the extension nothing is written. -/
def fixUdp (old : Bytes) (r : PtpRef) (w : LateWrite) : LateWrite :=
  if !w.wrote then w
  else if r.udp = 4 then { w with data := splice w.data (r.off - 2) [0, 0] }
  else if r.udp = 6 then
    let len := fldBe old (r.off + 2) 2
    if fldBe old (r.off - 4) 2 = 8 + len + 2 then
      let e := r.off + len
      let words := (len + 1) / 2
      let v := ones (ones (fldBe old e 2) (changedSum old w.data r.off words)) (65535 - changedSum w.data old r.off words)
      { w with data := splice w.data e (be 2 v) }
    else { data := old, noPad := true }
  else w

/-- R305: what the spatula writes into a frame that departs at `tOut`. -/
def spatula (f : Frame) (p tOut : Nat) (d : Dev) : LateWrite :=
  match ptpRef f.data with
  | none => { data := f.data }
  | some r => fixUdp f.data r (lateFields f p r tOut d)

/-- Count what the spatula wrote. -/
def countWrite (w : LateWrite) (f : Frame) (p : Nat) (d : Dev) : Dev :=
  let die := portDie p
  let d := if w.corrected then bump .ptp p 0 (bump .ts die 1 d) else d
  let d := if w.saturated then bump .ptp p 1 (bump .ts die 2 d) else d
  let d := if w.oneStep then bump .ts die 3 d else d
  let d := if w.noPad then bump .ts die 6 d else d
  if w.wrote && decide (f.treat = .protect) then bump .ts die 4 d else d

/-! ### Protection (R88, R90, R124, R332) -/

/-- R88: the outer tag of a tagged SecY. -/
def outerTagBytes (f : Frame) (p : SecyPrm) (d : Dev) : Bytes :=
  if p.vid = 0 then []
  else
    let ad := match portPrmIn p.port (prmOf f.gen d) with | some x => x.tpidAd | none => false
    be 2 (if ad then 0x88A8 else 0x8100) ++ be 2 (f.cls * 8192 + p.vid)

/-- R332, R333: the stamp of a frame: seconds, nanoseconds and flags. -/
def stampOf (f : Frame) : Nat × Nat × Nat :=
  match f.stamp with
  | some x => x
  | none =>
    let ns := f.tIn / unitsPerNs
    (ns / 1000000000, ns % 1000000000, f.timeFlags)

/-- R332: the stamp trailer. -/
def trailerBytes (f : Frame) : Bytes :=
  let (s, ns, fl) := stampOf f
  be 2 0x5A7E ++ be 2 (0x1000 + fl * 1024) ++ be 4 s ++ be 4 ns

/-- R90: the frame as protected under a slot's next PN, FCS excluded. -/
def protectBytes (f : Frame) (p : SecyPrm) (k : Nat) (data : Bytes) (d : Dev) : Bytes :=
  let x := sa k d
  let sec := data.drop 12 ++ (if x.stamps then trailerBytes f else [])
  let tci := 0x20 + (if p.confidentiality then 0x0C else 0) + saAn k
  let tag := be 2 0x88E5 ++ le 1 tci ++ le 1 (if sec.length < 48 then sec.length else 0) ++ be 4 x.nextPn ++ be 8 p.txSci
  let iv := ivOf (suiteXpn p.suite) p.txSci x.ssci x.salt x.nextPn
  let a := if p.confidentiality then sec.take p.confOffset else sec
  let c := gcmCrypt x.key iv (sec.drop a.length)
  data.take 12 ++ outerTagBytes f p d ++ tag ++ a ++ c ++ gcmTagWith x.key x.hashKey iv (data.take 12 ++ tag ++ a) c

/-- R124, R125: a slot has given its last PN. -/
def exhaust (k : Nat) (p : SecyPrm) (d : Dev) : Dev :=
  let d := bump .key (saDie k) 6 (saEnter .exhausted k d)
  notify 0x11 (portTarget p.port) (saNotifData k 0 d) d

/-- R124, R411: the slot's next PN has been used. -/
def usePn (k : Nat) (p : SecyPrm) (d : Dev) : Dev :=
  let x := sa k d
  let last := lastPn k d
  let d := checkThreshold k (setSa k { x with nextPn := x.nextPn + 1 } d)
  let x' := sa k d
  let d := if x'.nextPn = last + 1 ∧ x'.state = .inUse then exhaust k p d else handOverAll k d
  if reserves p d && !x'.renewing && decide (0 < x'.reserve ∧ x'.reserve ≤ x'.nextPn + pnBlock p.suite / 2) then
    reservePn k (x'.reserve + pnBlock p.suite) d
  else d

/-- R103, R137, R333: count a protected frame. -/
def countProtected (k : Nat) (p : SecyPrm) (secLen : Nat) (d : Dev) : Dev :=
  let n := 2048 * saDie k + saSc k
  let e := b2n p.confidentiality
  let d := bumpBy .secy n (2 + e) secLen (bump .secy n e (bump .sa k e d))
  if (sa k d).stamps then bump .cd n 0 (bump .egg (saDie k) 0 d) else d

/-- A frame as it leaves the die, FCS excluded: before the spatula, after it, and the state after. -/
structure Built where
  before : Bytes
  wire : Bytes
  d : Dev

/-- Protect, tag or leave a frame, with the content the spatula gives it. -/
def build (f : Frame) (late : Bytes) (d : Dev) : Built :=
  match frameSecy f d with
  | none => ⟨f.data, late, d⟩
  | some p =>
    match f.treat, f.slot with
    | .protect, some k =>
      let b := protectBytes f p k f.data d
      let w := protectBytes f p k late d
      let secLen := f.data.length - 12 + (if (sa k d).stamps then 12 else 0)
      ⟨b, w, usePn k p (countProtected k p secLen d)⟩
    | _, _ =>
      let t := outerTagBytes f p d
      let tag (x : Bytes) : Bytes := x.take 12 ++ t ++ x.drop 12
      let n := 2048 * portDie p.port + p.index
      ⟨tag f.data, tag late, if (parse f.data).etype = 0x888E then d else bump .secy n 4 d⟩

/-! ### Starting a frame -/

/-- R302: the flags of a timestamp taken now. -/
def stampFlags (w : LateWrite) (d : Dev) : Nat :=
  b2n w.oneStep + 2 * b2n (decide (d.time.state ≠ .locked)) + 4 * b2n (decide (d.time.state = .acquire))

/-- R325: a cut-through frame longer than max_sdu is cut and stomped. -/
def sduCut (f : Frame) (p c : Nat) (wire : Bytes) (egg : Bool) (d : Dev) : Option Nat :=
  if f.whole || egg then none
  else match (gateSt p d).operating with
    | some l => if l.maxSdu.getD c 9600 < wire.length + 4 then some (l.maxSdu.getD c 9600 - 4) else none
    | none => none

/-- Begin to send a frame on a port. -/
def startFrame (o : Otp) (p c : Nat) (egg : Bool) (f : Frame) (d : Dev) : Dev :=
  let s := prmOf f.gen d
  let raw := portTime p d
  let tOut := calibrated raw (txOffset o p s d)
  let w := if f.mirror.isSome then { data := f.data } else spatula f p tOut d
  let d := if f.treat = .protect then tallyBlocks (portDie p) f.id (f.data.length - 12) false d else d
  let b := build f w.data d
  let pn := match f.treat, f.slot with | .protect, some k => (sa k d).nextPn | _, _ => 0
  let d := if f.mirror.isSome then b.d else countWrite w f p b.d
  let d := if p < 96 && f.mirror.isNone then
      mirrorAt { id := f.id, point := if cipherIn p s then 3 else 1, port := p, die := portDie p, data := b.before, gen := f.gen } d
    else d
  let cut := sduCut f p c b.wire egg d
  let d := if cut.isSome then bump .gate p 1 d else d
  let body := match cut with | some n => b.wire.take n | none => b.wire
  let stomp := cut.isSome || f.stomp.isSome
  let snd : Sending := ⟨{ f with pn := pn }, body, d.time.elapsed + wireTicks (body.length + 24) (portMbps p d), stomp, tOut, stampFlags w d, egg,
    w.wrote && decide (f.treat = .protect)⟩
  { d with que := { d.que with sending := Map.put d.que.sending p snd } }

/-! ### PORT_TRANSMIT_SELECT -/

/-- R391: on a port that cannot send, every queued frame is dropped as it reaches the head, and mirror copies are
discarded. -/
def dropPort (p : Nat) (d : Dev) : Dev :=
  let qs := portQueues p d
  let n := (qs.map (fun e => (e.2.1.frames.filter (fun f => match frameQueue f d with
    | some x => decide (x.port = p) | none => false)).length)).sum
  let d := qs.foldl (fun d e =>
    let y := queueAt e.1 d
    setQueue e.1 (y.keep (fun f => match frameQueue f d with | some x => decide (x.port ≠ p) | none => true)) d) d
  let hub := if p = 97 then (List.range 8).map (fun c => 2 ^ 18 * 8 + c) else []
  let m := (hub.map (fun q => (queueAt q d).frames.length)).sum
  let d := hub.foldl (fun d q => setQueue q Queue.empty d) d
  let d := bumpBy .port p 10 (n + m) d
  d.fab.mirrorQ.foldl (fun d e =>
    let here := e.2.filter (fun f => decide (f.dest = p))
    let d := bumpBy .fab (portDie p) 10 here.length (bumpBy .mirror e.1 2 here.length d)
    setMirrorQ e.1 (e.2.filter (fun f => decide (f.dest ≠ p))) d) d

/-- R231: the first mirror copy that waits for a port. -/
def mirrorHead (p : Nat) (d : Dev) : Option (Nat × Frame) :=
  match d.fab.mirrorQ.find? (fun e => match e.2 with | f :: _ => decide (f.dest = p) | [] => false) with
  | some (k, f :: _) => some (k, f)
  | _ => none

/-- R231, R324: send a mirror copy, where no class has a frame eligible. -/
def sendMirror (o : Otp) (p : Nat) (d : Dev) : Dev :=
  match mirrorHead p d with
  | none => d
  | some (k, f) =>
    let y := livePort p d
    if pReady (portDie p) y.portShaper d && beforeRelease p (f.data.length + 4) d then
      let n := min 9620 (f.data.length + 24)
      let com := cReady (portDie p) y.portShaper d
      let d := charge (portDie p) n com (setMirrorQ k ((mirrorQ k d).drop 1) d) y.portShaper
      startFrame o p 0 false f d
    else d

/-- R242: the hub serves MGT from eight queues in strict class order. -/
def selectMgt (o : Otp) (d : Dev) : Dev :=
  match ([7, 6, 5, 4, 3, 2, 1, 0].find? (fun c => !(queueAt (2 ^ 18 * 8 + c) d).frames.isEmpty)) with
  | some c =>
    let q := 2 ^ 18 * 8 + c
    match (queueAt q d).frames with
    | f :: rest =>
      let d := setQueue q { queueAt q d with frames := rest } d
      if stale f 97 d then bump .time 0 11 d else startFrame o 97 c false f d
    | [] => d
  | none => sendMirror o 97 d

/-- R252: pick and start the next frame of a trunk or feeder port. -/
def selectPort (o : Otp) (p : Nat) (d : Dev) : Dev :=
  let d := noteWaits p (cleanPort p d)
  match choose p d with
  | none => sendMirror o p d
  | some c => startFrame o p c.cls false c.f (takeChosen p c (perfEvent (portDie p) 0x0A0 1 d))

/-- R401, R403: does this twin send on the port? The SecYs of a cipher port are judged one by one when they are
classified; a plain port by its home. -/
def portServed (p : Nat) (d : Dev) : Bool := decide (96 ≤ p) || isCipher p d || servesHome (livePort p d).home d

/-- R252: the port can start a frame. -/
def transmitSelect (p : Port) (o : Otp) (d : Dev) : Dev :=
  let n := portNum p
  let x := portSt n d
  if n = 96 || !awake d || !formed n d || Map.has d.que.sending n then d
  else if x.state ≠ .up ∨ squelched n d = true ∨ portServed n d = false then dropPort n d
  else if x.lossAt.isSome || decide (Map.get d.obs.loopback n 0 = 2) then d
  else if n = 97 then selectMgt o d
  else selectPort o n d

def execPortTransmitSelect (p : Port) (s : State) : Host.Outcome State Fault Refusal := onOtp (transmitSelect p) s

/-! ### FRAME_TX_END (R223, R301, R302) -/

/-- R302: the FIFO entry of a departed frame. -/
def txStamp (x : Sending) (cookie : Nat) : TxStamp :=
  let fl := x.flags + (if x.stomp then 8 else 0)
  match ptpRef x.frame.data with
  | some r => ⟨tsOf x.tOut, ptpSeq x.frame.data r, fld x.frame.data r.off 1, fld x.frame.data (r.off + 4) 1,
      (ptpSource x.frame.data r).2, fl, cookie⟩
  | none => ⟨tsOf x.tOut, 0, 0, 0, 0, fl, cookie⟩

/-- R301: write the entry into the FIFO of its requester, or lose it. -/
def pushStamp (p : Nat) (x : Sending) (d : Dev) : Dev :=
  match x.frame.stampFor with
  | none => d
  | some (host, cookie) =>
    let l := Map.get (if host then d.ts.fifoHost else d.ts.fifoFw) p []
    let l' := l ++ [txStamp x cookie]
    if 64 ≤ l.length then
      let d := bump .ts (portDie p) 8 d
      if host then
        let d := bump .ptp p 3 d
        { d with ts := { d.ts with hostLost := Map.upd d.ts.hostLost p 0 (· + 1) } }
      else d
    else if host then { d with ts := { d.ts with fifoHost := Map.put d.ts.fifoHost p l' } }
    else { d with ts := { d.ts with fifoFw := Map.put d.ts.fifoFw p l' } }

/-- R223: the FCS a frame leaves with. -/
def sentFcs (x : Sending) : Bytes := if x.stomp then (fcsOf x.wire).map (fun b => ~~~b) else fcsOf x.wire

/-- R223, R224, R234: count a frame that has left. -/
def countSent (p : Nat) (x : Sending) (d : Dev) : Dev :=
  let d := bumpBy .port p 3 (x.wire.length + 4) (bump .port p 2 d)
  let d := if x.stomp then bump .port p 9 d else d
  let d := match x.frame.stomp with | some slot => bump .fab (portDie p) slot d | none => d
  if x.frame.mirror.isSome then bump .fport p 2 (bump .fab (portDie p) 9 d) else d

/-- R309: what the spatula carried for a patched frame proves faulty: the frame is stomped, counted and recorded. -/
def patchFault (p : Nat) (x : Sending) (d : Dev) : Sending × Dev :=
  let k := x.frame.slot.getD 0
  ({ x with stomp := true }, record 0x130 (portTarget p) (le 1 (b2n (saRx k)) ++ le 1 (saAn k) ++ le 2 (saSc k)) (bump .ts (portDie p) 9 d))

/-- R460: what becomes of a frame's blocks as it leaves. -/
def tallySent (x : Sending) (d : Dev) : Dev := if x.stomp then d else retireTallies x.frame d

/-- R223, R301, R309, R471: the last bit of the frame being sent leaves; `fault` tells of an error in what the spatula carried for
its patch. -/
def frameTxEnd (p : Port) (fault : Bool) (o : Otp) (d : Dev) : Dev :=
  let n := portNum p
  match Map.get? d.que.sending n with
  | none => d
  | some x =>
    let d := waitTicks x.ends d
    let (x, d) := if fault && x.patched then patchFault n x d else (x, d)
    let d := { d with que := { d.que with sending := Map.del d.que.sending n } }
    let d := tallySent x (pushStamp n x (countSent n x d))
    let d := if x.frame.unverified.isEmpty then d
      else { d with mem := { d.mem with departed := d.mem.departed ++ [x.frame] } }
    let bytes := x.wire ++ sentFcs x
    if Map.get d.obs.loopback n 0 = 1 then
      if portReceives n d then receiveOn o n { port := p, bytes := bytes } d else d
    else emit (.frame n bytes x.stomp) d

def execFrameTxEnd (p : Port) (fault : Bool) (s : State) : Host.Outcome State Fault Refusal := onOtp (frameTxEnd p fault) s

end Sys2Proof.Machine
end

