-- ==== Sys2Proof/Machine/Stockpot.lean ====
section
/-! DEFINITION. Sys2Proof/Machine/Stockpot.lean: the protected stockpot: the memory cipher and the counter tree (R350 to
R359), alarms and quarantine (R360, R364, R366), re-keys (R362, R363), and the MEMORY commands (R370 to R373). -/
namespace Sys2Proof.Machine

/-! ### Granules and blocks (R353 to R355) -/

/-- R354: a counter block: domain, granule, write counter, AES block. -/
def ctrBlock (domain granule w j : Nat) : Bytes := be 16 (domain * 2 ^ 124 + granule % 2 ^ 27 * 2 ^ 97 + w % 2 ^ 28 * 2 ^ 69 + j)

/-- R354: a granule in counter mode (the same each way). -/
def granuleCrypt (ke : Bytes) (granule w : Nat) (data : Bytes) : Bytes :=
  xorB data ((List.range 4).flatMap (fun j => aesEnc ke (ctrBlock 1 granule w j)))

/-- R355: the MAC of a granule. -/
def granuleMac (km : Bytes) (granule w : Nat) (ct : Bytes) : Bytes := (aesCmac km (ctrBlock 2 granule w 0 ++ ct)).take 7

/-- The eight granules of a block. -/
def granules (block : Nat) : List Nat := (List.range 8).map (8 * block + ·)

/-- Encrypt or decrypt a block under a key and write counter. -/
def blockCrypt (ke : Bytes) (block w : Nat) (data : Bytes) : Bytes :=
  (List.range 8).flatMap (fun g => granuleCrypt ke (8 * block + g) w (slice data (64 * g) 64))

/-- The MACs of a block's granules. -/
def blockMacs (km : Bytes) (block w : Nat) (ct : Bytes) : List Bytes :=
  (List.range 8).map (fun g => granuleMac km (8 * block + g) w (slice ct (64 * g) 64))

/-! ### The tree (R356 to R358) -/

/-- The place of a node of level 0 to 3. -/
def nodePlace (level n : Nat) : Nat := 2 ^ 20 * level + n

/-- R356: the node of a level above a block. -/
def nodeOf (level block : Nat) : Nat := block / 16 ^ (level + 1)

/-- A node whose counters are all 0, as initialised. -/
def Node.init : Node := ⟨[], false, false, []⟩

/-- A node. -/
def node (level n : Nat) (d : Dev) : Node := Map.get d.mem.nodes (nodePlace level n) Node.init

/-- Store a node. -/
def setNode (level n : Nat) (x : Node) (d : Dev) : Dev :=
  { d with mem := { d.mem with nodes := Map.put d.mem.nodes (nodePlace level n) x } }

/-- Counter `i` of a node of levels 0 to 3; counters above level 3 stay at zero (R356). -/
def nodeCounter (level n i : Nat) (d : Dev) : Nat := if 4 ≤ level then 0 else Map.get (node level n d).counters i 0

/-- R353: the write counter of a block. -/
def blockCounter (block : Nat) (d : Dev) : Nat := nodeCounter 0 (block / 16) (block % 16) d

/-- R357: the MAC of a node under a key, its counters and its parent's counter. -/
def nodeMac (km : Bytes) (level n parent : Nat) (counters : Map Nat) : Bytes :=
  let v := counters.foldl (fun a e => a + e.2 % 2 ^ 28 * 2 ^ (28 * e.1)) 0
  let cb := be 16 (3 * 2 ^ 124 + (level * 2 ^ 20 + n) % 2 ^ 27 * 2 ^ 97 + parent % 2 ^ 28 * 2 ^ 69)
  (aesCmac km (cb ++ le 56 v)).take 8

/-- The region of a block, and of a node of levels 0 to 3. -/
def blockRegion (block : Nat) : Nat := block / regionBlocks
def nodeRegion (level n : Nat) : Nat := n * 16 ^ (level + 1) / regionBlocks

/-- R358: write a dirty node back: its counter in its parent rises, its MAC is made, the parent becomes dirty. -/
def writeBack (level n : Nat) (d : Dev) : Dev :=
  let parent := n / 16
  let i := n % 16
  let pc := nodeCounter (level + 1) parent i d + 1
  let p := node (level + 1) parent d
  let d := setNode (level + 1) parent { p with counters := Map.put p.counters i pc, dirty := true } d
  let x := node level n d
  setNode level n { x with dirty := false, cached := false,
                           mac := nodeMac (region (nodeRegion level n) d).km level n pc x.counters } d

/-- R358: nodes of levels 0 to 2 in the cache. -/
def cachedNodes (d : Dev) : List Nat :=
  (d.mem.nodes.filter (fun e => decide (e.1 < 3 * 2 ^ 20) && e.2.cached)).map (·.1)

/-- Has a cached node a child in the cache? -/
def hasCachedChild (place : Nat) (d : Dev) : Bool :=
  let level := place / 2 ^ 20
  if level = 0 then false
  else (List.range 16).any (fun i => (node (level - 1) (place % 2 ^ 20 * 16 + i) d).cached)

/-- R358: evict one node. Which node leaves is open; one without a cached child, and not of the path being fetched,
does. -/
def evictOne (keep : List Nat) (d : Dev) : Dev :=
  let cs := (cachedNodes d).filter (fun k => !keep.contains k && !hasCachedChild k d)
  let (v, d) := fresh d
  match cs[v % cs.length]? with
  | none => d
  | some k =>
    let x := node (k / 2 ^ 20) (k % 2 ^ 20) d
    if x.dirty then writeBack (k / 2 ^ 20) (k % 2 ^ 20) d else setNode (k / 2 ^ 20) (k % 2 ^ 20) { x with cached := false } d

/-- R358: bring the path of a block into the cache, counting hits and misses. -/
def fetchPath (block : Nat) (d : Dev) : Dev :=
  let path := [2, 1, 0].map (fun l => nodePlace l (nodeOf l block))
  path.foldl (fun d k =>
    let x := node (k / 2 ^ 20) (k % 2 ^ 20) d
    if x.cached then perfEvent 4 0x212 1 d
    else
      let d := if 32496 ≤ (cachedNodes d).length then evictOne path d else d
      setNode (k / 2 ^ 20) (k % 2 ^ 20) { x with cached := true } (perfEvent 4 0x213 1 (bump .mem 0 2 d))) d

/-! ### Writes and reads (R353) -/

/-- R353: write one block of 512 bytes. -/
def blockWrite (block : Nat) (data : Bytes) (d : Dev) : Dev :=
  let d := fetchPath block d
  let leaf := node 0 (block / 16) d
  let w := Map.get leaf.counters (block % 16) 0 + 1
  let r := region (blockRegion block) d
  let ct := blockCrypt r.ke block w (slice data 0 512)
  let d := setNode 0 (block / 16) { leaf with counters := Map.put leaf.counters (block % 16) w, dirty := true } d
  { d with mem := { d.mem with blocks := Map.put d.mem.blocks block ⟨ct, blockMacs r.km block w ct⟩ } }
    |> bump .mem 0 0 |> perfEvent 4 0x211 1

/-- The line die a block's data comes from: the owner of its region, or the die whose egg timer holds its frame. -/
def blockOwner (block : Nat) (d : Dev) : Nat :=
  match d.act.egg.find? (fun h => h.frame.blocks.contains block) with
  | some h => h.die
  | none => (region (blockRegion block) d).owner

/-- R353: the oldest gathered block is written. -/
def stockpotBlockWrite (d : Dev) : Dev :=
  match d.mem.writes with
  | [] => d
  | (block, data) :: rest =>
    let d := { d with mem := { d.mem with writes := rest } }
    perfEvent (blockOwner block d) 0x092 8 (blockWrite block data d)

def execStockpotBlockWrite (s : State) : Host.Outcome State Fault Refusal := onDev stockpotBlockWrite s

/-- R353: the plaintext of a block; zeros where w = 0. -/
def blockRead (block : Nat) (d : Dev) : Bytes :=
  let w := blockCounter block d
  match w, Map.get? d.mem.blocks block with
  | 0, _ => zeros 512
  | w, some b => blockCrypt (region (blockRegion block) d).ke block w b.ct
  | _, none => zeros 512

/-- R359: do the granule MACs of a block verify? -/
def blockVerifies (block : Nat) (d : Dev) : Bool :=
  let w := blockCounter block d
  match Map.get? d.mem.blocks block with
  | some b => w = 0 || decide (b.macs = blockMacs (region (blockRegion block) d).km block w b.ct)
  | none => decide (w = 0)

/-- R367: the stored ciphertext from an address; bytes never written read as zero. -/
def cipherView (a n : Nat) (d : Dev) : Bytes :=
  (List.range n).map (fun i =>
    match Map.get? d.mem.blocks ((a + i) / 512) with | some b => b.ct.getD ((a + i) % 512) 0 | none => 0)

/-- The blocks that hold a range of bytes. -/
def blocksIn (a n : Nat) : List Nat := if n = 0 then [] else (List.range ((a + n - 1) / 512 - a / 512 + 1)).map (a / 512 + ·)

/-- R359: fetch and count the read of a block. -/
def countRead (block : Nat) (d : Dev) : Dev := perfEvent 4 0x210 1 (bump .mem 0 1 (fetchPath block d))

/-- R353, R367: a firmware DMA write: each block it touches in part is read, verified and modified. -/
def memWritePlain (a : Nat) (data : Bytes) (d : Dev) : Dev :=
  (blocksIn a data.length).foldl (fun d b =>
    let lo := max a (512 * b)
    let hi := min (a + data.length) (512 * b + 512)
    let d := if hi - lo < 512 then countRead b d else d
    blockWrite b (splice (blockRead b d) (lo - 512 * b) (slice data (lo - a) (hi - lo))) d) d

/-- R353, R367: the first block of a firmware transfer whose read fails its verification; a write reads the blocks it does not
fill. -/
def firstBad (a n : Nat) (write : Bool) (d : Dev) : Option Nat :=
  (blocksIn a n).find? (fun b => !(write && decide (a ≤ 512 * b ∧ 512 * b + 512 ≤ a + n)) && !blockVerifies b d)

/-- R367: the plaintext that a firmware DMA read returns. -/
def memReadPlain (a n : Nat) (d : Dev) : Bytes := (List.range n).map (fun i => (blockRead ((a + i) / 512) d).getD ((a + i) % 512) 0)

/-! ### Reading spilled frames back (R214, R338) -/

/-- Is any block of a frame still to be written? -/
def unwritten (f : Frame) (d : Dev) : Bool := d.mem.writes.any (fun w => f.blocks.contains w.1)

/-- R359: count the reads of a frame's blocks, and mark it read back with its blocks to be verified. -/
def readFrame (die : Nat) (f : Frame) (d : Dev) : Frame × Dev :=
  let n := f.blocks.length
  let d := f.blocks.foldl (fun d b => fetchPath b d) d
  ({ f with readBack := true, unverified := f.blocks },
    oweSpill die 0 (512 * n) (perfEvent die 0x093 (8 * n) (perfEvent 4 0x210 n (bumpBy .mem 0 1 n d))))

/-- R214: is a queue eligible for scheduling, but for what is still to be read? -/
def queueServable (q : Nat) (d : Dev) : Bool :=
  match queueHead (queueAt q d) d with
  | none => false
  | some (_, x) => (candidates x.port d).any (fun c => decide (c.q = q) && servable x.port d c)

/-- R214: the first frame of a queue that may be read into its 16 KiB prefetch buffer. -/
def prefetchNext (q : Nat) (d : Dev) : Option Frame :=
  let fs := (queueAt q d).frames
  let held := ((fs.filter (fun f => f.readBack)).map (fun f => f.data.length + 4)).sum
  match fs.find? (fun f => f.spilled && !f.readBack) with
  | some f => if held + f.data.length + 4 ≤ 16384 ∧ unwritten f d = false then some f else none
  | none => none

/-- R214: read a spilled queue ahead. -/
def prefetch (q : Nat) : Nat → Dev → Dev
  | 0, d => d
  | n + 1, d =>
    match prefetchNext q d with
    | none => d
    | some f =>
      let (f', d) := readFrame (queueDie q) f d
      let y := queueAt q d
      prefetch q n (setQueue q { y with frames := y.frames.map (fun g => if g.id = f.id then f' else g) } d)

/-- R214. -/
def spillReadback (die queue : Nat) (d : Dev) : Dev :=
  let q := 2 ^ 18 * die + queue % 2 ^ 18
  if queueServable q d then prefetch q (queueAt q d).frames.length d else d

def execSpillReadback (die : Fin 4) (queue : Nat) (s : State) : Host.Outcome State Fault Refusal :=
  onDev (spillReadback die.val queue) s

/-! ### Alarms (R360) -/

/-- Frames with data in blocks that pass a test: waiting, sending, held, and departed. -/
def touches (p : Nat → Bool) (f : Frame) : Bool := f.blocks.any p

/-- R360: the data of STOCKPOT_ALARM for a frame. -/
def alarmData (block cause level outcome : Nat) (f : Frame) : Bytes :=
  let secy := match secyOfCode f.dest with | some n => n % 2048 | none => 0xFFFF
  let an := match f.slot with | some k => saAn k | none => 0xFF
  le 8 (512 * block) ++ le 1 (blockRegion block) ++ le 1 cause ++ le 1 level ++ le 1 outcome ++ le 4 (f.queue % 2 ^ 20)
    ++ le 4 (match destPort f.dest with | some p => portTarget p | none => 0) ++ le 2 secy ++ le 1 an ++ zeros 1 ++ le 8 f.pn ++ zeros 8

/-- R360: one alarm for a frame with its outcome: 0 dropped, 1 stomped, 2 departed. -/
def raiseAlarm (block cause level outcome : Nat) (d : Dev) (f : Frame) : Dev :=
  let d := bump .mem 0 (match outcome with | 0 => 10 | 1 => 8 | _ => 9) (bump .mem 0 7 d)
  notifyRecord 0x60 (dieTarget 8) (alarmData block cause level outcome f)
    { d with mem := { d.mem with lastAlarm := now d } }

/-- Frames that wait in queues or in the egg timer. -/
def notStarted (d : Dev) : List Frame := waitingFrames d ++ d.act.egg.map (·.frame)

/-- Drop the frames not yet started that pass a test, and stomp those leaving. -/
def cutFrames (p : Frame → Bool) (d : Dev) : Dev :=
  let d := stompSending (fun s => p s.frame) (keepFrames (fun f => !p f) d)
  { d with act := { d.act with egg := d.act.egg.filter (fun h => !p h.frame) } }

/-- R360: raise the late alarm for every frame that holds data of blocks that pass a test. -/
def lateAlarm (block cause level : Nat) (hit : Nat → Bool) (d : Dev) : Dev :=
  let p (f : Frame) : Bool := touches hit f
  let waiting := (notStarted d).filter p
  let leaving := (d.que.sending.map (·.2.frame)).filter p
  let gone := d.mem.departed.filter p
  let d := cutFrames p d
  let d := waiting.foldl (raiseAlarm block cause level 0) d
  let d := leaving.foldl (raiseAlarm block cause level 1) d
  let d := gone.foldl (raiseAlarm block cause level 2) d
  { d with mem := { d.mem with departed := d.mem.departed.filter (fun f => !p f) } }

/-! ### Quarantine and rebuild (R366) -/

/-- Grand ticks in 24 h. -/
def dayTicks : Nat := 1250000000 * 86400

/-- R366: quarantines of a region in the last 24 h. -/
def recentQuarantines (x : Region) (d : Dev) : List Nat := x.quarantines.filter (fun t => decide (d.time.elapsed < t + dayTicks))

/-- R366, R368: quarantine a region: it leaves allocation, a re-key of it ends, and its frames are dropped or stomped. -/
def quarantine (r cause : Nat) (d : Dev) : Dev :=
  let x := region r d
  if x.state = .quarantined ∨ x.state = .heldOut ∨ x.state = .rebuilding then d
  else
    let p (f : Frame) : Bool := touches (fun b => decide (blockRegion b = r)) f
    let n := ((notStarted d).filter p).length
    let m := ((d.que.sending.map (·.2)).filter (fun s => p s.frame && !s.stomp)).length
    let d := bumpBy .mem 0 8 m (bumpBy .mem 0 10 n (cutFrames p d))
    let qs := recentQuarantines x d ++ [d.time.elapsed]
    let d := setRegion r { x with state := .quarantined, quarantines := qs, next := none, handle := none } d
    let d := { d with mem := { d.mem with queue := d.mem.queue.filter (· ≠ r) } }
    let d := match x.handle with | some h => complete h .internalError [] d | none => d
    notifyRecord 0x61 (dieTarget 8) (le 1 r ++ le 1 cause ++ le 1 (b2n (decide (3 ≤ qs.length))) ++ zeros 1 ++ le 4 n)
      (bump .mem 0 11 d)

/-- R366: does any frame refer to a region? -/
def regionReferred (r : Nat) (d : Dev) : Bool :=
  (usedBlocks d).any (fun b => decide (blockRegion b = r)) || d.mem.writes.any (fun w => decide (blockRegion w.1 = r))

/-- Draw a region's key pair (R352). -/
def drawPair (d : Dev) : (Bytes × Bytes) × Dev :=
  let (a, d) := freshBytes 32 d
  let (b, d) := freshBytes 32 d
  ((a, b), d)

/-- R362, R366: every counter of a region returns to 0. -/
def clearNodes (r : Nat) (d : Dev) : Dev :=
  { d with mem := { d.mem with nodes := d.mem.nodes.filter (fun e =>
      decide (nodeRegion (e.1 / 2 ^ 20) (e.1 % 2 ^ 20) ≠ r)) } }

/-- A region under a new key pair, every counter 0. -/
def freshRegion (r : Nat) (st : RegionState) (d : Dev) : Dev :=
  let (k, d) := drawPair d
  let x := region r d
  setRegion r { x with state := st, ke := k.1, km := k.2, epoch := x.epoch + 1, next := none } (clearNodes r d)

/-- R366 step 3: rebuild a quarantined region that nothing refers to, or hold it out; R155, R372: a return that waits for
the TRNG starts its rebuild. -/
def regionRebuild (r : Nat) (d : Dev) : Dev :=
  let x := region r d
  let drop (d : Dev) : Dev :=
    { d with mem := { d.mem with writes := d.mem.writes.filter (fun w => decide (blockRegion w.1 ≠ r)) } }
  if x.state = .heldOut ∧ x.handle.isSome ∧ d.vault.trng = 0 then freshRegion r .rebuilding d
  else if x.state ≠ .quarantined then d
  else
    let d := drop d
    if regionReferred r d then d
    else if 3 ≤ (recentQuarantines x d).length then setRegion r { x with state := .heldOut } d
    else if d.vault.trng ≠ 0 then d
    else freshRegion r .rebuilding d

def execRegionRebuild (region : Fin 128) (s : State) : Host.Outcome State Fault Refusal := onDev (regionRebuild region.val) s

/-- R371, R372: the result of a re-key or a return. -/
def regionResult (r : Nat) (d : Dev) : Bytes := le 4 (region r d).epoch ++ (now d).bytes

/-- R366: the rebuild ends. One that fails quarantines the region anew. -/
def regionRebuildComplete (r : Nat) (passed : Bool) (d : Dev) : Dev :=
  let x := region r d
  if x.state ≠ .rebuilding then d
  else if passed then
    let d := setRegion r { x with state := .inService, handle := none } d
    match x.handle with | some h => complete h .ok (regionResult r d) d | none => d
  else quarantine r 2 (setRegion r { x with state := .inService } d)

def execRegionRebuildComplete (region : Fin 128) (passed : Bool) (s : State) : Host.Outcome State Fault Refusal :=
  onDev (regionRebuildComplete region.val passed) s

/-! ### Verification (R359, R364) -/

/-- R359: a block has verified: the frames that waited for it no longer do. -/
def blockPassed (block : Nat) (d : Dev) : Dev :=
  let ok (f : Frame) : Frame := { f with unverified := f.unverified.filter (· ≠ block) }
  let d := mapFrames ok d
  let fix (s : Sending) : Sending := { s with frame := ok s.frame }
  { d with
    que := { d.que with sending := Map.mapVals d.que.sending fix }
    act := { d.act with egg := d.act.egg.map (fun h =>
      let f := ok h.frame
      { h with frame := f, verified := h.verified || (h.readBack && f.unverified.isEmpty) }) }
    mem := { d.mem with departed := (d.mem.departed.map ok).filter (fun f => !f.unverified.isEmpty) } }

/-- Is the block being verified? -/
def verifying (block : Nat) (d : Dev) : Bool :=
  (allFrames d ++ d.act.egg.map (·.frame) ++ d.mem.departed).any (fun f => f.unverified.contains block)

/-- R364: the blocks under a node of a level above a block. -/
def under (level block : Nat) (b : Nat) : Bool := decide (nodeOf level b = nodeOf level block)

/-- R364: the regions under a node of a level above a block. -/
def regionsUnder (level block : Nat) : List Nat :=
  (List.range 128).filter (fun r => decide (nodeOf level (r * regionBlocks) = nodeOf level block) ||
    decide (r = blockRegion block))

/-- R360, R364, R367: a granule MAC does not match. -/
def readFailure (block : Nat) (d : Dev) : Dev :=
  quarantine (blockRegion block) 1 (lateAlarm block 1 0xFF (fun b => decide (b = block)) (bump .mem 0 6 d))

/-- R359, R360, R364: the verification of a block ends. -/
def verifyComplete (block : Nat) (out : VerifyOutcome) (d : Dev) : Dev :=
  if !verifying block d then d
  else match out with
  | .passed => blockPassed block d
  | .corrected => blockPassed block (bump .mem 0 3 d)
  | .eccData =>
    let d := bump .mem 0 4 d
    blockPassed block (cutFrames (touches (fun b => decide (b = block))) d)
  | .eccNode l =>
    let d := lateAlarm block 3 l.val (under l.val block) (bump .mem 0 5 d)
    (regionsUnder l.val block).foldl (fun d r => quarantine r 3 d) d
  | .macGranule => readFailure block d
  | .macNode l => quarantine (blockRegion block) 2 (lateAlarm block 2 l.val (fun b => decide (b = block)) (bump .mem 0 6 d))

def execStockpotVerifyComplete (block : Nat) (outcome : VerifyOutcome) (s : State) : Host.Outcome State Fault Refusal :=
  onDev (verifyComplete block outcome) s

/-! ### Re-keys (R362, R363) -/

/-- The highest counter of levels 0 to 3 of a region (R362, R370). -/
def maxCounter (r : Nat) (d : Dev) : Nat :=
  d.mem.nodes.foldl (fun a e =>
    if nodeRegion (e.1 / 2 ^ 20) (e.1 % 2 ^ 20) = r then e.2.counters.foldl (fun a c => max a c.2) a else a) 0

/-- Put a region into the re-key queue, out of allocation. -/
def awaitRekey (r : Nat) (h : Option Nat) (d : Dev) : Dev :=
  let d := setRegion r { region r d with state := .waiting, handle := h } d
  { d with mem := { d.mem with queue := d.mem.queue ++ [r] } }

/-- R362: a counter of a region has reached 2^28 − 2^16. -/
def rekeyTrigger (r : Nat) (d : Dev) : Dev :=
  if (region r d).state = .inService ∧ 268369920 ≤ maxCounter r d then awaitRekey r none d else d

def execRekeyTrigger (region : Fin 128) (s : State) : Host.Outcome State Fault Refusal := onDev (rekeyTrigger region.val) s

/-- The region being re-keyed, if any. -/
def rekeying (d : Dev) : Option Nat := (d.mem.regions.find? (fun e => decide (e.2.state = .rekeying))).map (·.1)

/-- R363: the next waiting region gets its new key pair and the engine starts; while no key can be drawn it waits (R155, R368). -/
def rekeyStart (d : Dev) : Dev :=
  match d.mem.queue with
  | [] => d
  | r :: rest =>
    if (rekeying d).isSome ∨ d.vault.trng ≠ 0 then d
    else
      let (k, d) := drawPair d
      let x := region r d
      let d := setRegion r { x with state := .rekeying, next := some k, epoch := x.epoch + 1 } d
      { d with mem := { d.mem with queue := rest } }

def execRekeyStart (s : State) : Host.Outcome State Fault Refusal := onDev rekeyStart s

/-- R362 steps 3 and 4: rewrite the blocks of a region that hold frame data under its new key, with w = 1. The
rebuilt nodes of levels 1 to 3 start from 0. -/
def rewriteRegion (r : Nat) (k : Bytes × Bytes) (d : Dev) : Dev :=
  let held := ((usedBlocks d).filter (fun b => decide (blockRegion b = r) && decide (blockCounter b d ≠ 0))).eraseDups
  let plain := held.map (fun b => (b, blockRead b d))
  let d := clearNodes r d
  let d := plain.foldl (fun d e =>
    let ct := blockCrypt k.1 e.1 1 e.2
    let leaf := node 0 (e.1 / 16) d
    let d := setNode 0 (e.1 / 16) { leaf with counters := Map.put leaf.counters (e.1 % 16) 1 } d
    { d with mem := { d.mem with blocks := Map.put d.mem.blocks e.1 ⟨ct, blockMacs k.2 e.1 1 ct⟩ } }) d
  { d with mem := { d.mem with nodes := d.mem.nodes.map (fun e =>
      if e.1 < 2 ^ 20 ∧ nodeRegion 0 e.1 = r then (e.1, { e.2 with mac := nodeMac k.2 0 e.1 0 e.2.counters }) else e) } }

/-- R362: the engine has rewritten the region: it returns to allocation. A block whose MACs do not verify under the old
key ends the re-key and quarantines the region. -/
def rekeyComplete (d : Dev) : Dev :=
  match rekeying d with
  | none => d
  | some r =>
    let x := region r d
    let held := (usedBlocks d).filter (fun b => decide (blockRegion b = r))
    if held.any (fun b => !blockVerifies b d) then quarantine r 1 (bump .mem 0 6 d)
    else
      match x.next with
      | none => d
      | some k =>
        let d := rewriteRegion r k d
        let d := bump .mem 0 12 (setRegion r { x with state := .inService, ke := k.1, km := k.2, next := none, handle := none } d)
        match x.handle with | some h => complete h .ok (regionResult r d) d | none => d

def execRekeyComplete (s : State) : Host.Outcome State Fault Refusal := onDev rekeyComplete s

/-! ### Clearing (R352, R368) -/

/-- R352: draw keys for every region and initialise the tree; regions of a die that failed its training are held out. -/
def initStockpot (ok : Bool) (d : Dev) : Dev :=
  let d := { d with mem := { d.mem with regions := [], queue := [], nodes := [], writes := [], departed := [] } }
  (List.range 128).foldl (fun d r =>
    let d := setRegion r ⟨regionOwner r d, .heldOut, [], [], 0, [], none, none⟩ d
    if ok then freshRegion r .inService d else d) d

/-- R368: TZERO clears the region keys; every spilled frame is dropped; new keys and the tree follow within 10 ms. R164: a
re-key or a return that this ends completes with TAMPER_HELD. -/
def stockpotZero (d : Dev) : Dev :=
  let n := ((notStarted d).filter Frame.spilled).length
  let m := ((d.que.sending.map (·.2.frame)).filter (fun f => f.spilled && !f.unverified.isEmpty)).length
  let d := bumpBy .mem 0 8 m (bumpBy .mem 0 10 n d)
  let d := stompSending (fun s => s.frame.spilled && !s.frame.unverified.isEmpty)
    (keepFrames (fun f => !f.spilled) d)
  let d := { d with
    act := { d.act with egg := d.act.egg.filter (fun h => !h.frame.spilled) }
    mem := { d.mem with writes := [], departed := [], nodes := [], queue := [], rebuildUntil := d.time.elapsed + ticksMs 10 } }
  (List.range 128).foldl (fun d r =>
    match Map.get? d.mem.regions r with
    | none => d
    | some x =>
      let d := match x.handle with | some h => complete h .tamperHeld [] d | none => d
      let (k, d) := drawPair d
      let st : RegionState := if x.state = .heldOut then .heldOut else .inService
      setRegion r { x with ke := k.1, km := k.2, epoch := x.epoch + 1, next := none, handle := none, state := st } d) d

/-! ### MEMORY commands -/

/-- R370: the state code. -/
def regionCode : RegionState → Nat
  | .inService => 0 | .waiting => 1 | .rekeying => 2 | .quarantined => 3 | .rebuilding => 4 | .heldOut => 5

/-- R370: one region's entry. -/
def regionEntry (d : Dev) (r : Nat) : Bytes :=
  let x := region r d
  let used := ((usedBlocks d).filter (fun b => decide (blockRegion b = r))).eraseDups.length
  le 1 (regionOwner r d) ++ le 1 (regionCode (shownState r d)) ++ le 2 (min 3 (recentQuarantines x d).length) ++ le 4 x.epoch
    ++ le 4 (maxCounter r d % 2 ^ 28) ++ le 4 ((used + 1) / 2)

/-- R370: MEM_STATUS. -/
def memStatus (d : Dev) : Ans :=
  let rs := List.range 128
  let n := (rs.filter (fun r => decide (shownState r d = .inService))).length
  .ok (le 4 n ++ le 4 (128 - n) ++ le 4 ((rekeying d).getD 0xFFFFFFFF) ++ le 4 d.mem.queue.length ++ d.mem.lastAlarm.bytes
    ++ zeros 4 ++ rs.flatMap (regionEntry d)) d

def execMemStatus (r : Request) (s : State) : Host.Outcome State Fault Refusal :=
  onMailbox { op := 0x0C01, len := 0, awake := true } (fun _ _ d => memStatus d) r s

/-- R371: MEM_REGION_REKEY. -/
def memRegionRekey (c : Ctx) (d : Dev) : Ans :=
  let r := fld c.pl 0 4
  need (decide (r < 128)) .badField <|
  need (decide ((region r d).state ≠ .waiting)) .busy <|
  need (decide (shownState r d = .inService)) .badState <|
  .pend 1000 r (awaitRekey r (some c.handle) d)

def execMemRegionRekey (r : Request) (s : State) : Host.Outcome State Fault Refusal :=
  onMailbox { op := 0x0C02, len := 4, awake := true } (fun c _ d => memRegionRekey c d) r s

/-- R51, R372: MEM_REGION_RETURN; a second one for a region whose return waits is BUSY. -/
def memRegionReturn (c : Ctx) (d : Dev) : Ans :=
  let r := fld c.pl 0 4
  need (decide (r < 128)) .badField <|
  need (decide ((region r d).state = .heldOut)) .badState <|
  need (region r d).handle.isNone .busy <|
  .pend 100 r (
    let d := setRegion r { region r d with handle := some c.handle } d
    if d.vault.trng ≠ 0 then d else freshRegion r .rebuilding d)

def execMemRegionReturn (r : Request) (s : State) : Host.Outcome State Fault Refusal :=
  onMailbox { op := 0x0C03, len := 4, awake := true } (fun c _ d => memRegionReturn c d) r s

/-- R373: MEM_CNT_READ. -/
def execMemCntRead (r : Request) (s : State) : Host.Outcome State Fault Refusal :=
  onMailbox { op := 0x0C04, len := 4, scopes := [.device, .dies [8]], resv := onlyBits 0 4 1 }
    (fun c _ d => .ok (cntBytes .mem 0 14 d) (clearIf (clearFlag 0 c.pl) .mem 0 d)) r s

end Sys2Proof.Machine
end

