-- ==== Sys2Proof/Machine/Egg.lean ====
section
/-! DEFINITION. Sys2Proof/Machine/Egg.lean: constant-delay release (R330, R336 to R339), the commands CD_PEER_SET,
CD_QUERY, ACTION_LIST and EGG_CNT_READ (R346 to R349). -/
namespace Sys2Proof.Machine

/-! ### Held frames -/

/-- Change the held frame of a number. -/
def setHeld (h : Held) (d : Dev) : Dev :=
  { d with act := { d.act with egg := d.act.egg.map (fun x => if x.frame.id = h.frame.id then h else x) } }

/-- Remove a held frame. -/
def dropHeld (h : Held) (d : Dev) : Dev :=
  { d with act := { d.act with egg := d.act.egg.filter (fun x => decide (x.frame.id ≠ h.frame.id)) } }

/-- The held frame of the earliest release, the first to enter of equals. -/
def firstHeld : List Held → Option Held
  | [] => none
  | h :: l => some (l.foldl (fun a x => if x.release < a.release then x else a) h)

/-- R338: a spilled held frame is read back no later than 20 µs before its release. -/
def eggReadback (die : Nat) (d : Dev) : Dev :=
  match firstHeld (d.act.egg.filter (fun h => decide (h.die = die) && h.spilled && !h.readBack && !unwritten h.frame d)) with
  | none => d
  | some h =>
    let d := waitLane h.port (h.release - 20000 * unitsPerNs) d
    let (f, d) := readFrame die h.frame d
    setHeld { h with frame := f, readBack := true } d

def execEggReadback (die : Fin 4) (s : State) : Host.Outcome State Fault Refusal := onDev (eggReadback die.val) s

/-- R336: may a held frame act at its release: its stockpot data verified, and its port free, or taken by another
release? -/
def canRelease (h : Held) (d : Dev) : Bool :=
  (!h.spilled || h.verified) &&
    (match Map.get? d.que.sending h.port with | none => true | some s => s.egg && !h.collided)

/-- R29, R336: the release instant of the next held frame of a die, on the counter of its port's lane island. -/
def eggRelease (die : Nat) (o : Otp) (d : Dev) : Dev :=
  match firstHeld (d.act.egg.filter (fun h => decide (h.die = die) && canRelease h d)) with
  | none => d
  | some h =>
    let d := waitLane h.port h.release d
    if !portSends h.port d || decide (Map.get d.obs.loopback h.port 0 = 2) then bump .egg die 13 (dropHeld h d)
    else if Map.has d.que.sending h.port then bump .egg die 12 (setHeld { h with collided := true } d)
    else
      let d := dropHeld h d
      if stale h.frame h.port d then bump .time 0 11 d
      else
        let d := if h.atOnce || h.collided then d else bump .egg die 2 d
        startFrame o h.port h.frame.cls true h.frame d

def execEggRelease (die : Fin 4) (s : State) : Host.Outcome State Fault Refusal := onOtp (eggRelease die.val) s

/-- R339: a suspension begins on a die: each held frame is treated by its policy. -/
def eggSuspend (die : Nat) (d : Dev) : Dev :=
  (d.act.egg.filter (fun h => decide (h.die = die) && !h.atOnce)).foldl (fun d h =>
    let d := bump .cd h.secy 4 d
    if h.pass then setHeld { h with release := portTime h.port d, atOnce := true } (bump .egg die 10 d)
    else bump .egg die 9 (dropHeld h d)) d

/-- R339: a suspension begins on every die. -/
def eggSuspendAll (d : Dev) : Dev := [0, 1, 2, 3].foldl (fun d die => eggSuspend die d) d

/-! ### Capability and delay of the peer (R330, R331) -/

/-- Does the peer request stamping, and which delays does it announce? No peer known: none. -/
def cdPeerOf (n : Nat) (p : SecyPrm) (d : Dev) : Option (Bool × List Nat) :=
  if p.hostKeying then
    (Map.get? d.act.cdPeer n).map (fun x => (x.1, if x.2 = 0 then [] else [x.2]))
  else match Map.get? d.prot.mka n with
    | none => none
    | some m =>
      if m.peers.isEmpty then none
      else some (m.peers.all (fun x => match x.cd with | some (r, _) => r | none => false),
        m.peers.filterMap (fun x => match x.cd with | some (r, v) => if r && v ≠ 0 then some v else none | none => none))

/-- R330: the capability of a SecY and of its peer differ. -/
def capDiffers (n : Nat) (p : SecyPrm) (d : Dev) : Bool :=
  match cdPeerOf n p d with
  | none => false
  | some (req, _) => decide (p.cd.mode = 1) != req

/-- R330: the delay the peer announces that differs from D. -/
def delayDiffers (n : Nat) (p : SecyPrm) (d : Dev) : Option Nat :=
  match cdPeerOf n p d with
  | none => none
  | some (req, l) => if p.cd.mode = 1 ∧ req = true then l.find? (· ≠ p.cd.delay) else none

/-- R330: judge a SecY; a mismatch is counted, recorded and notified when it arises. -/
def cdJudge (n : Nat) (d : Dev) : Dev :=
  match Map.get? (prm d).secys n with
  | none => d
  | some p =>
    let die := portDie p.port
    let cap := capDiffers n p d
    let newCap := cap && !d.act.capMis.contains n
    let d := { d with act := { d.act with capMis := if cap then (if newCap then d.act.capMis ++ [n] else d.act.capMis)
                                                    else d.act.capMis.filter (· ≠ n) } }
    let req := match cdPeerOf n p d with | some (r, _) => r | none => false
    let d := if newCap then record 0x131 (portTarget p.port) (le 2 p.index ++ le 1 (b2n req)) (bump .egg die 15 d) else d
    match delayDiffers n p d with
    | none => { d with act := { d.act with delayMis := d.act.delayMis.filter (· ≠ n) } }
    | some v =>
      if d.act.delayMis.contains n then d
      else
        let d := { d with act := { d.act with delayMis := d.act.delayMis ++ [n] } }
        notifyRecord 0x51 (portTarget p.port) (le 2 p.index ++ zeros 2 ++ le 4 p.cd.delay ++ le 4 v) (bump .egg die 16 d)

/-- R330: judge every SecY, after a swap. -/
def cdJudgeAll (d : Dev) : Dev := ((prm d).secys.map (·.1)).foldl (fun d n => cdJudge n d) d

/-- The SecY that a command of a cipher port names. -/
def cdSecy (c : Ctx) (d : Dev) : Option SecyPrm :=
  match secyPrm c.target.dieNo (fld c.pl 0 2) d with
  | some p => if p.port = c.target.portNo then some p else none
  | none => none

/-- R346: CD_PEER_SET. -/
def cdPeerSet (c : Ctx) (d : Dev) : Ans :=
  let i := fld c.pl 0 2
  let n := 2048 * c.target.dieNo + i
  let v := fld c.pl 4 4
  need (decide (i < 2048 ∧ (v = 0 ∨ (2000 ≤ v ∧ v ≤ 100000000)))) .badField <|
  match cdSecy c d with
  | none => .fail .badField
  | some p =>
    need p.hostKeying .badState <|
    .ok [] (cdJudge n { d with act := { d.act with cdPeer := Map.put d.act.cdPeer n (bit (fld c.pl 2 1) 0, v) } })

def execCdPeerSet (r : Request) (s : State) : Host.Outcome State Fault Refusal :=
  onMailbox { op := 0x0B05, len := 8, scopes := [.ports [2, 3]], resv := fun p => onlyBits 2 1 1 p && z 3 1 p }
    (fun c _ d => cdPeerSet c d) r s

/-- R347: CD_QUERY. -/
def cdQuery (c : Ctx) (d : Dev) : Ans :=
  let i := fld c.pl 0 2
  let die := c.target.dieNo
  let n := 2048 * die + i
  need (decide (i < 2048)) .badField <|
  match cdSecy c d with
  | none => .fail .badField
  | some p =>
    let stamps := match txInUse die i d with | some a => (sa (saKey die false i a) d).stamps | none => false
    let fl := b2n (cdConfirmed die i p d) + 2 * b2n stamps + 4 * b2n (d.act.delayMis.contains n) + 8 * b2n p.cd.pass
      + 16 * b2n p.cd.requireLocked
    let v := match cdPeerOf n p d with | some (_, x :: _) => x | _ => 0
    .ok (le 1 p.cd.mode ++ le 1 fl ++ zeros 2 ++ le 4 p.cd.delay ++ le 4 v ++ zeros 4 ++ cntBytes .cd n 5 d ++ zeros 8)
      (clearIf (bit (fld c.pl 2 2) 0) .cd n d)

def execCdQuery (r : Request) (s : State) : Host.Outcome State Fault Refusal :=
  onMailbox { op := 0x0B06, len := 4, scopes := [.ports [2, 3]], resv := onlyBits 2 2 1 }
    (fun c _ d => cdQuery c d) r s

/-! ### ACTION_LIST (R348) -/

/-- A pending scheduled action: instant in 2^-16 ns, kind, target, handle, detail. -/
structure Action where
  at_ : Nat
  kind : Nat
  target : Nat
  handle : Nat
  detail : Nat
  deriving DecidableEq, Repr

/-- R317: the pending scheduled actions. -/
def pendingActions (d : Dev) : List Action :=
  let swap := match d.cfg.swap with
    | some x => match x.handle with | some h => [⟨x.at_ / 65536, 1, deviceTarget, h, 0⟩] | none => []
    | none => []
  let batches := d.prot.batches.map (fun e => ⟨e.2.at_ / 65536, 2, deviceTarget, e.1, e.2.list.length⟩)
  let single := d.prot.switches.filterMap (fun e => e.2.handle.map (fun h =>
    ⟨e.2.at_ / 65536, 3, secySource (e.1 / 2048) (e.1 % 2048) d, h, e.2.an + 65536 * (e.1 % 2048)⟩))
  let keys := d.vault.store.filterMap (fun e => match e.2.pending with
    | some p => match p.at_ with | some g => some ⟨g / 65536, 4, deviceTarget, p.handle.getD 0, e.1⟩ | none => none
    | none => none)
  let gates := d.act.gates.filterMap (fun e => e.2.change.map (fun t => ⟨t, 5, portTarget e.1, 0, 0⟩))
  let pulses := d.time.tpo.filterMap (fun e =>
    if e.2.mode = 1 then e.2.next.map (fun g => ⟨g / 65536, 6, deviceTarget, 0, e.1⟩) else none)
  let step := match d.time.step with | some x => [⟨x.at_ / 65536, 7, deviceTarget, x.handle.getD 0, 0⟩] | none => []
  swap ++ batches ++ single ++ keys ++ gates ++ pulses ++ step

/-- Is the action before another: by instant, then by kind (R319)? -/
def Action.before (a b : Action) : Bool := decide (a.at_ < b.at_ ∨ (a.at_ = b.at_ ∧ a.kind ≤ b.kind))

/-- R348: the bytes of an entry. -/
def Action.bytes (a : Action) : Bytes :=
  (TS96.ofCount a.at_).bytes ++ le 1 a.kind ++ zeros 3 ++ le 4 a.target ++ le 4 a.handle ++ le 4 a.detail ++ zeros 4

/-- Insert an action in order. -/
def insertAction (a : Action) : List Action → List Action
  | [] => [a]
  | b :: l => if b.before a then b :: insertAction a l else a :: b :: l

/-- R348: ACTION_LIST. -/
def actionList (c : Ctx) (d : Dev) : Ans :=
  let stage := fld c.pl 0 4
  let max_ := fld c.pl 4 4
  let all := (pendingActions d).foldl (fun l a => insertAction a l) []
  let out := all.take max_
  need (decide (stage % 32 = 0 ∧ 1 ≤ max_ ∧ max_ ≤ 16384 ∧ stage + 32 * out.length ≤ 4194304)) .badField <|
  .ok (le 4 out.length ++ le 4 all.length) (stagingWrite stage (out.flatMap Action.bytes) d)

def execActionList (r : Request) (s : State) : Host.Outcome State Fault Refusal :=
  onMailbox { op := 0x0B07, len := 8 } (fun c _ d => actionList c d) r s

/-- R349: EGG_CNT_READ. -/
def execEggCntRead (r : Request) (s : State) : Host.Outcome State Fault Refusal :=
  onMailbox { op := 0x0B08, len := 4, scopes := [.dies [0, 1, 2, 3]], resv := onlyBits 0 4 1 }
    (fun c _ d => .ok (cntBytes .egg c.target.dieNo 18 d) (clearIf (clearFlag 0 c.pl) .egg c.target.dieNo d)) r s

end Sys2Proof.Machine
end

