-- ==== Sys2Proof/Machine/Time.lean ====
section
/-! DEFINITION. Sys2Proof/Machine/Time.lean: states of device time (R270 to R275), steps (R272, R273), PPSIN and TOD
(R276, R277), pulses and captures (R278, R279), and the TIME commands (R283 to R292). -/
namespace Sys2Proof.Machine

/-! ### States (R270) -/

/-- R283: the code of a state. -/
def timeCode : TimeState → Nat
  | .freerun => 0 | .acquire => 1 | .track => 2 | .locked => 3 | .holdover => 4

/-- A count of 2^-32 ns as an SNS64 code, truncated toward zero (R267). -/
def sns (x : Int) : Int := x.tdiv 65536

/-- R282, R462: enter a state; each change is notified, and where R270 says so recorded. -/
def timeEnter (st : TimeState) (cause : Nat) (recorded : Bool) (d : Dev) : Dev :=
  let old := d.time.state
  let d := { d with time := { d.time with state := st, since := now d, lockRun := 0, unlockRun := 0 } }
  let data := le 1 (timeCode old) ++ le 1 (timeCode st) ++ le 1 cause ++ zeros 1 ++ le 4 (ofSigned 32 d.time.rate)
    ++ le 8 (ofSigned 64 (sns d.time.lastOffset))
  if recorded then notifyRecord 0x30 deviceTarget data d else notify 0x30 deviceTarget data d

/-- R270: entry into HOLDOVER: the slew remainder is dropped, r is kept. -/
def enterHoldover (cause : Nat) (d : Dev) : Dev :=
  bump .time 0 2 (timeEnter .holdover cause false { d with time := { d.time with slew := 0 } })

/-- R266: set r. -/
def setRate (r : Int) (d : Dev) : Dev := { d with time := { d.time with rate := r, inc := incOf r } }

/-- The largest rate code (R266). -/
def rateMax : Int := 1024000000

/-- R266: the rate code that makes `loc` units of device time read `ref`: the rate in force scaled, to the nearest
code, within range. -/
def rateFor (r : Int) (ref loc : Nat) : Int :=
  let n := (1024000000000 + r) * ref
  max (-rateMax) (min rateMax ((2 * n + loc) / (2 * max loc 1) - 1024000000000))

/-! ### What entry into ACQUIRE cancels (R271), and its end -/

/-- R271: ask for ACQUIRE: the entry instant is the first whole microsecond at least 25 µs ahead. -/
def askAcquire (cause : Nat) (d : Dev) : Dev :=
  if d.time.acquireAt.isSome then d
  else { d with time := { d.time with acquireAt := some (firstWhole 1000 25000 d), acquireCause := cause } }

/-- R271: cancel the pending scheduled actions. -/
def cancelScheduled (d : Dev) : Dev :=
  let d := match d.cfg.swap with
    | some x => match x.handle with
      | some h => complete h .timePassed [] { d with cfg := { d.cfg with swap := none } }
      | none => d
    | none => d
  cancelActivations .timePassed (cancelSwitches true .timePassed (cancelBatches .timePassed d))

/-- R271, R278: pulse outputs rest at their inactive level; a one-shot pulse is cancelled and counted. -/
def restPulses (d : Dev) : Dev :=
  let n := (d.time.tpo.filter (fun e => decide (e.2.mode = 1) && e.2.next.isSome)).length
  let d := d.time.tpo.foldl (fun d e => if e.2.activeUntil.isSome then emit (.pulse e.1 (decide (e.2.polarity = 1))) d else d) d
  bumpBy .time 0 9 n { d with time := { d.time with tpo := Map.mapVals d.time.tpo (fun x =>
    { x with mode := if x.mode = 1 ∧ x.next.isSome = true then 0 else x.mode, next := none, activeUntil := none }) } }

/-- R278: the first instant start + k × period at least 10 µs ahead. -/
def pulseStart (x : Tpo) (d : Dev) : Nat :=
  let s := unitsOf x.start
  let lead := d.time.grand + 10000 * unitsPerNs
  let per := max (x.period * 65536) 1
  if lead ≤ s then s else s + ceilDiv (lead - s) per * per

/-- R320: what resumes when ACQUIRE ends. -/
def acquireEnd (d : Dev) : Dev :=
  let d := onGates gateAcquireEnd d
  let t := d.time.tpo.map (fun e => (e.1, if e.2.mode = 2 then { e.2 with next := some (pulseStart e.2 d) } else e.2))
  { d with time := { d.time with tpo := t } }

/-- R270: acquire_timeout passes. -/
def acquireTimeout (d : Dev) : Dev :=
  if d.time.state ≠ .acquire then d
  else
    let d := waitTicks (d.time.acquireStart + ticksNs (prm d).acquireTimeout) d
    let old := d.time.step
    let d := { d with time := { d.time with step := none, samples := [] } }
    let d := match old with | some x => settle x.handle x.mailbox .timePassed [] d | none => d
    let d := bump .time 0 1 d
    let d := if d.time.stepped then bump .time 0 2 (timeEnter .holdover 3 true { d with time := { d.time with slew := 0 } })
      else timeEnter .freerun 3 true d
    acquireEnd d

def execAcquireTimeout (s : State) : Host.Outcome State Fault Refusal := onDev acquireTimeout s

/-! ### Steps (R272, R273) -/

/-- R35, R272: the line dies that receive a step decided now. -/
def steppedDies (d : Dev) : List Nat := [0, 1, 2, 3].filter (fun k => dieUp k d)

/-- R272: decide a step. -/
def decideStep (x : StepPend) (d : Dev) : Dev := { d with time := { d.time with step := some { x with delivered := steppedDies d } } }

/-- R272: the result of a TIME_STEP. -/
def stepResult (t : Nat) : Bytes := (tsOf t).bytes ++ zeros 4

/-- Move an instant by a step. -/
def moved (size : Int) (u : Nat) : Nat := (((u : Int) + size) % (counterMod : Int)).toNat

/-- R272: the island of a number loads the new time, its error carried through. -/
def stepIsland (size : Int) (delivered : List Nat) (k : Nat) (i : IslandSt) : IslandSt :=
  if k < 16 ∧ !delivered.contains (k / 4) then i else { i with count := moved size i.count }

/-- R276, R278, R279: times kept by the time base itself move with a step. -/
def moveKept (size : Int) (t : TimeBase) : TimeBase :=
  { t with ppsLast := t.ppsLast.map (fun e => (moved size e.1, e.2)), trefWindow := moved size t.trefWindow }

/-- R273, R304: a clock's exchanges that a step cuts through are dropped. -/
def dropExchanges (t : Ts) : Ts :=
  { t with inst := Map.mapVals t.inst (fun x => { x with sync := none, masterToSlave := none, delayReq := none, relay := none })
           pdelay := [] }

/-- R270, R272, R273: the step takes effect. -/
def timeStep (d : Dev) : Dev :=
  match d.time.step with
  | none => d
  | some x =>
    let d := waitUntil x.at_ d
    let n := unitsOf x.new
    let size : Int := (n : Int) - x.at_
    let t := moveKept size d.time
    let ms := (size + 500000 * 2 ^ 32) / (1000000 * 2 ^ 32)
    let host := x.newRate.isNone && decide (timeSourceNow d = 3)
    let d := { d with time := { t with
      grand := n, islands := t.islands.map (fun (e : Nat × IslandSt) => (e.1, stepIsland size x.delivered e.1 e.2)),
      slew := x.residual, step := none, samples := [], stepped := true, steps := t.steps + 1, lastStep := x.new,
      stepHist := (size :: t.stepHist).take 3, epoch := t.epoch + 1, rebase := t.rebase + ms, lastMeas := t.elapsed,
      lastOffset := if host then 0 else t.lastOffset } }
    let d := { d with ts := dropExchanges d.ts }
    let d := match x.newRate with | some r => setRate r d | none => d
    let d := record 0x120 deviceTarget ((tsOf x.at_).bytes ++ x.new.bytes ++ zeros 8) (bump .time 0 0 d)
    let d := acquireEnd (timeEnter .track 1 false d)
    let d := if host then { d with time := { d.time with lockRun := 1 } } else d
    let d := if host ∧ (prm d).lockCount ≤ 1 then timeEnter .locked 1 false d else d
    milestone 11 (settle x.handle x.mailbox .ok (stepResult x.at_) d)

def execTimeStepInstant (s : State) : Host.Outcome State Fault Refusal := onDev timeStep s

/-! ### Measurements (R270, R275) -/

/-- R270: the samples of an acquisition are complete: decide the step. T is the first whole millisecond at least 500 µs
after the last sample; N is the reference at T, by the rate of the samples. -/
def acquisitionStep (d : Dev) : Dev :=
  match d.time.samples.head?, d.time.samples.getLast? with
  | some a, some b =>
    let loc := b.local_ - a.local_
    let ref := b.ref - a.ref
    let ms := 1000000 * unitsPerNs
    let t := (b.local_ + 500000 * unitsPerNs + ms - 1) / ms * ms
    let n := b.ref + (t - b.local_) * (if loc = 0 then 1 else ref) / max loc 1
    let r := if d.time.trefInUse then d.time.rate else rateFor d.time.rate ref loc
    decideStep { at_ := t, new := tsOf n, handle := none, mailbox := none, newRate := some r, delivered := [],
                  residual := (n : Int) - unitsOf (tsOf n) } d
  | _, _ => d

/-- R270: an offset beyond offset_alarm. -/
def offsetAlarm (off : Int) (d : Dev) : Dev :=
  let big := decide ((prm d).offsetAlarm * unitsPerNs < off.natAbs)
  let d := { d with time := { d.time with alarm := big } }
  if big then
    notifyRecord 0x31 deviceTarget (le 8 (ofSigned 64 (sns off)) ++ le 8 ((prm d).offsetAlarm * 65536)) (bump .time 0 10 d)
  else d

/-- R270: the counts toward LOCKED and toward its loss. -/
def judgeLock (off : Int) (d : Dev) : Dev :=
  let p := prm d
  match d.time.state with
  | .track =>
    let n := if off.natAbs ≤ p.lockThreshold * unitsPerNs then d.time.lockRun + 1 else 0
    let d := { d with time := { d.time with lockRun := n } }
    if p.lockCount ≤ n then timeEnter .locked 1 false d else d
  | .locked =>
    let n := if p.unlockThreshold * unitsPerNs < off.natAbs then d.time.unlockRun + 1 else 0
    let d := { d with time := { d.time with unlockRun := n } }
    if 4 ≤ n then timeEnter .track 6 true (bump .time 0 3 d) else d
  | _ => d

/-- R267, R270: a measured offset in TRACK, LOCKED or HOLDOVER: it is slewed away. -/
def servo (off : Int) (d : Dev) : Dev :=
  let d := offsetAlarm off { d with time := { d.time with lastOffset := off, lastMeas := d.time.elapsed, slew := off } }
  match d.time.state with
  | .holdover => timeEnter .track 1 false d
  | _ => judgeLock off d

/-- R270, R275: a valid measurement: device time `loc` and reference time `ref` at one instant, in 2^-32 ns. -/
def measure (loc ref : Nat) (d : Dev) : Dev :=
  let off : Int := (ref : Int) - loc
  let add (d : Dev) : Dev :=
    { d with time := { d.time with lastOffset := off, lastMeas := d.time.elapsed, samples := d.time.samples ++ [⟨loc, ref⟩] } }
  match d.time.state with
  | .freerun => askAcquire 1 (add d)
  | .acquire =>
    if d.time.step.isSome then d
    else
      let d := add d
      if (prm d).acqSamples ≤ d.time.samples.length then acquisitionStep d else d
  | _ => servo off d

/-- R275: the loss timeout of the source in force and the elapsed time from which it counts; none where there is none. -/
def lossDeadline (d : Dev) : Option Nat :=
  let p := prm d
  match timeSourceNow d with
  | 1 =>
    match p.ptp.find? (fun e => e.2.timeSource && decide (e.2.role ≠ 0)) with
    | some (i, x) =>
      let st := Map.get? d.ts.inst i
      let t := x.announceTimeout * (if 0 ≤ x.logAnnounce then 1000000000 * 2 ^ x.logAnnounce.toNat else 1000000000 / 2 ^ x.logAnnounce.natAbs)
      some ((match st with | some y => if y.parent.isSome then y.announceAt else d.time.lastMeas | none => d.time.lastMeas) + ticksNs t)
    | none => some d.time.lastMeas
  | 2 => some (d.time.lastMeas + ticksMs 3000)
  | 3 => if p.hostTimeout = 0 then none else some (d.time.lastMeas + ticksNs p.hostTimeout)
  | 4 => some (d.time.lastMeas + ticksMs p.lostTime)
  | _ => some d.time.lastMeas

/-- R270: TRACK or LOCKED loses its source. -/
def sourceLost (cause : Nat) (d : Dev) : Dev :=
  match d.time.state with
  | .track => enterHoldover cause d
  | .locked => enterHoldover cause d
  | _ => d

/-- R270: no valid measurement for the source's loss timeout. -/
def sourceLossTimeout (d : Dev) : Dev :=
  if d.time.state = .track ∨ d.time.state = .locked then
    match lossDeadline d with
    | some e => sourceLost 4 (waitTicks e d)
    | none => d
  else d

def execSourceLossTimeout (s : State) : Host.Outcome State Fault Refusal := onDev sourceLossTimeout s

/-- R274, R275: a set with another time_source becomes active. -/
def sourceChanged (old new : Nat) (d : Dev) : Dev :=
  if old = new ∨ pairedSecondary d = true then d
  else
    let d := { d with time := { d.time with samples := [], lastMeas := d.time.elapsed } }
    match d.time.state with
    | .track => enterHoldover 5 d
    | .locked => enterHoldover 5 d
    | .freerun => if new = 3 then askAcquire 5 d else d
    | _ => d

/-! ### PPSIN and TOD (R276, R277) -/

/-- The effective value of a calibration point of the device or a pin (R82), in 2^-16 ns. -/
def pinCal (o : Otp) (point pin : Nat) (d : Dev) : Int :=
  match calPoint o point pin none (prm d) d with | some (f, u) => (calSum f u).1 | none => 0

/-- R276: a rising edge of PPSIN. -/
def ppsinEdge (o : Otp) (d : Dev) : Dev :=
  if !d.time.running then d
  else
    let u := calibrated d.time.grand (-(pinCal o 0x20 0 d))
    let gap := d.time.ppsLast.map (fun e => ((u : Int) - e.1 - unitsPerS).natAbs)
    let named := d.time.todNext
    let d := { d with time := { d.time with ppsLast := some (u, d.time.elapsed), todNext := none } }
    match gap with
    | none => d
    | some g =>
      if 1000000 * unitsPerNs < g then bump .time 0 5 d
      else match named with
        | some s => if timeSourceNow d = 2 ∧ d.host.fwRestarting = false then measure u (s * unitsPerS) d else d
        | none => d

def execPpsinEdge (s : State) : Host.Outcome State Fault Refusal := onOtp ppsinEdge s

/-- R276: a second passes without an edge. -/
def ppsMissing (d : Dev) : Dev :=
  match d.time.ppsLast with
  | none => d
  | some (u, e) =>
    let d := waitTicks (e + ticksMs 1001) d
    bump .time 0 5 { d with time := { d.time with ppsLast := some (u, d.time.elapsed) } }

def execPpsMissing (s : State) : Host.Outcome State Fault Refusal := onDev ppsMissing s

/-- R276: is now between 100 ms and 900 ms after a PPSIN edge? -/
def todWindow (d : Dev) : Bool :=
  match d.time.ppsLast with
  | some (u, _) => decide (u + 100000000 * unitsPerNs ≤ d.time.grand ∧ d.time.grand ≤ u + 900000000 * unitsPerNs)
  | none => false

/-- R276, R277: a message on TODI. -/
def todMessage (m : Bytes) (d : Dev) : Dev :=
  let good := decide (m.length = 16 ∧ fldBe m 0 2 = 0xC33C) && decide (fldBe m 14 2 = crc16 (slice m 2 12)) && todWindow d
  if !good then bump .time 0 6 d
  else if fld m 2 1 = 1 ∧ bit (fld m 3 1) 0 = true ∧ fld m 3 1 / 8 = 0 ∧ fldBe m 12 2 = 0 then
    { d with time := { d.time with todNext := some (fldBe m 4 6), todInfo := fld m 3 1 * 65536 + fldBe m 10 2 } }
  else d

def execTodMessage (msg : Bytes) (s : State) : Host.Outcome State Fault Refusal := onDev (todMessage msg) s

/-- R277: a TOD message's bytes. -/
def todBytes (flags seconds utc : Nat) : Bytes :=
  let b := be 1 1 ++ be 1 flags ++ be 6 seconds ++ be 2 utc ++ zeros 2
  be 2 0xC33C ++ b ++ be 2 (crc16 b)

/-- R277: 500 ms after each whole second the next second is named. The leap flags and utc_offset of the message are open. -/
def todOutput (d : Dev) : Dev :=
  if !d.time.running then d
  else
    let half := 500000000 * unitsPerNs
    let s := (d.time.grand + half) / unitsPerS
    let d := waitUntil (s * unitsPerS + half) d
    let (v, d) := fresh d
    let flags := b2n (decide (d.time.state = .locked)) + v % 4 * 2
    emit (.tod (todBytes flags (s + 1) (v / 4 % 65536))) { d with time := { d.time with todSent := some s } }

def execTodOutput (s : State) : Host.Outcome State Fault Refusal := onDev todOutput s

/-! ### TREF10 (R275) -/

/-- R275: no edge for 1 µs. -/
def tref10Loss (d : Dev) : Dev :=
  if !d.time.trefPresent then d
  else
    record 0x122 deviceTarget [] (bump .time 0 7 { d with time := { d.time with trefPresent := false, trefInUse := false } })

def execTref10Loss (s : State) : Host.Outcome State Fault Refusal := onDev tref10Loss s

/-- R275: edges resume. -/
def tref10Return (d : Dev) : Dev :=
  if d.time.trefPresent || !d.time.running then d
  else { d with time := { d.time with trefPresent := true, trefSince := d.time.elapsed, trefWindow := d.time.grand } }

def execTref10Return (s : State) : Host.Outcome State Fault Refusal := onDev tref10Return s

/-- R275: a 10 s window of TREF10 edges ends; each edge is 100 ns. -/
def tref10Window (edges : Nat) (d : Dev) : Dev :=
  if !d.time.trefPresent || !(prm d).tref10Use then d
  else
    let d := waitUntil (d.time.trefWindow + 10 * unitsPerS) d
    let loc := d.time.grand - d.time.trefWindow
    let r := rateFor d.time.rate (edges * 100 * unitsPerNs) loc
    setRate r { d with time := { d.time with trefWindow := d.time.grand, trefInUse := true } }

def execTref10RateWindow (edges : Nat) (s : State) : Host.Outcome State Fault Refusal := onDev (tref10Window edges) s

/-! ### Pulses and captures (R278, R279) -/

/-- A pin that is off. -/
def Tpo.off : Tpo := ⟨0, 0, 0, TS96.zero, 0, none, none⟩

/-- A pin's setting. -/
def tpo (k : Nat) (d : Dev) : Tpo := Map.get d.time.tpo k Tpo.off

/-- Store a pin's setting. -/
def setTpo (k : Nat) (x : Tpo) (d : Dev) : Dev := { d with time := { d.time with tpo := Map.put d.time.tpo k x } }

/-- An instant of a TPO pin, earlier by its output delay. -/
def pinInstant (o : Otp) (pin g : Nat) (d : Dev) : Nat := ((g : Int) - pinCal o 0x22 pin d * 65536).toNat

/-- R278: the next edge of a pin. -/
def pulseEdge (pin : Nat) (o : Otp) (d : Dev) : Dev :=
  let x := tpo pin d
  match x.activeUntil with
  | some u =>
    let d := waitUntil (pinInstant o pin u d) d
    emit (.pulse pin (decide (x.polarity = 1))) (setTpo pin { x with activeUntil := none } d)
  | none =>
    match x.next with
    | none => d
    | some g =>
      let d := waitUntil (pinInstant o pin g d) d
      let x' : Tpo := { x with activeUntil := some (g + x.width * unitsPerNs),
                               mode := if x.mode = 1 then 0 else x.mode,
                               next := if x.mode = 2 then some (g + x.period * 65536) else none }
      emit (.pulse pin (decide (x.polarity = 0))) (setTpo pin x' d)

def execPulseEdge (pin : Fin 8) (s : State) : Host.Outcome State Fault Refusal := onOtp (pulseEdge pin.val) s

/-- A capture pin that is off. -/
def Tci.off : Tci := ⟨0, [], 0, none⟩

/-- A capture pin. -/
def tci (k : Nat) (d : Dev) : Tci := Map.get d.time.tci k Tci.off

/-- Store a capture pin. -/
def setTci (k : Nat) (x : Tci) (d : Dev) : Dev := { d with time := { d.time with tci := Map.put d.time.tci k x } }

/-- R279, R289: does a pin's setting select this edge? -/
def selects (edge : Nat) (rising : Bool) : Bool := decide (edge = 3) || (decide (edge = 1) && rising) || (decide (edge = 2) && !rising)

/-- R279: an edge on a capture pin. `lastEdge` is in elapsed ticks. -/
def tciEdge (pin : Nat) (rising : Bool) (o : Otp) (d : Dev) : Dev :=
  let x := tci pin d
  let close := match x.lastEdge with | some e => decide (d.time.elapsed < e + ticksUs 1) | none => false
  if !d.time.running || !selects x.edge rising || close then d
  else
    let fl := b2n rising + 2 * b2n (decide (d.time.state = .acquire)) + 4 * b2n (decide (d.time.state ≠ .locked))
    let cap : Capture := ⟨tsOf (calibrated d.time.grand (-(pinCal o 0x21 pin d))), fl⟩
    let x := { x with lastEdge := some d.time.elapsed }
    if 64 ≤ x.fifo.length then bump .time 0 8 (setTci pin { x with lost := x.lost + 1 } d)
    else setTci pin { x with fifo := x.fifo ++ [cap] } d

def execTciEdge (pin : Fin 4) (rising : Bool) (s : State) : Host.Outcome State Fault Refusal := onOtp (tciEdge pin.val rising) s

/-! ### Commands (R283 to R292) -/

/-- R283: TIME_QUERY. -/
def timeQuery (d : Dev) : Ans :=
  let t := d.time
  let fl := b2n t.trefInUse + 2 * b2n t.trefPresent + 4 * b2n (decide (t.slew ≠ 0)) + 8 * b2n t.alarm + 16 * b2n t.step.isSome
  let ok := ((List.range 4).map (fun k => if islandsLocked k d then 2 ^ k else 0)).sum
    + 16 * b2n (island 16 d).locked + 32 * b2n (island 17 d).locked
  .ok (le 1 (timeCode t.state) ++ le 1 (prm d).timeSource ++ le 1 fl ++ le 1 ok ++ le 4 (ofSigned 32 t.rate) ++ le 8 t.inc
    ++ le 8 (ofSigned 64 (sns t.slew)) ++ le 8 (ofSigned 64 (sns t.lastOffset)) ++ (now d).bytes ++ t.lastStep.bytes
    ++ t.since.bytes ++ le 4 t.steps ++ zeros 8) d

def execTimeQuery (r : Request) (s : State) : Host.Outcome State Fault Refusal :=
  onMailbox { op := 0x0A01, len := 0 } (fun _ _ d => timeQuery d) r s

/-- R284: TIME_UNLOCK. -/
def timeUnlock (d : Dev) : Ans :=
  if d.time.state = .acquire then .ok [] d else .ok [] (askAcquire 2 d)

def execTimeUnlock (r : Request) (s : State) : Host.Outcome State Fault Refusal :=
  onMailbox { op := 0x0A02, len := 0 } (fun _ _ d => timeUnlock d) r s

/-- Is the pending step less than 20 µs ahead? -/
def stepClose (d : Dev) : Bool :=
  match d.time.step with | some x => decide (x.at_ < d.time.grand + 20000 * unitsPerNs) | none => false

/-- R285: cancel the pending step in favour of another. -/
def replaceStep (d : Dev) : Dev :=
  match d.time.step with
  | some x => settle x.handle x.mailbox .badState [] { d with time := { d.time with step := none } }
  | none => d

/-- R285: TIME_STEP. -/
def timeStepCmd (c : Ctx) (d : Dev) : Ans :=
  let t := tsFld c.pl 0
  let n := tsFld c.pl 12
  let g := unitsOf t
  need (t.valid && n.valid) .badField <|
  need (decide (timeSourceNow d = 3 ∧ d.time.state = .acquire) && !stepClose d) .badState <|
  let put (at_ : Nat) (h mb : Option Nat) : Dev :=
    decideStep { at_ := at_, new := n, handle := h, mailbox := mb, newRate := none, delivered := [], residual := 0 } (replaceStep d)
  if t.isZero then .run 0 (put (firstWhole 1000 20000 d) none (some c.mb))
  else
    need (decide (d.time.grand + 50000 * unitsPerNs ≤ g)) .timePassed <|
    need (decide (g ≤ d.time.grand + 86400 * unitsPerS)) .badField <|
    .pend (boundTo g d) 0 (put g (some c.handle) none)

def execTimeStep (r : Request) (s : State) : Host.Outcome State Fault Refusal :=
  onMailbox { op := 0x0A03, len := 32, resv := z 24 8, shared := sharedState } (fun c _ d => timeStepCmd c d) r s

/-- Is HOST the source, and is the state one of those given? -/
def hostIn (l : List TimeState) (d : Dev) : Bool := decide (timeSourceNow d = 3) && l.contains d.time.state

/-- R286: TIME_RATE. -/
def timeRate (c : Ctx) (d : Dev) : Ans :=
  let r := toSigned 32 (fld c.pl 0 4)
  need (decide (-rateMax ≤ r ∧ r ≤ rateMax)) .badField <|
  need (hostIn [.acquire, .track, .locked, .holdover] d) .badState <|
  .ok [] (setRate r d)

def execTimeRate (r : Request) (s : State) : Host.Outcome State Fault Refusal :=
  onMailbox { op := 0x0A04, len := 8, resv := z 4 4 } (fun c _ d => timeRate c d) r s

/-- R287: TIME_SLEW. -/
def timeSlew (c : Ctx) (d : Dev) : Ans :=
  let off := toSigned 64 (fld c.pl 0 8)
  need (decide (off.natAbs ≤ 1000000000 * 65536)) .badField <|
  need (hostIn [.track, .locked, .holdover] d && decide (1024000 ≤ slewRoom (decide (0 ≤ off)) d)) .badState <|
  .ok (le 8 (ofSigned 64 (sns d.time.slew))) (servo (off * 65536) d)

def execTimeSlew (r : Request) (s : State) : Host.Outcome State Fault Refusal :=
  onMailbox { op := 0x0A05, len := 16, resv := z 8 8 } (fun c _ d => timeSlew c d) r s

/-- R288: the fields of TIME_PULSE_SET in range. -/
def pulseOk (mode width period : Nat) (start : TS96) : Bool :=
  start.valid && (decide (mode = 0) || decide (8 ≤ width ∧ width ≤ 1000000000)) &&
    (if mode = 2 then decide (1000 * 65536 ≤ period ∧ (width + 8) * 65536 ≤ period ∧ period < 2 ^ 63) else decide (period = 0))

/-- R288: TIME_PULSE_SET. -/
def timePulseSet (c : Ctx) (d : Dev) : Ans :=
  let pin := fld c.pl 0 1
  let mode := fld c.pl 1 1
  let start := tsFld c.pl 8
  let x := tpo pin d
  let y : Tpo := ⟨mode, fld c.pl 2 1, fld c.pl 4 4, start, fld c.pl 20 8, none, x.activeUntil⟩
  need (pulseOk mode y.width y.period start) .badField <|
  need (decide (d.time.state ≠ .acquire)) .badState <|
  need (decide (mode ≠ 1) || decide (d.time.grand + 50000 * unitsPerNs ≤ unitsOf start)) .timePassed <|
  let d := if x.activeUntil.isNone && decide (x.polarity ≠ y.polarity) then emit (.pulse pin (decide (y.polarity = 1))) d else d
  .ok [] (setTpo pin { y with next := if mode = 1 then some (unitsOf start) else if mode = 2 then some (pulseStart y d) else none } d)

def execTimePulseSet (r : Request) (s : State) : Host.Outcome State Fault Refusal :=
  onMailbox { op := 0x0A06, len := 32, resv := fun p => below 0 8 p && below 1 3 p && below 2 2 p && z 3 1 p && z 28 4 p,
              shared := fun _ p d => decide (fld p 1 1 = 1) && pairedSecondary d } (fun c _ d => timePulseSet c d) r s

/-- R289: TIME_CAPTURE_SET. -/
def timeCaptureSet (c : Ctx) (d : Dev) : Ans :=
  let pin := fld c.pl 0 1
  let x := tci pin d
  let e := fld c.pl 1 1
  .ok [] (setTci pin (if x.edge = e then x else { x with edge := e, fifo := [] }) d)

def execTimeCaptureSet (r : Request) (s : State) : Host.Outcome State Fault Refusal :=
  onMailbox { op := 0x0A07, len := 4, resv := fun p => below 0 4 p && below 1 4 p && z 2 2 p } (fun c _ d => timeCaptureSet c d) r s

/-- R290: TIME_CAPTURE_READ. -/
def timeCaptureRead (c : Ctx) (d : Dev) : Ans :=
  let pin := fld c.pl 0 1
  let n := fld c.pl 1 1
  let x := tci pin d
  let out := x.fifo.take n
  need (decide (1 ≤ n ∧ n ≤ 32)) .badField <|
  .ok (le 4 out.length ++ le 4 x.lost ++ out.flatMap (fun e => e.time.bytes ++ le 4 e.flags))
    (setTci pin { x with fifo := x.fifo.drop n, lost := 0 } d)

def execTimeCaptureRead (r : Request) (s : State) : Host.Outcome State Fault Refusal :=
  onMailbox { op := 0x0A08, len := 4, resv := fun p => below 0 4 p && z 2 2 p } (fun c _ d => timeCaptureRead c d) r s

/-- R291: TIME_PTM_READ. How the dialogue ends and what it returns comes from the host's root port: open. -/
def timePtmRead (d : Dev) : Ans :=
  need (d.time.ptmEnabled && d.time.linkL0) .badState <|
  let (v, d) := fresh d
  if v % 2 = 1 then .reply .internalError [] (bump .time 0 12 d)
  else
    let (m, d) := fresh d
    let (l, d) := fresh d
    .ok ((islandNow 16 d).bytes ++ zeros 4 ++ le 8 m ++ le 4 l ++ zeros 4) d

def execTimePtmRead (r : Request) (s : State) : Host.Outcome State Fault Refusal :=
  onMailbox { op := 0x0A09, len := 0 } (fun _ _ d => timePtmRead d) r s

/-- R292: TIME_CNT_READ. -/
def execTimeCntRead (r : Request) (s : State) : Host.Outcome State Fault Refusal :=
  onMailbox { op := 0x0A0A, len := 4, resv := onlyBits 0 4 1 }
    (fun c _ d => .ok (cntBytes .time 0 13 d) (clearIf (clearFlag 0 c.pl) .time 0 d)) r s

end Sys2Proof.Machine
end

