-- ==== Sys2Proof/Machine/ConfigSets.lean ====
section
/-! DEFINITION. Sys2Proof/Machine/ConfigSets.lean: loading and exchanging configuration sets, live writes, and the
CONFIG command group (03_configuration_sets.md). -/
namespace Sys2Proof.Machine

/-! ### Images (R70, R77) -/

/-- R70: the crc32c of an image: its own field taken as zero. -/
def imageCrc (img : Bytes) : Nat := crc32c (slice img 0 16 ++ zeros 4 ++ img.drop 20)

/-- What checking an image finds: the compiled content, or a status with the offset or section that fails. -/
abbrev Checked := Except (Status × Nat) SetParams

/-- R70, R77: the header fields, in their order. `off` is the image's place in the staging area, `act` the active
set's id. -/
def headerCheck (img : Bytes) (off act : Nat) : Option (Status × Nat) :=
  let len := fld img 12 4
  let n := fld img 24 4
  if fld img 0 4 ≠ 0x4C584353 then some (.badField, 0)
  else if fld img 4 2 ≠ 1 then some (.versionMismatch, 4)
  else if fld img 6 2 ≠ 0 then some (.badField, 6)
  else if fld img 8 4 = 0 ∨ fld img 8 4 = act then some (.badField, 8)
  else if len % 64 ≠ 0 ∨ len < 64 ∨ 3145728 < len ∨ 4194304 < off + len then some (.badField, 12)
  else if n = 0 ∨ 256 < n ∨ len < 32 + 16 * n then some (.badField, 24)
  else if fld img 28 4 ≠ 0 then some (.badField, 28)
  else none

/-- The place of an entry of the section table. -/
def sectionAt (i : Nat) : Nat := 32 + 16 * i

/-- R36, R77: is the section for absent dies only? It is skipped. -/
def sectionSkipped (img : Bytes) (present i : Nat) : Bool :=
  let mask := fld img (sectionAt i + 4) 4
  decide (mask ≠ 0 ∧ mask &&& (present % 16 + 0x100) = 0 ∧ mask &&& 0xFFFFFEF0 = 0)

/-- R70, R77: one entry of the section table. -/
def sectionCheck (img : Bytes) (present i : Nat) : Option (Status × Nat) :=
  let b := sectionAt i
  if sectionSkipped img present i then none
  else if !Config.sectionKnown (fld img b 4) then some (.versionMismatch, fld img b 4)
  else if fld img (b + 4) 4 &&& 0xFFFFFEF0 ≠ 0 then some (.badField, b + 4)
  else if fld img (b + 8) 4 % 64 ≠ 0 then some (.badField, b + 8)
  else if fld img 12 4 < fld img (b + 8) 4 + fld img (b + 12) 4 then some (.badField, b + 12)
  else none

/-- R36, R77: the sections that are not skipped, for the dies present. -/
def keptSections (img : Bytes) (present : Nat) : List ImgSection :=
  ((List.range (fld img 24 4)).filter (fun i => !sectionSkipped img present i)).map (fun i =>
    let b := sectionAt i
    ⟨fld img b 4, fld img (b + 4) 4 &&& (present % 16 + 0x100), slice img (fld img (b + 8) 4) (fld img (b + 12) 4)⟩)

/-- R77: what the sections of an image compile to on the dies present, and the checks of every chapter on it. -/
def compileImage (img : Bytes) (d : Dev) : Checked :=
  match Config.compile (keptSections img d.pkg.present) with
  | .badField r => .error (.badField, r)
  | .params p =>
    match setFailure d.pkg.present p with
    | some (st, k) => .error (st, Config.errorRef img k)
    | none => .ok p

/-- R77: header fields, crc32c, section semantics, die capacities, in that order. -/
def checkImage (img : Bytes) (off : Nat) (d : Dev) : Checked :=
  let act := match d.cfg.active with | some a => a.id | none => 0
  match headerCheck img off act with
  | some e => .error e
  | none =>
    if imageCrc img ≠ fld img 16 4 then .error (.badField, 16)
    else match (List.range (fld img 24 4)).findSome? (sectionCheck img d.pkg.present) with
      | some e => .error e
      | none => compileImage img d

/-- R77: the result of a load. -/
def loadResult (id crc ref sat : Nat) : Bytes := le 4 id ++ le 4 crc ++ le 4 ref ++ le 4 sat

/-- R71, R78: is a swap pending, scheduled or not? -/
def swapPending (d : Dev) : Bool := d.cfg.swap.isSome

/-- The two images as a CONFIG_SET record carries them (R407). -/
def setRecord (d : Dev) : TwinBody :=
  .configSet (d.cfg.active.map (fun a => (a.id, a.image))) (d.cfg.shadow.map (fun a => (a.id, a.image)))

/-- R72, R340: a set that is discarded or changed stays with the frames that carry it, those in the egg timer among them; sets
that none carries are forgotten. -/
def keepSet (set : Option SetImg) (d : Dev) : Dev :=
  let held (g : Nat) : Bool := carriesGen g d || d.act.egg.any (fun h => decide (h.frame.gen = g))
  let old := d.cfg.kept.filter (fun e => held e.1)
  let kept := match set with
    | some x => if x.gen ≠ 0 ∧ held x.gen then Map.put old x.gen x.params else old
    | none => old
  { d with cfg := { d.cfg with kept := kept } }

/-- R71, R77: the previous shadow is discarded and the image is checked. R25: every present die must be reached. -/
def loadShadow (c : Ctx) (d : Dev) : Ans :=
  let off := fld c.pl 0 4
  need (decide (off % 64 = 0 ∧ off + 64 ≤ 4194304)) .badField <|
  need (!(decide (d.cfg.shadowState = .loading ∨ d.cfg.shadowState = .draining) || swapPending d)) .busy <|
  need (presentUp d) .badState <|
    let head := stagingRead off 32 d
    let img := stagingRead off (min (max (fld head 12 4) 64) 3145728) d
    let d := keepSet d.cfg.shadow d
    .pend 2000 off { d with cfg := { d.cfg with shadow := none, shadowState := .loading, load := some ⟨c.handle, off, img⟩ } }

def execConfigLoadShadow (r : Request) (s : State) : Host.Outcome State Fault Refusal :=
  onMailbox { op := 0x0201, shared := sharedState, len := 8, resv := z 4 4 } (fun c _ d => loadShadow c d) r s

/-- R71, R81, R84: checking ends; a die that cannot be reached holds no sections (R25). -/
def loadComplete (o : Otp) (d : Dev) : Dev :=
  match d.cfg.load with
  | none => d
  | some j =>
    let id := fld j.image 8 4
    let d := { d with cfg := { d.cfg with load := none } }
    match (if presentUp d then checkImage j.image j.stage d else .error (.badState, 0)) with
    | .ok p =>
      let n := calSaturated o p
      let crc := imageCrc j.image
      let d := { d with cfg := { d.cfg with shadow := some ⟨id, crc, j.image, p, 0⟩, shadowState := .ready } }
      let d := bumpBy .cfg 0 3 n d
      complete j.handle .ok (loadResult id crc 0 n) (twinPost (setRecord d) d)
    | .error (st, ref) =>
      let act := match d.cfg.active with | some a => a.id | none => 0
      let crc := if (headerCheck j.image j.stage act).isSome then 0 else imageCrc j.image
      let d := { d with cfg := { d.cfg with shadowState := .empty } }
      let d := record 0x102 deviceTarget (le 1 2 ++ le 4 id ++ le 2 st.code ++ le 4 ref) d
      complete j.handle st (loadResult id crc ref 0) d

def execConfigLoadComplete (s : State) : Host.Outcome State Fault Refusal := onOtp loadComplete s

/-! ### A set becomes active (R72, R73, R75, R129, R392) -/

/-- R392: do two settings of a port differ in form, mode, side or medium? -/
def portChanged (a b : Option PortPrm) : Bool :=
  match a, b with
  | none, none => false
  | some x, some y => decide (x.form ≠ y.form ∨ x.side ≠ y.side) || (x.mediumCr != y.mediumCr)
  | _, _ => true

/-- R392: the ports that a change of set takes down. -/
def changedPorts (old new : SetParams) : List Nat :=
  (List.range 98).filter (fun p => portChanged (portPrmIn p old) (portPrmIn p new))

/-- R392, R232, R471: a port that a swap changes goes DISABLED; its analysis flag and its loopback end. -/
def portReform (d : Dev) (p : Nat) : Dev :=
  let d := if (portSt p d).state = .disabled then d else portOff p d
  let d := analysisOff p d
  { d with obs := { d.obs with loopback := Map.del d.obs.loopback p } }

/-- R250: buckets that stand full are full at the burst they filled under; those of an index no longer defined end. -/
def keepBuckets (old new : SetParams) (d : Dev) : Dev :=
  let sh := old.shapers.foldl (fun (m : Map Buckets) e =>
    if Map.has m e.1 then m else Map.put m e.1 ⟨tok e.2.cbs, tok e.2.pbs, 0, 0⟩) d.que.shapers
  let me := old.meters.foldl (fun (m : Map Buckets) e =>
    if Map.has m e.1 then m else Map.put m e.1 ⟨tok e.2.cbs, tok e.2.burst2, 0, 0⟩) d.que.meters
  { d with que := { d.que with shapers := sh.filter (fun e => Map.has new.shapers e.1)
                               meters := me.filter (fun e => Map.has new.meters e.1) } }

/-- R231: the match counts of sessions that a new set enables start again. -/
def restartSamples (old new : SetParams) (d : Dev) : Dev :=
  let hit := new.mirrors.filter (fun e => match Map.get? old.mirrors e.1 with
    | none => true
    | some x => e.2.enabled && !x.enabled)
  { d with fab := { d.fab with sample := hit.foldl (fun m e => Map.put m e.1 0) d.fab.sample } }

/-- R76: live writes matter only to frames of the set that was active and of the one that still drains. -/
def pruneEras (gens : List Nat) (d : Dev) : Dev :=
  let keep := Map.mapVals d.fab.eras (List.filter (fun e => gens.contains e.gen))
  { d with fab := { d.fab with eras := keep.filter (fun e => !e.2.isEmpty) } }

/-- A set becomes active: what depends on the change is carried over, and ports start (R274, R330, R389 to R392, R431,
R449). -/
def activate (set : SetImg) (d : Dev) : Dev :=
  let old := prm d
  let d := keepSet (some set) d
  let set := { set with params := altParams d.twin.tookHome set.params }
  let new := set.params
  let d := (changedPorts old new).foldl portReform d
  let d := keepBuckets old new d
  let d := { d with cfg := { d.cfg with active := some { set with gen := d.cfg.nextGen }, nextGen := d.cfg.nextGen + 1 } }
  let d := pruneEras [activeGen d - 1, activeGen d] (restartSamples old new d)
  let off := (formedPorts d).filter (fun p => !adminOn p d && decide ((portSt p d).state ≠ .disabled))
  let d := off.foldl (fun d p => portOff p d) d
  let d := cdJudgeAll (sourceChanged old.timeSource new.timeSource d)
  trafficCheck (milestone 7 (portsStart false d))

/-! ### Swaps (R73, R78) -/

/-- R78: the result of a swap. -/
def swapResult (g id : Nat) : Bytes := (tsOf g).bytes ++ le 4 id

/-- R407, R420: is the shadow still on its way to the SECONDARY of a pair, which therefore cannot swap? -/
def setOnItsWay (d : Dev) : Bool :=
  let isSet (b : TwinBody) : Bool := match b with | .configSet _ _ => true | _ => false
  paired d && (d.twin.waiting.any isSet || d.twin.unacked.any (fun e => isSet e.2))

/-- R78. -/
def swapSet (c : Ctx) (d : Dev) : Ans :=
  let t := tsFld c.pl 4
  match d.cfg.shadow with
  | none => .fail .badState
  | some x =>
    need (!(match d.cfg.swap with | some w => w.mailbox.isSome | none => false)) .busy <|
    need (!swapPending d && decide (d.cfg.shadowState = .ready ∧ fld c.pl 0 4 = x.id) && presentUp d) .badState <|
    need t.valid .badField <|
    match (if t.isZero then (if d.time.state = .acquire then some .badState else none) else instantRefusal t 50 d) with
    | some st => .fail st
    | none =>
      need (!swapConflict x.params d) .badState <|
      need (!setOnItsWay d) .busy <|
        if t.isZero then .run 0 { d with cfg := { d.cfg with swap := some ⟨firstWhole 1000 20000 d, none, some c.mb⟩ } }
        else .pend (boundTo (unitsOf t) d) 0 { d with cfg := { d.cfg with swap := some ⟨unitsOf t, some c.handle, none⟩ } }

def execSwapSet (r : Request) (s : State) : Host.Outcome State Fault Refusal :=
  onMailbox { op := 0x0203, shared := sharedState, len := 16 } (fun c _ d => swapSet c d) r s

/-- R78. -/
def swapCancel (d : Dev) : Ans :=
  match d.cfg.swap with
  | none => .fail .badState
  | some w =>
    match w.handle with
    | none => .fail (if w.mailbox.isSome then .busy else .badState)
    | some h =>
      need (decide (d.time.grand + 20000 * unitsPerNs ≤ w.at_)) .badState <|
        .ok [] (complete h .badState [] { d with cfg := { d.cfg with swap := none } })

def execConfigSwapCancel (r : Request) (s : State) : Host.Outcome State Fault Refusal :=
  onMailbox { op := 0x0204, shared := sharedState, len := 0 } (fun _ _ d => swapCancel d) r s

/-- R71, R73: the two sets are exchanged; the old one is DRAINING. With no old set the shadow is EMPTY. -/
def exchange (g : Nat) (d : Dev) : Dev :=
  match d.cfg.shadow with
  | none => d
  | some x =>
    let old := d.cfg.active
    let d := activate x d
    { d with cfg := { d.cfg with
      shadow := old, shadowState := if old.isSome then .draining else .empty,
      drainUntil := d.time.elapsed + ticksMs 100, lastSwap := tsOf g, swapEpoch := d.time.epoch } }

/-- R71, R84: the exchange, counted and recorded. -/
def swapNow (g id : Nat) (d : Dev) : Dev :=
  record 0x102 deviceTarget (le 1 1 ++ le 4 id ++ le 2 0 ++ le 4 0) (bump .cfg 0 0 (exchange g d))

/-- R73, R74, R78, R84: at the swap instant. -/
def swapInstant (d : Dev) : Dev :=
  match d.cfg.swap, d.cfg.shadow with
  | some w, some x =>
    let d := waitUntil w.at_ d
    let d := { d with cfg := { d.cfg with swap := none } }
    if w.mailbox.isNone && swapConflict x.params d then
      settle w.handle w.mailbox .badState [] d
    else
      let d := swapNow w.at_ x.id d
      settle w.handle w.mailbox .ok (swapResult w.at_ x.id) (if pairedSecondary d then d else twinPost (setRecord d) d)
  | _, _ => d

def execConfigSwapInstant (s : State) : Host.Outcome State Fault Refusal := onDev swapInstant s

/-- R74, R319: a swap whose instant is no later than `g` takes effect before another action at `g`. -/
def swapFirst (g : Nat) (d : Dev) : Dev :=
  match d.cfg.swap with
  | some w => if w.at_ ≤ g then swapInstant d else d
  | none => d

/-! ### Switches of TX SAs at their instants (R119, R122) -/

/-- R119, R29, R319: at the switch instant, on the die's own counter. -/
def saTxSwitchInstant (die idx : Nat) (d : Dev) : Dev :=
  match Map.get? d.prot.switches (2048 * die + idx) with
  | none => d
  | some w =>
    let d := waitIsland (dieIsland die) w.at_ (swapFirst w.at_ d)
    let d := { d with prot := { d.prot with switches := Map.del d.prot.switches (2048 * die + idx) } }
    settle w.handle w.mailbox .ok (switchResult w.at_ w.an) (switchAt w.at_ die idx w.an d)

def execSaTxSwitchInstant (die : Fin 4) (secy : Fin 2048) (s : State) : Host.Outcome State Fault Refusal :=
  onDev (saTxSwitchInstant die.val secy.val) s

/-- R29, R122, R319: at the batch instant, on the counters of the dies of its list. -/
def saBatchInstant (h : Nat) (d : Dev) : Dev :=
  match Map.get? d.prot.batches h with
  | none => d
  | some b =>
    let d := b.list.foldl (fun d e => waitIsland (dieIsland e.1) b.at_ d) (waitUntil b.at_ (swapFirst b.at_ d))
    let d := { d with prot := { d.prot with batches := Map.del d.prot.batches h } }
    let n := (b.list.filter (fun e => (sa (saKey e.1 false e.2.1 e.2.2) d).state = .installed)).length
    let d := b.list.foldl (fun d e => switchAt b.at_ e.1 e.2.1 e.2.2 d) d
    complete h .ok ((tsOf b.at_).bytes ++ le 4 n) d

def execSaBatchInstant (handle : Nat) (s : State) : Host.Outcome State Fault Refusal := onDev (saBatchInstant handle) s

/-! ### Entry into ACQUIRE (R271) -/

/-- R271, R281: the unscheduled swap and switches whose instant is no later than `g` take effect, the swap first. -/
def unscheduledFirst (g : Nat) (d : Dev) : Dev :=
  let d := match d.cfg.swap with
    | some w => if w.handle.isNone ∧ w.at_ ≤ g then swapInstant d else d
    | none => d
  let due := d.prot.switches.filter (fun e => decide (e.2.handle.isNone ∧ e.2.at_ ≤ g))
  due.foldl (fun d e => saTxSwitchInstant (e.1 / 2048) (e.1 % 2048) d) d

/-- R271: entry into ACQUIRE. -/
def acquireEntry (d : Dev) : Dev :=
  match d.time.acquireAt with
  | none => d
  | some g =>
    let d := waitUntil g (unscheduledFirst g d)
    let cause := d.time.acquireCause
    let kept := if cause = 1 then d.time.samples else []
    let d := { d with time := { d.time with acquireAt := none, acquireStart := d.time.elapsed, samples := kept } }
    let d := restPulses (cancelScheduled d)
    let d := timeEnter .acquire cause (decide (cause = 2)) d
    eggSuspendAll (onGates gateAcquire d)

def execAcquireEntry (s : State) : Host.Outcome State Fault Refusal := onDev acquireEntry s

/-! ### Draining (R71) -/

/-- The number of the set that drains. -/
def drainingGen (d : Dev) : Option Nat :=
  if d.cfg.shadowState = .draining then d.cfg.shadow.map (·.gen) else none

/-- R71: no frame carries the old set. -/
def drainEnd (d : Dev) : Dev :=
  match drainingGen d with
  | some g => if carriesGen g d then d else { d with cfg := { d.cfg with shadowState := .ready } }
  | none => d

def execSwapDrainEnd (s : State) : Host.Outcome State Fault Refusal := onDev drainEnd s

/-- R71: 100 ms after the swap the remaining frames of the old set are dropped and counted. -/
def drainTimeout (d : Dev) : Dev :=
  match drainingGen d with
  | some g =>
    let d := waitTicks d.cfg.drainUntil d
    let n := genFrames g d
    let d := rejoin d (stompSending (fun s => decide (s.frame.gen = g)) (keepFrames (fun f => decide (f.gen ≠ g)) d))
    let d := { d with prot := { d.prot with fwBuf := d.prot.fwBuf.filter (fun f => decide (f.gen ≠ g)) } }
    bumpBy .cfg 0 1 n { d with cfg := { d.cfg with shadowState := .ready } }
  | none => d

def execSwapDrainTimeout (s : State) : Host.Outcome State Fault Refusal := onDev drainTimeout s

/-! ### Queries and live writes (R76, R79, R80, R83, R85) -/

/-- R80. -/
def shadowCode : ShadowState → Nat
  | .empty => 0 | .loading => 1 | .ready => 2 | .draining => 3

/-- R80. -/
def configQuery (d : Dev) : Ans :=
  let a := d.cfg.active
  let b := d.cfg.shadow
  let sched := match d.cfg.swap with | some w => w.mailbox.isNone | none => false
  .ok (le 4 (match a with | some x => x.id | none => 0) ++ le 4 (match a with | some x => x.crc | none => 0)
    ++ le 4 (match b with | some x => x.id | none => 0) ++ le 1 (shadowCode d.cfg.shadowState) ++ le 1 (b2n sched) ++ zeros 2
    ++ d.cfg.lastSwap.bytes ++ zeros 4) d

def execConfigQuery (r : Request) (s : State) : Host.Outcome State Fault Refusal :=
  onMailbox { op := 0x0202, len := 0 } (fun _ _ d => configQuery d) r s

/-- R76: the counter object that a target and an index name in a block. -/
def cntObject (block : Nat) (t : Target) (idx : Nat) : Nat :=
  match block with
  | 3 => 2048 * t.dieNo + idx | 24 => 2048 * t.dieNo + idx
  | 5 => 4096 * t.dieNo + idx
  | 6 => 32768 * t.dieNo + idx
  | 21 => 2 ^ 18 * t.dieNo + idx
  | 22 => 65536 * t.dieNo + idx
  | 4 => t.portNo | 16 => t.portNo | 20 => t.portNo | 25 => t.portNo | 26 => t.portNo
  | 17 => laneOfPort t.portNo idx
  | 7 => t.dieNo | 9 => t.dieNo | 10 => t.dieNo | 11 => t.dieNo | 14 => t.dieNo
  | _ => idx

/-- R76: clear the counters of one object; counts after the clear start from 0. -/
def clearObject (block obj : Nat) (d : Dev) : Dev :=
  { d with cnt := d.cnt.filter (fun e => e.1 / 64 ≠ block * 2 ^ 32 + obj) }

/-- R79: the image with one field changed and its crc recomputed. -/
def patchImage (img : Bytes) (field target idx : Nat) (v : Bytes) : Bytes :=
  let i := Config.patch img field target idx v
  splice i 16 (le 4 (imageCrc i))

/-- A set with one field changed, where the changed image still compiles and meets every check. -/
def patchSet (x : SetImg) (field target idx : Nat) (v : Bytes) (d : Dev) : Option SetImg :=
  let i := patchImage x.image field target idx v
  match compileImage i d with
  | .ok p => some { x with image := i, crc := fld i 16 4, params := p }
  | .error _ => none

/-- R76: the content of the active set after a live write: only the part that the field lies in changes. -/
def liveParams (f : LiveField) (old new : SetParams) : SetParams :=
  match f with
  | .mirrorEnable | .mirrorSample => { old with mirrors := new.mirrors }
  | .shaperRate | .shaperBurst => { old with shapers := new.shapers }
  | .meter => { old with meters := new.meters }
  | .ecnThreshold | .dropThreshold => { old with queues := new.queues }
  | .weight => { old with queues := new.queues, ports := new.ports }
  | .residueLifetime => { old with residueLifetime := new.residueLifetime }
  | .mask => { old with notifyMask := new.notifyMask }

/-- R232: does a live write meet a plaintext session, where it is not a live field? -/
def plainSession (f : LiveField) (idx : Nat) (s : SetParams) : Bool :=
  match f with
  | .mirrorEnable | .mirrorSample => (match Map.get? s.mirrors idx with | some m => m.plain | none => false)
  | _ => false

/-- R76, R231: a live write to a session holds for the frames classified after it; the count restarts when sample_n is written
or the session is enabled. -/
def mirrorEra (f : LiveField) (k gen : Nat) (old new : SetParams) (d : Dev) : Dev :=
  match f, Map.get? old.mirrors k, Map.get? new.mirrors k with
  | .mirrorEnable, some a, some b | .mirrorSample, some a, some b =>
    let eras := Map.get d.fab.eras k []
    let first := if eras.any (fun e => decide (e.gen = gen)) then eras else ⟨gen, 0, a.enabled, a.sampleN⟩ :: eras
    let restart := decide (f = .mirrorSample) || (b.enabled && !a.enabled)
    { d with fab := { d.fab with
        eras := Map.put d.fab.eras k (⟨gen, d.fab.nextFrame, b.enabled, b.sampleN⟩ :: first)
        sample := if restart then Map.put d.fab.sample k 0 else d.fab.sample } }
  | _, _, _ => d

/-- R79: the code of the target, as the field reads it. -/
def targetCode : Target → Nat
  | .device => deviceTarget
  | .die n => dieTarget n
  | .port p => portTarget p

/-- R71, R76, R79: write one field. -/
def configWrite (c : Ctx) (d : Dev) : Ans :=
  let set := fld c.pl 0 1
  let field := fld c.pl 4 4
  let idx := fld c.pl 8 4
  let n := fld c.pl 12 4
  let v := slice c.pl 16 n
  let code := targetCode c.target
  let kind := Config.fieldKind field
  let swapRuns := match d.cfg.swap with | some w => w.mailbox.isSome | none => false
  need (decide (1 ≤ n ∧ n ≤ 64) && allZero ((slice c.pl 16 64).drop n) && decide (kind ≠ .unknown) &&
    Config.fieldAccepts field code idx n) .badField <|
  if set = 0 then
    need (!(decide (d.cfg.shadowState = .loading ∨ d.cfg.shadowState = .draining) || swapPending d)) .busy <|
    match d.cfg.shadow with
    | none => .fail .badState
    | some x =>
      need (presentUp d) .badState <|
      match kind with
      | .counterClear _ => .fail .badField
      | _ =>
        match patchSet x field code idx v d with
        | none => .fail .badField
        | some y =>
          let d := keepSet (some x) d
          let d := bump .cfg 0 2 { d with cfg := { d.cfg with shadow := some { y with gen := 0 } } }
          .ok [] (twinPost (setRecord d) d)
  else
    need (!swapRuns) .busy <|
    match d.cfg.active with
    | none => .fail .badState
    | some x =>
      need (presentUp d) .badState <|
      match kind with
      | .live f =>
        need (!plainSession f idx x.params) .badState <|
        (match patchSet x field code idx v d with
         | none => .fail .badField
         | some y =>
           let y := { y with params := liveParams f x.params (altParams d.twin.tookHome y.params) }
           let d := mirrorEra f idx x.gen x.params y.params (keepBuckets x.params y.params d)
           let d := bump .cfg 0 2 { d with cfg := { d.cfg with active := some y } }
           .ok [] (twinPost (setRecord d) d))
      | .counterClear b => .ok [] (clearObject b (cntObject b c.target idx) (bump .cfg 0 2 d))
      | _ => .fail .badState

def execConfigWrite (r : Request) (s : State) : Host.Outcome State Fault Refusal :=
  onMailbox { op := 0x0205, shared := sharedState, len := 80, scopes := [.device, .dies [0, 1, 2, 3, 8, 9, 10, 11], .ports [1, 2, 3, 4, 5]],
              resv := fun p => below 0 2 p && z 1 3 p } (fun c _ d => configWrite c d) r s

/-- R83: with no active set the user part is 0. -/
def calRead (c : Ctx) (o : Otp) (d : Dev) : Ans :=
  let port := match c.target with | .port p => some p | _ => none
  match calPoint o (fld c.pl 0 2) (fld c.pl 2 2) port (prm d) d with
  | none => .fail .badField
  | some (f, u) =>
    let e := calSum f u
    .ok (le 4 (ofSigned 32 f) ++ le 4 (ofSigned 32 u) ++ le 4 (ofSigned 32 e.1) ++ le 4 (b2n e.2)) d

def execCalRead (r : Request) (s : State) : Host.Outcome State Fault Refusal :=
  onMailbox { op := 0x0206, len := 4, scopes := [.device, .ports [1, 2, 3, 4, 5]] } (fun c o d => calRead c o d) r s

/-- R85. -/
def execCfgCntRead (r : Request) (s : State) : Host.Outcome State Fault Refusal :=
  onMailbox { op := 0x0207, len := 4, resv := onlyBits 0 4 1 } (fun c _ d => cntRead .cfg 0 4 (clearFlag 0 c.pl) d) r s

end Sys2Proof.Machine
end

