-- ==== Sys2Proof/Machine/TableCmds.lean ====
section
/-! DEFINITION. Sys2Proof/Machine/TableCmds.lean: the TABLE command group (R206 to R212). -/
namespace Sys2Proof.Machine

/-- R25: the line dies a command acts on: the die named, or under device scope every present one; none if one of
them cannot be reached. -/
def scopeDies (t : Target) (d : Dev) : Option (List Nat) :=
  match t with
  | .die n => some [n]
  | _ =>
    let ds := (List.range 4).filter (fun k => diePresent k d)
    if ds.all (fun k => dieUp k d) then some ds else none

/-- The die and device scopes of the group. -/
def tableScopes : List Scope := [.device, .dies [0, 1, 2, 3]]

/-- What a command's entry names: a MAC key or a prefix. -/
inductive TblKey where
  | mac (fid mac : Nat)
  | pfx (v6 : Bool) (fid len prefix_ : Nat)

/-- Is the family byte and length of a prefix in order, with its host bits zero (R202)? -/
def pfxOk (v6 : Bool) (e : Bytes) : Bool :=
  let len := fld e 2 1
  let p := if v6 then fldBe e 4 16 else fldBe e 4 4
  decide (fld e 3 1 = (if v6 then 6 else 4) ∧ len ≤ famBits v6) && decide (maskTo v6 len p = p) &&
    (v6 || allZero (slice e 8 12))

/-- R201, R202: the key of an entry of 64 bytes for a table, if its encoding is in order. -/
def readKey (table : Nat) (e : Bytes) : Option TblKey :=
  if fld e 0 2 ≥ 4096 then none
  else if table = 3 then some (.mac (fld e 0 2) (fldBe e 2 6))
  else if table = 7 ∨ table = 9 then
    let v6 := decide (table = 9)
    if pfxOk v6 e then some (.pfx v6 (fld e 0 2) (fld e 2 1) (if v6 then fldBe e 4 16 else fldBe e 4 4)) else none
  else none

/-- R206: is the entry of an add in order beyond its key? Learning fields are zero. -/
def addEntryOk (table : Nat) (e : Bytes) : Bool :=
  let ctl := fld e 60 4
  if table = 3 then
    destValid (fld e 8 4) && overrideOk (fld e 12 1) && decide (fld e 13 1 < 2) && allZero (slice e 14 46) &&
      bit ctl 0 && decide (ctl < 8)
  else destValid (fld e 20 4) && overrideOk (fld e 24 1) && allZero (slice e 25 35) && bit ctl 0 && decide (ctl < 4)

/-- R207: an entry with only the key fields set. -/
def keyOnly (table : Nat) (e : Bytes) : Bool := if table = 3 then allZero (slice e 8 56) else allZero (slice e 20 44)

/-- The MAC entry of an add: static (R206). -/
def addMac (e : Bytes) : MacEntry :=
  ⟨fld e 0 2, fldBe e 2 6, fld e 8 4, fld e 12 1, bit (fld e 13 1) 0, 0, 0, 0, 0, 0, bit (fld e 60 4) 1, true, false,
    false, 0⟩

/-- The position and entry of a prefix that the host sees (R194). -/
def pfxFind (v6 : Bool) (die fid len p : Nat) (d : Dev) : Option (Nat × PfxEntry) :=
  match (pfxEngine v6 die d).find (pfxMap v6 d) (pfxKey fid len p) with
  | some pos => match Map.get? (pfxMap v6 d) (tblPos die pos) with
    | some e => some (pos, e) | none => none
  | none => none

/-- Add or replace a MAC entry on one die (R206): its index, or the refusal. -/
def addMacOn (replace : Bool) (e : MacEntry) (die : Nat) (d : Dev) : Except Status (Nat × Dev) :=
  match macFind die e.fid e.mac d with
  | some pos =>
    match Map.get? d.cls.mac (tblPos die pos) with
    | some old => if !replace || old.lock then .error .badState else .ok (pos, macSet die pos e d)
    | none => .error .badState
  | none => match macPlace die e d with
    | some (pos, d) => .ok (pos, d)
    | none => .error .noResource

/-- R194: the held-back form of a change to an entry. -/
def holdChange (old new : PfxEntry) : PfxEntry :=
  match old.held with
  | some .added => { new with held := some .added }
  | some (.changed a b) => { new with held := some (.changed a b) }
  | _ => { new with held := some (.changed old.dest old.override) }

/-- Add or replace a prefix on one die (R206). -/
def addPfxOn (replace v6 : Bool) (e : PfxEntry) (die : Nat) (d : Dev) : Except Status (Nat × Dev) :=
  match pfxFind v6 die e.fid e.len e.prefix_ d with
  | some (pos, old) =>
    if old.held ≠ some .deleted ∧ (replace = false ∨ old.lock = true) then .error .badState
    else .ok (pos, setPfxMap v6 (Map.put (pfxMap v6 d) (tblPos die pos) (holdChange old e)) d)
  | none =>
    match (pfxEngine v6 die d).place (pfxMap v6 d) { e with held := some .added } with
    | some r => .ok (r.pos, countPlaced die r (setPfxMap v6 r.map d))
    | none => .error .noResource

/-- Do one thing on each die in turn; the first failure refuses all (R25). Each die's answer is kept. -/
def onDies (f : Nat → Dev → Except Status (Nat × Dev)) : List Nat → List (Nat × Nat) → Dev →
    Except Status (List (Nat × Nat) × Dev)
  | [], acc, d => .ok (acc, d)
  | k :: ks, acc, d =>
    match f k d with
    | .error e => .error e
    | .ok (i, d) => onDies f ks (acc ++ [(k, i)]) d

/-- R189, R204: the engine handles in order of arrival: what waits for it on a die comes before a command's entry. -/
def engineCatchUp (die : Nat) (d : Dev) : Dev :=
  (Map.get d.cls.learnQ die []).foldl (fun d _ => learnInsert die d) d

/-- R206: the four indexes of a response. -/
def indexBytes (l : List (Nat × Nat)) : Bytes :=
  (List.range 4).flatMap (fun k => le 4 (match l.find? (fun e => e.1 = k) with
    | some e => posIndex e.2 | none => 0xFFFFFFFF))

/-- R206. -/
def tableAdd (c : Ctx) (d : Dev) : Ans :=
  let e := slice c.pl 4 64
  let table := fld c.pl 0 1
  let rep := bit (fld c.pl 1 1) 0
  match readKey table e with
  | none => .fail .badField
  | some key =>
    need (addEntryOk table e) .badField <|
    match scopeDies c.target d with
    | none => .fail .badState
    | some ds =>
      let f := match key with
        | .mac _ _ => fun die d => addMacOn rep (addMac e) die (engineCatchUp die d)
        | .pfx v6 fid len p => addPfxOn rep v6 ⟨fid, len, p, fld e 20 4, fld e 24 1, bit (fld e 60 4) 1, none⟩
      match onDies f ds [] d with
      | .error st => .fail st
      | .ok (l, d) => .ok (indexBytes l) d

def execTableAdd (r : Request) (s : State) : Host.Outcome State Fault Refusal :=
  onMailbox { op := 0x0701, len := 68, scopes := tableScopes, awake := true, resv := fun p => onlyBits 1 1 1 p && z 2 2 p }
    (fun c _ d => tableAdd c d) r s

/-- R207: delete a key on one die; an entry that lookups have never seen goes at once. -/
def deleteOn (key : TblKey) (die : Nat) (d : Dev) : Except Status (Nat × Dev) :=
  match key with
  | .mac fid mac => match macFind die fid mac d with
    | some pos => .ok (pos, macRemove die pos d)
    | none => .error .badState
  | .pfx v6 fid len p => match pfxFind v6 die fid len p d with
    | some (pos, e) =>
      if e.held = some .deleted then .error .badState
      else if e.held = some .added then .ok (pos, setPfxMap v6 (Map.del (pfxMap v6 d) (tblPos die pos)) d)
      else
        let e' := match e.held with | some (.changed a b) => { e with dest := a, override := b } | _ => e
        .ok (pos, setPfxMap v6 (Map.put (pfxMap v6 d) (tblPos die pos) { e' with held := some .deleted }) d)
    | none => .error .badState

/-- R207. -/
def tableDelete (c : Ctx) (d : Dev) : Ans :=
  let e := slice c.pl 4 64
  match readKey (fld c.pl 0 1) e with
  | none => .fail .badField
  | some key =>
    need (keyOnly (fld c.pl 0 1) e) .badField <|
    match scopeDies c.target d with
    | none => .fail .badState
    | some ds => match onDies (deleteOn key) ds [] d with
      | .error st => .fail st
      | .ok (_, d) => .ok [] d

def execTableDelete (r : Request) (s : State) : Host.Outcome State Fault Refusal :=
  onMailbox { op := 0x0702, len := 68, scopes := tableScopes, awake := true, resv := fun p => z 1 3 p }
    (fun c _ d => tableDelete c d) r s

/-- R208. -/
def tableLookup (c : Ctx) (d : Dev) : Ans :=
  let e := slice c.pl 4 64
  let die := c.target.dieNo
  match readKey (fld c.pl 0 1) e with
  | none => .fail .badField
  | some key =>
    need (keyOnly (fld c.pl 0 1) e) .badField <|
      let hit : Option (Nat × Bytes) := match key with
        | .mac fid mac => match macFind die fid mac d with
          | some pos => (Map.get? d.cls.mac (tblPos die pos)).map (fun e => (pos, macBytes e))
          | none => none
        | .pfx v6 fid len p => match pfxFind v6 die fid len p d with
          | some (pos, e) => if e.held = some .deleted then none else some (pos, pfxBytes v6 e)
          | none => none
      match hit with
      | some (pos, bs) => .ok (le 4 (posIndex pos) ++ bs) d
      | none => .ok (le 4 0xFFFFFFFF ++ zeros 64) d

def execTableLookup (r : Request) (s : State) : Host.Outcome State Fault Refusal :=
  onMailbox { op := 0x0703, len := 68, scopes := [.dies [0, 1, 2, 3]], resv := fun p => z 1 3 p }
    (fun c _ d => tableLookup c d) r s

/-- R209. -/
def tableFlush (c : Ctx) (d : Dev) : Ans :=
  let table := fld c.pl 0 1
  need (decide (table = 3 ∨ table = 7 ∨ table = 9) && (!bit (fld c.pl 1 1) 1 || decide (fld c.pl 2 2 < 4096)) &&
    (!bit (fld c.pl 1 1) 2 || destValid (fld c.pl 4 4))) .badField <|
  match scopeDies c.target d with
  | none => .fail .badState
  | some ds =>
    .pend 500 table { d with cls := { d.cls with
      flushes := d.cls.flushes ++ [⟨c.handle, ds, table, fld c.pl 1 1, fld c.pl 2 2, fld c.pl 4 4⟩] } }

def execTableFlush (r : Request) (s : State) : Host.Outcome State Fault Refusal :=
  onMailbox { op := 0x0704, len := 16, scopes := tableScopes, awake := true, resv := fun p => onlyBits 1 1 4 p && z 8 8 p }
    (fun c _ d => tableFlush c d) r s

/-- R209: does a flush name an entry of these properties? -/
def Flush.names (f : Flush) (fid dest : Nat) (learned remote : Bool) : Bool :=
  (learned || bit f.flags 0) && (!bit f.flags 1 || decide (fid = f.fid)) && (!bit f.flags 2 || decide (dest = f.dest)) &&
    (!bit f.flags 3 || remote)

/-- R209: flush the MAC table of a die: removed and locked-skipped so far, and the state. -/
def flushMac (f : Flush) (die : Nat) (acc : Nat × Nat × Dev) : Nat × Nat × Dev :=
  (ofDie die acc.2.2.cls.mac).foldl (fun a e =>
    if f.names e.2.fid e.2.dest (!e.2.static) e.2.remote then
      if e.2.lock then (a.1, a.2.1 + 1, a.2.2) else (a.1 + 1, a.2.1, macRemove die (posOf e.1) a.2.2)
    else a) acc

/-- R209: flush a prefix table of a die, and rebuild its sieve. No prefix is learned or remote. -/
def flushPfx (f : Flush) (v6 : Bool) (die : Nat) (acc : Nat × Nat × Dev) : Nat × Nat × Dev :=
  let r := (ofDie die (pfxMap v6 acc.2.2)).foldl (fun a e =>
    if f.names e.2.fid e.2.dest false false && decide (e.2.held ≠ some .deleted) then
      if e.2.lock then (a.1, a.2.1 + 1, a.2.2) else (a.1 + 1, a.2.1, setPfxMap v6 (Map.del (pfxMap v6 a.2.2) e.1) a.2.2)
    else a) acc
  (r.1, r.2.1, sieveRebuild v6 die r.2.2)

/-- R209: a flush ends. -/
def tableFlushComplete (h : Nat) (d : Dev) : Dev :=
  match d.cls.flushes.find? (fun f => f.handle = h) with
  | none => d
  | some f =>
    let d := { d with cls := { d.cls with flushes := d.cls.flushes.filter (fun g => g.handle ≠ h) } }
    let r := f.dies.foldl (fun a die =>
      if f.table = 3 then flushMac f die a else flushPfx f (decide (f.table = 9)) die a) (0, 0, d)
    complete h .ok (le 4 r.1 ++ le 4 r.2.1 ++ zeros 8) r.2.2

def execTableFlushComplete (handle : Nat) (s : State) : Host.Outcome State Fault Refusal :=
  onDev (tableFlushComplete handle) s

/-- R210: capacity and 95 % point of a cuckoo table. -/
def Tid.capacity (t : Tid) : Nat := 4 * t.buckets

/-- R189: the 95 % point. -/
def Tid.guaranteed (t : Tid) : Nat := t.capacity * 95 / 100

/-- R210: the valid entries of a cuckoo table: position, is it locked, is it pinned. -/
def tableEntries (t : Tid) (die : Nat) (d : Dev) : List (Nat × Bool × Bool) :=
  let pfx (v6 : Bool) := ((ofDie die (pfxMap v6 d)).filter (fun e => decide (e.2.held ≠ some .deleted))).map
    (fun e => (posOf e.1, e.2.lock, false))
  match t with
  | .mac => (ofDie die d.cls.mac).map (fun e => (posOf e.1, e.2.lock, e.2.pinned))
  | .sci => (ofDie die d.cls.sci).map (fun e => (posOf e.1, false, false))
  | .ipv4 => pfx false
  | .ipv6 => pfx true

/-- R210: a cuckoo table's figures, or those of its stash alone: entries used, stash entries used, locked, pinned. -/
def tableFigures (t : Tid) (stash : Bool) (die : Nat) (d : Dev) : Nat × Nat × Nat × Nat :=
  let all := tableEntries t die d
  let inStash := all.filter (fun e => decide (2 ^ 19 ≤ e.1))
  let m := if stash then inStash else all
  (m.length, inStash.length, (m.filter (·.2.1)).length, (m.filter (·.2.2)).length)

/-- R182: the cuckoo table of a table_id, main or stash. -/
def tidOf (table : Nat) : Option (Tid × Bool) :=
  match table with
  | 3 => some (.mac, false) | 4 => some (.mac, true) | 5 => some (.sci, false) | 6 => some (.sci, true)
  | 7 => some (.ipv4, false) | 8 => some (.ipv4, true) | 9 => some (.ipv6, false) | 10 => some (.ipv6, true)
  | _ => none

/-- R182: a direct table's entries and valid entries, if the table is defined. -/
def directFigures (table die : Nat) (d : Dev) : Option (Nat × Nat) :=
  if table = 1 then some (24, ((List.range 24).filter (fun lp => match portOfLocal die lp with
    | some p => (portPrm p d).isSome | none => false)).length)
  else if table = 2 then some (4096, ((prm d).vlans.filter (fun e => decide (e.1 / 4096 = die))).length)
  else if 0x14 ≤ table ∧ table ≤ 0x27 then
    match portOfLocal die (table - 0x10) with
    | some p => match portPrm p d with
      | some x => if x.side = 1 then some (4096, x.vlanSecy.length) else none
      | none => none
    | none => none
  else none

/-- R210. -/
def tableInfo (c : Ctx) (d : Dev) : Ans :=
  let table := fld c.pl 0 1
  let die := c.target.dieNo
  match tidOf table with
  | some (t, stash) =>
    let (used, st, locked, pinned) := tableFigures t stash die d
    .ok (le 4 (if stash then 64 else t.capacity) ++ le 4 used ++ le 2 st
      ++ le 2 (min locked 65535) ++ le 4 (if stash then 64 else t.guaranteed) ++ le 4 pinned ++ zeros 4) d
  | none =>
    match directFigures table die d with
    | some (n, used) => .ok (le 4 n ++ le 4 used ++ le 2 0 ++ le 2 0 ++ le 4 n ++ le 4 0 ++ zeros 4) d
    | none => .fail .badField

def execTableInfo (r : Request) (s : State) : Host.Outcome State Fault Refusal :=
  onMailbox { op := 0x0705, len := 4, scopes := [.dies [0, 1, 2, 3]], resv := z 1 3 } (fun c _ d => tableInfo c d) r s

/-- R211: end the pin of a key on one die, if it is pinned there. -/
def unpinOn (fid mac die : Nat) (d : Dev) : Option Dev :=
  match macFind die fid mac d with
  | some pos => match Map.get? d.cls.mac (tblPos die pos) with
    | some e => if e.pinned then some (macSet die pos (unpin (msNow d) e) d) else none
    | none => none
  | none => none

/-- R211. -/
def tableUnpin (c : Ctx) (d : Dev) : Ans :=
  let fid := fld c.pl 0 2
  let mac := fldBe c.pl 2 6
  need (decide (fid < 4096)) .badField <|
  match scopeDies c.target d with
  | none => .fail .badState
  | some ds =>
    need (ds.any (fun k => (unpinOn fid mac k d).isSome)) .badState <|
      .ok [] (ds.foldl (fun d k => (unpinOn fid mac k d).getD d) d)

def execTableUnpin (r : Request) (s : State) : Host.Outcome State Fault Refusal :=
  onMailbox { op := 0x0706, len := 8, scopes := tableScopes, awake := true } (fun c _ d => tableUnpin c d) r s

def execClsCntRead (r : Request) (s : State) : Host.Outcome State Fault Refusal :=
  onMailbox { op := 0x0707, len := 4, scopes := [.dies [0, 1, 2, 3]], resv := onlyBits 0 4 1 }
    (fun c _ d => cntRead .cls c.target.dieNo 22 (clearFlag 0 c.pl) d) r s

end Sys2Proof.Machine
end

