-- ==== Sys2Proof/Machine/Windows.lean ====
section
/-! DEFINITION. Sys2Proof/Machine/Windows.lean: table entries as windows and DMA see them (R63 to R65, R182, R203). -/
namespace Sys2Proof.Machine

/-- A host access to BAR0 or BAR2 that reaches the device; the link is in L0 (R39, R432). -/
def hostAccess (f : Dev → Dev) (d : Dev) : Dev :=
  if hostReaches d then f { d with time := { d.time with linkL0 := true } } else d

/-- R63, R182: one access counted as discarded. -/
def windowDiscard (d : Dev) : Dev := bump .hostif 0 5 d

/-- R182: the entries of a defined table of a die. -/
def tableSize (table die : Nat) (d : Dev) : Option Nat :=
  match tidOf table with
  | some (t, stash) => some (if stash then 64 else t.capacity)
  | none => (directFigures table die d).map (·.1)

/-- R182: the position in its map of entry `k` of a cuckoo table. -/
def entryPos (stash : Bool) (k : Nat) : Nat := if stash then stashPos k else k

/-- The bytes of an empty entry. -/
def emptyEntry : Bytes := zeros 64

/-- The bytes of an entry, or of an empty position. -/
def entryOr (o : Option Bytes) : Bytes := match o with | some b => b | none => emptyEntry

/-- R64: the bytes of an entry of a cuckoo table, or of an empty position, whose lock bit may be set. -/
def entryOrHole (t : Tid) (k : Nat) (o : Option Bytes) (d : Dev) : Bytes :=
  match o with
  | some b => b
  | none => zeros 60 ++ le 4 (if d.cls.holes.contains (holeKey t k) then 2 else 0)

/-- R194: the prefix entry at a position, as windows see it: one whose deletion waits is gone. -/
def pfxThere (v6 : Bool) (k : Nat) (d : Dev) : Option PfxEntry :=
  match Map.get? (pfxMap v6 d) k with
  | some e => if e.held = some .deleted then none else some e
  | none => none

/-- The settings of the port of a local port number, where it is formed. -/
def localPrm (die lp : Nat) (d : Dev) : Option PortPrm := (portOfLocal die lp).bind (fun p => portPrm p d)

/-- R182 to R185, R201, R202: the 64 bytes of entry `k` of a table. The layout of a PORT entry's fields is open, R183 gives none;
its ENTRY_CTL is that of R64. -/
def tableEntry (table die k : Nat) (d : Dev) : Bytes :=
  let at_ (stash : Bool) : Nat := tblPos die (entryPos stash k)
  match tidOf table with
  | some (.mac, st) => entryOrHole .mac (at_ st) ((Map.get? d.cls.mac (at_ st)).map macBytes) d
  | some (.sci, st) => entryOr ((Map.get? d.cls.sci (at_ st)).map sciBytes)
  | some (.ipv4, st) => entryOrHole .ipv4 (at_ st) ((pfxThere false (at_ st) d).map (pfxBytes false)) d
  | some (.ipv6, st) => entryOrHole .ipv6 (at_ st) ((pfxThere true (at_ st) d).map (pfxBytes true)) d
  | none =>
    if table = 1 then entryOr ((localPrm die k d).map (fun x => slice (Config.portEntry x.ingress) 0 60 ++ le 4 1))
    else if table = 2 then entryOr ((Map.get? (prm d).vlans (4096 * die + k)).map vlanBytes)
    else entryOr ((localPrm die (table - 0x10) d).bind (fun x =>
      (Map.get? x.vlanSecy k).map (fun i => le 2 i ++ zeros 58 ++ le 4 1)))

/-- R203: a commit to a MAC entry that exists. DESIGN CHOICE: one with a reserved destination, class override or flag is discarded,
as the changes that R203 excludes are. -/
def commitMac (die pos : Nat) (e : MacEntry) (b : Bytes) (d : Dev) : Dev :=
  let old := macBytes e
  let ctl := fld b 60 4
  if slice b 0 8 ≠ slice old 0 8 ∨ slice b 16 20 ≠ slice old 16 20 ∨ bits ctl 3 4 ≠ bits (fld old 60 4) 3 4 then windowDiscard d
  else if !bit ctl 0 then setHole .mac (tblPos die pos) (bit ctl 1) (macRemove die pos d)
  else if !(destValid (fld b 8 4) && overrideOk (fld b 12 1) && decide (fld b 13 1 < 2)) then windowDiscard d
  else
    macSet die pos { e with dest := fld b 8 4, override := fld b 12 1, discard := bit (fld b 13 1) 0, lock := bit ctl 1,
                            static := bit ctl 2 } d

/-- R194, R203: a commit to a prefix entry that exists: lookups already running keep what they saw. DESIGN CHOICE: one with a
reserved destination or class override is discarded. -/
def commitPfx (v6 : Bool) (die pos : Nat) (e : PfxEntry) (b : Bytes) (d : Dev) : Dev :=
  let ctl := fld b 60 4
  if slice b 0 20 ≠ slice (pfxBytes v6 e) 0 20 then windowDiscard d
  else if !bit ctl 0 then
    setHole (if v6 then .ipv6 else .ipv4) (tblPos die pos) (bit ctl 1)
      (match deleteOn (.pfx v6 e.fid e.len e.prefix_) die d with | .ok (_, d) => d | .error _ => d)
  else if !(destValid (fld b 20 4) && overrideOk (fld b 24 1)) then windowDiscard d
  else
    let e' := holdChange e { e with dest := fld b 20 4, override := fld b 24 1, lock := bit ctl 1 }
    setPfxMap v6 (Map.put (pfxMap v6 d) (tblPos die pos) e') d

/-- R64, R203: a commit to an empty position: setting valid is discarded; the lock bit is kept. -/
def commitEmpty (t : Tid) (k : Nat) (b : Bytes) (d : Dev) : Dev :=
  if bit (fld b 60 4) 0 then windowDiscard d else setHole t k (bit (fld b 60 4) 1) d

/-- R64, R182, R203: commit 64 bytes to entry `k` of a table. -/
def commitEntry (table die k : Nat) (b : Bytes) (d : Dev) : Dev :=
  let pfx (v6 st : Bool) : Dev :=
    match pfxThere v6 (tblPos die (entryPos st k)) d with
    | some e => commitPfx v6 die (entryPos st k) e b d
    | none => commitEmpty (if v6 then .ipv6 else .ipv4) (tblPos die (entryPos st k)) b d
  match tidOf table with
  | some (.mac, st) =>
    match Map.get? d.cls.mac (tblPos die (entryPos st k)) with
    | some e => commitMac die (entryPos st k) e b d
    | none => commitEmpty .mac (tblPos die (entryPos st k)) b d
  | some (.ipv4, st) => pfx false st
  | some (.ipv6, st) => pfx true st
  | _ => windowDiscard d

/-- R182: may windows write the table? -/
def tableWritable (table : Nat) : Bool := decide (table = 3 ∨ table = 4 ∨ (7 ≤ table ∧ table ≤ 10))

/-! ### Apertures (R63, R64) -/

/-- An aperture after reset. -/
def Aperture.init : Aperture := ⟨0, none, none⟩

/-- An aperture by its number 16 die + a. -/
def aperture (n : Nat) (d : Dev) : Aperture := Map.get d.host.apertures n Aperture.init

/-- Store an aperture. -/
def setAperture (n : Nat) (a : Aperture) (d : Dev) : Dev := { d with host := { d.host with apertures := Map.put d.host.apertures n a } }

/-- What an aperture shows: disabled, not a table, or entry `k` of a table. -/
inductive Shown where
  | off
  | nothing
  | entry (table k : Nat)

/-- R63: what entry `e` of the page of an aperture is. DESIGN CHOICE: a disabled aperture of an absent die is disabled (it reads 0
and counts nothing), and an entry past the last of its table, on a page that the table has, reaches no table. -/
def shown (die a e : Nat) (d : Dev) : Shown :=
  let s := (aperture (16 * die + a) d).sel
  let k := bits s 8 8 * 16384 + e
  if !bit s 31 then .off
  else if !diePresent die d then .nothing
  else match tableSize (s % 256) die d with
    | some n => if bits s 8 8 * 16384 < n ∧ k < n then .entry (s % 256) k else .nothing
    | none => .nothing

/-- The number of an entry among those of all tables. -/
def entryKey (table k : Nat) : Nat := table * 2 ^ 22 + k

/-- R64: staging of another entry is discarded. -/
def stagingFor (n k : Nat) (d : Dev) : Dev :=
  match (aperture n d).stage with
  | some (k', _) => if k' = k then d else windowDiscard (setAperture n { aperture n d with stage := none } d)
  | none => d

/-- R64: write bytes 0 to 59 of entry `k` of a table; a buffer not yet written holds open values. -/
def windowStage (n t k off : Nat) (data : Bytes) (d : Dev) : Dev :=
  let d := stagingFor n (entryKey t k) d
  let (buf, d) := match (aperture n d).stage with | some (_, b) => (b, d) | none => freshBytes 64 d
  setAperture n { aperture n d with stage := some (entryKey t k, slice (splice buf off data) 0 64) } d

/-- R64: a write of ENTRY_CTL with staged data: the whole entry as one write. -/
def windowCommit (n table die k ctl : Nat) (d : Dev) : Dev :=
  match (aperture n (stagingFor n (entryKey table k) d)).stage with
  | some (_, b) =>
    commitEntry table die k (slice b 0 60 ++ le 4 ctl) (setAperture n { aperture n d with stage := none } d)
  | none => d

/-- R64: a control-only write changes valid and lock. -/
def windowControl (table die k ctl : Nat) (d : Dev) : Dev :=
  let b := tableEntry table die k d
  commitEntry table die k (slice b 0 60 ++ le 4 (fld b 60 4 / 4 * 4 + ctl % 4)) d

/-- A write through an aperture: what does not reach a table is discarded (R63, R182). -/
def windowWrite (die a e : Nat) (act : Nat → Nat → Dev → Dev) (d : Dev) : Dev :=
  match shown die a e d with
  | .off => d
  | .nothing => windowDiscard d
  | .entry t k => if tableWritable t then act t k d else windowDiscard d

/-- R64: is data staged for an entry? -/
def staged (n k : Nat) (d : Dev) : Bool := match (aperture n d).stage with | some (k', _) => decide (k' = k) | none => false

/-- R64: a write to bytes 60 to 63. -/
def windowCtl (n t die k ctl : Nat) (d : Dev) : Dev :=
  if staged n (entryKey t k) d then windowCommit n t die k ctl d else windowControl t die k ctl (stagingFor n (entryKey t k) d)

/-- R64: a write to bytes 0 to 59; one that reaches byte 63 commits as well. -/
def windowDataWrite (die a e off : Nat) (data : Bytes) (d : Dev) : Dev :=
  let n := 16 * die + a
  windowWrite die a e (fun t k d =>
    let d := windowStage n t k off (data.take (60 - off)) d
    if 64 ≤ off + data.length then windowCommit n t die k (fld data (60 - off) 4) d else d) d

def execWindowDataWrite (die : Fin 4) (aperture : Fin 16) (entry : Fin 16384) (off : Fin 60) (data : Bytes) (s : State) :
    Host.Outcome State Fault Refusal :=
  onDev (hostAccess (windowDataWrite die.val aperture.val entry.val off.val data)) s

def execWindowCommit (die : Fin 4) (aperture : Fin 16) (entry : Fin 16384) (ctl : BitVec 32) (s : State) :
    Host.Outcome State Fault Refusal :=
  let n := 16 * die.val + aperture.val
  onDev (hostAccess (windowWrite die.val aperture.val entry.val (fun t k d => windowCtl n t die.val k ctl.toNat d))) s

def execWindowControlWrite (die : Fin 4) (aperture : Fin 16) (entry : Fin 16384) (ctl : BitVec 32) (s : State) :
    Host.Outcome State Fault Refusal :=
  let n := 16 * die.val + aperture.val
  onDev (hostAccess (windowWrite die.val aperture.val entry.val (fun t k d => windowCtl n t die.val k ctl.toNat d))) s

/-- What the host reads. -/
def hostReads (v : Nat) (d : Dev) : Dev := { d with host := { d.host with lastRead := v } }

/-- R63, R64: a 32-bit read of an entry: a read of bytes 0 to 3, or of an entry without a snapshot, takes one. -/
def windowRead (die a e off : Nat) (d : Dev) : Dev :=
  let n := 16 * die + a
  match shown die a e d with
  | .off => hostReads 0 d
  | .nothing =>
    let d := windowDiscard d
    if diePresent die d then let (v, d) := fresh d; hostReads (v % 2 ^ 32) d else hostReads 0xFFFFFFFF d
  | .entry t k =>
    let kept := match (aperture n d).snap with | some (k', b) => if k' = entryKey t k ∧ 4 ≤ off then some b else none | none => none
    match kept with
    | some b => hostReads (fld b (off / 4 * 4) 4) d
    | none =>
      let b := tableEntry t die k d
      hostReads (fld b (off / 4 * 4) 4) (setAperture n { aperture n d with snap := some (entryKey t k, b) } d)

def execWindowReadSnapshot (die : Fin 4) (aperture : Fin 16) (entry : Fin 16384) (off : Fin 64) (s : State) :
    Host.Outcome State Fault Refusal :=
  onDev (hostAccess (windowRead die.val aperture.val entry.val off.val)) s

end Sys2Proof.Machine
end

