-- ==== Sys2Proof/Machine/Dma.lean ====
section
/-! DEFINITION. Sys2Proof/Machine/Dma.lean: DMA channels (R60 to R62) and the look-aside jobs that they feed (R157 to
R161, R174). -/
namespace Sys2Proof.Machine

/-- A channel after reset. -/
def DmaChan.init : DmaChan := ⟨false, false, false, false, 0, 0, 0, 0, 0, 0, none⟩

/-- Channel `n`. -/
def dmaChan (n : Nat) (d : Dev) : DmaChan := Map.get d.host.dma n DmaChan.init

/-- Store a channel. -/
def setChan (n : Nat) (c : DmaChan) (d : Dev) : Dev := { d with host := { d.host with dma := Map.put d.host.dma n c } }

/-- R61: read a descriptor. -/
def readDesc (index : Nat) (b : Bytes) : DmaDesc := ⟨index, fld b 0 4, fld b 4 4, fld b 8 8, fld b 16 8, fld b 28 4⟩

/-- R60: the regions of the device address space. -/
inductive Region60 where
  | stockpot (off : Nat)
  | table (die t entry : Nat)
  | staging (off : Nat)
  | laIn (job off : Nat)
  | laOut (job off : Nat)
  | records (off : Nat)
  | blocked
  | reserved
  deriving DecidableEq, Repr

/-- R60, R158: the region that an address lies in. -/
def regionAt (a : Nat) : Region60 :=
  if a < 0x200000000 then .stockpot a
  else if 0x1000000000 ≤ a ∧ a < 0x1400000000 then
    let o := a - 0x1000000000
    .table (o / 2 ^ 32) (o / 2 ^ 24 % 256) (o % 2 ^ 24 / 64)
  else if 0x2000000000 ≤ a ∧ a < 0x2000400000 then .staging (a - 0x2000000000)
  else if 0x3000000000 ≤ a ∧ a < 0x3040000000 then .laIn ((a - 0x3000000000) / 0x4000000) ((a - 0x3000000000) % 0x4000000)
  else if 0x3080000000 ≤ a ∧ a < 0x30C0000000 then .laOut ((a - 0x3080000000) / 0x4000000) ((a - 0x3080000000) % 0x4000000)
  else if 0x4000000000 ≤ a ∧ a < 0x4000200000 then .records (a - 0x4000000000)
  else if 0xF000000000 ≤ a then .blocked else .reserved

/-- R60: do both ends of a range lie in one region of the map? -/
def sameRegion (x y : Region60) : Bool :=
  match x, y with
  | .stockpot _, .stockpot _ => true
  | .table d t _, .table d' t' _ => decide (d = d' ∧ t = t')
  | .staging _, .staging _ => true
  | .laIn j _, .laIn j' _ => decide (j = j')
  | .laOut j _, .laOut j' _ => decide (j = j')
  | .records _, .records _ => true
  | _, _ => false

/-- R160: is the descriptor one of those that were posted for the output of a job that has ended without it? -/
def laDead (j ch : Nat) (d : Dev) : Bool := d.vault.deadOut.any (fun e => decide (e.1 = j ∧ e.2.1 = ch))

/-- R160: the channel takes the next descriptor of its ring: one less that was posted for an ended job. -/
def takeDead (ch : Nat) (d : Dev) : Dev :=
  let left := d.vault.deadOut.map (fun e => if e.2.1 = ch then (e.1, ch, e.2.2 - 1) else e)
  { d with vault := { d.vault with deadOut := left.filter (fun e => decide (e.2.2 ≠ 0)) } }

/-- R158: a descriptor that is in order for a look-aside window is accepted: the next one starts behind it. -/
def laPost (a : Region60) (len : Nat) (d : Dev) : Dev :=
  match a with
  | .laIn j off => match Map.get? d.vault.jobs j with
    | some x => setJob j { x with inPosted := off + len, lastDesc := d.time.elapsed } d
    | none => d
  | .laOut j off => match Map.get? d.vault.jobs j with
    | some x => setJob j { x with outPosted := off + len, lastDesc := d.time.elapsed } d
    | none => d
  | _ => d

/-- An accepted descriptor of a look-aside window fell away before its transfer. DESIGN CHOICE: the next one starts where it did. -/
def laUnpost (x : DmaDesc) (d : Dev) : Dev :=
  match regionAt x.devAddr with
  | .laIn j off => match Map.get? d.vault.jobs j with
    | some k => setJob j { k with inPosted := min k.inPosted off } d
    | none => d
  | .laOut j off => match Map.get? d.vault.jobs j with
    | some k => setJob j { k with outPosted := min k.outPosted off } d
    | none => d
  | _ => d

/-- R158: the code a descriptor of the look-aside service gets, 0 where it is in order. -/
def laCode (out : Bool) (toHost : Bool) (j off len : Nat) (d : Dev) : Nat :=
  match Map.get? d.vault.jobs j with
  | none => 2
  | some x =>
    let next := if out then x.outPosted else x.inPosted
    let total := if out then laOutLen x else x.aadLen + x.dataLen
    if out ≠ toHost ∨ off ≠ next then 2 else if len % 16 ≠ 0 then 3 else if total < off + len then 2 else 0

/-- R60, R61, R62: the code that a descriptor gets before its transfer, 0 where it may start. -/
def descCode (ch : Nat) (x : DmaDesc) (d : Dev) : Nat :=
  let fw := decide (14 ≤ ch)
  let toHost := bit x.ctrl 0
  let lenBad := decide (x.length < 4 ∨ 16777216 < x.length ∨ x.length % 4 ≠ 0 ∨ x.hostAddr % 4 ≠ 0 ∨ x.devAddr % 4 ≠ 0)
  let a := regionAt x.devAddr
  let b := regionAt (x.devAddr + max x.length 1 - 1)
  if a = .blocked ∨ b = .blocked then 1
  else if !sameRegion a b then 2
  else match a with
    | .stockpot _ => if !fw && !toHost then 2 else if lenBad then 3 else 0
    | .table _ _ _ => if lenBad || decide (x.devAddr % 64 ≠ 0 ∨ x.length % 64 ≠ 0) then 3 else 0
    | .staging _ => if lenBad then 3 else 0
    | .laIn j off => if fw then 2 else let c := laCode false toHost j off x.length d; if c = 0 && lenBad then 3 else c
    | .laOut j off => if fw then 2 else if laDead j ch d then 5 else let c := laCode true toHost j off x.length d; if c = 0 && lenBad then 3 else c
    | .records _ => if !toHost then 2 else if lenBad then 3 else 0
    | _ => 2

/-- R113: an access stopped at an address of key SRAM counts as a blocked read of its line die. -/
def keyBlocked (addr : Nat) (d : Dev) : Dev :=
  if Config.blockedDie addr < 4 then bump .key (Config.blockedDie addr) 8 d else d

/-- R61, R62: write the status of a descriptor back, and signal the channel's vector if it is asked for. -/
def descDone (ch : Nat) (x : DmaDesc) (code : Nat) (d : Dev) : Dev :=
  let c := dmaChan ch d
  let addr := c.baseHi * 2 ^ 32 + c.baseLo + 32 * x.index + 24
  let halt := decide (1 ≤ code ∧ code ≤ 4)
  let d := emit (.hostWrite addr (le 2 (0x8000 + code))) d
  let d := setChan ch { c with inFlight := none, halted := c.halted || halt, running := c.running && !halt,
                               err := if halt then code else c.err } d
  let d := if code = 1 then keyBlocked x.devAddr (record 0x104 deviceTarget (le 1 ch ++ le 8 x.devAddr) (bump .hostif 0 3 d)) else d
  if bit x.ctrl 1 && c.irqEnable && decide (ch < 14) then signal (17 + ch) d else d

/-- R62: the channel takes the next descriptor, whose bytes it reads from host memory. DESIGN CHOICE: RING_BASE and RING_SIZE are
used as written, also outside their ranges; a start on a firmware channel that R68 has halted stands for the firmware's reset
of it. -/
def descStart (ch : Nat) (bs : Bytes) (d : Dev) : Dev :=
  let c := dmaChan ch d
  let fw := decide (14 ≤ ch)
  let free := c.inFlight.isNone && (fw || !c.halted)
  let may := if fw then d.host.fwReady && !d.host.fwRestarting else c.enable && decide (c.cons ≠ c.prod)
  if !(free && may && d.sys.porst && d.sys.srst) then d
  else
    let x := readDesc c.cons bs
    let d := setChan ch { c with cons := (c.cons + 1) % max c.size 1, inFlight := some x, halted := false, running := true } d
    match descCode ch x d with
    | 0 => takeDead ch (laPost (regionAt x.devAddr) x.length d)
    | code => takeDead ch (descDone ch x code d)

def execDmaDescriptorStart (ch : Fin 16) (desc : Bytes) (s : State) : Host.Outcome State Fault Refusal :=
  onDev (descStart ch.val desc) s

/-! ### Transfers -/

/-- Can the region answer: the stockpot and the tables are asleep in SLEEP (R440)? -/
def regionAnswers (a : Region60) (d : Dev) : Bool :=
  match a with | .stockpot _ => awake d | .table _ _ _ => awake d | _ => true

/-- R60: is table `t` of a die there (R63)? -/
def tableThere (die t k : Nat) (d : Dev) : Bool :=
  diePresent die d && (match tableSize t die d with | some n => decide (k < n) | none => false)

/-- R64: read whole entries. DESIGN CHOICE: in a transfer, an entry that reaches no table, by its table, its number or its die,
reads as a window reads it and is counted as discarded, and the descriptor ends with code 0x00. -/
def readEntries (die t : Nat) : Nat → Nat → Dev → Bytes × Dev
  | 0, _, d => ([], d)
  | n + 1, k, d =>
    if !tableThere die t k d then
      let r := readEntries die t n (k + 1) (windowDiscard d)
      ((if diePresent die d then zeros 64 else List.replicate 64 0xFF) ++ r.1, r.2)
    else
      let r := readEntries die t n (k + 1) d
      (tableEntry t die k d ++ r.1, r.2)

/-- R64, R203: commit whole entries. -/
def writeEntries (die t : Nat) : Nat → Bytes → Nat → Dev → Dev
  | 0, _, _, d => d
  | n + 1, bs, k, d =>
    let d := if tableThere die t k d && tableWritable t then commitEntry t die k (slice bs 0 64) d else windowDiscard d
    writeEntries die t n (bs.drop 64) (k + 1) d

/-- R60: what a transfer to the host reads. -/
def regionRead (a : Region60) (fw : Bool) (n : Nat) (d : Dev) : Bytes × Dev :=
  match a with
  | .stockpot o => if fw then (memReadPlain o n d, (blocksIn o n).foldl (fun d b => countRead b d) d) else (cipherView o n d, d)
  | .table die t k => readEntries die t (n / 64) k d
  | .staging o => (memRead 0 d.host.staging o n, d)
  | .records o => (ringBytes o n d, d)
  | _ => ([], d)

/-- R60: what a transfer from the host writes. -/
def regionWrite (a : Region60) (bs : Bytes) (d : Dev) : Dev :=
  match a with
  | .stockpot o => memWritePlain o bs d
  | .table die t k => writeEntries die t (bs.length / 64) bs k d
  | .staging o => { d with host := { d.host with staging := memWrite 0 d.host.staging o bs } }
  | .laIn j off => match Map.get? d.vault.jobs j with
    | some x => setJob j (laFeed off bs x) d
    | none => d
  | _ => d

/-- R160: is output of a job ready to leave: made, and in hold mode verified? -/
def outReady (x : LaJob) (off len : Nat) : Bool := decide (off + len ≤ (laOutput x).length) && (!x.hold || x.verified)

/-- R158, R160: a job's output from the offset `off` leaves; the last block of a GCM_DEC keeps its status until the tag check. -/
def laDrain (ch : Nat) (x : DmaDesc) (j off : Nat) (job : LaJob) (d : Dev) : Dev :=
  if !outReady job off x.length then d
  else
    let d := emit (.hostWrite x.hostAddr (slice (laOutput job) off x.length)) d
    let last := decide (job.mode = 2) && !job.hold && decide (off + x.length = laOutLen job)
    let d := setJob j { job with outOff := job.outOff + x.length, written := job.written ++ [(ch, x.hostAddr, x.length)],
                                 heldDesc := if last then some (ch, x) else job.heldDesc } d
    if last then d else descDone ch x 0 d

/-- R39: AER's uncorrectable error status with an error of a transfer: a poisoned TLP or a completion timeout; a completer's abort
and an unsupported request are the completer's errors. PRESUMED: the bits, as PCIe numbers them. -/
def notePcieError (e : PcieError) (d : Dev) : Dev :=
  let b := match e with | .poisoned => 2 ^ 12 | .timeout => 2 ^ 14 | _ => 0
  { d with host := { d.host with pci := { d.host.pci with aer := d.host.pci.aer ||| b } } }

/-- R61: a PCIe error ends a transfer with code 0x04. -/
def failPcie (ch : Nat) (x : DmaDesc) (e : PcieError) (d : Dev) : Dev := descDone ch x 4 (laUnpost x (notePcieError e d))

/-- R367: the block at which a transfer of the firmware fails its verification, if there is one. -/
def stockpotBad (ch : Nat) (a : Region60) (x : DmaDesc) (d : Dev) : Option Nat :=
  match a with
  | .stockpot o => if 14 ≤ ch then firstBad o x.length (!bit x.ctrl 0) d else none
  | _ => none

/-- R62: the transfer of the descriptor in flight ends. -/
def transferDone (ch : Nat) (data : Bytes) (error : Option PcieError) (d : Dev) : Dev :=
  match (dmaChan ch d).inFlight with
  | none => d
  | some x =>
    let a := regionAt x.devAddr
    let held := d.vault.jobs.any (fun e => match e.2.heldDesc with | some (c, _) => decide (c = ch) | none => false)
    if held then d
    else if let some e := error then failPcie ch x e d
    else if !regionAnswers a d then descDone ch x 5 d
    else match a with
      | .laOut j off => match Map.get? d.vault.jobs j with
        | some job => laDrain ch x j off job d
        | none => descDone ch x 5 d
      | .laIn j _ => if Map.has d.vault.jobs j then descDone ch x 0 (regionWrite a (slice data 0 x.length) d) else descDone ch x 5 d
      | _ =>
        if let some b := stockpotBad ch a x d then descDone ch x 5 (readFailure b d)
        else if bit x.ctrl 0 then
          let (bs, d) := regionRead a (decide (14 ≤ ch)) x.length d
          descDone ch x 0 (emit (.hostWrite x.hostAddr bs) d)
        else descDone ch x 0 (regionWrite a (slice data 0 x.length) d)

def execDmaDescriptorDone (ch : Fin 16) (data : Bytes) (error : Option PcieError) (s : State) : Host.Outcome State Fault Refusal :=
  onDev (transferDone ch.val data error) s

/-! ### Channel registers (R60) -/

/-- R60: write DMA_CTRL: enable and irq_enable; channels 14 and 15 are read-only to the host. -/
def dmaControl (ch v : Nat) (d : Dev) : Dev :=
  if 14 ≤ ch then d
  else
    let c := dmaChan ch d
    setChan ch { c with enable := bit v 0, irqEnable := bit v 2, running := bit v 0 && !c.halted } d

def execDmaEnable (ch : Fin 16) (value : BitVec 32) (s : State) : Host.Outcome State Fault Refusal :=
  onDev (hostAccess (dmaControl ch.val value.toNat)) s

/-- The ring of a channel empties: what it had accepted or posted for look-aside windows falls away. -/
def emptyRing (ch : Nat) (d : Dev) : Dev :=
  let d := match (dmaChan ch d).inFlight with | some x => laUnpost x d | none => d
  { d with vault := { d.vault with deadOut := d.vault.deadOut.filter (fun e => decide (e.2.1 ≠ ch)) } }

/-- R60: DMA_CTRL.reset: the ring empties, errors clear, and the channel may run again. -/
def dmaReset (ch v : Nat) (d : Dev) : Dev :=
  if 14 ≤ ch then d
  else if !bit v 1 then dmaControl ch v d
  else
    let c := dmaChan ch d
    dmaControl ch v (setChan ch { c with halted := false, err := 0, cons := c.prod, inFlight := none } (emptyRing ch d))

def execDmaReset (ch : Fin 16) (value : BitVec 32) (s : State) : Host.Outcome State Fault Refusal :=
  onDev (hostAccess (dmaReset ch.val value.toNat)) s

/-- R60: write RING_PROD. -/
def dmaPost (ch v : Nat) (d : Dev) : Dev := if 14 ≤ ch then d else setChan ch { dmaChan ch d with prod := v } d

def execDmaRingPost (ch : Fin 16) (value : BitVec 32) (s : State) : Host.Outcome State Fault Refusal :=
  onDev (hostAccess (dmaPost ch.val value.toNat)) s

/-! ### The end of look-aside jobs (R158 to R161, R174) -/

/-- Descriptors that stand posted in the ring of a channel and have not been taken (R62). -/
def ringLeft (c : DmaChan) : Nat := (c.prod + c.size - c.cons) % max c.size 1

/-- R160: the output descriptors of a job that wait on their channels end with code 0x05, and so will those still posted in the
rings of the host's channels. -/
def failOutputs (j : Nat) (d : Dev) : Dev :=
  let d := d.host.dma.foldl (fun d e => match e.2.inFlight with
    | some x => match regionAt x.devAddr with
      | .laOut k _ => if k = j then descDone e.1 x 5 d else d
      | _ => d
    | none => d) d
  let left := (d.host.dma.filter (fun e => decide (e.1 < 14 ∧ ringLeft e.2 ≠ 0))).map (fun e => (j, e.1, ringLeft e.2))
  { d with vault := { d.vault with deadOut := d.vault.deadOut.filter (fun e => decide (e.1 ≠ j)) ++ left } }

/-- R160, R161: end a job with its output zero-filled. -/
def endLaJob (j : Nat) (st : Status) (d : Dev) : Dev :=
  if Map.has d.vault.jobs j then failOutputs j (endJob descDone j st d) else d

/-- R174: LA_JOB_ABORT. -/
def laJobAbort (c : Ctx) (d : Dev) : Ans :=
  let j := fld c.pl 0 1
  need (decide (j < 16)) .badField <|
  need (Map.has d.vault.jobs j) .badState <|
  .replyThen [] d (endLaJob j .badState)

def execLaJobAbort (r : Request) (s : State) : Host.Outcome State Fault Refusal :=
  onMailbox { op := 0x060B, len := 4, vault := true, resv := z 1 3 } (fun c _ d => laJobAbort c d) r s

/-- R158: no descriptor for 1 s. -/
def laIdle (j : Nat) (d : Dev) : Dev :=
  match Map.get? d.vault.jobs j with
  | none => d
  | some x => endLaJob j .badState (waitTicks (x.lastDesc + ticksMs 1000) d)

def execLaJobIdleTimeout (job : Fin 16) (s : State) : Host.Outcome State Fault Refusal := onDev (laIdle job.val) s

/-- R174: the 28 result bytes. -/
def laResult (x : LaJob) : Bytes := if x.mode = 1 then x.iv ++ laTag x else if x.mode = 6 then laTag x else []

/-- R160: does the job check a tag, and does it match? -/
def tagOk (x : LaJob) : Bool := if x.mode = 2 ∨ x.mode = 7 then decide (laTag x = x.tag) else true

/-- R168, R174: a job completes with OK. -/
def laSucceed (x : LaJob) (d : Dev) : Dev := complete x.handle .ok (laResult x) (bump .vault 0 3 d)

/-- R159, R160: a job whose input is complete ends: a hold job first verifies, any other once its output has left. A
GCM_ENC job with no nonce yet waits for the next one and takes it. -/
def laComplete (j : Nat) (o : Otp) (d : Dev) : Dev :=
  match Map.get? d.vault.jobs j with
  | none => d
  | some x =>
    if x.mode = 1 ∧ x.iv.isEmpty = true then
      let (iv, d) := takeNonce o (waitTicks (nonceDue d) d)
      setJob j { x with iv := iv } d
    else if !laInputDone x then d
    else if x.hold && !x.verified then
      if !tagOk x then endLaJob j .keyRejected (bump .vault 0 4 d)
      else if laOutLen x = 0 then laSucceed x (dropJob j d)
      else setJob j { x with verified := true } d
    else if x.outOff < laOutLen x then d
    else if !tagOk x then endLaJob j .keyRejected (bump .vault 0 4 d)
    else
      let d := dropJob j d
      let d := match x.heldDesc with | some (ch, ds) => descDone ch ds 0 d | none => d
      laSucceed x d

def execLaJobComplete (job : Fin 16) (s : State) : Host.Outcome State Fault Refusal := onOtp (laComplete job.val) s

/-- R159: commit the next ceiling to the next of the 512 slots. -/
def commitCeiling (d : Dev) : Dev :=
  let v := d.vault
  let seq := (v.nonceSlots.map (fun e => e.2.2)).foldl max 0 + 1
  bump .vault 0 7 { d with vault := { v with ceiling := v.ceiling + 65536,
                                             nonceSlots := Map.put v.nonceSlots (seq % 512) (v.ceiling + 65536, seq) } }

/-- R159: the counter has come within 2^15 of the ceiling, in a vault that has started. -/
def nonceCommit (d : Dev) : Dev := if d.sys.vaultDone = true ∧ d.vault.ceiling ≤ d.vault.nonce + 32768 then commitCeiling d else d

def execNonceCeilingCommit (s : State) : Host.Outcome State Fault Refusal := onDev nonceCommit s

end Sys2Proof.Machine
end

