-- ==== Sys2Proof/Machine/HostRegs.lean ====
section
/-! DEFINITION. Sys2Proof/Machine/HostRegs.lean: BAR0 registers (R40 to R44), the request halves and doorbells (R48,
R508), the notification ring (R54, R55), time snapshots (R43), watchdog and lockout (R59, R67), counters (R69). -/
namespace Sys2Proof.Machine

/-- Change the host attachment. -/
def onHost (f : HostIf → HostIf) (d : Dev) : Dev := { d with host := f d.host }

/-- R40, R69: a write to reserved space or of a wrong size. -/
def regDiscard (d : Dev) : Dev := bump .hostif 0 7 d

/-! ### Single registers -/

/-- R48: a 1 clears a done bit. -/
def mbDoneClear (mask : Nat) (d : Dev) : Dev :=
  onHost (fun h => { h with mbs := h.mbs.map (fun e => if bit mask e.1 then (e.1, { e.2 with done := false }) else e) }) d

def execMbDoneClear (mask : BitVec 32) (s : State) : Host.Outcome State Fault Refusal := onDev (hostAccess (mbDoneClear mask.toNat)) s

/-- R41: a 1 clears a fault bit. -/
def faultClear (mask : Nat) (d : Dev) : Dev :=
  onHost (fun h => { h with faultCause := h.faultCause &&& ((2 ^ 32 - 1) ^^^ mask) }) d

def execFaultCauseClear (mask : BitVec 32) (s : State) : Host.Outcome State Fault Refusal := onDev (hostAccess (faultClear mask.toNat)) s

/-- R67: HOST_CTRL.fw_restart. -/
def fwRestartRequest (v : Nat) (d : Dev) : Dev := if bit v 0 then startFwRestart 2 d else d

def execFwRestartRequest (value : BitVec 32) (s : State) : Host.Outcome State Fault Refusal :=
  onDev (hostAccess (fwRestartRequest value.toNat)) s

/-- R43: TSNAP_CTRL.trigger latches the time of the host I/O island. -/
def tsnapTrigger (v : Nat) (d : Dev) : Dev :=
  if bit v 0 then onHost (fun h => { h with tsnapValid := true, tsnap := islandNow 16 d }) d else d

def execTsnapTrigger (value : BitVec 32) (s : State) : Host.Outcome State Fault Refusal :=
  onDev (hostAccess (tsnapTrigger value.toNat)) s

/-- R54: is the ring's size and base in order? -/
def ringValid (h : HostIf) : Bool :=
  decide (64 ≤ h.nrSize ∧ h.nrSize ≤ 65536 ∧ h.nrBaseLo % 4096 = 0) && (List.range 17).any (fun k => decide (h.nrSize = 2 ^ k))

/-- R54: write NR_CTRL. DESIGN CHOICE: a later enable that succeeds clears err. -/
def nrControl (v : Nat) (d : Dev) : Dev :=
  if !bit v 0 then onHost (fun h => { h with nrEnable := false }) d
  else if d.host.nrEnable then d
  else if ringValid d.host then
    ringOverflow (onHost (fun h => { h with nrEnable := true, nrErr := false, nrTail := 0, nrPhase := true }) d)
  else setFault 3 (onHost (fun h => { h with nrErr := true }) d)

def execNrEnable (value : BitVec 32) (s : State) : Host.Outcome State Fault Refusal := onDev (hostAccess (nrControl value.toNat)) s

/-- R55: the host advances NR_HEAD; an entry that becomes free takes the RING_OVERFLOW entry at once. DESIGN CHOICE: so does one
freed during a firmware restart (R67) after a loss from before it: the writer of R54 is not the firmware's. -/
def nrHead (v : Nat) (d : Dev) : Dev := ringOverflow (onHost (fun h => { h with nrHead := v }) d)

def execNrHeadWrite (value : BitVec 32) (s : State) : Host.Outcome State Fault Refusal := onDev (hostAccess (nrHead value.toNat)) s

def execRingOverflow (s : State) : Host.Outcome State Fault Refusal := onDev ringOverflow s

/-- R69: a 32-bit read of a low word latches the high word, which `cntHigh` returns. -/
def cntLowRead (i : Nat) (d : Dev) : Dev :=
  let v := cntGet .hostif 0 i d
  onHost (fun h => { h with lastRead := v % 2 ^ 32, cntLatch := Map.put h.cntLatch i (v / 2 ^ 32) }) d

def execHostifCntLowRead (i : Fin 8) (s : State) : Host.Outcome State Fault Refusal := onDev (hostAccess (cntLowRead i.val)) s

/-! ### The request half and doorbells (R48, R508) -/

/-- R48: a host write to the mailbox area; writes to a response half are discarded. -/
def requestWrite (off : Nat) (data : Bytes) (d : Dev) : Dev :=
  if off < 0x20000 then d
  else
    let m := (off - 0x20000) / 0x2000
    let o := (off - 0x20000) % 0x2000
    let b := mailbox m d
    if 0x1000 ≤ o then d
    else if b.busy then bump .hostif 0 1 d
    else setMailbox m { b with req := (splice b.req o data).take 4096 } d

def execMailboxRequestWrite (off : BitVec 18) (data : Bytes) (s : State) : Host.Outcome State Fault Refusal :=
  onDev (hostAccess (requestWrite off.toNat data)) s

/-- R48: is a doorbell of this value discarded? -/
def doorbellBad (v : Nat) (d : Dev) : Bool := decide (16 ≤ v) || (mailbox (v % 16) d).busy || !d.host.fwReady

/-- R48: a doorbell that is discarded. -/
def doorbellBadWrite (v : Nat) (d : Dev) : Dev := if doorbellBad v d then bump .hostif 0 0 d else d

/-- R507: the number of commands of each group, which are numbered from 1. -/
def groupSizes : List Nat := [0, 7, 7, 6, 7, 11, 14, 7, 6, 7, 15, 8, 4, 6, 9, 6]

/-- R507: is the opcode in the command index? -/
def opcodeDefined (op : Nat) : Bool :=
  decide (op = 0x01F0) || decide (1 ≤ op % 256 ∧ op % 256 ≤ groupSizes.getD (op / 256) 0)

/-- R508: a request with an opcode that is not in the index. -/
def reservedOpcode (op : Nat) (r : Request) (o : Otp) (d : Dev) : Dev :=
  if opcodeDefined op then d else (doorbell op r (fun d => (o, respond (replyOf op r) .badOpcode [] d)) o d).2

def execReservedOpcode (opcode : BitVec 16) (r : Request) (s : State) : Host.Outcome State Fault Refusal :=
  onOtp (reservedOpcode opcode.toNat r) s

/-! ### MSI-X and configuration space (R39, R44) -/

/-- R44: pending vectors that may fire do. -/
def msixFlush (d : Dev) : Dev :=
  if !d.host.msixEnable then d
  else (List.range 32).foldl (fun d k =>
    if bit d.host.pba k && vectorOpen k d then emit (.msix k) (onHost (fun h => { h with pba := h.pba ^^^ 2 ^ k }) d) else d) d

/-- R44: a write into the MSI-X table. -/
def msixWrite (off size v : Nat) (d : Dev) : Dev :=
  let k := off / 16
  let old := le 16 (Map.get d.host.msix k (2 ^ 96))
  msixFlush (onHost (fun h => { h with msix := Map.put h.msix k (unle (splice old (off % 16) (le size v))) }) d)

/-- Change the function's configuration space. -/
def onPci (f : PciFn → PciFn) (d : Dev) : Dev := onHost (fun h => { h with pci := f h.pci }) d

/-- R39: a write to a field of configuration space. A power state but D0 (0) and D3hot (3), and a size that is not listed, are not
taken. -/
def configField (f : CfgField) (v : Nat) (d : Dev) : Dev :=
  if !enumerated d then d
  else match f with
    | .msixEnable => msixFlush (onHost (fun h => { h with msixEnable := bit v 0 }) d)
    | .msixMask => msixFlush (onPci (fun p => { p with mask := bit v 0 }) d)
    | .ptmEnable => { d with time := { d.time with ptmEnabled := bit v 0 } }
    | .powerState =>
      if v = 0 ∨ v = 3 then msixFlush (onPci (fun p => { p with d3hot := decide (v = 3) }) d) else d
    | .maxPayload => if v = 128 ∨ v = 256 ∨ v = 512 then onPci (fun p => { p with maxPayload := v }) d else d
    | .maxRead => if v ∈ [128, 256, 512, 1024, 2048, 4096] then onPci (fun p => { p with maxRead := v }) d else d
    | .aspm => onPci (fun p => { p with aspmL1 := bit v 1 }) d
    | .aerStatus => onPci (fun p => { p with aer := p.aer &&& ((2 ^ 32 - 1) ^^^ v % 2 ^ 32) }) d

/-- R39: what configuration space tells of the function: vendor and device, revision, class code. -/
def pciIdentity : Nat × Nat × Nat × Nat := (0x1FD4, 0x1608, 0xB1, 0x108000)

/-! ### Reads of BAR0 (R40 to R43, R60, R69) -/

/-- R42: DEV_STATUS. DESIGN CHOICE: twin_paired reads 1 from the start of attaching on, while the twin is being attached and
synchronised. -/
def devStatus (d : Dev) : Nat :=
  b2n d.host.fwReady + 2 * b2n d.host.fwRestarting + 4 * b2n d.host.trafficReady + 8 * b2n (decide (d.time.state = .locked))
    + 16 * d.vault.lc + 128 * b2n (decide (d.vault.lc = 3)) + 256 * (d.pkg.present % 16) + 4096 * b2n (twinAttached d)

/-- R41: a 32-bit word of a TS96 as TSNAP shows it. -/
def tsWord (t : TS96) (k : Nat) : Nat := fld t.bytes (4 * k) 4

/-- The mask of the mailboxes that pass a test. -/
def mailboxMask (p : Mailbox → Bool) (d : Dev) : Nat := ((d.host.mbs.filter (fun e => p e.2)).map (fun e => 2 ^ e.1)).sum

/-- R69: the high word of a slot: the one that a read of the low word has latched. -/
def cntHigh (i : Nat) (d : Dev) : Nat := Map.get d.host.cntLatch i (cntGet .hostif 0 i d / 2 ^ 32)

/-- R41: a 32-bit read of the control page. -/
def controlRead (off : Nat) (d : Dev) : Nat :=
  let h := d.host
  match off with
  | 0x000 => 0x1608B101
  | 0x004 => devStatus d
  | 0x008 => Config.serial % 2 ^ 32
  | 0x00C => Config.serial / 2 ^ 32 % 2 ^ 32
  | 0x010 => h.fwVersion
  | 0x014 => h.fwAlive
  | 0x018 => h.faultCause
  | 0x044 => mailboxMask (·.busy) d
  | 0x048 => mailboxMask (·.done) d
  | 0x080 => h.nrBaseLo
  | 0x084 => h.nrBaseHi
  | 0x088 => h.nrSize
  | 0x08C => h.nrHead
  | 0x090 => h.nrTail
  | 0x094 => b2n h.nrEnable + 2 * b2n h.nrErr
  | 0x100 => 2 * b2n h.tsnapValid
  | 0x104 => tsWord h.tsnap 0
  | 0x108 => tsWord h.tsnap 1
  | 0x10C => tsWord h.tsnap 2
  | _ =>
    if 0x400 ≤ off ∧ off < 0x500 then (aperture ((off - 0x400) / 4) d).sel
    else if 0x800 ≤ off ∧ off < 0x840 then
      (if off % 8 = 0 then cntGet .hostif 0 ((off - 0x800) / 8) d % 2 ^ 32 else cntHigh ((off - 0x800) / 8) d)
    else 0

/-- R60: a 32-bit read of a channel's registers; the host may watch those of the firmware too. -/
def dmaRead (ch off : Nat) (d : Dev) : Nat :=
  let c := dmaChan ch d
  match off with
  | 0x00 => b2n c.enable + 4 * b2n c.irqEnable
  | 0x04 => b2n c.running + 2 * b2n c.halted + 256 * c.err
  | 0x08 => c.baseLo
  | 0x0C => c.baseHi
  | 0x10 => c.size
  | 0x14 => c.prod
  | 0x18 => c.cons
  | _ => 0

/-- R48: the bytes of a mailbox page: its request half, then its response half. -/
def mailboxPage (m : Nat) (d : Dev) : Bytes := slice (mailbox m d).req 0 4096 ++ slice (mailbox m d).resp 0 4096

/-- R40, R41: what a read of BAR0 returns; reserved space and accesses of a wrong size read zero. -/
def registerRead (off size : Nat) (d : Dev) : Nat :=
  let word := decide (size = 4 ∧ off % 4 = 0)
  if off < 0x1000 then (if word then controlRead off d else 0)
  else if off < 0x2000 then (if word then dmaRead ((off - 0x1000) / 0x100) (off % 0x100) d else 0)
  else if off < 0x2200 then
    (if (size = 4 ∨ size = 8) ∧ off % size = 0 then fld (le 16 (Map.get d.host.msix ((off - 0x2000) / 16) (2 ^ 96))) (off % 16) size else 0)
  else if off = 0x3000 ∨ off = 0x3004 then fld (le 8 d.host.pba) (off % 8) size
  else if off < 0x20000 then 0
  else fld (mailboxPage ((off - 0x20000) / 0x2000) d) ((off - 0x20000) % 0x2000) size

/-! ### Any other register (R40, R41) -/

/-- R41: a 32-bit write to the control page. -/
def controlWrite (off v : Nat) (d : Dev) : Dev :=
  if off ∈ [0x000, 0x004, 0x008, 0x00C, 0x010, 0x014, 0x044, 0x090, 0x104, 0x108, 0x10C] ∨ (0x800 ≤ off ∧ off < 0x840) then d
  else if off = 0x018 then faultClear v d
  else if off = 0x01C then fwRestartRequest v d
  else if off = 0x040 then doorbellBadWrite v d
  else if off = 0x048 then mbDoneClear v d
  else if off = 0x080 then onHost (fun h => { h with nrBaseLo := v }) d
  else if off = 0x084 then onHost (fun h => { h with nrBaseHi := v }) d
  else if off = 0x088 then onHost (fun h => { h with nrSize := v }) d
  else if off = 0x08C then nrHead v d
  else if off = 0x094 then nrControl v d
  else if off = 0x100 then tsnapTrigger v d
  else if 0x400 ≤ off ∧ off < 0x500 then setAperture ((off - 0x400) / 4) { aperture ((off - 0x400) / 4) d with sel := v } d
  else regDiscard d

/-- R60: a 32-bit write to the registers of channel `ch`. -/
def dmaWrite (ch off v : Nat) (d : Dev) : Dev :=
  if off ∈ [0x04, 0x18] then d
  else if off ∈ [0x00, 0x08, 0x0C, 0x10, 0x14] then
    if 14 ≤ ch then d
    else if off = 0x00 then dmaReset ch v d
    else if off = 0x08 then setChan ch { dmaChan ch d with baseLo := v } d
    else if off = 0x0C then setChan ch { dmaChan ch d with baseHi := v } d
    else if off = 0x10 then setChan ch { dmaChan ch d with size := v } d
    else dmaPost ch v d
  else regDiscard d

/-- R40: a write to BAR0. -/
def registerWrite (off size v : Nat) (d : Dev) : Dev :=
  let word := decide (size = 4 ∧ off % 4 = 0)
  let v := v % 2 ^ (8 * min size 8)
  if off < 0x1000 then (if word then controlWrite off v d else regDiscard d)
  else if off < 0x2000 then (if word then dmaWrite ((off - 0x1000) / 0x100) (off % 0x100) v d else regDiscard d)
  else if off < 0x2200 then
    (if (size = 4 ∨ size = 8) ∧ off % size = 0 then msixWrite (off - 0x2000) size v d else regDiscard d)
  else if 0x3000 ≤ off ∧ off < 0x3008 then d
  else if off < 0x20000 then regDiscard d
  else requestWrite off (le (min size 8) v) d

/-! ### Firmware watchdog and lockout (R41, R59, R67) -/

/-- R41: FW_ALIVE advances every 1 ms while the firmware runs. -/
def fwAliveTick (d : Dev) : Dev :=
  if d.sys.fwRunning && !d.host.fwRestarting then
    onHost (fun h => { h with fwAlive := (h.fwAlive + 1) % 2 ^ 32, aliveAt := d.time.elapsed }) d
  else d

def execFwAliveTick (s : State) : Host.Outcome State Fault Refusal := onDev fwAliveTick s

/-- R67: FW_ALIVE has not advanced for 100 ms. -/
def watchdogExpiry (d : Dev) : Dev :=
  if d.sys.fwRunning && !d.host.fwRestarting then startFwRestart 1 (waitTicks (d.host.aliveAt + ticksMs 100) d) else d

def execWatchdogExpiry (s : State) : Host.Outcome State Fault Refusal := onDev watchdogExpiry s

/-- R67: a fault of the firmware. -/
def execFirmwareFault (s : State) : Host.Outcome State Fault Refusal := onDev (startFwRestart 3) s

/-- R59: the lockout ends and the count restarts. -/
def lockoutEnd (d : Dev) : Dev :=
  match d.host.lockout with
  | none => d
  | some t => onHost (fun h => { h with lockout := none, authFails := 0 }) (waitTicks (t + ticksMs 10000) d)

def execAuthLockoutEnd (s : State) : Host.Outcome State Fault Refusal := onDev lockoutEnd s

end Sys2Proof.Machine
end

