-- ==== Sys2Proof/Machine/Ptp.lean ====
section
/-! DEFINITION. Sys2Proof/Machine/Ptp.lean: the PTP clocks of the firmware (R303, R304) and the PTP commands (R312 to
R316). What the spec takes from IEEE 1588-2019 (message layouts, the best-master comparison) follows that standard. -/
namespace Sys2Proof.Machine

/-- An instance that has heard nothing. -/
def PtpSt.init : PtpSt := ⟨none, none, 0, 0, none, TS96.zero, 0, 0, none, none, none, 0, none⟩

/-- R303: the state of an instance. -/
def inst (i : Nat) (d : Dev) : PtpSt := Map.get d.ts.inst i PtpSt.init

/-- Store the state of an instance. -/
def setInst (i : Nat) (x : PtpSt) (d : Dev) : Dev := { d with ts := { d.ts with inst := Map.put d.ts.inst i x } }

/-- R303: an instance that the set enables. -/
def instPrm (i : Nat) (d : Dev) : Option PtpPrm :=
  match Map.get? (prm d).ptp i with | some x => if x.role = 0 then none else some x | none => none

/-- R303: the instance that holds a port. -/
def instOfPort (p : Nat) (d : Dev) : Option (Nat × PtpPrm) := (prm d).ptp.find? (fun e => decide (e.2.role ≠ 0 ∧ p ∈ e.2.ports))

/-- Does the firmware run? -/
def fwRuns (d : Dev) : Bool := d.host.fwReady && !d.host.fwRestarting

/-! ### Messages that the firmware sends -/

/-- IEEE 1588-2019: the port number of a port in its identity. -/
def ptpPortNo (p : Nat) : Nat := p + 1

/-- IEEE 1588-2019: a common header and what follows it. -/
def ptpMessage (type sdo domain : Nat) (flags : Nat) (corr : Int) (p seq : Nat) (log : Int) (body : Bytes) : Bytes :=
  be 1 (sdo * 16 + type) ++ be 1 0x12 ++ be 2 (34 + body.length) ++ be 1 domain ++ zeros 1 ++ be 2 flags
    ++ be 8 (ofSigned 64 corr) ++ zeros 4 ++ be 8 Config.serial ++ be 2 (ptpPortNo p) ++ be 2 seq ++ zeros 1
    ++ be 1 (ofSigned 8 log) ++ body

/-- IEEE 1588-2019: a timestamp field of a count of nanoseconds. -/
def ptpTime (ns : Nat) : Bytes := be 6 (ns / 1000000000) ++ be 4 (ns % 1000000000)

/-- Where the firmware sends a frame for a port: MGT, a plain port, or the untagged SecY of a cipher port. -/
def fwTarget (p : Nat) (d : Dev) : Option (Option Nat) :=
  if p = 97 then some none
  else match portPrm p d with
    | some x => if x.side = 0 then some (some (portCode p)) else (Map.get? x.vlanSecy 0).map (fun i => some (secyCode p i))
    | none => none

/-- Send a PTP message in an Ethernet frame (R300, Annex F); the source address is open. -/
def ptpSend (p : Nat) (peer : Bool) (msg : Bytes) (stamp : Option Nat) (late : Option (Nat × Nat)) (d : Dev) : Dev :=
  match fwTarget p d with
  | none => d
  | some dest =>
    let (sa, d) := freshBytes 6 d
    let da := if peer then 0x0180C200000E else 0x011B19000000
    injectFrame false dest 7 (be 6 da ++ sa ++ be 2 0x88F7 ++ msg) stamp late d

/-- The SdoId of an instance (R300). -/
def instSdo (x : PtpPrm) : Nat := if x.profile = 3 then 1 else 0

/-- Take the next sequence number of an instance. -/
def takeInstSeq (i : Nat) (d : Dev) : Nat × Dev :=
  let x := inst i d
  (x.nextSeq, setInst i { x with nextSeq := (x.nextSeq + 1) % 65536 } d)

/-- R303: is a port of an instance a master port? Every port but its slave port is. -/
def masterPort (i p : Nat) (x : PtpPrm) (d : Dev) : Bool := decide (p ∈ x.ports ∧ (inst i d).slavePort ≠ some p) && fwRuns d && awake d

/-- R303 to R305: a Sync of a master port; none in ACQUIRE. -/
def ptpSync (i p : Nat) (d : Dev) : Dev :=
  match instPrm i d with
  | none => d
  | some x =>
    if !masterPort i p x d || decide (d.time.state = .acquire) then d
    else
      let (q, d) := takeInstSeq i d
      let one := x.oneStep && decide (x.role ≠ 3)
      let m := ptpMessage 0 (instSdo x) x.domain (if one then 0 else 0x0200) 0 p q x.logSync (zeros 10)
      ptpSend p (decide (x.profile = 3)) m (if one then none else some q) (if one then some (1, 0) else none) d

def execPtpSyncSend (inst : Fin 4) (p : Port) (s : State) : Host.Outcome State Fault Refusal :=
  onDev (ptpSync inst.val (portNum p)) s

/-- What an Announce of this device says of its grandmaster: priority1, class, accuracy, variance, priority2,
identity, stepsRemoved. In ACQUIRE the class is 248 (R304). -/
def announced (i : Nat) (x : PtpPrm) (d : Dev) : PtpParent :=
  let own : PtpParent := ⟨Config.serial, 0, x.priority1, x.clockClass, x.clockAccuracy, 0xFFFF, x.priority2, Config.serial, 0⟩
  let a := match (inst i d).parent with | some q => { q with stepsRemoved := q.stepsRemoved + 1 } | none => own
  if d.time.state = .acquire then { a with clockClass := 248 } else a

/-- R277: what a time-of-day message said of UTC, for the Announce of a grandmaster: flagField and currentUtcOffset. -/
def utcInfo (i : Nat) (d : Dev) : Nat × Nat :=
  let fl := d.time.todInfo / 65536
  if (inst i d).parent.isSome || decide (d.time.todInfo = 0) then (0x0008, 37)
  else (0x000C + b2n (bit fl 1 && bit fl 2) + 2 * b2n (bit fl 1 && !bit fl 2), d.time.todInfo % 65536)

/-- R300: the TLVs that a master of IEEE C37.238-2017 adds to its Announce; their contents are open. -/
def powerTlvs (x : PtpPrm) (d : Dev) : Bytes × Dev :=
  if x.profile ≠ 2 then ([], d)
  else
    let (a, d) := freshBytes 12 d
    let (b, d) := freshBytes 15 d
    (be 2 3 ++ be 2 18 ++ be 3 0x1C129D ++ be 3 2 ++ a ++ be 2 9 ++ be 2 16 ++ b ++ zeros 1, d)

/-- R303, R304: an Announce of a master port. -/
def ptpAnnounce (i p : Nat) (d : Dev) : Dev :=
  match instPrm i d with
  | none => d
  | some x =>
    if !masterPort i p x d then d
    else
      let (q, d) := takeInstSeq i d
      let a := announced i x d
      let (fl, utc) := utcInfo i d
      let (tlvs, d) := powerTlvs x d
      let body := zeros 10 ++ be 2 utc ++ zeros 1 ++ be 1 a.priority1 ++ be 1 a.clockClass ++ be 1 a.clockAccuracy
        ++ be 2 a.variance ++ be 1 a.priority2 ++ be 8 a.grandmaster ++ be 2 a.stepsRemoved ++ be 1 0xA0 ++ tlvs
      ptpSend p (decide (x.profile = 3)) (ptpMessage 0xB (instSdo x) x.domain fl 0 p q x.logAnnounce body) none none d

def execPtpAnnounceSend (inst : Fin 4) (p : Port) (s : State) : Host.Outcome State Fault Refusal :=
  onDev (ptpAnnounce inst.val (portNum p)) s

/-- R297, R303: does the firmware run the peer-delay mechanism on a port? -/
def fwPeerDelay (p : Nat) (d : Dev) : Bool :=
  let own : Bool := match portPrm p d with | some x => decide (x.ptpMode = 2) && !x.pdelayHost | none => false
  let byInst : Bool := match instOfPort p d with | some (_, x) => x.p2p || decide (x.role = 3) | none => false
  fwRuns d && awake d && (own || byInst)

/-- The SdoId and domain of a port's peer-delay messages. -/
def peerSdo (p : Nat) (d : Dev) : Nat × Nat := match instOfPort p d with | some (_, x) => (instSdo x, x.domain) | none => (0, 0)

/-- R303: a Pdelay_Req. -/
def ptpPdelayReq (p : Nat) (d : Dev) : Dev :=
  if !fwPeerDelay p d then d
  else
    let q := match Map.get? d.ts.pdelay p with | some y => (y.seq + 1) % 65536 | none => 0
    let d := { d with ts := { d.ts with pdelay := Map.put d.ts.pdelay p ⟨q, none, none, 0⟩ } }
    let (sdo, dom) := peerSdo p d
    ptpSend p true (ptpMessage 2 sdo dom 0 0 p q 0 (zeros 20)) (some q) none d

def execPtpPdelayReqSend (p : Port) (s : State) : Host.Outcome State Fault Refusal := onDev (ptpPdelayReq (portNum p)) s

/-- R304: a Delay_Req of a slave port. -/
def ptpDelayReq (i p : Nat) (d : Dev) : Dev :=
  match instPrm i d with
  | none => d
  | some x =>
    if !fwRuns d || !awake d || x.p2p || decide ((inst i d).slavePort ≠ some p) then d
    else
      let (q, d) := takeInstSeq i d
      let d := setInst i { inst i d with delayReq := some (q, none) } d
      ptpSend p false (ptpMessage 1 0 x.domain 0 0 p q 0x7F (zeros 10)) (some q) none d

def execPtpDelayReqSend (inst : Fin 4) (p : Port) (s : State) : Host.Outcome State Fault Refusal :=
  onDev (ptpDelayReq inst.val (portNum p)) s

/-! ### Offsets and delays (R304) -/

/-- R304: the offset of a Sync on the slave port of an instance, in 2^-16 ns: reference minus device time. `t1` is in ns,
`corr` the sum of both correctionFields, `t2` in 2^-32 ns. -/
def ptpOffset (t1 : Nat) (corr mpd : Int) (t2 : Nat) : Int := ((t1 * 65536 : Nat) : Int) + corr + mpd - (t2 / 65536 : Nat)

/-- The mean path delay an instance uses: the peer result of its slave port, or the E2E result. -/
def pathDelay (i p : Nat) (x : PtpPrm) (d : Dev) : Option Int :=
  if x.p2p then Map.get? d.ts.linkDelay p else (inst i d).meanPathDelay

/-- R304: a Sync and its correction are complete. -/
def syncComplete (i p : Nat) (x : PtpPrm) (t1 : Nat) (corr : Int) (t2 : Nat) (d : Dev) : Dev :=
  let y := { inst i d with masterToSlave := some (((t2 / 65536 : Nat) : Int) - ((t1 * 65536 : Nat) : Int) - corr), sync := none }
  let d := setInst i y d
  match pathDelay i p x d with
  | none => d
  | some mpd =>
    let off := ptpOffset t1 corr mpd t2
    let d := setInst i { y with lastOffset := off, lastSync := tsOf t2, syncRx := (y.syncRx + 1) % 2 ^ 32 } d
    if x.timeSource && decide (timeSourceNow d = 1) then measure t2 (((t2 : Int) + off * 65536).toNat) d else d

/-- A clock's own identity and a port's number name the port a response answers. -/
def answersUs (bs : Bytes) (r : PtpRef) (p : Nat) : Bool := decide (fldBe bs (r.off + 44) 8 = Config.serial ∧ fldBe bs (r.off + 52) 2 = ptpPortNo p)

/-- R303: the peer delay of a port, in 2^-16 ns: half of the round trip without the responder's turnaround. -/
def setPeerDelay (p : Nat) (y : PdelaySt) (t1 t4 : Nat) (turn : Int) (d : Dev) : Dev :=
  let v := ((((t4 : Int) - t1) + 32768) / 65536 - turn) / 2
  { d with ts := { d.ts with linkDelay := Map.put d.ts.linkDelay p (max v 0), pdelay := Map.put d.ts.pdelay p y } }

/-- R300: the Follow_Up information TLV of IEEE 802.1AS-2020: the cumulative rate offset and the rest. -/
def infoTlv (rateOffset : Nat) (info : Bytes) : Bytes := be 2 3 ++ be 2 28 ++ be 3 0x0080C2 ++ be 3 1 ++ be 4 rateOffset ++ info

/-- R300: a time interval scaled by a rate offset code of 2^-41. -/
def rateScaled (v : Int) (rateOffset : Nat) : Int := v + v * toSigned 32 rateOffset / 2 ^ 41

/-- R301, R303: the Follow_Up of a Sync that left a master port at `time`. An 802.1AS relay passes on what its slave port received,
with the time since, scaled by a rate ratio; the ratio's value, and a grandmaster's information, are open. -/
def followUp (i p seq : Nat) (y : PtpPrm) (time : TS96) (d : Dev) : Dev :=
  let send (origin : Nat) (corr : Int) (tlv : Bytes) (d : Dev) : Dev :=
    ptpSend p (decide (y.profile = 3)) (ptpMessage 8 (instSdo y) y.domain 0 corr p seq y.logSync (ptpTime origin ++ tlv)) none none d
  let own := time.s * 1000000000 + time.ns
  if y.role ≠ 3 then send own (time.f : Nat) [] d
  else
    let (ratio, d) := fresh d
    match (inst i d).relay with
    | some r =>
      let since : Int := ((unitsOf time : Int) - r.tIn) / 65536
      send r.origin (r.corr + rateScaled since ratio) (infoTlv ratio r.info) d
    | none =>
      let (info, d) := freshBytes 18 d
      send own (time.f : Nat) (infoTlv 0 info) d

/-- R301: take the firmware's entries of a port's FIFO: a Sync's makes a Follow_Up, a request's gives t1 or t3. -/
def takeStamp (p : Nat) (x : TxStamp) (d : Dev) : Dev :=
  let u := unitsOf x.time
  if x.msg % 16 = 0 then
    match instOfPort p d with
    | none => d
    | some (i, y) => followUp i p x.seqId y x.time d
  else if x.msg % 16 = 1 then
    match instOfPort p d with
    | some (i, _) => match (inst i d).delayReq with
      | some (q, none) => if q = x.seqId then setInst i { inst i d with delayReq := some (q, some u) } d else d
      | _ => d
    | none => d
  else match Map.get? d.ts.pdelay p with
    | some y => if y.seq = x.seqId then
        match y.t4 with
        | some t4 => setPeerDelay p { y with t1 := some u } u t4 y.t2 d
        | none => { d with ts := { d.ts with pdelay := Map.put d.ts.pdelay p { y with t1 := some u } } }
      else d
    | none => d

/-- R301: the firmware reads its FIFOs. -/
def readStamps (d : Dev) : Dev :=
  let l := d.ts.fifoFw
  l.foldl (fun d e => e.2.foldl (fun d x => takeStamp e.1 x d) d) { d with ts := { d.ts with fifoFw := [] } }

/-! ### Messages that the firmware receives -/

/-- IEEE 1588-2019: what an Announce says. -/
def readAnnounce (bs : Bytes) (r : PtpRef) : PtpParent :=
  let o := r.off
  let src := ptpSource bs r
  ⟨src.1, src.2, fldBe bs (o + 47) 1, fldBe bs (o + 48) 1, fldBe bs (o + 49) 1, fldBe bs (o + 50) 2, fldBe bs (o + 52) 1,
    fldBe bs (o + 53) 8, fldBe bs (o + 61) 2⟩

/-- Lexicographic order. -/
def lexLt : List Nat → List Nat → Bool
  | a :: as, b :: bs => decide (a < b) || (decide (a = b) && lexLt as bs)
  | _, _ => false

/-- IEEE 1588-2019: the fields that the data-set comparison compares, in order. -/
def PtpParent.rank (a : PtpParent) : List Nat :=
  if a.grandmaster = a.identity ∧ a.stepsRemoved = 0 then
    [a.priority1, a.clockClass, a.clockAccuracy, a.variance, a.priority2, a.grandmaster, 0, a.identity, a.portNumber]
  else [a.priority1, a.clockClass, a.clockAccuracy, a.variance, a.priority2, a.grandmaster, a.stepsRemoved, a.identity, a.portNumber]

/-- R304: is the instance the time source of the device? A change of its parent is a loss. -/
def parentLost (x : PtpPrm) (d : Dev) : Dev :=
  if x.timeSource && decide (timeSourceNow d = 1) then sourceLost 4 d else d

/-- R304: an Announce on a port of an instance. -/
def takeAnnounce (i p : Nat) (x : PtpPrm) (a : PtpParent) (d : Dev) : Dev :=
  let y := inst i d
  let own : PtpParent := ⟨Config.serial, 0, x.priority1, x.clockClass, x.clockAccuracy, 0xFFFF, x.priority2, Config.serial, 0⟩
  let set (y : PtpSt) (d : Dev) : Dev := setInst i { y with parent := some a, slavePort := some p, announceAt := d.time.elapsed } d
  if a.grandmaster = Config.serial ∨ 255 ≤ a.stepsRemoved then d
  else match y.parent with
    | some q =>
      if q.identity = a.identity ∧ q.portNumber = a.portNumber then set y d
      else if lexLt a.rank q.rank then
        parentLost x (set { y with meanPathDelay := none, sync := none, masterToSlave := none, delayReq := none, relay := none } d)
      else d
    | none => if lexLt a.rank own.rank then set y d else d

/-- R304: does the message come from the parent, on the slave port? -/
def fromParent (i p : Nat) (bs : Bytes) (r : PtpRef) (d : Dev) : Bool :=
  match (inst i d).parent with
  | some q => decide ((inst i d).slavePort = some p ∧ (q.identity, q.portNumber) = ptpSource bs r)
  | none => false

/-- R300: an 802.1AS relay keeps the Sync that its slave port received, with the delay of the link. -/
def keepRelayed (i p origin : Nat) (corr : Int) (t2 : Nat) (bs : Bytes) (r : PtpRef) (x : PtpPrm) (d : Dev) : Dev :=
  if x.role ≠ 3 then d
  else setInst i { inst i d with relay := some ⟨origin, corr + Map.get d.ts.linkDelay p 0, t2, slice bs (r.off + 58) 18⟩ } d

/-- R304: Sync, Follow_Up, Delay_Req, Delay_Resp and Announce for an instance. -/
def instMessage (i : Nat) (x : PtpPrm) (f : FwFrame) (r : PtpRef) (d : Dev) : Dev :=
  let bs := f.data
  let tin := (movedArrival f.tIn f.epoch d).toNat
  let q := ptpSeq bs r
  let y := inst i d
  match ptpType bs r with
  | 0 =>
    if !fromParent i f.port bs r d then d
    else if bit (fldBe bs (r.off + 6) 2) 9 then setInst i { y with sync := some (q, ptpCorr bs r, tin) } d
    else syncComplete i f.port x (ptpOrigin bs r) (ptpCorr bs r) tin d
  | 8 =>
    match y.sync with
    | some (q', c, t2) => if fromParent i f.port bs r d ∧ q' = q then 
        syncComplete i f.port x (ptpOrigin bs r) (c + ptpCorr bs r) t2 (keepRelayed i f.port (ptpOrigin bs r) (c + ptpCorr bs r) t2 bs r x d)
      else d
    | none => d
  | 1 =>
    if !masterPort i f.port x d || x.p2p then d
    else
      let frac : Int := (tin / 65536 % 65536 : Nat)
      let body := ptpTime (tin / unitsPerNs) ++ slice bs (r.off + 20) 10
      ptpSend f.port false (ptpMessage 9 (instSdo x) x.domain 0 (ptpCorr bs r - frac) f.port q x.logSync body) none none d
  | 9 =>
    match y.delayReq, y.masterToSlave with
    | some (q', some t3), some ms =>
      if fromParent i f.port bs r d ∧ answersUs bs r f.port = true ∧ q' = q then
        let sm := ((ptpOrigin bs r * 65536 : Nat) : Int) - (t3 / 65536 : Nat) - ptpCorr bs r
        setInst i { y with meanPathDelay := some ((ms + sm) / 2), delayReq := none } d
      else d
    | _, _ => d
  | 0xB => takeAnnounce i f.port x (readAnnounce bs r) d
  | _ => d

/-- R303, R305: a Pdelay message on a port. -/
def peerMessage (f : FwFrame) (r : PtpRef) (d : Dev) : Dev :=
  let bs := f.data
  let p := f.port
  let tin := (movedArrival f.tIn f.epoch d).toNat
  let q := ptpSeq bs r
  match ptpType bs r with
  | 2 =>
    let m := ptpMessage 3 (fld bs r.off 1 / 16) (fld bs (r.off + 4) 1) 0 (ptpCorr bs r) p q 0x7F (zeros 10 ++ slice bs (r.off + 20) 10)
    ptpSend p true m none (some (2, tin)) d
  | 3 =>
    match Map.get? d.ts.pdelay p with
    | none => d
    | some y =>
      if q ≠ y.seq || !answersUs bs r p || !fwPeerDelay p d then d
      else if bit (fldBe bs (r.off + 6) 2) 9 then
        let t2 := ptpCorr bs r - ((ptpOrigin bs r * 65536 : Nat) : Int)
        { d with ts := { d.ts with pdelay := Map.put d.ts.pdelay p { y with t4 := some tin, t2 := t2 } } }
      else match y.t1 with
        | some t1 => setPeerDelay p { y with t4 := some tin, t2 := ptpCorr bs r } t1 tin (ptpCorr bs r) d
        | none => { d with ts := { d.ts with pdelay := Map.put d.ts.pdelay p { y with t4 := some tin, t2 := ptpCorr bs r } } }
  | _ =>
    match Map.get? d.ts.pdelay p with
    | some y =>
      match y.t1, y.t4 with
      | some t1, some t4 =>
        if q = y.seq ∧ answersUs bs r p = true then
          setPeerDelay p y t1 t4 (y.t2 + ((ptpOrigin bs r * 65536 : Nat) : Int) + ptpCorr bs r) d
        else d
      | _, _ => d
    | none => d

/-- R303: the firmware takes the next PTP message from its buffer; one that no instance and no peer-delay port owns goes
to the host. -/
def ptpProcess (d : Dev) : Dev :=
  if !fwRuns d then d
  else
    let d := readStamps d
    match d.prot.fwBuf.find? (fun f => (ptpRef f.data).isSome) with
    | none => d
    | some f =>
      let d := { d with prot := { d.prot with fwBuf := d.prot.fwBuf.erase f } }
      match ptpRef f.data with
      | none => d
      | some r =>
        let toHost : Dev := emit (.cpu f.port (tsOf f.tIn) f.data) d
        if !ptpWellFormed f.data r then toHost
        else
          let t := ptpType f.data r
          if t = 2 ∨ t = 3 ∨ t = 10 then (if fwPeerDelay f.port d then peerMessage f r d else toHost)
          else match instOfPort f.port d with
            | some (i, x) => if x.domain = fld f.data (r.off + 4) 1 then instMessage i x f r d else toHost
            | none => toHost

def execPtpMessageProcess (s : State) : Host.Outcome State Fault Refusal := onDev ptpProcess s

/-- R304: no Announce from the parent for announce_receipt_timeout × 2^log_announce_interval seconds. -/
def announceTimeout (i : Nat) (d : Dev) : Dev :=
  match instPrm i d with
  | none => d
  | some x =>
    let y := inst i d
    if y.parent.isNone || !fwRuns d then d
    else
      let t := x.announceTimeout * (if 0 ≤ x.logAnnounce then 1000000000 * 2 ^ x.logAnnounce.toNat else 1000000000 / 2 ^ x.logAnnounce.natAbs)
      let d := waitTicks (y.announceAt + ticksNs t) d
      parentLost x (setInst i { y with parent := none, slavePort := none, meanPathDelay := none, sync := none, masterToSlave := none,
                                       delayReq := none, relay := none, announceTimeouts := (y.announceTimeouts + 1) % 2 ^ 32 } d)

def execAnnounceReceiptTimeout (inst : Fin 4) (s : State) : Host.Outcome State Fault Refusal := onDev (announceTimeout inst.val) s

/-! ### Commands (R312 to R316) -/

/-- R302: the 24 bytes of an entry. -/
def stampBytes (x : TxStamp) : Bytes :=
  x.time.bytes ++ le 2 x.seqId ++ le 1 x.msg ++ le 1 x.domain ++ le 2 x.portNumber ++ le 1 x.flags ++ zeros 1 ++ le 4 x.cookie

/-- R312: PTP_TS_READ. -/
def ptpTsRead (c : Ctx) (d : Dev) : Ans :=
  let p := c.target.portNo
  let n := fld c.pl 0 1
  let l := Map.get d.ts.fifoHost p []
  let out := l.take n
  need (decide (1 ≤ n ∧ n ≤ 64)) .badField <|
  .ok (le 4 out.length ++ le 4 (Map.get d.ts.hostLost p 0) ++ out.flatMap stampBytes)
    { d with ts := { d.ts with fifoHost := Map.put d.ts.fifoHost p (l.drop n), hostLost := Map.put d.ts.hostLost p 0 } }

def execPtpTsRead (r : Request) (s : State) : Host.Outcome State Fault Refusal :=
  onMailbox { op := 0x0A0B, len := 4, scopes := [.ports [1, 2, 3, 5]], resv := z 1 3 } (fun c _ d => ptpTsRead c d) r s

/-- R313: PTP_PORT_QUERY. -/
def ptpPortQuery (c : Ctx) (d : Dev) : Ans :=
  let p := c.target.portNo
  let x := (portPrm p d).getD { form := 1, side := 0 }
  let i := match instOfPort p d with | some (i, _) => i | none => 0xFF
  let ld := Map.get? d.ts.linkDelay p
  .ok (le 1 x.ptpMode ++ le 1 x.ptpProfile ++ le 1 (b2n ld.isSome + 2 * b2n x.pdelayHost) ++ le 1 i ++ zeros 4
    ++ le 8 (ofSigned 64 (ld.getD 0)) ++ le 4 (ofSigned 32 (asymOf p (prm d))) ++ zeros 4 ++ cntBytes .ptp p 4 d ++ zeros 8)
    (clearIf (clearFlag 0 c.pl) .ptp p d)

def execPtpPortQuery (r : Request) (s : State) : Host.Outcome State Fault Refusal :=
  onMailbox { op := 0x0A0C, len := 4, scopes := [.ports [1, 2, 3]], resv := onlyBits 0 4 1 } (fun c _ d => ptpPortQuery c d) r s

/-- R314: PTP_LINK_DELAY_SET. -/
def ptpLinkDelaySet (c : Ctx) (d : Dev) : Ans :=
  let p := c.target.portNo
  let v := toSigned 64 (fld c.pl 0 8)
  let owned : Bool := match portPrm p d with | some x => decide (x.ptpMode = 2) && x.pdelayHost | none => false
  need (decide (0 ≤ v ∧ v ≤ 1000000 * 65536)) .badField <|
  need owned .badState <|
  .ok [] { d with ts := { d.ts with linkDelay := Map.put d.ts.linkDelay p v } }

def execPtpLinkDelaySet (r : Request) (s : State) : Host.Outcome State Fault Refusal :=
  onMailbox { op := 0x0A0D, len := 16, scopes := [.ports [1, 2, 3]], resv := z 8 8 } (fun c _ d => ptpLinkDelaySet c d) r s

/-- R315: PTP_INSTANCE_QUERY. -/
def ptpInstanceQuery (c : Ctx) (d : Dev) : Ans :=
  let i := fld c.pl 0 1
  let x := (Map.get? (prm d).ptp i).getD {}
  let y := inst i d
  let a : PtpParent := y.parent.getD ⟨0, 0, 0, 0, 0, 0, 0, 0, 0⟩
  let gm := decide (x.role ≠ 0) && y.parent.isNone
  let mpd := match y.slavePort with | some p => (pathDelay i p x d).getD 0 | none => y.meanPathDelay.getD 0
  .ok (le 1 x.role ++ le 1 x.domain ++ le 1 x.profile
    ++ le 1 (b2n x.timeSource + 2 * b2n x.oneStep + 4 * b2n gm + 8 * b2n y.slavePort.isSome)
    ++ le 4 (match y.slavePort with | some p => portTarget p | none => 0) ++ le 8 a.identity ++ le 2 a.portNumber
    ++ le 1 a.clockClass ++ le 1 a.priority1 ++ le 2 a.stepsRemoved ++ zeros 2 ++ le 8 (ofSigned 64 y.lastOffset)
    ++ le 8 (ofSigned 64 mpd) ++ y.lastSync.bytes ++ le 4 y.syncRx ++ le 4 y.announceTimeouts ++ zeros 4) d

def execPtpInstanceQuery (r : Request) (s : State) : Host.Outcome State Fault Refusal :=
  onMailbox { op := 0x0A0E, len := 4, resv := fun p => below 0 4 p && z 1 3 p } (fun c _ d => ptpInstanceQuery c d) r s

/-- R316: TS_CNT_READ. -/
def execTsCntRead (r : Request) (s : State) : Host.Outcome State Fault Refusal :=
  onMailbox { op := 0x0A0F, len := 4, scopes := [.dies [0, 1, 2, 3, 8]], resv := onlyBits 0 4 1 }
    (fun c _ d => .ok (cntBytes .ts c.target.dieNo 11 d) (clearIf (clearFlag 0 c.pl) .ts c.target.dieNo d)) r s

end Sys2Proof.Machine
end

