-- ==== Sys2Proof/Machine/Mka.lean ====
section
/-! DEFINITION. Sys2Proof/Machine/Mka.lean: the firmware MKA (R126 to R128, R331) and its commands (R138, R139). The
protocol is IEEE 802.1X-2020, which the spec names; PRESUMED: the layout of an MKPDU and of its parameter sets is that
standard's. -/
namespace Sys2Proof.Machine

/-- The session of a SecY number. -/
def mkaSt (n : Nat) (d : Dev) : Option MkaSession := Map.get? d.prot.mka n

/-- Store a session. -/
def setMka (n : Nat) (m : MkaSession) (d : Dev) : Dev := { d with prot := { d.prot with mka := Map.put d.prot.mka n m } }

/-- R407: mirror a session. -/
def postMka (n : Nat) (d : Dev) : Dev :=
  match mkaSt n d with
  | some m => twinPost (.mkaSession n m.priority m.ckn m.blob (m.peers.map (·.sci)) m.keyNumber m.sak) d
  | none => d

/-! ### Keys of a CA (IEEE 802.1X-2020, 6.2.1 and 9.3.3) -/

/-- The KDF of IEEE 802.1X: one block of CMAC per 128 bits of a result of `bits` bits. -/
def kdf8021x (key label ctx : Bytes) (bits : Nat) : Bytes :=
  (List.range ((bits + 127) / 128)).flatMap (fun i => aesCmac key (be 1 (i + 1) ++ label ++ zeros 1 ++ ctx ++ be 2 bits))

/-- "IEEE8021 ICK". -/
def ickLabel : Bytes := be 12 0x494545453830323120_49434B

/-- "IEEE8021 KEK". -/
def kekLabel : Bytes := be 12 0x494545453830323120_4B454B

/-- The ICK or KEK of a CA: of the CAK's length, under the first 16 octets of the CKN. -/
def caKey (label cak ckn : Bytes) : Bytes := kdf8021x cak label (slice ckn 0 16) (8 * cak.length)

/-! ### Election and SAKs (R127) -/

/-- Is (a, b) before (c, d)? -/
def before (a b c d : Nat) : Bool := decide (a < c ∨ (a = c ∧ b < d))

/-- R127: is this device the key server: elected by key server priority and SCI; 255 never. -/
def isServer (sci : Nat) (m : MkaSession) : Bool :=
  decide (m.priority ≠ 255) && !m.peers.isEmpty &&
    m.peers.all (fun x => decide (x.priority = 255) || before m.priority sci x.priority x.sci)

/-- The peer that is key server, if it is one. -/
def serverPeer (m : MkaSession) : Option MkaPeer :=
  m.peers.foldl (fun a x =>
    if x.priority = 255 then a
    else match a with
      | none => some x
      | some y => if before x.priority x.sci y.priority y.sci then some x else a) none

/-- The RX SC of an SCI on a port. -/
def rxScOf (die port sci : Nat) (d : Dev) : Option Nat :=
  (d.prot.rxscs.find? (fun e => decide (e.1 / 4096 = die ∧ e.2.port = port ∧ e.2.sci = sci))).map (·.1 % 4096)

/-- R126: MKA creates the RX SC of a live peer. -/
def ensureRxSc (die : Nat) (p : SecyPrm) (sci : Nat) (d : Dev) : Dev :=
  match rxScOf die p.port sci d with
  | some _ => d
  | none => match createRxSc die p.port p.index sci p.confOffset d with | some (_, d) => d | none => d

/-- R112, R114: MKA places a key in a slot that is EMPTY, over the die's tunnel; other slots keep theirs. -/
def mkaPlace (rx : Bool) (die sc an ssci salt nextPn keyId : Nat) (key : Bytes) (d : Dev) : Dev :=
  let k := saKey die rx sc an
  if (sa k d).state ≠ .empty ∨ (rx = true ∧ 8192 ≤ rxSlotsUsed die d) ∨ dieUp die d = false ∨ tunnelOpen die d = false then d
  else
    afterInstall k (saPlace ⟨.mka, die, rx, sc, an, ssci, salt, nextPn, keyId, [], false⟩ key (sendSak die key d))

/-- R127: the SSCI of a member of a CA: 1 for the greatest SCI, and so on down. -/
def ssciOf (own sci : Nat) (peers : List MkaPeer) : Nat :=
  1 + ((own :: peers.map (·.sci)).filter (fun x => decide (sci < x))).length

/-- R127: the salt of a SAK: the key server's member identifier, its upper half combined with the key number. -/
def saltOf (s : DistSak) : Nat := unbe s.mi ^^^ (s.keyNumber.toNat * 2 ^ 64)

/-- R126, R127: install a SAK in the clear, which only the vault, the tunnel and the slots see: the RX SA of every live peer, and
the TX SA. The session keeps it wrapped. -/
def installSak (n : Nat) (p : SecyPrm) (s : DistSak) (key : Bytes) (d : Dev) : Dev :=
  match mkaSt n d with
  | none => d
  | some m =>
    let die := n / 2048
    let xpn := suiteXpn p.suite
    let an := s.an.val
    let salt := if xpn then saltOf s else 0
    let ssci (sci : Nat) : Nat := if xpn then ssciOf p.txSci sci m.peers else 0
    let d := m.peers.foldl (fun d x =>
      match rxScOf die p.port x.sci d with
      | some sc => mkaPlace true die sc an (ssci x.sci) salt 1 s.keyNumber.toNat key d
      | none => d) d
    let d := mkaPlace false die p.index an (ssci p.txSci) salt 1 s.keyNumber.toNat key d
    setMka n { m with latestAn := some an, keyNumber := s.keyNumber.toNat, sak := some s
                      peers := m.peers.map (fun x => { x with ready := false }) } d

/-- R127, R155: as key server, generate a SAK, to be distributed wrapped; the DRBG must run. -/
def generateSak (n : Nat) (p : SecyPrm) (d : Dev) : Dev :=
  match mkaSt n d with
  | none => d
  | some m =>
    if d.vault.trng ≠ 0 then d
    else
      let (key, d) := freshBytes (suiteKeyLen p.suite) d
      let an : Fin 4 := match m.latestAn with | some a => Fin.ofNat 4 (a + 1) | none => 0
      let s : DistSak := ⟨an, BitVec.ofNat 32 (m.keyNumber + 1), kwWrap m.kek key, m.mi⟩
      installSak n p s key (setMka n { m with rekey := false } { d with vault := { d.vault with generates := d.vault.generates + 1 } })

/-- R127: take a SAK that the key server has distributed: the vault unwraps it under the KEK; one of another length than the
suite's is not taken. -/
def takeSak (n : Nat) (p : SecyPrm) (s : DistSak) (d : Dev) : Dev :=
  match mkaSt n d with
  | none => d
  | some m =>
    match kwUnwrap m.kek s.wrapped with
    | some key => if key.length = suiteKeyLen p.suite then installSak n p s key d else d
    | none => d

/-- R98, R126, R127: transmit switches to the latest SAK at the next switch instant (R119), and the controlled port is enabled
once its TX SA is in use. -/
def mkaSwitch (n : Nat) (d : Dev) : Dev :=
  match mkaSt n d with
  | some { latestAn := some an, .. } =>
    let die := n / 2048
    let idx := n % 2048
    if (sa (saKey die false idx an) d).state = .installed ∧ switchPending die idx d = false then
      { d with prot := { d.prot with switches := Map.put d.prot.switches n ⟨an, firstWhole 1000 20000 d, none, none⟩ } }
    else mkaEnable n d
  | _ => d

/-! ### MKPDUs (IEEE 802.1X-2020, 11.11) -/

/-- A parameter set: type, one octet, four bits and the length of the body, the body, and padding to a multiple of four. -/
def paramSet (type octet flags : Nat) (body : Bytes) : Bytes :=
  be 1 type ++ be 1 octet ++ be 2 (flags * 4096 + body.length) ++ body ++ zeros ((4 - body.length % 4) % 4)

/-- The parameter sets that follow the basic one, with fuel: type, octet, flags and body of each. -/
def readSets : Nat → Bytes → List (Nat × Nat × Nat × Bytes)
  | 0, _ => []
  | k + 1, bs =>
    if bs.length < 4 then []
    else
      let n := fldBe bs 2 2 % 4096
      (fld bs 0 1, fld bs 1 1, fldBe bs 2 2 / 4096, slice bs 4 n) :: readSets k (bs.drop (4 + (n + 3) / 4 * 4))

/-- The MKPDU of a frame: what its parameter sets say. -/
structure Mkpdu where
  priority : Nat
  sci : Nat
  mi : Bytes
  mn : Nat
  ckn : Bytes
  agility : Nat
  /-- what the ICV covers, and the ICV -/
  covered : Bytes
  icv : Bytes
  /-- members named as live, and as potential: identifier and message number -/
  live : List (Bytes × Nat)
  potential : List (Bytes × Nat)
  /-- the SAK in use: its AN, transmitting, receiving, delay protection, server, key number, lowest PN -/
  use : Option (Nat × Bool × Bool × Bool × Bytes × Nat × Nat)
  /-- a distributed SAK: its AN, key number and wrapped key -/
  sak : Option (Nat × Nat × Bytes)
  /-- the constant-delay TLV, as the bytes after the OUI (R331) -/
  cd : Option Bytes

/-- The members of a peer list. -/
def readMembers (b : Bytes) : List (Bytes × Nat) :=
  ((chunks 16 b).filter (fun c => decide (c.length = 16))).map (fun c => (slice c 0 12, fldBe c 12 4))

/-- The TLVs of an announcement, with fuel: type and content. -/
def readTlvs : Nat → Bytes → List (Nat × Bytes)
  | 0, _ => []
  | k + 1, bs =>
    if bs.length < 2 then []
    else
      let n := fldBe bs 0 2 % 512
      (fldBe bs 0 2 / 512, slice bs 2 n) :: readTlvs k (bs.drop (2 + n))

/-- R331: the content of the organization-specific TLV of Fohasyn, if there is one. -/
def fohasynTlv (body : Bytes) : Option Bytes :=
  ((readTlvs body.length body).find? (fun t => decide (t.1 = 127 ∧ fldBe t.2 0 3 = 0x16D41F ∧ t.2.length = 11))).map (fun t => t.2.drop 3)

/-- The SAK in use, with the upper half of its lowest PN from the XPN parameter set. -/
def readUse (o fl : Nat) (b : Bytes) (xpn : Option Bytes) : Option (Nat × Bool × Bool × Bool × Bytes × Nat × Nat) :=
  if b.length = 40 then
    some (o / 64, bit o 5, bit o 4, bit fl 0, slice b 0 12, fldBe b 12 4,
      (match xpn with | some x => fldBe x 0 4 | none => 0) * 2 ^ 32 + fldBe b 16 4)
  else none

/-- A distributed SAK: with the default suite (28 bytes), or with the suite named. -/
def readDist (o : Nat) (b : Bytes) : Option (Nat × Nat × Bytes) :=
  match b.length with
  | 28 => some (o / 64, fldBe b 0 4, slice b 4 24)
  | 36 => some (o / 64, fldBe b 0 4, slice b 12 24)
  | 52 => some (o / 64, fldBe b 0 4, slice b 12 40)
  | _ => none

/-- Read the MKPDU of a frame (addresses first, FCS excluded), if it is one. -/
def readMkpdu (data : Bytes) : Option Mkpdu :=
  let len := fldBe data 16 2
  let n := fldBe data 20 2 % 4096
  let head := 22 + (n + 3) / 4 * 4
  if fldBe data 12 2 ≠ 0x888E ∨ fld data 15 1 ≠ 5 ∨ data.length < 18 + len ∨ n < 29 ∨ 18 + len < head + 16 ∨ fld data 18 1 = 0 then none
  else
    let covered := data.take (18 + len - 16)
    let sets := readSets len (covered.drop head)
    let body (t : Nat) : Option (Nat × Nat × Bytes) := (sets.find? (fun x => decide (x.1 = t))).map (·.2)
    some {
      priority := fld data 19 1, sci := fldBe data 22 8, mi := slice data 30 12, mn := fldBe data 42 4, agility := fldBe data 46 4,
      ckn := slice data 50 (n - 28), covered := covered, icv := slice data (18 + len - 16) 16
      live := match body 1 with | some (_, _, b) => readMembers b | none => []
      potential := match body 2 with | some (_, _, b) => readMembers b | none => []
      use := match body 3 with | some (o, fl, b) => readUse o fl b ((body 8).map (·.2.2)) | none => none
      sak := match body 4 with | some (o, _, b) => readDist o b | none => none
      cd := match body 7 with | some (_, _, b) => fohasynTlv b | none => none }

/-- R331: what a constant-delay TLV announces; one of another subtype or version is ignored. -/
def readCdTlv (tlv : Option Bytes) : Option (Bool × Nat) :=
  match tlv with
  | some b => if fldBe b 0 1 = 1 ∧ fldBe b 1 1 = 1 then some (bit (fldBe b 2 1) 1, fldBe b 4 4) else none
  | none => none

/-- R331: the constant-delay announcement of a SecY: the Fohasyn OUI and its 8 bytes. -/
def cdTlvBytes (p : SecyPrm) : Bytes :=
  be 3 0x16D41F ++ be 1 1 ++ be 1 1 ++ be 1 (1 + 2 * p.cd.mode) ++ zeros 1 ++ be 4 (if p.cd.mode = 1 then p.cd.delay else 0)

/-- R127: a TLV of an announcement. -/
def annTlv (type : Nat) (content : Bytes) : Bytes := be 2 (type * 512 + content.length) ++ content

/-- R87, R127: the announcement: the four cipher suites, each with confidentiality at offsets 0, 30 and 50, and R331. -/
def announcement (p : SecyPrm) : Bytes :=
  annTlv 112 ([1, 2, 3, 4].flatMap (fun k => be 2 3 ++ be 8 (0x0080C20001000000 + k))) ++ annTlv 127 (cdTlvBytes p)

/-- The members of a list of peers. -/
def memberBytes (l : List MkaPeer) : Bytes := l.flatMap (fun x => x.mi ++ be 4 x.mn)

/-- R127: the SAK in use. DESIGN CHOICE: the fields of the old key are zero, and delay protection is not asked for. -/
def useBytes (n : Nat) (p : SecyPrm) (m : MkaSession) (s : DistSak) (d : Dev) : Bytes :=
  let die := n / 2048
  let an := s.an.val
  let k := saKey die false p.index an
  let tx := decide (txInUse die p.index d = some an)
  let rx := m.peers.all (fun x => match rxScOf die p.port x.sci d with
    | some sc => decide ((sa (saKey die true sc an) d).state = .inUse) | none => false)
  let pn := (sa k d).nextPn
  paramSet 3 (an * 64 + 32 * b2n tx + 16 * b2n rx) (8 * b2n (!p.protectFrames) + 4 * b2n (decide (p.validate ≠ 2)))
      (s.mi ++ be 4 s.keyNumber.toNat ++ be 4 pn ++ zeros 20)
    ++ (if suiteXpn p.suite then paramSet 8 0 0 (be 4 (pn / 2 ^ 32) ++ zeros 4) else [])

/-- R93, R127: a SAK as the key server distributes it. -/
def distBytes (p : SecyPrm) (s : DistSak) : Bytes :=
  let conf := if !p.confidentiality then 0 else if p.confOffset = 30 then 2 else if p.confOffset = 50 then 3 else 1
  paramSet 4 (s.an.val * 64 + 16 * conf) 0 (be 4 s.keyNumber.toNat
    ++ (if p.suite = 1 then [] else be 8 (0x0080C20001000000 + p.suite)) ++ s.wrapped)

/-- R127: an MKPDU of a session: the basic parameter set, its peers, the SAK in use, the SAK it distributes while a peer does not
yet receive under it, and its announcement; the ICV ends it. -/
def mkpduBytes (n : Nat) (p : SecyPrm) (m : MkaSession) (d : Dev) : Bytes :=
  let basic := be 1 3 ++ be 1 m.priority ++ be 2 (32768 * b2n m.server + 0x4000 + 0x3000 + 28 + m.ckn.length) ++ be 8 p.txSci ++ m.mi
    ++ be 4 m.msgNumber ++ be 4 0x0080C201 ++ m.ckn ++ zeros ((4 - m.ckn.length % 4) % 4)
  let lists := (if m.peers.isEmpty then [] else paramSet 1 0 0 (memberBytes m.peers))
    ++ (if m.potential.isEmpty then [] else paramSet 2 0 0 (memberBytes m.potential))
  let sak := match m.sak with
    | some s => useBytes n p m s d
        ++ (if m.server && m.peers.any (fun x => !x.ready) then distBytes p s else [])
    | none => []
  let body := basic ++ lists ++ sak ++ paramSet 7 0 0 (announcement p)
  let frame := be 6 0x0180C2000003 ++ be 6 (p.txSci / 65536) ++ be 2 0x888E ++ be 1 3 ++ be 1 5 ++ be 2 (body.length + 16) ++ body
  frame ++ aesCmac m.ick frame

/-! ### Receiving and sending -/

/-- R127: a live peer's life time. -/
def mkaLife : Nat := ticksMs 6000

/-- Does an MKPDU name this device, with a message number it has sent? -/
def Mkpdu.namesUs (x : Mkpdu) (m : MkaSession) : Bool :=
  (x.live ++ x.potential).any (fun y => decide (y.1 = m.mi ∧ y.2 < m.msgNumber))

/-- Does an MKPDU say of the latest SAK what `f` asks? -/
def Mkpdu.usesLatest (x : Mkpdu) (m : MkaSession) (f : Nat × Bool × Bool × Bool × Bytes × Nat × Nat → Bool) : Bool :=
  match x.use, m.sak with
  | some u, some s => f u && decide (u.1 = s.an.val ∧ u.2.2.2.2.1 = s.mi ∧ u.2.2.2.2.2.1 = s.keyNumber.toNat)
  | _, _ => false

/-- The sender of an MKPDU as a peer. -/
def Mkpdu.peer (x : Mkpdu) (m : MkaSession) (d : Dev) : MkaPeer :=
  { sci := x.sci, mi := x.mi, mn := x.mn, priority := x.priority, deadline := d.time.elapsed + mkaLife,
    ready := x.usesLatest m (fun u => u.2.2.1), delayProtect := (match x.use with | some u => u.2.2.2.1 | none => false), cd := readCdTlv x.cd }

/-- R124, R127: a server asked for a new SAK: by its own threshold, or by a peer's PN. -/
def Mkpdu.asksRekey (x : Mkpdu) (p : SecyPrm) (m : MkaSession) : Bool :=
  m.rekey || x.usesLatest m (fun u => decide (p.threshold ≤ u.2.2.2.2.2.2))

/-- R127: the SAK of an MKPDU that its key server sent, if it is new to the session. -/
def Mkpdu.newSak (x : Mkpdu) (m : MkaSession) : Option DistSak :=
  match x.sak, serverPeer m with
  | some (an, kn, w), some q =>
    if q.sci = x.sci ∧ (m.latestAn ≠ some (an % 4) ∨ m.keyNumber ≠ kn) then some ⟨Fin.ofNat 4 an, BitVec.ofNat 32 kn, w, x.mi⟩ else none
  | _, _ => none

/-- R127, R330: an MKPDU of a peer that names this device: the peer is live. -/
def mkaLive (n : Nat) (p : SecyPrm) (x : Mkpdu) (m : MkaSession) (d : Dev) : Dev :=
  let known := m.peers.any (fun y => decide (y.sci = x.sci ∧ y.mi = x.mi))
  let others := m.peers.filter (fun (y : MkaPeer) => decide (y.sci ≠ x.sci))
  if 16 ≤ others.length then d
  else
    let m1 : MkaSession := { m with peers := others ++ [x.peer m d], potential := m.potential.filter (fun y => decide (y.sci ≠ x.sci)) }
    let m1 := { m1 with server := isServer p.txSci m1 }
    let d := cdJudge n (ensureRxSc (n / 2048) p x.sci (setMka n m1 d))
    let fresh := if m1.server then !known || !m.server || x.asksRekey p m else (x.newSak m1).isSome
    let d := if m1.server then (if fresh then generateSak n p d else d)
      else match x.newSak m1 with | some s => takeSak n p s d | none => d
    let go := !fresh && (if m1.server then m1.peers.all (·.ready) else x.usesLatest m1 (fun u => u.2.1))
    let d := if go then mkaSwitch n d else d
    if known && !fresh then d else postMka n d

/-- R127: what an MKPDU with a good ICV does to its session: a peer becomes live once it has named this device; an old message, or
one of another CA, is ignored. -/
def mkaReceive (n : Nat) (p : SecyPrm) (x : Mkpdu) (m : MkaSession) (d : Dev) : Dev :=
  let old := (m.peers ++ m.potential).any (fun y => decide (y.mi = x.mi ∧ x.mn ≤ y.mn))
  if old then d
  else if x.namesUs m then mkaLive n p x m d
  else if m.peers.any (fun y => decide (y.mi = x.mi)) then d
  else setMka n { m with potential := m.potential.filter (fun y => decide (y.sci ≠ x.sci)) ++ [x.peer m d] } d

/-- R94, R126 to R128: the firmware takes the next MKA frame of a cipher port from its buffer; under host keying it passes it to the
host. An MKPDU of another CA is ignored; one whose ICV fails is counted. -/
def mkaFrameProcess (d : Dev) : Dev :=
  if !fwRuns d then d
  else match d.prot.fwBuf.find? (fun f => decide ((parse f.data).etype = 0x888E)) with
    | none => d
    | some f =>
      let d := { d with prot := { d.prot with fwBuf := d.prot.fwBuf.erase f } }
      match f.secy with
      | none => d
      | some n =>
        match secyPrm (n / 2048) (n % 2048) d with
        | none => d
        | some p =>
          if p.hostKeying then emit (.cpu f.port (tsOf f.tIn) f.data) d
          else match mkaSt n d, readMkpdu f.data with
            | some m, some x =>
              if x.ckn ≠ m.ckn ∨ x.agility ≠ 0x0080C201 then d
              else if aesCmac m.ick x.covered = x.icv then mkaReceive n p x m d
              else setMka n { m with rxBad := (m.rxBad + 1) % 2 ^ 32 } d
            | _, _ => d

def execMkaFrameProcess (s : State) : Host.Outcome State Fault Refusal := onDev mkaFrameProcess s

/-- R127: the hello time: bounded once a live peer asks for delay protection. -/
def helloTime (m : MkaSession) : Nat := if m.peers.any (·.delayProtect) then ticksMs 500 else ticksMs 2000

/-- R124, R127: at each hello time the firmware sends an MKPDU for the session; a key server that has been asked for a new SAK
generates it first. -/
def mkaHello (n : Nat) (d : Dev) : Dev :=
  match mkaSt n d, secyPrm (n / 2048) (n % 2048) d with
  | some m, some p =>
    if !fwRuns d || p.hostKeying then d
    else
      let d := match m.helloAt with | some t => waitTicks (t + helloTime m) d | none => d
      let d := if m.server && m.rekey then postMka n (generateSak n p d) else d
      let m := (mkaSt n d).getD m
      let bs := mkpduBytes n p m d
      let d := setMka n { m with lastHello := now d, helloAt := some d.time.elapsed, msgNumber := (m.msgNumber + 1) % 2 ^ 32 } d
      injectFrame false (some (secyCode p.port p.index)) 7 bs none none d
  | _, _ => d

def execMkaHelloSend (die : Fin 4) (secy : Fin 2048) (s : State) : Host.Outcome State Fault Refusal :=
  onDev (mkaHello (2048 * die.val + secy.val)) s

/-- The peer whose life ends first. -/
def firstToDie (l : List MkaPeer) : Option MkaPeer :=
  l.foldl (fun a x => match a with | none => some x | some y => if x.deadline < y.deadline then some x else a) none

/-- The RX SAs in use of a peer's SC become RETIRING. -/
def retirePeer (die port sci : Nat) (d : Dev) : Dev :=
  match rxScOf die port sci d with
  | none => d
  | some sc => (List.range 4).foldl (fun d a =>
      let k := saKey die true sc a
      if (sa k d).state = .inUse then saEnter .retiring k (setSa k { sa k d with retireAt := none } d) else d) d

/-- R127: a live peer's life time ends: it leaves the CA; with no live peer left the controlled port is disabled. Peers that are not
live are forgotten after the same time. -/
def mkaPeerTimeout (n : Nat) (d : Dev) : Dev :=
  match mkaSt n d, secyPrm (n / 2048) (n % 2048) d with
  | some m, some p =>
    match firstToDie m.peers with
    | none => d
    | some x =>
      let d := waitTicks x.deadline d
      let m := { m with potential := m.potential.filter (fun y => decide (d.time.elapsed < y.deadline)) }
      let m1 : MkaSession := { m with peers := m.peers.filter (fun (y : MkaPeer) => decide (y.sci ≠ x.sci)) }
      let m1 := { m1 with server := isServer p.txSci m1 }
      let d := cdJudge n (retirePeer (n / 2048) p.port x.sci (setMka n m1 d))
      postMka n (if m1.peers.isEmpty then setPortEnabled n false d else d)
  | _, _ => d

def execMkaPeerTimeout (die : Fin 4) (secy : Fin 2048) (s : State) : Host.Outcome State Fault Refusal :=
  onDev (mkaPeerTimeout (2048 * die.val + secy.val)) s

/-! ### The commands (R138, R139) -/

/-- R138: the fields of MKA_CA_SET. -/
def caFieldsOk (pl : Bytes) : Bool :=
  let n := fld pl 4 1
  let b := fld pl 6 2
  if bit (fld pl 2 1) 0 then decide (b = 0 ∧ fld pl 8 4 = 0) && allZero (slice pl 48 64)
  else decide (1 ≤ n ∧ n ≤ 32 ∧ 16 ≤ b ∧ b ≤ 64 ∧ b % 8 = 0) && allZero ((slice pl 16 32).drop n) && allZero ((slice pl 48 64).drop b)

/-- R51: is a command on the SecY's CA still executing? -/
def caRunning (n : Nat) (d : Dev) : Bool := runningOn (fun op => decide (op = 0x050A)) n d

/-- R138: CA sessions there are, and will be once the CAKs that wait have been loaded. -/
def caCount (d : Dev) : Nat :=
  d.prot.mka.length + (d.prot.caLoads.foldl (fun l x =>
    let n := 2048 * x.die + x.secy
    if Map.has d.prot.mka n || l.contains n then l else n :: l) []).length

/-- R138. -/
def mkaCaSet (c : Ctx) (d : Dev) : Ans :=
  let die := c.target.dieNo
  let idx := fld c.pl 0 2
  let n := 2048 * die + idx
  match secyOn c idx d with
  | none => .fail .badField
  | some p =>
    need (caFieldsOk c.pl) .badField <|
    need (!caRunning n d) .busy <|
    need (!p.hostKeying) .badState <|
    if bit (fld c.pl 2 1) 0 then
      need (Map.has d.prot.mka n) .badState <|
        .ok [] { d with prot := { d.prot with mka := Map.del d.prot.mka n } }
    else
      need (Map.has d.prot.mka n || d.prot.caLoads.any (fun x => decide (2048 * x.die + x.secy = n)) || decide (caCount d < 4096))
        .noResource <|
        let ld (h : Option Nat) : CaLoad := ⟨h, c.mb, die, idx, fld c.pl 3 1, slice c.pl 16 (fld c.pl 4 1), fld c.pl 8 4, slice c.pl 48 (fld c.pl 6 2)⟩
        if d.prot.caLoads.isEmpty then .run n { d with prot := { d.prot with caLoads := [ld none] } }
        else .pend 100 n { d with prot := { d.prot with caLoads := d.prot.caLoads ++ [ld (some c.handle)] } }

def execMkaCaSet (r : Request) (s : State) : Host.Outcome State Fault Refusal :=
  onMailbox { op := 0x050A, len := 112, scopes := [.ports [2, 3]], held := true, vault := true,
              shared := sharedSecy (fun p => fld p 0 2), resv := fun p => onlyBits 2 1 1 p && z 5 1 p && z 12 4 p }
    (fun c _ d => mkaCaSet c d) r s

/-- A session of a new CA under a fresh member identifier: no peer, no SAK. -/
def newSession (ld : CaLoad) (cak mi : Bytes) : MkaSession where
  ckn := ld.ckn
  ick := caKey ickLabel cak ld.ckn
  kek := caKey kekLabel cak ld.ckn
  priority := ld.priority
  server := false
  peers := []
  potential := []
  latestAn := none
  keyNumber := 0
  rxBad := 0
  lastHello := TS96.zero
  helloAt := none
  mi := mi
  msgNumber := 1
  rekey := false
  blob := ld.blob
  sak := none

/-- R138: the vault takes the oldest queued CAK, checks it (R115 steps 2 to 4), derives the CA's ICK and KEK and discards
the CAK. -/
def mkaCaLoad (d : Dev) : Dev :=
  match d.prot.caLoads with
  | [] => d
  | ld :: rest =>
    let d := { d with prot := { d.prot with caLoads := rest } }
    let mb := if ld.handle.isSome then none else some ld.mailbox
    let n := 2048 * ld.die + ld.secy
    match (if fld ld.blob 1 1 = 3 ∧ fld ld.blob 4 4 = ld.keyId then openBlob ld.blob ld.blob.length d else none) with
    | none => settle ld.handle mb .keyRejected [] (countBlob false d)
    | some k =>
      let (mi, d) := freshBytes 12 d
      settle ld.handle mb .ok [] (postMka n (setMka n (newSession ld k.bytes mi) (countBlob true d)))

def execMkaCaLoad (s : State) : Host.Outcome State Fault Refusal := onDev mkaCaLoad s

/-- R139. -/
def mkaCaQuery (c : Ctx) (d : Dev) : Ans :=
  let die := c.target.dieNo
  let idx := fld c.pl 0 2
  match secyOn c idx d with
  | none => .fail .badField
  | some _ =>
    match mkaSt (2048 * die + idx) d with
    | none => .ok (le 1 0 ++ le 1 0 ++ le 1 0 ++ le 1 0xFF ++ zeros 28) d
    | some m =>
      let st := if m.peers.isEmpty then 1 else if m.latestAn.isSome ∧ txInUse die idx d = m.latestAn then 3 else 2
      .ok (le 1 st ++ le 1 (b2n m.server) ++ le 1 m.peers.length ++ le 1 (m.latestAn.getD 0xFF)
        ++ slice (aesCmac m.ick m.ckn) 0 4 ++ le 4 m.keyNumber ++ le 4 m.rxBad ++ m.lastHello.bytes ++ zeros 4) d

def execMkaCaQuery (r : Request) (s : State) : Host.Outcome State Fault Refusal :=
  onMailbox { op := 0x050B, len := 4, scopes := [.ports [2, 3]], resv := z 2 2 } (fun c _ d => mkaCaQuery c d) r s

end Sys2Proof.Machine
end

