-- ==== Sys2Proof/Machine/Resets.lean ====
section
/-! DEFINITION. Sys2Proof/Machine/Resets.lean: the resets and what each keeps (R68, R429, R443), and the loss of power
(R428). -/
namespace Sys2Proof.Machine

/-! ### PORST_N low, and power (R428, R429) -/

/-- R443: vault NVM and the always-on island over a cold reset: the tamper latch, its time, the island's own latch and
note, the key area and the nonce ceilings. -/
def vaultNvm (v : Vault) : Vault :=
  { Vault.reset with latch := v.latch, lastTamper := v.lastTamper, aonLatch := v.aonLatch, vstbyLost := v.vstbyLost
                     vstby := v.vstby, loopPattern := v.loopPattern
                     area := v.area, nonceSlots := v.nonceSlots }

/-- R443, R464, R466, R468: record memory and the committed hours over a cold reset. -/
def obsNvm (x : Obs) : Obs :=
  { Obs.reset with ring := x.ring, recs := x.recs, nextSeq := x.nextSeq, nextOffset := x.nextOffset, slots := x.slots }

/-- The boot flash over any reset (R434, R439). -/
def flashOnly (x : Sys) : Sys := { Sys.reset with flash := x.flash, saveSeq := x.saveSeq }

/-- R429, R443: the device held in its cold reset, in a power state. -/
def coldReset (power : Power) (d : Dev) : Dev :=
  { Dev.reset with
    free := d.free
    out := d.out
    sys := { flashOnly d.sys with power := power }
    vault := vaultNvm d.vault
    obs := obsNvm d.obs }

/-- R161: a reset ends the look-aside jobs with their output zero-filled. -/
def zeroFillJobs (d : Dev) : Dev := d.vault.jobs.foldl (fun d e => zeroFill e.2 d) d

/-- R429. -/
def porstAssert (d : Dev) : Dev := if d.sys.porst then coldReset .run (zeroFillJobs d) else d

def execPorstNAssert (s : State) : Host.Outcome State Fault Refusal := onDev porstAssert s

/-- R166, R428, R440: the supplies are gone: OFF, with PORST_N low; VSTBY stays or goes with them. -/
def powerLoss (standby : Bool) (d : Dev) : Dev :=
  let d := coldReset .off d
  { d with vault := { d.vault with vstby := d.vault.vstby && standby } }

def execPowerLoss (standby : Bool) (s : State) : Host.Outcome State Fault Refusal := onDev (powerLoss standby) s

/-- R167: the always-on island notes that VSTBY has come back. -/
def vstbyPowerOn (d : Dev) : Dev := { d with vault := { d.vault with vstbyLost := true, vstby := true } }

def execVstbyPowerOn (s : State) : Host.Outcome State Fault Refusal := onDev vstbyPowerOn s

/-! ### SRST_N low (R429, R443) -/

/-- R443: what the vault keeps over a warm reset: the life-cycle decode with its derived keys, the DRBG, the nonce
counter, the sensors' view. -/
def vaultWarm (v : Vault) : Vault :=
  { vaultNvm v with lc := v.lc, derived := v.derived, trng := v.trng, trngFails := v.trngFails, generates := v.generates
                    reseedAt := v.reseedAt, nonce := v.nonce, ceiling := v.ceiling, nonceAt := v.nonceAt
                    live := v.live, loopBad := v.loopBad, tempBad := v.tempBad }

/-- R429, R443, R466: everything but what a warm reset keeps. -/
def warmReset (cause : Nat) (d : Dev) : Dev :=
  { Dev.reset with
    free := d.free
    out := d.out
    time := { TimeBase.reset with elapsed := d.time.elapsed, lineElapsed := d.time.lineElapsed }
    pkg := { present := d.pkg.present, links := [] }
    sys := { flashOnly d.sys with porst := true, srst := false, twrole := d.sys.twrole, vaultDone := true, cold := false
                                  resetCause := cause, releaseAt := d.sys.releaseAt }
    vault := vaultWarm d.vault
    obs := { obsNvm d.obs with hours := d.obs.hours, hoursAt := d.obs.hoursAt, powerCycles := d.obs.powerCycles
                               budget := d.obs.budget, budgetAt := d.obs.budgetAt, suppressed := d.obs.suppressed
                               firstSuppressed := d.obs.firstSuppressed
                               subs := if vhOpen d then d.obs.subs else [] } }

/-- R429, R444: sampled only while PORST_N is high; before the vault step has ended, start-up stays cold. -/
def srstAssert (d : Dev) : Dev :=
  if !d.sys.porst then d
  else if !d.sys.vaultDone then { d with sys := { d.sys with srst := false } }
  else warmReset 2 (zeroFillJobs d)

def execSrstNAssert (s : State) : Host.Outcome State Fault Refusal := onDev srstAssert s

/-! ### The PCIe endpoint (R68, R499) -/

/-- R68: a mailbox over a reset of the function: one that runs a command goes on, its response without a vector. -/
def mailboxFlr (b : Mailbox) : Mailbox :=
  { b with done := false, running := b.running.map (fun r => { r with flags := r.flags ||| 2 }) }

/-- R68: every DMA channel halts, its registers at their reset values; an in-flight descriptor is not written back. -/
def chansFlr : Map DmaChan := (List.range 16).map (fun n => (n, { DmaChan.init with halted := true }))

/-- R39, R68: configuration space over a reset of the function. PRESUMED, as PCIe has it: payload size, ASPM and the error status
stay. -/
def pciFlr (p : PciFn) : PciFn := { PciFn.reset with maxPayload := p.maxPayload, aspmL1 := p.aspmL1, aer := p.aer }

/-- R68: the host interface's registers at their reset values; what the device itself holds stays. -/
def hostFlr (h : HostIf) : HostIf :=
  { HostIf.reset with
    fwReady := h.fwReady, fwRestarting := h.fwRestarting, restartCause := h.restartCause, interrupted := h.interrupted
    trafficReady := h.trafficReady, fwVersion := h.fwVersion, fwAlive := h.fwAlive, aliveAt := h.aliveAt
    nrSeq := h.nrSeq, lost := h.lost, held := h.held, heldLost := h.heldLost
    dma := chansFlr
    pci := pciFlr h.pci
    mbs := Map.mapVals h.mbs mailboxFlr
    authFails := h.authFails, lockout := h.lockout, pend := h.pend, nextHandle := h.nextHandle
    staging := h.staging, lastRead := h.lastRead }

/-- R68: a function-level reset. The look-aside descriptors held for a tag check are no longer written back. -/
def functionReset (d : Dev) : Dev :=
  if !enumerated d then d
  else { d with
    host := hostFlr d.host
    vault := { d.vault with jobs := Map.mapVals d.vault.jobs (fun j => { j with heldDesc := none }) }
    time := { d.time with ptmEnabled := false } }

def execFunctionLevelReset (s : State) : Host.Outcome State Fault Refusal := onDev functionReset s

/-- R68, R291: the PCIe link goes down. -/
def pcieLinkDown (d : Dev) : Dev :=
  let d := functionReset d
  { d with time := { d.time with linkL0 := false } }

def execPcieLinkDown (s : State) : Host.Outcome State Fault Refusal := onDev pcieLinkDown s

/-- R499: while PORST_N is high, PCIE_PERST_N low acts as a PCIe link down. -/
def pciePerst (d : Dev) : Dev := if d.sys.porst then pcieLinkDown d else d

def execPciePerst (s : State) : Host.Outcome State Fault Refusal := onDev pciePerst s

end Sys2Proof.Machine
end

