-- ==== Sys2Proof/Machine/Tamper.lean ====
section
/-! DEFINITION. Sys2Proof/Machine/Tamper.lean: zeroization, the life cycle and the tamper sources (R143 to R149, R163 to
R171, R173). -/
namespace Sys2Proof.Machine

/-! ### Zeroization (R114, R129, R164) -/

/-- R164: installations that wait for the vault end with TAMPER_HELD, a bulk installation as a whole. -/
def endSaLoads (d : Dev) : Dev :=
  let loads := d.prot.loads
  let bulks := d.prot.bulks
  let d := { d with prot := { d.prot with loads := [], bulks := [] } }
  let d := loads.foldl (fun d x => match x.waiter with
    | .bulk h i => match bulks.find? (fun b => b.handle = h) with
      | some b => stagingWrite (b.stage + 112 * i + 108) (le 4 Status.tamperHeld.code) d
      | none => d
    | w => saAnswer w .tamperHeld [] d) d
  bulks.foldl (fun d b => complete b.handle .tamperHeld (le 4 b.ok ++ le 4 (b.count - b.ok) ++ zeros 8) d) d

/-- R164: key-store and CAK installations that wait for the vault. -/
def endKeyLoads (d : Dev) : Dev :=
  let q := d.vault.queue
  let ca := d.prot.caLoads
  let d := { d with vault := { d.vault with queue := [] }, prot := { d.prot with caLoads := [] } }
  let d := q.foldl (fun d x => keyAnswer x .tamperHeld [] d) d
  ca.foldl (fun d x => settle x.handle (if x.handle.isNone then some x.mailbox else none) .tamperHeld [] d) d

/-- R153, R154: the stores are emptied; scheduled activations end with a status. -/
def emptyStores (st : Status) (d : Dev) : Dev :=
  let d := (d.vault.store.map (·.1)).foldl (fun d k => cancelActivation k st d) d
  { d with vault := { d.vault with store := [] }, prot := { d.prot with mka := [] } }

/-- R114, R118, R130: TZERO clears every line-die slot; frames bound to one are lost. -/
def clearSlots (d : Dev) : Dev :=
  ((d.prot.slots.filter (fun e => decide (e.2.state ≠ .empty))).map (·.1)).foldl (fun d k => freeSa k (dropBound k d)) d

/-- R164: TZERO and the zeroization of the vault: no working key remains, and what needed one ends with TAMPER_HELD. -/
def zeroize (d : Dev) : Dev :=
  let d := cancelBatches .tamperHeld (cancelSwitches false .tamperHeld d)
  let d := endKeyLoads (endSaLoads d)
  let d := emptyStores .tamperHeld d
  let d := (d.vault.jobs.map (·.1)).foldl (fun d j => endLaJob j .tamperHeld d) d
  let d := stockpotZero (clearSlots d)
  { d with twin := { d.twin with keyOut := [], keyIn := [] } }

/-! ### States of the life cycle (R145, R147, R149) -/

/-- The record of a transition (R465). -/
def lcRecord (old : Nat) (o : Otp) (d : Dev) : Dev :=
  record 0x113 deviceTarget (le 1 old ++ le 1 d.vault.lc ++ le 1 ((ownerSlot o).getD 0xFF)) d

/-- R149: the derived keys of the state are derived anew. -/
def derive (o : Otp) (d : Dev) : Dev := { d with vault := { d.vault with derived := deriveAll d.vault.lc o } }

/-- R145, R149: the state becomes the one OTP now decodes to. -/
def lcMove (o : Otp) (d : Dev) : Dev :=
  let old := d.vault.lc
  lcRecord old o (derive o { d with vault := { d.vault with lc := decodeLc o } })

/-- R415: does a twin in this state squelch as it stops serving? -/
def standbyWaits (d : Dev) : Bool :=
  match d.twin.state with | .paired => true | .suspect => true | .lost => true | _ => false

/-- R147, R232, R415, R450: entry into HELD or RETIRED. -/
def stopService (d : Dev) : Dev :=
  let d := d.fab.analysis.foldl (fun d p => analysisOff p d) d
  let sq := standbyWaits d
  let d := { d with
    prot := { d.prot with enabled := [] }
    sys := { d.sys with debug := false }
    twin := { d.twin with failOut := true, squelch := d.twin.squelch || sq, serving := d.twin.serving && !sq } }
  if d.vault.lc = 4 then
    (List.range 96).foldl (fun d p => if (portSt p d).state = .disabled then d else portOff p d) d
  else d

/-- R145: one more held_entry bit, and lc_flags.retired with the sixteenth (R144). -/
def burnHeld (o : Otp) : Otp :=
  let o := burnNext 0x254 16 o
  if heldEntries o = 16 then burn 0x252 4 o else o

/-- R145: OWNED ends in HELD, or in RETIRED at the 16th entry. -/
def enterHeld (o : Otp) (d : Dev) : Otp × Dev :=
  let o := burnHeld o
  (o, setFault 2 (stopService (lcMove o (zeroize d))))

/-! ### A detection (R145, R163 to R165) -/

/-- R464: the notification of a detection, with its record. -/
def tamperNotify (src : Nat) (o : Otp) (d : Dev) : Dev :=
  notifyRecord 0x80 deviceTarget (le 4 src ++ le 1 d.vault.lc ++ le 1 (heldEntries o)) d

/-- R163, R166: is anything sensed: the vault core senses while the main supplies are up, the always-on island while VSTBY is
present? -/
def sensed (d : Dev) : Bool := d.sys.porst || d.vault.vstby

/-- R165, R166: one detection. In reset or OFF the always-on island latches it, if VSTBY is present. -/
def tamper (src : Nat) (o : Otp) (d : Dev) : Otp × Dev :=
  if !sensed d then (o, d)
  else if !d.sys.porst then (o, { d with vault := { d.vault with aonLatch := d.vault.aonLatch ||| src } })
  else
    let d := bump .vault 0 6 d
    let d := { d with vault := { d.vault with latch := d.vault.latch ||| src, lastTamper := now d
                                              startHeld := d.vault.startHeld || d.sys.starting } }
    if d.vault.lc = 2 then
      let r := enterHeld o d
      (r.1, tamperNotify src r.1 r.2)
    else (o, tamperNotify src o (derive o (zeroize d)))

/-! ### Loops, mesh, supplies, clocks, temperature (R163) -/

/-- R163: one watched line, `need` differing samples in a row being tamper: whether the source becomes active now. -/
def loopNew (enabled : Bool) (need k : Nat) (bad : Bool) (d : Dev) : Dev × Bool :=
  let n := if bad && enabled then Map.get d.vault.loopBad k 0 + 1 else 0
  let live := decide (need ≤ n)
  let was := bit d.vault.live k
  let lv := if live then d.vault.live ||| 2 ^ k else if was then d.vault.live - 2 ^ k else d.vault.live
  ({ d with vault := { d.vault with loopBad := Map.put d.vault.loopBad k n, live := lv } }, live && !was)

/-- The level that TAMPn_O drives: DESIGN CHOICE, the oldest bit of the pattern register. -/
def loopOut (n : Nat) (d : Dev) : Bool := (Map.get d.vault.loopPattern n 0).getLsbD 30

/-- R163: the pattern of TAMPn_O changes: the register shifts by one bit, with the feedback of its taps (which the spec does not
state) coming in. -/
def loopNext (n : Nat) (d : Dev) : Dev :=
  let p := Map.get d.vault.loopPattern n 0
  let q := (p <<< 1) ||| (if Config.loopTaps p then 1 else 0)
  { d with vault := { d.vault with loopPattern := Map.put d.vault.loopPattern n q } }

/-- R163: one sample: the levels on TAMP0_I and TAMP1_I against the patterns on TAMP0_O and TAMP1_O, and whether the mesh fails
its own check; then the patterns change. -/
def loopSample (l0 l1 mesh : Bool) (o : Otp) (d : Dev) : Otp × Dev :=
  if !sensed d then (o, d)
  else
    let en := otpByte o 0x253
    let a := loopNew (bit en 0) 2 0 (l0 != loopOut 0 d) d
    let b := loopNew (bit en 1) 2 1 (l1 != loopOut 1 d) a.1
    let c := loopNew true 1 2 mesh b.1
    let d := loopNext 1 (loopNext 0 c.1)
    let src := b2n a.2 + 2 * b2n b.2 + 4 * b2n c.2
    if src = 0 then (o, d) else tamper src o d

def execTamperLoopSample (loop0 loop1 mesh : Bool) (s : State) : Host.Outcome State Fault Refusal :=
  onAll (loopSample loop0 loop1 mesh) s

/-- R163, R428: a rail above 110 %, or a dip that recovers within 10 µs, is tamper; a longer one is a power loss. -/
def supplyMonitor (high : Bool) (dipNs : Nat) (o : Otp) (d : Dev) : Otp × Dev :=
  if !d.sys.porst then (o, d)
  else if high || decide (dipNs ≤ 10000) then tamper 8 o d
  else (o, powerLoss true d)

def execSupplyMonitorEvent (high : Bool) (dipNs : Nat) (s : State) : Host.Outcome State Fault Refusal :=
  onAll (supplyMonitor high dipNs) s

/-- R163: is the clock of a die monitored? Those the device has stopped are not. -/
def clockWatched (die : Die) (d : Dev) : Bool :=
  d.sys.porst && (match die with | .h => true | .v => true | _ => awake d)

/-- R163. -/
def clockMonitor (die : Die) (o : Otp) (d : Dev) : Otp × Dev := if clockWatched die d then tamper 16 o d else (o, d)

def execClockMonitorEvent (die : Die) (s : State) : Host.Outcome State Fault Refusal := onAll (clockMonitor die) s

/-- R470: raw value plus temp_offset, saturated to 16 bits. -/
def tempOf (o : Otp) (k : Nat) (raw : BitVec 16) : Int :=
  max (-32768) (min 32767 (raw.toInt + toSigned 16 (otpFld o (0x600 + 2 * k) 2)))

/-- R163, R470, R480: one sensor's reading: shown, its highest kept, and counted against the limits. -/
def tempSensor (o : Otp) (k : Nat) (raw : BitVec 16) (d : Dev) : Dev :=
  if !sensorPowered k d then { d with vault := { d.vault with tempBad := Map.del d.vault.tempBad k } }
  else
    let t := tempOf o k raw
    let bad := decide (t < -5500 ∨ 12500 < t)
    let high := match Map.get? d.obs.tempHigh k with | some h => max (toSigned 16 h) t | none => t
    { d with
      obs := { d.obs with temp := Map.put d.obs.temp k (ofSigned 16 t), tempHigh := Map.put d.obs.tempHigh k (ofSigned 16 high) }
      vault := { d.vault with tempBad := if bad then Map.put d.vault.tempBad k (Map.get d.vault.tempBad k 0 + 1)
                                         else Map.del d.vault.tempBad k } }

/-- R163: the sensors are read; three readings in a row out of range at one of them are tamper. In reset or OFF only the
always-on sensor takes part. -/
def tempReading (raw : List (BitVec 16)) (o : Otp) (d : Dev) : Otp × Dev :=
  let ks := if d.sys.porst then List.range 15 else if d.vault.vstby then [14] else []
  let d := ks.foldl (fun d k => match raw[k]? with | some r => tempSensor o k r d | none => d) d
  let live := d.vault.tempBad.any (fun e => decide (3 ≤ e.2))
  let was := bit d.vault.live 5
  let lv := if live then d.vault.live ||| 32 else if was then d.vault.live - 32 else d.vault.live
  let d := { d with vault := { d.vault with live := lv } }
  if live && !was then tamper 32 o d else (o, d)

def execTempSensorReading (raw : List (BitVec 16)) (s : State) : Host.Outcome State Fault Refusal :=
  onAll (tempReading raw) s

/-! ### LC_CHANGE and TAMPER_CLEAR (R145, R170, R171) -/

/-- R145, R170. -/
def lcChange (c : Ctx) (o : Otp) (d : Dev) : Ans × Otp :=
  match d.vault.lc, fld c.pl 0 1 with
  | 0, 1 =>
    let o' := burn 0x252 1 o
    (.ok [] (emptyStores .badState (lcMove o' d)), o')
  | 2, 3 => let r := enterHeld o d; (.ok [] r.2, r.1)
  | 0, 4 => (.fail .badState, o)
  | 4, _ => (.fail .badState, o)
  | _, 4 =>
    let o' := burn 0x252 4 o
    (.ok [] (stopService (lcMove o' (zeroize d))), o')
  | _, _ => (.fail (if d.vault.lc = 3 then .tamperHeld else .badState), o)

def execLcChange (r : Request) (s : State) : Host.Outcome State Fault Refusal :=
  onAll (mailboxOtp { op := 0x0602, len := 4, auth := .always, vault := true
                      resv := fun p => decide (fld p 0 1 = 1 ∨ fld p 0 1 = 3 ∨ fld p 0 1 = 4) && z 1 3 p } lcChange r) s

/-- R145, R171. -/
def tamperClear (c : Ctx) (o : Otp) (d : Dev) : Ans × Otp :=
  if fld c.pl 0 1 ≠ heldEntries o then (.fail .badField, o)
  else if d.vault.live ≠ 0 then (.fail .badState, o)
  else
    let cleared := { d with vault := { d.vault with latch := 0 } }
    match d.vault.lc with
    | 3 =>
      let o' := burnNext 0x256 15 o
      (.ok [] (emptyStores .badState (lcMove o' cleared)), o')
    | 2 => (.fail .badState, o)
    | 4 => (.fail .badState, o)
    | _ => if d.vault.latch = 0 then (.fail .badState, o) else (.ok [] cleared, o)

def execTamperClear (r : Request) (s : State) : Host.Outcome State Fault Refusal :=
  onAll (mailboxOtp { op := 0x0605, len := 4, auth := .always, vault := true, resv := z 1 3 } tamperClear r) s

/-! ### Ownership (R145, R173) -/

/-- R173: the owner transport KEK: class KEK, wrapped under the key of the given key_id. -/
def openOtk (pl : Bytes) (under : Nat) (d : Dev) : Option Key :=
  let blob := slice pl 8 64
  if fld blob 1 1 = 1 ∧ fld blob 8 4 = under then openBlob blob 64 d else none

/-- R145: owner_root[n] and recovery_root[n] are drawn and programmed with owner_burned bit n. -/
def drawRoots (n : Nat) (o : Otp) (d : Dev) : Otp × Dev :=
  let a := drbg 32 d
  let b := drbg 32 a.2
  (burn 0x250 (2 ^ n) (burnBytes (0x150 + 32 * n) b.1 (burnBytes (0x50 + 32 * n) a.1 o)), b.2)

/-- R173: the owner blobs and the proof under a key. -/
def ownerBlobs (n : Nat) (otk proof : Key) (o : Otp) : Bytes :=
  let bs := le 1 n ++ zeros 15 ++ sealBlob (oikOf n o) otk ++ sealBlob (tkOf n o) otk ++ sealBlob (ukOf n o) otk
  bs ++ aesCmac proof.bytes (le 8 Config.serial ++ bs)

/-- R173: the request's fixed fields. -/
def ownResv (p : Bytes) : Bool := z 1 1 p && z 4 4 p

/-- R145, R173: SHIPPED becomes OWNED; with a tamper latched, or no randomness, BAD_STATE. -/
def takeOwnership (c : Ctx) (o : Otp) (d : Dev) : Ans × Otp :=
  let te := fld c.pl 0 1
  if fld c.pl 2 2 ≠ 64 ∨ 8 ≤ te then (.fail .badField, o)
  else if d.vault.lc ≠ 1 ∨ d.vault.latch ≠ 0 ∨ d.vault.trng ≠ 0 then (.fail .badState, o)
  else
    match openOtk c.pl 0xFFFF0005 d with
    | none => (.reply .keyRejected [] (countBlob false d), o)
    | some otk =>
      let n := ((List.range 8).find? (fun i => !bit (otpByte o 0x250) i)).getD 0
      let r := drawRoots n o (countBlob true d)
      let o' := burn 0x252 2 (burn 0x253 te r.1)
      (.ok (ownerBlobs n otk (attOf o) o') (emptyStores .badState (lcMove o' r.2)), o')

def execLcTakeOwnership (r : Request) (s : State) : Host.Outcome State Fault Refusal :=
  onAll (mailboxOtp { op := 0x0603, len := 72, auth := .always, vault := true, resv := ownResv } takeOwnership r) s

/-- R145, R173: new roots in slot n + 1; slot n is superseded. -/
def ownerRotate (c : Ctx) (o : Otp) (d : Dev) : Ans × Otp :=
  let n := (ownerSlot o).getD 0
  if fld c.pl 2 2 ≠ 64 ∨ fld c.pl 0 1 ≠ 0 then (.fail .badField, o)
  else if d.vault.lc ≠ 2 ∨ d.vault.trng ≠ 0 then (.fail .badState, o)
  else if n = 7 then (.fail .noResource, o)
  else
    match openOtk c.pl (0xFFFF0001 + 0x100 * n) d with
    | none => (.reply .keyRejected [] (countBlob false d), o)
    | some otk =>
      let r := drawRoots (n + 1) o (countBlob true d)
      let o' := burn 0x251 (2 ^ n) r.1
      (.ok (ownerBlobs (n + 1) otk (tkOf (n + 1) o') o') (lcMove o' r.2), o')

def execOwnerRootRotate (r : Request) (s : State) : Host.Outcome State Fault Refusal :=
  onAll (mailboxOtp { op := 0x0604, len := 72, auth := .always, vault := true, resv := ownResv } ownerRotate r) s

end Sys2Proof.Machine
end

