-- ==== Sys2Proof/Machine/Startup.lean ====
section
/-! DEFINITION. Sys2Proof/Machine/Startup.lean: start-up (R430 to R433), the reinstall of the key store (R154), the
start-up set (R439) and the end of a firmware restart (R67). -/
namespace Sys2Proof.Machine

/-! ### What a release of either reset starts (R32, R34, R188, R265, R430) -/

/-- R34, R36: every package link to a present die is brought up. -/
def linksStart (d : Dev) : Dev :=
  { d with pkg := { d.pkg with links := [0, 1, 2, 3, 4].map (fun k => (k, linkTraining)) } }

/-- R188, R191: each line die draws a hash seed for each of its tables. -/
def drawSeeds (d : Dev) : Dev :=
  ([0, 1, 2, 3].flatMap (fun die => (List.range 16).map (fun t => 16 * die + t))).foldl (fun d k =>
    let (v, d) := fresh d
    { d with cls := { d.cls with seeds := Map.put d.cls.seeds k v } }) d

/-- R265, R430: the grand island starts at zero 3 ms after the release, and with it every time-keeping island; the
vault step has ended after `vaultMs` ms. -/
def clocksStart (vaultMs : Nat) (d : Dev) : Dev :=
  let d := { d with sys := { d.sys with releaseAt := d.time.elapsed } }
  let d := elapse (ticksMs (3 - vaultMs)) (milestone 0 (elapse (ticksMs vaultMs) d))
  { d with time := { d.time with running := true, islands := (List.range 18).map (fun k => (k, freshIsland)) } }

/-- What both releases start. -/
def releaseCommon (vaultMs : Nat) (d : Dev) : Dev :=
  clocksStart vaultMs (drawSeeds (linksStart { d with sys := { d.sys with starting := true, srst := true } }))

/-! ### PORST_N high (R144, R149, R155, R159, R165, R167, R402, R468) -/

/-- R468: the committed slot with the highest sequence. -/
def bestHours (d : Dev) : Nat × Nat :=
  let r := d.obs.slots.foldl (fun (m : Nat × Nat × Nat) e => if m.2.2 < e.2.2.2 then e.2 else m) (0, 0, 0)
  (r.1, r.2.1)

/-- R468: hours resume, the power-cycle count rises and is committed. -/
def resumeHours (d : Dev) : Dev :=
  let h := bestHours d
  commitHours { d with obs := { d.obs with hours := h.1, hoursAt := d.time.elapsed, powerCycles := (h.2 + 1) % 2 ^ 32 } }

/-- R159: the counter starts at the highest committed ceiling, and the next one is committed. -/
def resumeNonce (d : Dev) : Dev :=
  let c := match d.vault.nonceSlots.foldl (fun (m : Nat × Nat) e => if m.2 < e.2.2 then e.2 else m) (0, 0) with
    | (v, _) => v
  commitCeiling { d with vault := { d.vault with nonce := c, ceiling := c } }

/-- R144: the state is decoded; inconsistent thermometers are reported. -/
def decodeLife (o : Otp) (d : Dev) : Dev :=
  let d := { d with vault := { d.vault with lc := decodeLc o } }
  let d := derive o d
  if otpInconsistent o then record 0x115 deviceTarget (le 2 (otpFld o 0x254 2) ++ le 2 (otpFld o 0x256 2)) d else d

/-- R165: what the always-on island latched is processed. -/
def takeAonLatch (o : Otp) (d : Dev) : Otp × Dev :=
  let src := d.vault.aonLatch
  let d := { d with vault := { d.vault with aonLatch := 0 } }
  if src = 0 then (o, d) else tamper src o d

/-- R167: a loss of VSTBY is recorded, and is tamper where tamper_enable bit 2 is set. -/
def takeVstbyLoss (o : Otp) (d : Dev) : Otp × Dev :=
  if !d.vault.vstbyLost then (o, d)
  else
    let t := bit (otpByte o 0x253) 2
    let d := record 0x114 deviceTarget (le 1 (b2n t)) { d with vault := { d.vault with vstbyLost := false } }
    if t then tamper 64 o d else (o, d)

/-- R163: the pattern of TAMPn_O is seeded from the DRBG. -/
def seedLoop (n : Nat) (d : Dev) : Dev :=
  let (v, d) := fresh d
  { d with vault := { d.vault with loopPattern := Map.put d.vault.loopPattern n (BitVec.ofNat 31 v) } }

/-- R430: the vault's part of a cold start. -/
def vaultStart (o : Otp) (d : Dev) : Otp × Dev :=
  let d := resumeNonce (decodeLife o d)
  let d := { (fresh d).2 with vault := { d.vault with trng := 0, reseedAt := d.time.elapsed } }
  let d := seedLoop 1 (seedLoop 0 d)
  let r := takeAonLatch o d
  let r := takeVstbyLoss r.1 r.2
  (r.1, { r.2 with vault := { r.2.vault with startHeld := r.2.vault.startHeld || decide (r.2.vault.latch ≠ 0) } })

/-- R36, R430, R432: the rising edge of PORST_N: a cold start-up. A hub that fails, or a vault that fails its tests, stops
it. -/
def porstRelease (twrole : TwRole) (hubOk vaultOk : Bool) (o : Otp) (d : Dev) : Otp × Dev :=
  if d.sys.porst then (o, d)
  else
    let d := { d with sys := { d.sys with porst := true, srst := true, power := .run, resetCause := 1, twrole := twrole, cold := true } }
    if !(hubOk && vaultOk) then (o, { d with sys := { d.sys with stopped := true } })
    else
      let d := resumeHours { d with sys := { d.sys with vaultDone := true } }
      vaultStart o (releaseCommon 3 d)

def execPorstNRelease (twrole : TwRole) (hubOk vaultOk : Bool) (s : State) : Host.Outcome State Fault Refusal :=
  onAll (porstRelease twrole hubOk vaultOk) s

/-! ### SRST_N high (R430, R444, R447) -/

/-- R155, R430: a warm start-up; before the vault step of a cold one has ended, that one goes on. The TRNG start-up tests are
repeated, and one that fails stops start-up (R36). -/
def srstRelease (trngOk : Bool) (d : Dev) : Dev :=
  if !d.sys.porst || d.sys.srst then d
  else if !d.sys.vaultDone then { d with sys := { d.sys with srst := true } }
  else if !trngOk then { d with sys := { d.sys with srst := true, stopped := true } }
  else releaseCommon 1 { d with vault := { d.vault with startHeld := decide (d.vault.latch ≠ 0), trng := 0, trngFails := 0 } }

def execSrstNRelease (trngOk : Bool) (s : State) : Host.Outcome State Fault Refusal := onDev (srstRelease trngOk) s

/-- R447: 1 ms after its response SYSTEM_RESET acts as SRST_N. -/
def systemResetFire (trngOk : Bool) (d : Dev) : Dev :=
  match d.sys.resetAt with
  | none => d
  | some t =>
    let d := waitTicks t d
    if d.sys.porst && d.sys.vaultDone then srstRelease trngOk (warmReset 3 (zeroFillJobs d)) else d

def execSystemResetFire (trngOk : Bool) (s : State) : Host.Outcome State Fault Refusal := onDev (systemResetFire trngOk) s

/-! ### Memory, ROM, stockpot (R36, R352, R432, R436) -/

/-- Is start-up running, past its vault step and not stopped? -/
def startingUp (d : Dev) : Bool := d.sys.porst && d.sys.srst && d.sys.vaultDone && !d.sys.stopped && !d.sys.fwRunning

/-- The dies of a mask whose link has not failed its bring-up. -/
def withLink (mask : Nat) (d : Dev) : Nat :=
  ([0, 1, 2, 3].map (fun k => if bit mask k && decide (linkState k d ≠ .down) then 2 ^ k else 0)).sum

/-- R36: the die-present mask is fixed at a cold start; a warm one keeps it (R443). A die whose link has failed its
bring-up is absent. -/
def bistComplete (passed : Nat) (d : Dev) : Dev :=
  if !startingUp d || d.sys.bistDone then d
  else milestone 5 { d with
    sys := { d.sys with bistDone := true }
    pkg := { d.pkg with present := withLink (if d.sys.cold then passed % 16 else d.pkg.present) d } }

def execMemoryBistComplete (passed : BitVec 4) (s : State) : Host.Outcome State Fault Refusal :=
  onDev (bistComplete passed.toNat) s

/-- R432, R436: PCIe enumerates and the ROM chooses an image, or stops. -/
def romBoot (o : Otp) (d : Dev) : Dev :=
  if !startingUp d || d.sys.romDone then d
  else
    let d := { d with
      sys := { d.sys with romDone := true }
      time := { d.time with linkL0 := true } }
    match bootSelect o (milestone 1 d) with
    | (some _, d) => milestone 2 d
    | (none, d) =>
      let first := (bootPlan d).1.headD 0
      record 0x0101 deviceTarget (le 1 first ++ le 1 0xFF ++ le 1 (verifySlot first o d).verdict)
        { d with sys := { d.sys with stopped := true } }

def execHubRomBoot (s : State) : Host.Outcome State Fault Refusal := onOtp romBoot s

/-- R352, R432: training ends; with one die failed its regions are held out. Blocks of every region alternate between
the dies (R350); the regions taken to be a die's own are those of its parity. -/
def stockpotTrained (sp0 sp1 : Bool) (d : Dev) : Dev :=
  if !(d.sys.porst && d.sys.srst && d.sys.vaultDone) || d.sys.stockpotDone then d
  else
    let d := { d with sys := { d.sys with stockpotDone := true } }
    let tr := (if sp0 then [0] else []) ++ (if sp1 then [1] else [])
    let d := initStockpot (sp0 || sp1) { d with mem := { d.mem with trained := tr } }
    let d := (List.range 128).foldl (fun d r =>
      if tr.contains (r % 2) then d else setRegion r { region r d with state := .heldOut, ke := [], km := [] } d) d
    milestone 4 d

def execStockpotTrainingComplete (sp0 sp1 : Bool) (s : State) : Host.Outcome State Fault Refusal :=
  onDev (stockpotTrained sp0 sp1) s

/-! ### The firmware starts (R154, R430, R432, R439) -/

/-- R154: install one blob of the key area: of a half that had become active into the active half, else into the
pending half only. -/
def reinstallOne (e : Nat × (Bool × Nat × Bytes)) (d : Dev) : Option Dev :=
  let slot := e.1 / 2
  match openBlob e.2.2.2 e.2.2.2.length d with
  | none => none
  | some k =>
    if idElsewhere k.id slot d then none
    else if e.2.1 then some (setKeySlot slot { keySlot slot d with active := some k, activatedAt := now d } (countBlob true d))
    else some (setKeySlot slot { keySlot slot d with pending := some ⟨k, 1, none, none⟩ } (countBlob true d))

/-- R154: blobs are taken until none of those left is accepted, since one may be wrapped under a KEK of another; those
left are rejected and their slots stay empty. -/
def reinstall : Nat → List (Nat × (Bool × Nat × Bytes)) → Dev → Dev
  | 0, es, d => bumpBy .vault 0 1 es.length d
  | n + 1, es, d =>
    let r := es.foldl (fun (acc : List (Nat × (Bool × Nat × Bytes)) × Dev) e =>
      match reinstallOne e acc.2 with
      | some d => (acc.1, d)
      | none => (acc.1 ++ [e], acc.2)) ([], d)
    if r.1.length = es.length then bumpBy .vault 0 1 es.length d else reinstall n r.1 r.2

/-- R154, R165, R432: the key store is reinstalled, unless a tamper is latched. -/
def reinstallKeys (d : Dev) : Dev :=
  let d := if d.vault.startHeld || decide (d.vault.lc = 3 ∨ d.vault.lc = 4) || !vaultUp d then d
    else reinstall d.vault.area.length d.vault.area d
  { d with sys := { d.sys with keysLoaded := true, starting := false } }

/-- R439: the image that a copy of the start-up set holds. -/
def savedImage (k : Nat) (d : Dev) : Bytes :=
  let base := setCopyBase k
  flashRead base (min (max (fld (flashRead base 32 d) 12 4) 64) 3145728) d

/-- R439: make a copy the active set, if it is valid. -/
def loadCopy (k : Nat) (o : Otp) (d : Dev) : Except (Status × Nat) Dev :=
  let img := savedImage k d
  match checkImage img 0 d with
  | .error e => .error e
  | .ok p => .ok (bumpBy .cfg 0 3 (calSaturated o p) (activate ⟨fld img 8 4, imageCrc img, img, p, 0⟩ d))

/-- R432, R439: the newer valid copy becomes active; with none an event record is written and the set stays EMPTY. -/
def loadStartupSet (o : Otp) (d : Dev) : Dev :=
  let new := 1 - olderCopy d
  match loadCopy new o d with
  | .ok d => d
  | .error (st, ref) =>
    match loadCopy (1 - new) o d with
    | .ok d => d
    | .error _ => record 0x102 deviceTarget (le 1 2 ++ le 4 (fld (savedImage new d) 8 4) ++ le 2 st.code ++ le 4 ref) d

/-- R415, R430, R465: the firmware runs. -/
def firmwareStart (o : Otp) (d : Dev) : Dev :=
  if !(startingUp d && d.sys.bistDone && d.sys.romDone) then d
  else
    let held := decide (d.vault.lc = 3 ∨ d.vault.lc = 4)
    let d := milestone 6 { d with
      sys := { d.sys with fwRunning := true }
      host := { d.host with fwReady := true, aliveAt := d.time.elapsed }
      twin := { d.twin with failOut := held } }
    let d := record 0x100 deviceTarget
      (le 1 d.sys.resetCause ++ le 1 d.pkg.present ++ le 1 d.vault.lc ++ le 4 d.host.fwVersion) d
    let d := reinstallKeys (portStart false 96 d)
    trafficCheck (loadStartupSet o d)

def execFirmwareStart (s : State) : Host.Outcome State Fault Refusal := onOtp firmwareStart s

/-! ### The end of a firmware restart (R67, R438) -/

/-- R67: roll back what the interrupted command of a mailbox has not yet done. -/
def rollBack (m : Nat) (d : Dev) : Dev :=
  let mine := d.prot.loads.filter (fun x => decide (x.waiter = .mailbox m))
  let d := mine.foldl (fun d x => saUndo x d) d
  let keepSwap := match d.cfg.swap with | some w => decide (w.mailbox ≠ some m) | none => true
  let keepStep := match d.time.step with | some x => decide (x.mailbox ≠ some m) | none => true
  { d with
    cfg := { d.cfg with swap := if keepSwap then d.cfg.swap else none }
    time := { d.time with step := if keepStep then d.time.step else none }
    prot := { d.prot with
      loads := d.prot.loads.filter (fun x => decide (x.waiter ≠ .mailbox m))
      switches := d.prot.switches.filter (fun e => decide (e.2.mailbox ≠ some m))
      caLoads := d.prot.caLoads.filter (fun x => x.handle.isSome || decide (x.mailbox ≠ m)) }
    vault := { d.vault with queue := d.vault.queue.filter (fun x => x.handle.isSome || decide (x.mailbox ≠ m)) } }

/-- R67: the response of an interrupted mailbox: INTERNAL_ERROR, restarted, and applied if its effect is complete. -/
def answerInterrupted (d : Dev) (e : Nat × Bool) : Dev :=
  match (mailbox e.1 d).running with
  | none => d
  | some r =>
    let d := if e.2 then d else rollBack e.1 d
    respondWith true (r.reply e.1) .internalError (1 + 2 * b2n e.2) [] d

/-- R55: two losses that one RING_OVERFLOW covers: the count of both, from the first. -/
def joinLoss (a b : Option (Nat × Nat)) : Option (Nat × Nat) :=
  match a, b with
  | some (c, f), some (c', _) => some (c + c', f)
  | some l, none => some l
  | none, l => l

/-- R67, R55: the notifications held are written, then one RING_OVERFLOW for those lost, as soon as the ring has room for it. -/
def releaseHeld (d : Dev) : Dev :=
  let h := d.host.held
  let l := d.host.heldLost
  let d := { d with host := { d.host with held := [], heldLost := none } }
  let d := h.foldl (fun d n => place n (ringOverflow d)) d
  ringOverflow { d with host := { d.host with lost := joinLoss d.host.lost l } }

/-- R94: of the frames that waited for the firmware, MKA of plain ports is discarded, and those for the host are passed on. -/
def passFwFrames (d : Dev) : Dev :=
  let mka (f : FwFrame) : Bool := decide ((parse f.data).etype = 0x888E)
  let stays (f : FwFrame) : Bool := if mka f then f.secy.isSome else (ptpRef f.data).isSome
  (d.prot.fwBuf.filter (fun f => !stays f)).foldl
    (fun d f => if mka f then bump .cport f.port 1 d else emit (.cpu f.port (tsOf f.tIn) f.data) d)
    { d with prot := { d.prot with fwBuf := d.prot.fwBuf.filter stays } }

/-- R200: what a firmware restart lost of the logs makes the firmware reconcile every die. -/
def resyncAll (d : Dev) : Dev := if (prm d).learnUnify then { d with cls := { d.cls with logLost := [0, 1, 2, 3] } } else d

/-- R67: the restart ends. An image is chosen as at start-up (R436); with none, R432 applies. -/
def fwRestartComplete (o : Otp) (d : Dev) : Dev :=
  if !d.host.fwRestarting then d
  else match bootSelect o d with
    | (none, d) => { d with sys := { d.sys with stopped := true, fwRunning := false } }
    | (some _, d) =>
      let list := d.host.interrupted
      let cause := d.host.restartCause
      let mask := list.foldl (fun m e => m ||| 2 ^ e.1) 0
      let d := list.foldl answerInterrupted d
      let d := { d with host := { d.host with
        fwRestarting := false, fwReady := true, interrupted := [], aliveAt := d.time.elapsed } }
      let d := notifyRecord 3 deviceTarget (le 4 cause ++ le 4 mask) (releaseHeld d)
      passFwFrames (resyncAll (bump .hostif 0 6 (setFault 0 d)))

def execFwRestartComplete (s : State) : Host.Outcome State Fault Refusal := onOtp fwRestartComplete s

end Sys2Proof.Machine
end

