-- ==== Sys2Proof/Machine/Power.lean ====
section
/-! DEFINITION. Sys2Proof/Machine/Power.lean: SLEEP and the wake (R440 to R442, R446). -/
namespace Sys2Proof.Machine

/-! ### The wake (R442) -/

/-- R269, R442: the islands of the line dies load hub time. -/
def islandsLoad (d : Dev) : Dev :=
  { d with time := { d.time with islands := d.time.islands.map (fun e =>
      if e.1 < 16 then (e.1, { e.2 with count := d.time.grand, corr := 0, corrTicks := 0, t1 := none, t2 := none })
      else e) } }

/-- R250, R338, R442: buckets are full. -/
def bucketsFull (d : Dev) : Dev :=
  { d with que := { d.que with shapers := [], meters := [] }, act := { d.act with eggBucket := [] } }

/-- R442: the wake begins: clocks, islands, buckets, ports from their retained taps, gate lists. -/
def wakeStart (h : Nat) (d : Dev) : Dev :=
  let d := { d with sys := { d.sys with power := .waking, wakeOp := some h } }
  onGates gateWake (portsStart true (bucketsFull (islandsLoad (resumePins d))))

/-- R442: the wake ends; traffic_ready follows R431. -/
def wakeComplete (d : Dev) : Dev :=
  match d.sys.power, d.sys.wakeOp with
  | .waking, some h =>
    let d := { d with sys := { d.sys with power := .run, wakeOp := none } }
    complete h .ok [] (trafficCheck d)
  | _, _ => d

def execWakeComplete (s : State) : Host.Outcome State Fault Refusal := onDev wakeComplete s

/-! ### Entry into SLEEP (R441) -/

/-- R441: does anything still wait to leave? -/
def drained (d : Dev) : Bool := (waitingFrames d).isEmpty && d.act.egg.isEmpty && d.que.sending.isEmpty

/-- R441: frames that still wait are dropped: queued ones counted with their ports, held ones as egress_down. -/
def dropRemaining (d : Dev) : Dev :=
  let d := (List.range 98).foldl (fun d p => dropPort p d) d
  let d := (waitingFrames d).foldl (fun d f => match destPort f.dest with | some p => bump .port p 10 d | none => d) d
  let d := keepFrames (fun _ => false) d
  let d := d.act.egg.foldl (fun d h => bump .egg h.die 13 d) d
  { d with act := { d.act with egg := [] }
           fab := { d.fab with voq := [] }
           mem := { d.mem with writes := [] }
           que := { d.que with queues := [], classes := [] } }

/-- R204, R304, R340, R441: the device sleeps. -/
def sleepEntry (d : Dev) : Dev :=
  match d.sys.power, d.sys.sleepOp with
  | .entering, some (h, start) =>
    let d := if drained d then d else waitTicks (start + ticksMs 100) d
    let d := dropRemaining d
    let d := pausePins (onGates gateSleep (portsOff d))
    let d := { d with
      obs := { d.obs with loopback := [] }
      host := { d.host with trafficReady := false }
      twin := { d.twin with serving := false }
      sys := { d.sys with power := .sleep, sleepOp := none } }
    let d := complete h .ok [] d
    match d.sys.wakeOp with | some w => wakeStart w d | none => d
  | _, _ => d

def execSleepEntryComplete (s : State) : Host.Outcome State Fault Refusal := onDev sleepEntry s

/-! ### SYSTEM_POWER (R441, R446) -/

/-- R441: is SLEEP refused? -/
def sleepRefused (d : Dev) : Bool :=
  twinAttached d || (pendingActions d).any (fun a => decide (a.kind ≠ 6)) || !d.vault.jobs.isEmpty
    || decide (d.cfg.shadowState = .loading ∨ d.cfg.shadowState = .draining)

/-- R446: PENDING; but the op of the state the device is in completes with OK at once, and a refused sleep with
BAD_STATE. -/
def systemPower (c : Ctx) (d : Dev) : Ans :=
  match fld c.pl 0 1, d.sys.power with
  | 0, .run => .ok [] d
  | 0, .sleep => .replyPend 400 0 d (wakeStart c.handle)
  | 0, .entering =>
    if d.sys.wakeOp.isSome then .fail .busy
    else .pend 400 0 { d with sys := { d.sys with wakeOp := some c.handle } }
  | 1, .sleep => .ok [] d
  | 1, .run =>
    if sleepRefused d then .fail .badState
    else .pend 200 0 { d with sys := { d.sys with power := .entering, sleepOp := some (c.handle, d.time.elapsed) } }
  | _, _ => .fail .busy

def execSystemPower (r : Request) (s : State) : Host.Outcome State Fault Refusal :=
  onMailbox { op := 0x0102, len := 4, resv := fun p => below 0 2 p && z 1 3 p } (fun c _ d => systemPower c d) r s

end Sys2Proof.Machine
end

