-- ==== Sys2Proof/Machine/QueueCmds.lean ====
section
/-! DEFINITION. Sys2Proof/Machine/QueueCmds.lean: the QUEUE commands (R259 to R264). -/
namespace Sys2Proof.Machine

/-- The scope of the line dies (R259). -/
def lineDies : List Scope := [.dies [0, 1, 2, 3]]

/-- TOK48, sign-extended to 64 bits. -/
def tokBytes (t : Int) : Bytes := le 8 (ofSigned 64 t)

/-- R259, R257: does a queue hold new-set frames behind those of another port or class? -/
def rehomeHeld (y : Queue) (d : Dev) : Bool :=
  match queueHead y d with
  | none => false
  | some (_, x) => y.frames.any (fun f => match frameQueue f d with
      | some z => decide (z.port ≠ x.port ∨ z.cls ≠ x.cls) | none => false)

/-- R259: the settings part of QUEUE_QUERY; a queue that is not defined shows the lowest weight there is. -/
def queueSettings (x : Option QueuePrm) (fl : Nat) : Bytes :=
  match x with
  | none => le 4 0 ++ le 2 0xFFFF ++ le 1 0 ++ le 1 fl ++ le 2 1 ++ zeros 2 ++ le 4 0xFFFFFFFF ++ zeros 20
  | some p => le 4 (portTarget p.port) ++ le 2 (p.secy.getD 0xFFFF) ++ le 1 p.cls ++ le 1 fl ++ le 2 p.weight ++ zeros 2
      ++ le 4 (p.shaper.getD 0xFFFFFFFF) ++ le 4 p.onDie ++ le 4 p.ecnThreshold ++ le 4 p.dropThreshold
      ++ le 4 p.yellowThreshold ++ le 4 p.limit

/-- R259: QUEUE_QUERY. -/
def queueQuery (c : Ctx) (d : Dev) : Ans :=
  let i := fld c.pl 0 4
  let q := 2 ^ 18 * c.target.dieNo + i
  let y := queueAt q d
  let x := Map.get? (prm d).queues q
  let busy := !y.frames.isEmpty
  let fl := b2n x.isSome + 2 * b2n (match x with | some p => p.ecnEnable | none => false) + 4 * b2n (decide (0 < queueSpilled q d))
    + 8 * b2n (rehomeHeld y d) + 16 * b2n y.fprev.isSome + 32 * b2n busy
  need (decide (i < 262144)) .badField <|
  .ok (queueSettings x fl ++ le 4 y.frames.length ++ le 8 (queueBytes q d) ++ le 8 (queueSpilled q d)
    ++ le 8 (if busy then y.tag else y.fprev.getD 0) ++ cntBytes .queue q 4 d
    ++ le 8 (match x with | some p => invWeight p.weight | none => invWeight 1) ++ zeros 8)
    (clearIf (clearFlag 4 c.pl) .queue q d)

def execQueueQuery (r : Request) (s : State) : Host.Outcome State Fault Refusal :=
  onMailbox { op := 0x0801, len := 8, scopes := lineDies, resv := onlyBits 4 4 1 } (fun c _ d => queueQuery c d) r s

/-- R260: SHAPER_QUERY. -/
def shaperQuery (c : Ctx) (d : Dev) : Ans :=
  let i := fld c.pl 0 4
  let die := c.target.dieNo
  let k := 65536 * die + i
  need (decide (i < 65536)) .badField <|
  match shaperPrm k d with
  | none => .ok (zeros 64) d
  | some p =>
    let b := shaperBuckets k d
    let n := ((prm d).queues.filter (fun e => decide (queueDie e.1 = die) && decide (e.2.shaper = some i))).length
    .ok (le 1 p.role ++ le 1 (if p.role = 2 then p.cls else 0) ++ le 2 (if p.role = 1 then min n 65535 else 0)
      ++ le 4 (portTarget p.port) ++ le 8 p.cir ++ le 8 p.pir ++ tokBytes (tok p.cbs) ++ tokBytes (tok p.pbs)
      ++ tokBytes b.c ++ tokBytes b.p ++ le 2 b.cRes ++ le 2 b.pRes ++ zeros 4) d

def execShaperQuery (r : Request) (s : State) : Host.Outcome State Fault Refusal :=
  onMailbox { op := 0x0802, len := 4, scopes := lineDies } (fun c _ d => shaperQuery c d) r s

/-- R261: METER_QUERY. -/
def meterQuery (c : Ctx) (d : Dev) : Ans :=
  let i := fld c.pl 0 4
  let k := 65536 * c.target.dieNo + i
  let body := match Map.get? (prm d).meters k with
    | none => zeros 56
    | some p =>
      let b := meterBuckets k p d
      le 1 p.mode ++ le 1 p.colour ++ zeros 6 ++ le 8 p.cir ++ le 8 p.rate2 ++ tokBytes (tok p.cbs) ++ tokBytes (tok p.burst2)
        ++ tokBytes b.c ++ tokBytes b.p
  need (decide (i < 65536)) .badField <|
  .ok (body ++ cntBytes .meter k 3 d ++ zeros 16) (clearIf (clearFlag 4 c.pl) .meter k d)

def execMeterQuery (r : Request) (s : State) : Host.Outcome State Fault Refusal :=
  onMailbox { op := 0x0803, len := 8, scopes := lineDies, resv := onlyBits 4 4 1 } (fun c _ d => meterQuery c d) r s

/-- R262: PORT_SCHED_QUERY. -/
def portSchedQuery (c : Ctx) (d : Dev) : Ans :=
  let p := c.target.portNo
  let x := (portPrm p d).getD { form := 1, side := 0 }
  let cs := List.range 8
  let back := (cs.map (fun i => if classBacklog p i d then 2 ^ i else 0)).sum
  let bytes := ((portQueues p d).map (fun e => queueBytes e.1 d)).sum
  .ok (le 1 x.strictMask ++ le 1 back ++ zeros 2 ++ le 4 (x.portShaper.getD 0xFFFFFFFF) ++ le 8 (vpOf p d)
    ++ cs.flatMap (fun i => le 2 (if bit x.strictMask i then 0 else Map.get x.classWeight i 1))
    ++ cs.flatMap (fun i => le 4 ((Map.get? x.classShaper i).getD 0xFFFFFFFF)) ++ le 8 bytes ++ zeros 8) d

def execPortSchedQuery (r : Request) (s : State) : Host.Outcome State Fault Refusal :=
  onMailbox { op := 0x0804, len := 0, scopes := [.ports [1, 2, 3]] } (fun c _ d => portSchedQuery c d) r s

/-- R263: QUE_CNT_READ. -/
def execQueCntRead (r : Request) (s : State) : Host.Outcome State Fault Refusal :=
  onMailbox { op := 0x0805, len := 4, scopes := [.dies [0, 1, 2, 3, 8]], resv := onlyBits 0 4 1 }
    (fun c _ d => .ok (cntBytes .que c.target.dieNo 10 d) (clearIf (clearFlag 0 c.pl) .que c.target.dieNo d)) r s

/-- R264: the result of a flush. -/
def flushResult (frames bytes : Nat) : Bytes := le 4 frames ++ zeros 4 ++ le 8 bytes

/-- R264: QUEUE_FLUSH. Every frame the queue held is dropped when the command starts; with frames in the stockpot the
operation ends later. -/
def queueFlush (c : Ctx) (d : Dev) : Ans :=
  let i := fld c.pl 0 4
  let die := c.target.dieNo
  let q := 2 ^ 18 * die + i
  let n := (queueAt q d).frames.length
  let bytes := queueBytes q d
  let spilled := decide (0 < queueSpilled q d)
  need (decide (i < 262144)) .badField <|
  need (Map.has (prm d).queues q) .badState <|
  let d' := bumpBy .queue q 2 n (bumpBy .que die 7 n (setQueue q ((queueAt q d).keep (fun _ => false)) d))
  if spilled then .pend 100 q { d' with que := { d'.que with flushes := d'.que.flushes ++ [⟨c.handle, n, bytes⟩] } }
  else .ok (flushResult n bytes) d'

def execQueueFlush (r : Request) (s : State) : Host.Outcome State Fault Refusal :=
  onMailbox { op := 0x0806, len := 8, scopes := lineDies, resv := z 4 4 } (fun c _ d => queueFlush c d) r s

/-- R264: a flush of a spilled queue ends. -/
def queueFlushComplete (h : Nat) (d : Dev) : Dev :=
  match d.que.flushes.find? (fun x => decide (x.handle = h)) with
  | none => d
  | some x =>
    complete h .ok (flushResult x.frames x.bytes)
      { d with que := { d.que with flushes := d.que.flushes.filter (fun y => decide (y.handle ≠ h)) } }

def execQueueFlushComplete (handle : Nat) (s : State) : Host.Outcome State Fault Refusal := onDev (queueFlushComplete handle) s

end Sys2Proof.Machine
end

