-- ==== Sys2Proof/Machine/Twin.lean ====
section
/-! DEFINITION. Sys2Proof/Machine/Twin.lean: twin operation: attaching, records, heartbeats, takeover, and the TWIN
commands (15_twin.md). -/
namespace Sys2Proof.Machine

/-! ### What a twin tells of itself -/

/-- R422: the code of a state. -/
def twinCode : TwinSt → Nat
  | .unpaired => 0 | .attaching => 1 | .syncing => 2 | .paired => 3 | .suspect => 4 | .lost => 5 | .solo => 6

/-- The level that TWROLE was sampled at (R402). -/
def strapHigh (d : Dev) : Bool := decide (d.sys.twrole = .high)

/-- R404: the pairing key, if it is installed. -/
def pairKey (d : Dev) : Option Bytes :=
  match (keySlot 1023 d).active with
  | some k => if k.cls = 5 then some k.bytes else none
  | none => none

/-- The record version of this firmware (R409, R419). -/
def ownRecords : Nat := 1

/-- R41: major and minor of a firmware version. -/
def majorOf (v : Nat) : Nat := v / 2 ^ 24 % 256
/-- R41. -/
def minorOf (v : Nat) : Nat := v / 2 ^ 16 % 256

/-! ### The handshake (R404, R405) -/

/-- R405: the input of a MAC after its first byte. -/
def macBody (h : Handshake) : Bytes := be 8 h.serialI ++ be 8 h.serialR ++ h.nonceI ++ h.nonceR

/-- R405: MAC_R (0x52) or MAC_I (0x49). -/
def handMac (key : Bytes) (tag : Nat) (h : Handshake) : Bytes := aesCmac key (be 1 tag ++ macBody h)

/-- R405: the 66-byte input of one iteration for the key of a direction: 0 from I to R, 1 from R to I. -/
def sessionInput (i dir : Nat) (h : Handshake) : Bytes :=
  be 4 i ++ be 6 0x4C5831363038 ++ be 2 0x0010 ++ be 1 2 ++ be 1 dir ++ macBody h ++ be 4 0x100

/-- R405: the session key of a direction. -/
def sessionKey (key : Bytes) (dir : Nat) (h : Handshake) : Bytes :=
  aesCmac key (sessionInput 1 dir h) ++ aesCmac key (sessionInput 2 dir h)

/-- Send a HELLO. -/
def sayHello (kind : Nat) (nonce mac : Bytes) (d : Dev) : Dev :=
  emit (.twin kind (be 8 Config.serial ++ le 4 d.host.fwVersion ++ le 1 ownRecords ++ le 1 (b2n (strapHigh d))
    ++ le 1 (b2n d.twin.serving) ++ nonce ++ mac)) d

/-- R405, R410: may an attach start here? -/
def canAttach (d : Dev) : Bool :=
  decide (d.vault.lc = 2) && (pairKey d).isSome && portIsUp 96 d &&
    (match d.twin.state with | .unpaired => true | .lost => true | .solo => true | _ => false)

/-- R405 step 1. -/
def startAttach (fails : Nat) (d : Dev) : Dev :=
  let (n, d) := freshBytes 16 d
  let d := if d.twin.state = .attaching then d else twinEnter .attaching d
  let h : Handshake := ⟨true, n, [], Config.serial, 0, d.time.elapsed, fails, false, false, 0, 0⟩
  sayHello 1 n [] { d with twin := { d.twin with hs := some h } }

/-- R405: with twin_auto the device attaches by itself. -/
def autoAttach (d : Dev) : Dev :=
  if fwRuns d && (prm d).twinAuto && canAttach d then startAttach 0 d else d

def execTwinAutoAttach (s : State) : Host.Outcome State Fault Refusal := onDev autoAttach s

/-- R405: what fails the handshake after its MACs. -/
def peerRefusal (h : Handshake) (d : Dev) : Option Status :=
  let own := d.host.fwVersion
  if majorOf own ≠ majorOf h.peerVersion ∨ minorOf own > minorOf h.peerVersion + 1 ∨ minorOf h.peerVersion > minorOf own + 1 then
    some .versionMismatch
  else if h.peerServing && d.twin.serving then some .badState
  else none

/-! #### What is synchronised (R407) -/

/-- The TX slots of the SecYs that this twin serves. -/
def servedTx (d : Dev) : List (Nat × SecyPrm) :=
  d.prot.slots.filterMap (fun e =>
    if saRx e.1 || decide (e.2.state = .empty ∨ e.2.state = .loading) then none
    else match secyPrm (saDie e.1) (saSc e.1) d with
      | some p => if servesHome p.home d then some (e.1, p) else none
      | none => none)

/-- R407: the CONTROL record. -/
def controlRecord (d : Dev) : TwinBody :=
  .control d.prot.enabled d.fab.analysis
    ((d.prot.slots.filter (fun e => !saRx e.1 && decide (e.2.state = .inUse))).map (·.1))
    ((d.cls.mac.filter (fun e => e.2.pinned)).map (fun e => (e.1 / 2 ^ 20, e.2.fid, e.2.mac, e.2.pinUntil)))

/-- The pending operation of a handle, as an action carries it: mailbox, tag, opcode. -/
def pendOf (h : Nat) (d : Dev) : Nat × Nat × Nat :=
  match d.host.pend.find? (fun p => decide (p.handle = h)) with | some p => (p.mailbox, p.tag, p.opcode) | none => (0, 0, 0)

/-- One action of the TIMED_ACTION record. -/
def twinAction (instant kind h : Nat) (l : List (Nat × Nat × Nat)) (d : Dev) : TwinAction :=
  let p := pendOf h d
  ⟨instant, kind, h, p.1, p.2.1, p.2.2, l⟩

/-- R317, R407, R420: every pending action; a swap that is not scheduled is among them, for both twins swap at one instant. -/
def twinActions (d : Dev) : List TwinAction :=
  let swap := match d.cfg.swap with
    | some x => [twinAction x.at_ 1 (x.handle.getD 0) [] d]
    | none => []
  let batches := d.prot.batches.map (fun e => twinAction e.2.at_ 2 e.1 e.2.list d)
  let single := d.prot.switches.filterMap (fun e => e.2.handle.map (fun h =>
    twinAction e.2.at_ 3 h [(e.1 / 2048, e.1 % 2048, e.2.an)] d))
  let keys := d.vault.store.filterMap (fun e => match e.2.pending with
    | some p => p.at_.map (fun g => twinAction g 4 (p.handle.getD 0) [(e.1, 0, 0)] d)
    | none => none)
  let gates := d.act.gates.filterMap (fun e => e.2.change.map (fun t => twinAction (t * 65536) 5 0 [(e.1, 0, 0)] d))
  let pulses := d.time.tpo.filterMap (fun e =>
    if e.2.mode = 1 then e.2.next.map (fun g => twinAction g 6 0 [(e.1, e.2.width, e.2.polarity)] d) else none)
  let step := match d.time.step with
    | some x => [twinAction x.at_ 7 (x.handle.getD 0) [(x.new.s, x.new.ns, x.new.f)] d]
    | none => []
  swap ++ batches ++ single ++ keys ++ gates ++ pulses ++ step

/-- R407: the MKA_SESSION record of a SecY. -/
def mkaRecord (n : Nat) (m : MkaSession) : TwinBody :=
  .mkaSession n m.priority m.ckn m.blob (m.peers.map (·.sci)) m.keyNumber m.sak

/-- R407: the KEY_BLOB record of a slot of key SRAM that came in a blob. -/
def slotRecord (k : Nat) (x : SaSlot) : TwinBody :=
  .saBlob (saDie k) (saPayload ⟨.mka, saDie k, saRx k, saSc k, saAn k, x.ssci, x.salt, x.nextPn, x.keyId, x.blob, false⟩)

/-- Does this twin serve the SecY of a slot? -/
def servesSlot (k : Nat) (d : Dev) : Bool :=
  match secyPrm (saDie k) (saSecy k d) d with | some p => servesHome p.home d | none => false

/-- R407: everything that a SYNCING twin sends; its CONTROL record comes last. -/
def syncRecords (d : Dev) : List TwinBody :=
  if d.twin.role = 2 then [controlRecord d]
  else
    let keys := (d.vault.area.filter (fun e => decide (e.1 / 2 ≠ 1023))).map (fun e =>
      TwinBody.keyBlob (e.1 / 2) (if e.1 % 2 = 0 then 0 else e.2.2.1) e.2.2.2)
    let slots := (d.prot.slots.filter (fun e => !e.2.blob.isEmpty && servesSlot e.1 d)).map (fun e => slotRecord e.1 e.2)
    let mka := d.prot.mka.map (fun e => mkaRecord e.1 e.2)
    let gates := d.act.gates.map (fun e => gateRecord e.1 d)
    let taps := (d.port.lanes.filter (fun e => decide (e.1 < 32))).map (fun e => TwinBody.portTaps e.1 e.2.taps)
    let learned := if d.twin.mirrorTables then
        (d.cls.mac.filter (fun e => !e.2.static && !e.2.remote)).map (fun e =>
          TwinBody.learned (e.1 / 2 ^ 20) e.2.fid e.2.mac e.2.dest)
      else []
    setRecord d :: keys ++ slots ++ mka ++ gates ++ taps ++ learned ++ [.timedActions (twinActions d), controlRecord d]

/-- R402: the role of a twin at attach: 1 PRIMARY, 2 SECONDARY. -/
def settleRole (h : Handshake) (d : Dev) : Nat :=
  let own := Config.serial
  let other := if h.initiator then h.serialR else h.serialI
  if d.twin.serving then 1
  else if h.peerServing then 2
  else if strapHigh d && !h.peerStrap then 1
  else if !strapHigh d && h.peerStrap then 2
  else if own < other then 1 else 2

/-- R402, R405 step 4, R410: the handshake has passed: session keys, roles, SYNCING. -/
def attachDone (key : Bytes) (h : Handshake) (d : Dev) : Dev :=
  let role := settleRole h d
  let took := d.twin.tookHome
  let standby := decide (role = 2 ∧ (prm d).twinMode = 0)
  let d := twinEnter .syncing (twinForget d)
  let d := { d with twin := { d.twin with
    role := role, tookHome := took
    keyOut := sessionKey key (if h.initiator then 0 else 1) h, keyIn := sessionKey key (if h.initiator then 1 else 0) h
    peerSerial := if h.initiator then h.serialR else h.serialI, peerVersion := h.peerVersion
    recordVersion := min ownRecords h.peerRecords, nextRec := 0, acked := 0
    failOut := false, squelch := standby, serving := (d.twin.serving || d.host.trafficReady) && decide (role = 1) } }
  let l := syncRecords d
  { d with twin := { d.twin with waiting := l, lastSent := [.timedActions (twinActions d), controlRecord d] } }

/-- The initiator's HELLO (R405 steps 1 and 2). If both have started, the twin with the lower serial number stays the
initiator. -/
def helloFromInitiator (m : TwinHello) (d : Dev) : Dev :=
  match pairKey d with
  | none => d
  | some key =>
    let peer := m.serial.toNat
    let mine := match d.twin.hs with | some h => h.initiator | none => false
    if !(canAttach d && ((prm d).twinAuto || d.twin.handle.isSome)) && decide (d.twin.state ≠ .attaching) then d
    else if peer = Config.serial then
      attachFail .authFailed (if d.twin.state = .attaching then d else twinEnter .attaching d)
    else if d.twin.state = .attaching ∧ mine = true ∧ Config.serial < peer then d
    else
      let (n, d) := freshBytes 16 d
      let fails := match d.twin.hs with | some h => h.fails | none => 0
      let h : Handshake := ⟨false, m.nonce, n, peer, Config.serial, d.time.elapsed, fails, m.serving, m.strapHigh,
        m.fwVersion.toNat, m.recordVersion.toNat⟩
      let d := if d.twin.state = .attaching then d else twinEnter .attaching d
      let d := sayHello 2 n (handMac key 0x52 h) { d with twin := { d.twin with hs := some h } }
      match peerRefusal h d with | some st => attachFail st d | none => d

/-- The responder's HELLO (R405 steps 2 and 3). -/
def helloFromResponder (m : TwinHello) (mac : Bytes) (d : Dev) : Dev :=
  match pairKey d, d.twin.hs with
  | some key, some h =>
    if d.twin.state ≠ .attaching ∨ h.initiator = false then d
    else
      let h : Handshake := { h with
        nonceR := m.nonce, serialR := m.serial.toNat, stepAt := d.time.elapsed, peerServing := m.serving
        peerStrap := m.strapHigh, peerVersion := m.fwVersion.toNat, peerRecords := m.recordVersion.toNat }
      if mac ≠ handMac key 0x52 h ∨ h.serialR = Config.serial then attachFail .authFailed d
      else match peerRefusal h d with
        | some st => attachFail st d
        | none => attachDone key h (emit (.twin 3 (handMac key 0x49 h)) d)
  | _, _ => d

/-- R405: a HELLO arrives. A twin whose firmware says HELLO asserts TWFAIL_O no longer (R415). -/
def twinHello (m : TwinHello) (d : Dev) : Dev :=
  if !(portIsUp 96 d && fwRuns d) then d
  else
    let d := { d with twin := { d.twin with failIn := false } }
    match m.mac with
    | none => helloFromInitiator m d
    | some mac => helloFromResponder m mac d

def execTwinHello (msg : TwinHello) (s : State) : Host.Outcome State Fault Refusal := onDev (twinHello msg) s

/-- R405: MAC_I arrives. -/
def handshakeMac (mac : Bytes) (d : Dev) : Dev :=
  match pairKey d, d.twin.hs with
  | some key, some h =>
    if !(portIsUp 96 d && fwRuns d) || decide (d.twin.state ≠ .attaching) || h.initiator then d
    else if mac = handMac key 0x49 h then attachDone key h d
    else attachFail .authFailed d
  | _, _ => d

def execTwinHandshakeMac (mac : Bytes) (s : State) : Host.Outcome State Fault Refusal := onDev (handshakeMac mac) s

/-- R405: no step within 5 ms. -/
def handshakeTimeout (d : Dev) : Dev :=
  match d.twin.hs with
  | none => d
  | some h =>
    if d.twin.state ≠ .attaching then d
    else
      let d := waitTicks (h.stepAt + ticksMs 5) d
      if h.fails + 1 < 3 ∧ portIsUp 96 d = true then startAttach (h.fails + 1) d else attachFail .internalError d

def execTwinHandshakeTimeout (s : State) : Host.Outcome State Fault Refusal := onDev handshakeTimeout s

/-! ### Leaving the pair (R406, R410) -/

/-- R406: the former SECONDARY enters HOLDOVER, without a step. -/
def leaveTwinTime (cause : Nat) (d : Dev) : Dev :=
  if d.twin.role = 2 then sourceLost cause { d with time := { d.time with samples := [] } } else d

/-- R410: the standby zeroizes the TX slots whose keys came from its twin. -/
def dropMirrored (d : Dev) : Dev :=
  (d.twin.mirrored.filter (fun k => !saRx k && !servesSlot k d)).foldl (fun d k => freeSa k (dropBound k d)) d

/-- R410: what each twin of a pair does as the pair is dissolved. -/
def dissolve (d : Dev) : Dev := twinEnd (leaveTwinTime 5 (dropMirrored d))

/-! ### PAIRED (R410, R411, R433) -/

/-- The sets as they stand in their images (R416): no SecY runs on its alt_port any more. -/
def restoreSets (d : Dev) : Dev :=
  if d.twin.tookHome.isNone then d
  else
    let back (x : SetImg) : SetImg := match compileImage x.image d with | .ok p => { x with params := p } | .error _ => x
    { d with cfg := { d.cfg with active := d.cfg.active.map back, shadow := d.cfg.shadow.map back }
             twin := { d.twin with tookHome := none } }

/-- R403: the SecYs of SPLIT-ACTIVE that this twin does not serve: their controlled ports are disabled here, and the
exact next_pn of each of their TX SAs goes to the twin that serves them from now on. -/
def yieldOthers (d : Dev) : Dev :=
  let gone := (prm d).secys.filter (fun e => !servesHome e.2.home d)
  let slots := d.prot.slots.filter (fun e => !saRx e.1 && !servesSlot e.1 d && !e.2.key.isEmpty)
  let d := { d with prot := { d.prot with enabled := d.prot.enabled.filter (fun n => !Map.has gone n) } }
  if d.twin.role = 1 then slots.foldl (fun d e => twinPost (.pnReservation e.1 e.2.nextPn) d) d else d

/-- R411: the first reservations. -/
def startReservations (d : Dev) : Dev :=
  (servedTx d).foldl (fun d e => reservePn e.1 ((sa e.1 d).nextPn + pnBlock e.2.suite) d) d

/-- R410, R433: every record of the synchronisation is acknowledged: PAIRED. -/
def enterPaired (d : Dev) : Dev :=
  let d := restoreSets (twinEnter .paired d)
  let d := { d with
    twin := { d.twin with missed := 0, heard := d.time.elapsed
                          serving := d.twin.serving || (d.host.trafficReady && mayServe d) }
    prot := { d.prot with slots := Map.mapVals d.prot.slots (fun x => { x with limit := none }) } }
  let d := startReservations (if (prm d).twinMode = 1 then yieldOthers d else d)
  let d := notifyRecord 0x71 deviceTarget
    (le 1 d.twin.role ++ le 1 (prm d).twinMode ++ le 1 d.twin.recordVersion ++ zeros 5 ++ le 8 d.twin.peerSerial) d
  let h := d.twin.handle
  let d := { d with twin := { d.twin with handle := none } }
  let d : Dev := match h with | some h => complete h .ok (le 1 d.twin.role ++ le 8 d.twin.peerSerial) d | none => d
  if d.twin.role = 2 then askAcquire 5 { d with time := { d.time with samples := [], lastMeas := d.time.elapsed } } else d

/-- R410: is the synchronisation complete on both sides? -/
def pairCheck (d : Dev) : Dev :=
  if d.twin.state = .syncing ∧ d.twin.waiting.isEmpty = true ∧ d.twin.unacked.isEmpty = true ∧ d.twin.synced = true then
    enterPaired d
  else d

/-! ### Records out (R242, R407) -/

/-- R420: reservations are hardware and go on during a firmware restart. -/
def isReservation (b : TwinBody) : Bool := match b with | .pnReservation _ _ => true | _ => false

/-- R407: CONTROL and TIMED_ACTION records follow the state. -/
def followState (d : Dev) : Dev :=
  let l := [TwinBody.timedActions (twinActions d), controlRecord d]
  if !twinMirrors d || decide (d.twin.lastSent = l) then d
  else
    let new := l.filter (fun b => !d.twin.lastSent.contains b)
    { d with twin := { d.twin with lastSent := l, waiting := d.twin.waiting ++ new } }

/-- The record sent next. -/
def nextRecord (d : Dev) : Option TwinBody := if fwRuns d then d.twin.waiting.head? else d.twin.waiting.find? isReservation

/-- R242: the room of a queue of the twin link, in ticks of its 40 Gb/s: 256 KiB at 4 bytes each 0.8 ns (R405). -/
def queueTicks : Nat := 65536

/-- R242: a record enters the queue of the twin link, at the moment that the queue has room. -/
def recordQueue (b : TwinBody) (d : Dev) : Dev :=
  let d := waitTicks (d.twin.queueUntil + 1 - queueTicks) d
  { d with twin := { d.twin with queueUntil := max d.twin.queueUntil d.time.elapsed + (Config.recordLength b + 3) / 4 } }

/-- R242, R407: one record goes out. -/
def recordSend (d : Dev) : Dev :=
  if !(twinShares d && portIsUp 96 d && !d.twin.keyOut.isEmpty) then d
  else
    let d := if fwRuns d then followState d else d
    match nextRecord d with
    | none => d
    | some b =>
      let q := d.twin.nextRec
      let d := recordQueue b d
      emit (.twinRecord q b) { d with twin := { d.twin with
        waiting := d.twin.waiting.erase b, unacked := d.twin.unacked ++ [(q, b)], nextRec := q + 1, ctrOut := d.twin.ctrOut + 1 } }

def execTwinRecordSend (s : State) : Host.Outcome State Fault Refusal := onDev recordSend s

/-- R411: an acknowledged reservation is in force. -/
def reserveAcked (k r : Nat) (d : Dev) : Dev :=
  if Map.has d.prot.slots k then setSa k { sa k d with reserve := r, renewing := false } d else d

/-- R407, R410, R411: an acknowledgement arrives. -/
def recordAck (q : Nat) (d : Dev) : Dev :=
  match d.twin.unacked.find? (fun e => decide (e.1 = q)) with
  | none => d
  | some (_, b) =>
    let n := if d.twin.state = .syncing then 1 else 0
    let d := { d with twin := { d.twin with
      unacked := d.twin.unacked.filter (fun e => decide (e.1 ≠ q)), ctrIn := d.twin.ctrIn + 1, acked := d.twin.acked + n } }
    pairCheck (match b with | .pnReservation k r => reserveAcked k r d | _ => d)

def execTwinRecordAck (seq : Nat) (s : State) : Host.Outcome State Fault Refusal := onDev (recordAck seq) s

/-- R407: RX replay state, every 1 ms. -/
def rxStateSend (d : Dev) : Dev :=
  if !paired d then d
  else (d.prot.slots.filter (fun e => saRx e.1 && decide (e.2.state = .inUse) && servesSlot e.1 d)).foldl
    (fun d e => twinPost (.rxState e.1 e.2.nextPn) d) d

def execTwinRxStateSend (s : State) : Host.Outcome State Fault Refusal := onDev rxStateSend s

/-! ### Records in (R407 to R409) -/

/-- R408: this twin rejects a blob: counted, recorded, notified; the SecY is marked unprotected. 65535 names no SecY. -/
def keyMirrorFail (die idx keyId : Nat) (d : Dev) : Dev :=
  let n := 2048 * die + idx
  let d := twinEvent 2 .keyRejected (bump .twin 0 7 d)
  let src := if idx = 0xFFFF then deviceTarget else secySource die idx d
  let d := notify 0x73 src (le 2 idx ++ le 2 Status.keyRejected.code ++ le 4 keyId) d
  if idx = 0xFFFF ∨ d.twin.unprotected.contains n = true then d
  else { d with twin := { d.twin with unprotected := d.twin.unprotected ++ [n] } }

/-- R407: one image of a CONFIG_SET record on this device. -/
def ownImage (e : Nat × Bytes) (d : Dev) : Option SetImg :=
  match compileImage e.2 d with
  | .ok p => some ⟨e.1, fld e.2 16 4, e.2, p, 0⟩
  | .error _ => none

/-- Is this the image that a set holds? -/
def sameImage (x : Option SetImg) (e : Nat × Bytes) : Bool :=
  match x with | some y => decide (y.id = e.1 ∧ y.image = e.2) | none => false

/-- R71, R84, R407: the active set of a CONFIG_SET record. Where it is this device's shadow, the PRIMARY has swapped, and so
does this twin, if its own swap at that instant has not yet come; else the set is loaded as its own. -/
def mirrorActiveSet (e : Nat × Bytes) (d : Dev) : Dev :=
  if sameImage d.cfg.active e then d
  else
    let d := { d with cfg := { d.cfg with swap := none } }
    if sameImage d.cfg.shadow e then swapNow d.time.grand e.1 (keepSet d.cfg.shadow d)
    else match ownImage e d with
      | none => d
      | some x => activate x (keepSet d.cfg.active d)

/-- R407: the SECONDARY loads the sets as its own. -/
def mirrorSets (a b : Option (Nat × Bytes)) (d : Dev) : Dev :=
  let d := match a with | none => d | some e => mirrorActiveSet e d
  match b with
  | none => d
  | some e =>
    if d.cfg.shadowState = .loading ∨ d.cfg.shadowState = .draining ∨ sameImage d.cfg.shadow e = true then d
    else match ownImage e d with
      | none => d
      | some x => { d with cfg := { d.cfg with shadow := some x, shadowState := .ready } }

/-- R407, R408: a blob of the key store, in the same slot. -/
def mirrorKey (slot mode : Nat) (blob : Bytes) (d : Dev) : Dev :=
  match openBlob blob blob.length d with
  | none => keyMirrorFail 0 0xFFFF (fld blob 4 4) (countBlob false d)
  | some k =>
    let x := keySlot slot d
    if mode = 0 ∧ x.active = some k ∧ x.pending = none then d
    else
      let d := cancelActivation slot .badState (countBlob true d)
      let d := setKeySlot slot { keySlot slot d with pending := some ⟨k, mode, none, none⟩ } d
      let d := { d with vault := { d.vault with area := Map.put d.vault.area (areaKey slot true) (false, mode, blob) } }
      if mode = 0 then activateSlot slot d else d

/-- R407, R408: a blob of SA_INSTALL, in the same slot, ready for use. -/
def mirrorSa (die : Nat) (pl : Bytes) (d : Dev) : Dev :=
  let x := readSaLoad .mka die pl
  let k := saKey die x.rx x.sc x.an
  let idx := if x.rx then saSecy k d else x.sc
  let there := !x.rx || Map.has d.prot.rxscs (4096 * die + x.sc)
  match (if there && dieUp die d && decide (fld x.blob 1 1 = (if x.rx then 0x11 else 0x10) ∧ fld x.blob 4 4 = x.keyId) then
      openBlob x.blob x.blob.length d else none), secyPrm die idx d with
  | some key, some p =>
    if key.bytes.length ≠ suiteKeyLen p.suite then keyMirrorFail die idx x.keyId (countBlob false d)
    else
      let d := afterInstall k (saPlace x key.bytes (countBlob true d))
      { d with twin := { d.twin with
        mirrored := if d.twin.mirrored.contains k then d.twin.mirrored else d.twin.mirrored ++ [k]
        unprotected := d.twin.unprotected.filter (· ≠ 2048 * die + idx) } }
  | _, _ => keyMirrorFail die idx x.keyId (countBlob false d)

/-- R407: an MKA session is kept warm; a SAK that is not yet in its slots is installed from its wrapped form. -/
def mirrorMka (n priority : Nat) (ckn blob : Bytes) (peers : List Nat) (keyNumber : Nat) (sak : Option DistSak) (d : Dev) : Dev :=
  let die := n / 2048
  match (if fld blob 1 1 = 3 then openBlob blob blob.length d else none), secyPrm die (n % 2048) d with
  | some cak, some p =>
    let old := mkaSt n d
    let (mi, d) := match old with | some o => (o.mi, d) | none => freshBytes 12 d
    let m : MkaSession := newSession ⟨none, 0, die, n % 2048, priority, ckn, cak.id, blob⟩ cak.bytes mi
    let live := peers.map (fun s => (⟨s, [], 0, 255, d.time.elapsed + mkaLife, false, false, none⟩ : MkaPeer))
    let had := match old with | some o => o.sak | none => none
    let m : MkaSession := { m with peers := live, keyNumber := keyNumber, sak := had
                                   latestAn := match old with | some o => o.latestAn | none => none }
    let d := peers.foldl (fun d s => ensureRxSc die p s d) (setMka n m d)
    (match sak with
     | some s => if had = some s then d else
         let d := takeSak n p s d
         let k := saKey die false p.index s.an.val
         { d with twin := { d.twin with mirrored := if d.twin.mirrored.contains k then d.twin.mirrored else d.twin.mirrored ++ [k] } }
     | none => d)
  | _, _ => keyMirrorFail die (n % 2048) (fld blob 4 4) (countBlob false d)

/-- R403, R411: a reservation. For a slot that this twin serves from now on it is where its peer has stopped: the slot
goes on from there. -/
def mirrorReservation (k r : Nat) (d : Dev) : Dev :=
  if servesSlot k d then
    let x := sa k d
    if x.state = .empty ∨ x.state = .loading then d
    else
      let d := setSa k { x with nextPn := max x.nextPn r } d
      let n := 2048 * saDie k + saSc k
      let d := if d.twin.inUse.contains k then doSwitch (saDie k) (saSc k) (saAn k) d else d
      let d := if d.twin.control.contains n && !d.twin.unprotected.contains n then setPortEnabled n true d else d
      match secyPrm (saDie k) (saSc k) d with
      | some p => reservePn k ((sa k d).nextPn + pnBlock p.suite) d
      | none => d
  else
    let old := Map.get d.twin.reservations k 0
    { d with twin := { d.twin with
      reservations := Map.put d.twin.reservations k r, handover := d.twin.handover || decide (r < old) } }

/-- R407, R413: the local next_pn of an RX SA is raised, never lowered. -/
def mirrorRx (k pn : Nat) (d : Dev) : Dev :=
  if (sa k d).state = .empty then d else setSa k { sa k d with nextPn := max (sa k d).nextPn pn } d

/-- R407, R417, R420: the actions are held for takeover; a swap and a step happen on both twins at the same instant. -/
def mirrorActions (l : List TwinAction) (d : Dev) : Dev :=
  let d := { d with twin := { d.twin with actions := l } }
  let own := match d.cfg.swap with | some w => w.handle.isNone && w.mailbox.isNone | none => true
  let swap := match l.find? (fun a => decide (a.kind = 1)) with
    | some a => if d.cfg.shadowState = .ready then some ⟨a.instant, none, none⟩ else none
    | none => none
  let d := if own then { d with cfg := { d.cfg with swap := swap } } else d
  match l.find? (fun a => decide (a.kind = 7)) with
  | some a =>
    (match a.list with
     | (s, ns, f) :: _ =>
       if d.twin.role ≠ 2 ∨ d.time.step.isSome = true then d
       else
         let d := if d.time.state = .acquire then d else askAcquire 5 d
         decideStep { at_ := a.instant, new := ⟨s, ns, f⟩, handle := none, mailbox := none, newRate := none, delivered := [], residual := 0 } d
     | [] => d)
  | none => d

/-- R407: the oper list of a port, running from its next cycle. -/
def mirrorOper (p : Nat) (l : GateList) (d : Dev) : Dev :=
  let g := gateSt p d
  if g.oper = some l then d
  else
    let acq := decide (d.time.state = .acquire)
    setGate p { g with oper := some l, suspended := acq, cancelled := false
                       restart := if acq then none else some (changeTime l.base.count l.cycle (now16 d)) } d

/-- R407: the lists of a port are installed. -/
def mirrorGates (p : Nat) (oper admin : Option (Bytes × Bytes)) (pending : Bool) (d : Dev) : Dev :=
  let d := match oper with | some (a, b) => mirrorOper p (readGateList a b) d | none => d
  match admin with
  | none => d
  | some (a, b) =>
    let l := readGateList a b
    if pending then gateAccept p l (listChange l (now16 d)) d
    else
      let g := gateSt p d
      setGate p { g with admin := some l, change := none, cancelled := g.oper.isNone } d

/-- R197, R407: a pin of a MAC entry, where this twin holds the entry. -/
def mirrorPin (d : Dev) (x : Nat × Nat × Nat × Nat) : Dev :=
  match macFind x.1 x.2.1 x.2.2.1 d with
  | none => d
  | some pos => match Map.get? d.cls.mac (tblPos x.1 pos) with
    | some e => if e.static || e.pinned then d else macSet x.1 pos { e with pinned := true, pinUntil := x.2.2.2 } d
    | none => d

/-- R403, R407: CONTROL. On the standby of HOT-STANDBY the controlled ports stand as on the PRIMARY at once: its
receivers run, and its transmitters are squelched. -/
def mirrorControl (enabled analysis inUse : List Nat) (pins : List (Nat × Nat × Nat × Nat)) (d : Dev) : Dev :=
  let d := pins.foldl mirrorPin { d with twin := { d.twin with
    control := enabled, analysis := analysis, inUse := inUse, synced := true } }
  let d := if d.twin.role = 2 ∧ (prm d).twinMode = 0 then
      { d with prot := { d.prot with enabled := enabled.filter (fun n => !d.twin.unprotected.contains n) } }
    else d
  pairCheck d

/-- R407: apply a record. -/
def applyRecord (b : TwinBody) (d : Dev) : Dev :=
  match b with
  | .configSet a s => if d.twin.role = 2 then mirrorSets a s d else d
  | .keyBlob slot mode blob => mirrorKey slot mode blob d
  | .saBlob die pl => mirrorSa die pl d
  | .mkaSession n pr ckn blob peers kn sak => mirrorMka n pr ckn blob peers kn sak d
  | .pnReservation k r => mirrorReservation k r d
  | .rxState k pn => mirrorRx k pn d
  | .timedActions l => mirrorActions l d
  | .gateList p o a c => mirrorGates p o a c d
  | .portTaps l taps => { d with twin := { d.twin with taps := Map.put d.twin.taps l taps } }
  | .learned die fid mac dest => postEngine die (.copy fid mac dest) d
  | .control e a u pins => mirrorControl e a u pins d

/-- R409: a record that must be understood is not known: the pair ends with VERSION_MISMATCH. -/
def misunderstood (d : Dev) : Dev :=
  if d.twin.state = .syncing then syncFail .versionMismatch d else dissolve (twinEvent 1 .versionMismatch d)

/-- R407, R409: a record arrives; applied or ignored, it is acknowledged. -/
def recordReceive (r : TwinRecord) (d : Dev) : Dev :=
  let hw := match r.body with | some b => isReservation b | none => false
  if !(twinShares d && portIsUp 96 d && !d.twin.keyIn.isEmpty && (fwRuns d || hw)) then d
  else
    let d := { d with twin := { d.twin with ctrIn := d.twin.ctrIn + 1 } }
    let ack (d : Dev) : Dev := emit (.twin 5 (le 4 r.seq)) { d with twin := { d.twin with ctrOut := d.twin.ctrOut + 1 } }
    match r.body with
    | some b => applyRecord b (ack d)
    | none => if r.mustUnderstand then misunderstood d else ack (bump .twin 0 6 d)

def execTwinRecordReceive (rec : TwinRecord) (s : State) : Host.Outcome State Fault Refusal := onDev (recordReceive rec) s

/-! ### Heartbeats (R410, R414) -/

/-- R410: one heartbeat: sequence number, state, serving set, DEV_STATUS. -/
def heartbeat (st : TwinSt) (d : Dev) : Dev :=
  emit (.twin 6 (le 4 d.twin.yoyoSeq ++ le 1 (twinCode st) ++ le 1 (b2n d.twin.serving) ++ le 4 (devStatus d)))
    { d with twin := { d.twin with yoyoSeq := (d.twin.yoyoSeq + 1) % 2 ^ 32, ctrOut := d.twin.ctrOut + 1 } }

/-- R410: the yo-yo runs in PAIRED, SUSPECT and SOLO. -/
def yoyoSend (d : Dev) : Dev :=
  if (paired d || decide (d.twin.state = .solo)) && portIsUp 96 d then heartbeat d.twin.state d else d

def execYoyoSend (s : State) : Host.Outcome State Fault Refusal := onDev yoyoSend s

/-- R410: a heartbeat arrives; one of an UNPAIRED twin tells that it has detached. -/
def yoyoReceive (m : YoyoMsg) (d : Dev) : Dev :=
  if !(paired d && portIsUp 96 d) then d
  else
    let d := { d with twin := { d.twin with heard := d.time.elapsed, missed := 0, ctrIn := d.twin.ctrIn + 1 } }
    if m.state.val = 0 then dissolve d
    else if d.twin.state = .suspect then twinEnter .paired d
    else d

def execYoyoReceive (msg : YoyoMsg) (s : State) : Host.Outcome State Fault Refusal := onDev (yoyoReceive msg) s

/-- R462: the data of TWIN_STATE. -/
def twinStateData (old new : TwinSt) (d : Dev) : Bytes :=
  le 1 (twinCode old) ++ le 1 (twinCode new) ++ zeros 6 ++ le 8 d.twin.peerSerial

/-- R410: 10 µs pass without a heartbeat. -/
def heartbeatMiss (d : Dev) : Dev :=
  if !paired d then d
  else
    let n := d.twin.missed + 1
    let d := waitTicks (d.twin.heard + ticksUs 10 * n) d
    let d := bump .twin 0 0 { d with twin := { d.twin with missed := n } }
    if n = 8 ∧ d.twin.state = .paired then
      notify 0x70 deviceTarget (twinStateData .paired .suspect d) (twinEnter .suspect (bump .twin 0 1 d))
    else d

def execHeartbeatMiss (s : State) : Host.Outcome State Fault Refusal := onDev heartbeatMiss s

/-- R414: a serving twin that loses its twin ends reservations; each XPN TX SA ends at R_m + 2^40. -/
def limitSlots (d : Dev) : Dev :=
  (servedTx d).foldl (fun d e =>
    let x := sa e.1 d
    if suiteXpn e.2.suite then
      checkThreshold e.1 (setSa e.1 { x with limit := some ((if x.reserve = 0 then x.nextPn else x.reserve) + 2 ^ 40) } d)
    else d) d

/-- R405, R410, R414: lost_time passes without a heartbeat. -/
def lostTimeout (d : Dev) : Dev :=
  if d.twin.state ≠ .suspect then d
  else
    let d := waitTicks (d.twin.heard + ticksMs (prm d).lostTime) d
    let d := leaveTwinTime 4 (bump .twin 0 2 d)
    let d := endReservations (limitSlots d)
    let d := twinEnter .lost { d with twin := { d.twin with keyOut := [], keyIn := [], waiting := [], unacked := [], lastSent := [] } }
    notifyRecord 0x70 deviceTarget (twinStateData .suspect .lost d) d

def execTwinLostTimeout (s : State) : Host.Outcome State Fault Refusal := onDev lostTimeout s

/-! ### Time (R406) -/

/-- R406: an exchange of the twin islands: SECONDARY minus PRIMARY time in 2^-16 ns, and how far its round trip lay above
the smallest, in ns (R268). -/
def timeExchange (offset : Int) (excess : Nat) (d : Dev) : Dev :=
  if !(paired d && portIsUp 96 d) || decide (4 < excess) then d
  else
    let d := { d with twin := { d.twin with offset := offset } }
    if pairedSecondary d then measure d.time.grand (((d.time.grand : Int) - offset * 65536) % (counterMod : Int)).toNat d else d

def execTwinTimeExchange (offset : Int) (excess : Nat) (s : State) : Host.Outcome State Fault Refusal :=
  onDev (timeExchange offset excess) s

/-! ### Takeover (R411 to R418) -/

/-- R403: the SecYs that the other twin serves. -/
def othersSecys (d : Dev) : List Nat := ((prm d).secys.filter (fun e => !servesHome e.2.home d)).map (·.1)

/-- R412, R414: where a TX SA resumes: at R_m; taken over from LOST by command, an XPN SA at R_m + 2^40, and a 32-bit SA
is EXHAUSTED. So is an SA in use whose reservation has not come. -/
def resumeSlot (lost : Bool) (d : Dev) (k : Nat) : Dev :=
  match secyPrm (saDie k) (saSc k) d with
  | none => d
  | some p =>
    match Map.get? d.twin.reservations k with
    | none => if (sa k d).state = .inUse then exhaust k p d else d
    | some r =>
      let x := sa k d
      if lost && !suiteXpn p.suite then (if x.state = .inUse then exhaust k p d else setSa k { x with nextPn := 2 ^ 32 } d)
      else checkThreshold k (setSa k { x with nextPn := if lost then r + 2 ^ 40 else r } d)

/-- R412: every TX SA of the SecYs taken over. -/
def resumeSlots (lost : Bool) (taken : List Nat) (d : Dev) : Dev :=
  let mine (k : Nat) : Bool := !saRx k && taken.contains (2048 * saDie k + saSc k)
  let d := (d.twin.inUse.filter mine).foldl (fun d k => doSwitch (saDie k) (saSc k) (saAn k) d) d
  let ks := (d.prot.slots.filter (fun e => mine e.1 && !decide (e.2.state = .empty ∨ e.2.state = .loading))).map (·.1)
  ks.foldl (resumeSlot lost) d

/-- R54: the target that the command of an action named. -/
def actionTarget (a : TwinAction) (d : Dev) : Nat :=
  match a.kind, a.list with
  | 3, (die, idx, _) :: _ => secySource die idx d
  | _, _ => deviceTarget

/-- R417: the handle of an action moves to this twin. -/
def adoptHandle (a : TwinAction) (g : Nat) (d : Dev) : Dev :=
  if a.handle = 0 then d
  else { d with host := { d.host with
    pend := d.host.pend ++ [⟨a.handle, a.mailbox, a.tag, a.opcode, 0, actionTarget a d, d.time.elapsed + ticksMs (boundTo g d)⟩] } }

/-- R417: an action is taken into the timed action unit: at its instant, or at t0 + 100 µs if that lies before. -/
def adoptAction (t0 : Nat) (d : Dev) (a : TwinAction) : Dev :=
  let g := max a.instant (t0 + 100000 * unitsPerNs)
  let h := if a.handle = 0 then none else some a.handle
  let d := adoptHandle a g d
  match a.kind, a.list with
  | 1, _ => if d.cfg.shadow.isSome then { d with cfg := { d.cfg with swap := some ⟨g, h, none⟩ } } else d
  | 2, l => { d with prot := { d.prot with batches := Map.put d.prot.batches a.handle ⟨g, l⟩ } }
  | 3, (die, idx, an) :: _ => { d with prot := { d.prot with switches := Map.put d.prot.switches (2048 * die + idx) ⟨an, g, h, none⟩ } }
  | 4, (slot, _, _) :: _ =>
    (match (keySlot slot d).pending with
     | some p => setKeySlot slot { keySlot slot d with pending := some { p with at_ := some g, handle := h } } d
     | none => d)
  | 6, (pin, width, pol) :: _ => setTpo pin ⟨1, pol, width, tsOf g, 0, some g, (tpo pin d).activeUntil⟩ d
  | 7, (s, ns, f) :: _ =>
    { d with time := { d.time with step := some { at_ := g, new := ⟨s, ns, f⟩, handle := h, mailbox := none, newRate := none,
                                                  delivered := steppedDies d, residual := 0 } } }
  | _, _ => d

/-- R403, R416: in SPLIT-ACTIVE the SecYs taken over start on their alt_port, with the RX SCs they have. -/
def moveToAlt (d : Dev) : Dev :=
  if (prm d).twinMode ≠ 1 then d
  else
    let took := some (2 - d.twin.role)
    let alt (x : SetImg) : SetImg := { x with params := altParams took x.params }
    let d := { d with cfg := { d.cfg with active := d.cfg.active.map alt }, twin := { d.twin with tookHome := took } }
    { d with prot := { d.prot with rxscs := d.prot.rxscs.map (fun (e : Nat × RxSc) =>
        (e.1, match secyPrm (e.1 / 4096) e.2.secy d with | some p => { e.2 with port := p.port } | none => e.2)) } }

/-- R416: the transmitters of a HOT-STANDBY twin use the taps that the other twin trained. -/
def useTaps (d : Dev) : Dev :=
  d.twin.taps.foldl (fun d e => setLaneSt e.1 { laneSt e.1 d with taps := e.2 } d) d

/-- R412 to R418: a takeover. Cause 1 TWFAIL_I, 2 TWIN_TAKEOVER, 3 handover. -/
def takeover (cause : Nat) (d : Dev) : Dev :=
  let taken := othersSecys d
  let t0 := d.time.grand
  let unprot := d.twin.unprotected
  let ctl := d.twin.control
  let acts := d.twin.actions
  let serial := d.twin.peerSerial
  let version := d.twin.peerVersion
  let records := d.twin.recordVersion
  let own := match d.cfg.swap with | some w => w.handle.isNone && w.mailbox.isNone | none => false
  let d := resumeSlots (decide (cause = 2)) taken (endReservations d)
  let kept := d.prot.enabled.filter (fun n => !(taken.contains n && unprot.contains n))
  let more := ctl.filter (fun n => taken.contains n && !unprot.contains n && !d.prot.enabled.contains n)
  let d := { d with prot := { d.prot with enabled := kept ++ more } }
  let d := d.twin.analysis.foldl (fun d p => analysisOn p d) d
  let d := if own then { d with cfg := { d.cfg with swap := none } } else d
  let d := acts.foldl (adoptAction t0) d
  let d := leaveTwinTime 5 (if (prm d).twinMode = 0 then useTaps d else d)
  let d := twinEnter .solo (twinForget (moveToAlt d))
  let d := { d with twin := { d.twin with
    role := 1, squelch := false, serving := true, unprotected := unprot
    peerSerial := serial, peerVersion := version, recordVersion := records } }
  notifyRecord 0x72 deviceTarget (le 1 cause ++ zeros 3 ++ le 4 taken.length ++ le 8 serial) (bump .twin 0 3 d)

/-- R410: is this twin standby for what the other serves, and able to take it over (R420)? -/
def standsBy (d : Dev) : Bool :=
  !d.twin.failOut && (decide (d.twin.role = 2) || decide (d.twin.role = 1 ∧ (prm d).twinMode = 1))

/-- R410, R416, R420: TWFAIL_I has been asserted for 1 µs. -/
def twfailI (d : Dev) : Dev :=
  let d := { d with twin := { d.twin with failIn := true } }
  match d.twin.state with
  | .syncing => if d.twin.role = 2 then twinEvent 3 .badState d else d
  | .paired => if standsBy d then takeover (if d.twin.handover then 3 else 1) d else d
  | .suspect => if standsBy d then takeover (if d.twin.handover then 3 else 1) d else d
  | .lost => if standsBy d then takeover (if d.twin.handover then 3 else 1) d else d
  | _ => d

def execTwfailITakeover (s : State) : Host.Outcome State Fault Refusal := onDev twfailI s

/-- R418: frames still queued on the twin that hands over are dropped and counted. -/
def handoverDrop (d : Dev) : Dev :=
  let here (f : Frame) : Bool := match frameQueue f d with | some x => decide (x.port < 96) | none => false
  let n := (d.que.queues.map (fun e => (e.2.frames.filter here).length)).sum
  let d := d.que.queues.foldl (fun d e => setQueue e.1 ((queueAt e.1 d).keep (fun f => !here f)) d) d
  bumpBy .twin 0 9 n d

/-- R415: the twin no longer serves: TWFAIL_O, and every trunk and feeder transmitter is squelched. -/
def stepDown (d : Dev) : Dev := { d with twin := { d.twin with failOut := true, squelch := true, serving := false } }

/-- R418: the serving twin stops assigning PNs, sends each exact next_pn as a reservation, and asserts TWFAIL_O. -/
def handOverService (d : Dev) : Dev :=
  let d := (servedTx d).foldl (fun d e =>
    let q := d.twin.nextRec
    let b := TwinBody.pnReservation e.1 (sa e.1 d).nextPn
    emit (.twinRecord q b) { d with twin := { d.twin with
      unacked := d.twin.unacked ++ [(q, b)], nextRec := q + 1, ctrOut := d.twin.ctrOut + 1 } }) d
  let d := handoverDrop (stepDown d)
  { d with twin := { d.twin with role := 2 } }

/-! ### The TWIN command group (R422 to R427) -/

/-- R422. -/
def twinQuery (d : Dev) : Ans :=
  let t := d.twin
  .ok (le 1 (twinCode t.state) ++ le 1 t.role ++ le 1 (prm d).twinMode
    ++ le 1 (b2n t.serving + 2 * b2n t.failIn + 4 * b2n t.failOut + 8 * b2n (strapHigh d) + 16 * b2n t.mirrorTables
        + 32 * b2n (pairKey d).isSome)
    ++ le 8 t.peerSerial ++ le 4 t.peerVersion ++ le 1 t.recordVersion ++ zeros 3 ++ le 4 t.unprotected.length
    ++ le 8 (ofSigned 64 t.offset) ++ t.since.bytes ++ le 4 t.acked ++ zeros 16) d

def execTwinQuery (r : Request) (s : State) : Host.Outcome State Fault Refusal :=
  onMailbox { op := 0x0D01, len := 0 } (fun _ _ d => twinQuery d) r s

/-- R423. -/
def pairkeyInstall (c : Ctx) (d : Dev) : Ans :=
  let id := fld c.pl 4 4
  let blob := slice c.pl 8 64
  need (decide (fld c.pl 0 2 = 64 ∧ fld blob 1 1 = 5 ∧ fld blob 3 1 = 32)) .badField <|
  need (!keyLoadRunning 1023 d) .busy <|
  need (!idElsewhere id 1023 d) .badState <|
    let ld (h : Option Nat) : KeyLoad := ⟨h, c.mb, 1023, 0, 0, id, blob⟩
    if d.vault.queue.isEmpty then .run 1023 { d with vault := { d.vault with queue := [ld none] } }
    else .pend 100 1023 { d with vault := { d.vault with queue := d.vault.queue ++ [ld (some c.handle)] } }

def execTwinPairkeyInstall (r : Request) (s : State) : Host.Outcome State Fault Refusal :=
  onMailbox { op := 0x0D02, len := 72, auth := .always, held := true, vault := true, resv := z 2 2 }
    (fun c _ d => pairkeyInstall c d) r s

/-- R424. -/
def twinAttachCmd (c : Ctx) (d : Dev) : Ans :=
  need (canAttach d) .badState <|
    .replyPend 2000 0 d (fun d => startAttach 0
      { d with twin := { d.twin with handle := some c.handle, mirrorTables := bit (fld c.pl 0 1) 0 } })

def execTwinAttach (r : Request) (s : State) : Host.Outcome State Fault Refusal :=
  onMailbox { op := 0x0D03, len := 4, resv := fun p => onlyBits 0 1 1 p && z 1 3 p } (fun c _ d => twinAttachCmd c d) r s

/-- The answer where a command needs a twin that is not in the right state: NOT_PAIRED when none is attached. -/
def wrongTwin (d : Dev) : Status := match d.twin.state with | .unpaired => .notPaired | .solo => .notPaired | _ => .badState

/-- R425. -/
def twinDetachCmd (d : Dev) : Ans :=
  need (decide (d.twin.state = .paired)) (wrongTwin d) <| .ok [] (dissolve (heartbeat .unpaired d))

def execTwinDetach (r : Request) (s : State) : Host.Outcome State Fault Refusal :=
  onMailbox { op := 0x0D04, len := 0 } (fun _ _ d => twinDetachCmd d) r s

/-- R426. -/
def twinTakeoverCmd (c : Ctx) (d : Dev) : Ans :=
  match fld c.pl 0 1 with
  | 0 => need (decide (d.twin.state = .lost) && standsBy d) (wrongTwin d) <| .ok [] (takeover 2 d)
  | 1 => need (decide (d.twin.state = .paired) && d.twin.serving) (wrongTwin d) <| .ok [] (handOverService d)
  | _ => .ok [] (stepDown d)

def execTwinTakeover (r : Request) (s : State) : Host.Outcome State Fault Refusal :=
  onMailbox { op := 0x0D05, len := 4, resv := fun p => below 0 3 p && z 1 3 p } (fun c _ d => twinTakeoverCmd c d) r s

def execTwinCntRead (r : Request) (s : State) : Host.Outcome State Fault Refusal :=
  onMailbox { op := 0x0D06, len := 4, resv := onlyBits 0 4 1 }
    (fun c _ d => .ok (cntBytes .twin 0 10 d) (clearIf (clearFlag 0 c.pl) .twin 0 d)) r s

end Sys2Proof.Machine
end

