-- ==== Sys2Proof/Machine/Doorbell.lean ====
section
/-! DEFINITION. Sys2Proof/Machine/Doorbell.lean: a doorbell that a register write rings (R48): the request that stands in
the mailbox is taken; and the writes to BAR0 and configuration space as commands (R39, R40). -/
namespace Sys2Proof.Machine

/-- What a mailbox command's row does. -/
abbrev Meaning := Request → State → Host.Outcome State Fault Refusal

/-- R507: the commands of group 0x01. -/
def group01 : List (Nat × Meaning) :=
  [(0x0101, execSystemIdentity), (0x0102, execSystemPower), (0x0103, execSystemReset), (0x0104, execStartupSetSave),
   (0x0105, execSystemStartupQuery), (0x0106, execDebugEnable), (0x0107, execPkgCntRead), (0x01F0, execAuthChallenge)]

/-- R507: the commands of group 0x02. -/
def group02 : List (Nat × Meaning) :=
  [(0x0201, execConfigLoadShadow), (0x0202, execConfigQuery), (0x0203, execSwapSet), (0x0204, execConfigSwapCancel),
   (0x0205, execConfigWrite), (0x0206, execCalRead), (0x0207, execCfgCntRead)]

/-- R507: the commands of group 0x03. -/
def group03 : List (Nat × Meaning) :=
  [(0x0301, execPortQuery), (0x0302, execPortAdmin), (0x0303, execPortCntRead), (0x0304, execLaneQuery),
   (0x0305, execLaneEyeScan), (0x0306, execLaneEyeAbort)]

/-- R507: the commands of group 0x04. -/
def group04 : List (Nat × Meaning) :=
  [(0x0401, execSecyQuery), (0x0402, execSecyCntRead), (0x0403, execSecyPortEnable), (0x0404, execRxscCreate),
   (0x0405, execRxscDelete), (0x0406, execRxscQuery), (0x0407, execCportCntRead)]

/-- R507: the commands of group 0x05. -/
def group05 : List (Nat × Meaning) :=
  [(0x0501, execSaInstall), (0x0502, execSaQuery), (0x0503, execSaTxSwitch), (0x0504, execSaRetire),
   (0x0505, execSaBatchSwitch), (0x0506, execSaBatchCancel), (0x0507, execSaInstallBulk), (0x0508, execSaCntRead),
   (0x0509, execKeyCntRead), (0x050A, execMkaCaSet), (0x050B, execMkaCaQuery)]

/-- R507: the commands of group 0x06. -/
def group06 : List (Nat × Meaning) :=
  [(0x0601, execVaultStatus), (0x0602, execLcChange), (0x0603, execLcTakeOwnership), (0x0604, execOwnerRootRotate),
   (0x0605, execTamperClear), (0x0606, execVaultKeyInstall), (0x0607, execVaultKeyActivate), (0x0608, execVaultKeyDelete),
   (0x0609, execVaultKeyQuery), (0x060A, execLaJobStart), (0x060B, execLaJobAbort), (0x060C, execVaultRandom),
   (0x060D, execOtpRead), (0x060E, execVaultCntRead)]

/-- R507: the commands of group 0x07. -/
def group07 : List (Nat × Meaning) :=
  [(0x0701, execTableAdd), (0x0702, execTableDelete), (0x0703, execTableLookup), (0x0704, execTableFlush),
   (0x0705, execTableInfo), (0x0706, execTableUnpin), (0x0707, execClsCntRead)]

/-- R507: the commands of group 0x08. -/
def group08 : List (Nat × Meaning) :=
  [(0x0801, execQueueQuery), (0x0802, execShaperQuery), (0x0803, execMeterQuery), (0x0804, execPortSchedQuery),
   (0x0805, execQueCntRead), (0x0806, execQueueFlush)]

/-- R507: the commands of group 0x09. -/
def group09 : List (Nat × Meaning) :=
  [(0x0901, execFabricGroupSet), (0x0902, execFabricGroupQuery), (0x0903, execMirrorPlainEnable), (0x0904, execMirrorQuery),
   (0x0905, execFabricPortQuery), (0x0906, execFabCntRead), (0x0907, execBufStatus)]

/-- R507: the commands of group 0x0A. -/
def group0A : List (Nat × Meaning) :=
  [(0x0A01, execTimeQuery), (0x0A02, execTimeUnlock), (0x0A03, execTimeStep), (0x0A04, execTimeRate),
   (0x0A05, execTimeSlew), (0x0A06, execTimePulseSet), (0x0A07, execTimeCaptureSet), (0x0A08, execTimeCaptureRead),
   (0x0A09, execTimePtmRead), (0x0A0A, execTimeCntRead), (0x0A0B, execPtpTsRead), (0x0A0C, execPtpPortQuery),
   (0x0A0D, execPtpLinkDelaySet), (0x0A0E, execPtpInstanceQuery), (0x0A0F, execTsCntRead)]

/-- R507: the commands of group 0x0B. -/
def group0B : List (Nat × Meaning) :=
  [(0x0B01, execGateListInstall), (0x0B02, execGateListCancel), (0x0B03, execGateListRead), (0x0B04, execGateStatus),
   (0x0B05, execCdPeerSet), (0x0B06, execCdQuery), (0x0B07, execActionList), (0x0B08, execEggCntRead)]

/-- R507: the commands of group 0x0C. -/
def group0C : List (Nat × Meaning) :=
  [(0x0C01, execMemStatus), (0x0C02, execMemRegionRekey), (0x0C03, execMemRegionReturn), (0x0C04, execMemCntRead)]

/-- R507: the commands of group 0x0D. -/
def group0D : List (Nat × Meaning) :=
  [(0x0D01, execTwinQuery), (0x0D02, execTwinPairkeyInstall), (0x0D03, execTwinAttach), (0x0D04, execTwinDetach),
   (0x0D05, execTwinTakeover), (0x0D06, execTwinCntRead)]

/-- R507: the commands of group 0x0E. -/
def group0E : List (Nat × Meaning) :=
  [(0x0E01, execPerfConfig), (0x0E02, execPerfRead), (0x0E03, execPerfLatch), (0x0E04, execRecordRange),
   (0x0E05, execRecordRead), (0x0E06, execTempRead), (0x0E07, execDiagLoopback), (0x0E08, execDiagPrbs),
   (0x0E09, execObsCntRead)]

/-- R507: the commands of group 0x0F. -/
def group0F : List (Nat × Meaning) :=
  [(0x0F01, execFwQuery), (0x0F02, execFwImageWrite), (0x0F03, execFwImageVerify), (0x0F04, execFwActivate),
   (0x0F05, execFwCommit), (0x0F06, execFwRollbackAdvance)]

/-- R507: every mailbox command by its opcode. -/
def meanings : List (Nat × Meaning) :=
  group01 ++ group02 ++ group03 ++ group04 ++ group05 ++ group06 ++ group07 ++ group08 ++ group09 ++ group0A
    ++ group0B ++ group0C ++ group0D ++ group0E ++ group0F

/-- R45, R508: run the command of an opcode. -/
def runOpcode (op : Nat) : Meaning :=
  match meanings.find? (fun e => decide (e.1 = op)) with
  | some e => e.2
  | none => execReservedOpcode (BitVec.ofNat 16 op)

/-- R45: the request that stands in a mailbox's request half. -/
def storedRequest (m : Fin 16) (d : Dev) : Request :=
  let bs := slice (mailbox m.val d).req 0 4096
  { mb := m, flags := BitVec.ofNat 16 (fld bs 2 2), tag := BitVec.ofNat 32 (fld bs 4 4), length := BitVec.ofNat 32 (fld bs 8 4),
    sequence := BitVec.ofNat 32 (fld bs 12 4), target := BitVec.ofNat 32 (fld bs 16 4), reserved := BitVec.ofNat 96 (fld bs 20 12),
    body := bs.drop 32 }

/-- R48: a write to MB_DOORBELL: it is discarded and counted, or the device takes the request that stands in the mailbox. -/
def ringDoorbell (v : Nat) (s : State) : Host.Outcome State Fault Refusal :=
  if !hostReaches s.dev || doorbellBad v s.dev then onDev (hostAccess (doorbellBadWrite v)) s
  else
    let m : Fin 16 := ⟨v % 16, Nat.mod_lt v (by decide)⟩
    runOpcode (fld (mailbox m.val s.dev).req 0 2) (storedRequest m s.dev) s

def execDoorbellDiscard (value : BitVec 32) (s : State) : Host.Outcome State Fault Refusal := ringDoorbell value.toNat s

/-- R39, R40, R48: a write to a register. -/
def registerRow (place : RegPlace) (value : Nat) (s : State) : Host.Outcome State Fault Refusal :=
  match place with
  | .bar0 off size =>
    if off.toNat = 0x40 ∧ size = 4 then ringDoorbell (value % 2 ^ 32) s
    else onDev (hostAccess (registerWrite off.toNat size value)) s
  | .config f => onDev (configField f value) s

def execRegisterWrite (place : RegPlace) (value : BitVec 64) (s : State) : Host.Outcome State Fault Refusal :=
  registerRow place value.toNat s

end Sys2Proof.Machine
end

