-- ==== Sys2Proof/Machine/Package.lean ====
section
/-! DEFINITION. Sys2Proof/Machine/Package.lean: the package links (R30 to R37) and the beacons that discipline the
islands (R268, R269). -/
namespace Sys2Proof.Machine

/-! ### Sending (R30, R31) -/

/-- R31: open a block on a channel: the idle blocks since the last one have taken counter values, how many is open; it takes
the next. A tunnel block carries its content sealed (R33). -/
def openBlock (k : Nat) (toHub : Bool) (chan : Nat) (kind : FlitKind) (payload : Bytes) (d : Dev) : Dev :=
  let (v, d) := fresh d
  let l := pkgLink k d
  let x := linkDir toHub l
  let c := flitChan chan x
  let iv := (x.iv + v % (idleBlocks k x d + 1)) % 2 ^ 96
  let c := { c with block := blockFlits x.key iv kind chan c.seq payload, ivs := c.ivs ++ [iv] }
  setLink k (setDir toHub { x with iv := (iv + 1) % 2 ^ 96, blockAt := d.time.elapsed, chans := Map.put x.chans chan c } l) d

/-- R30, R31, R34, R37: a sender with a credit sends the next flit of the open block and keeps it for a replay. -/
def sendFlit (k : Nat) (toHub : Bool) (chan : Nat) (d : Dev) : Dev :=
  let c := chanOf k toHub chan d
  let w := c.block.getD c.inBlock []
  let d := setChanOf k toHub chan { c with
    credits := c.credits - 1, seq := (c.seq + 1) % 65536, inBlock := (c.inBlock + 1) % 4, sent := Map.put c.sent c.seq w } d
  emit (.flit k toHub chan c.seq w) (bump .pkg (pkgObj k toHub) 0 d)

/-- R30: send the next flit of a channel, opening a block of this kind and content where none is open. With no credit the
wait begins. -/
def flitSend (k : Nat) (toHub : Bool) (chan : Nat) (kind : FlitKind) (payload : Bytes) (d : Dev) : Dev :=
  if !linkUp k d || !hasChan k chan then d
  else
    let c := chanOf k toHub chan d
    if c.credits = 0 then noteStall k toHub chan d
    else sendFlit k toHub chan (if c.inBlock = 0 then openBlock k toHub chan kind payload d else d)

def execFlitSend (link : Fin 5) (toHub : Bool) (chan : Fin 4) (kind : FlitKind) (payload : Bytes) (s : State) :
    Host.Outcome State Fault Refusal :=
  onDev (flitSend link.val toHub chan.val kind payload) s

/-! ### RETRAIN and DOWN (R34, R35) -/

/-- R35: does a frame in the device come from an entry of the fabric and wait or leave on one of these dies? -/
def ofEntry (e : VoqEnt) (dies : List Nat) (f : Frame) : Bool :=
  e.started && decide (f.stored = e.stored) && dies.contains (if f.mirror.isSome then portDie f.dest else destDie f.dest)

/-- R34, R35: how many frames an entry loses toward these dies. -/
def lostFrames (e : VoqEnt) (dies : List Nat) (d : Dev) : Nat :=
  if e.started then ((allFrames d).filter (ofEntry e dies)).length
  else
    let copies := e.frames.filter (fun f => f.copy && dies.contains (destDie f.dest))
    if copies.isEmpty then 1 else copies.length

/-- R35: the frames of an entry lose their cells toward these dies: those not yet sent are dropped, those leaving stomped. -/
def cutEntry (e : VoqEnt) (dies : List Nat) (d : Dev) : Dev :=
  stompSending (fun s => ofEntry e dies s.frame) (keepFrames (fun f => !ofEntry e dies f) d)

/-- R35: entries of the fabric that cross a line-die link that has gone are dropped and counted. -/
def dropCross (k : Nat) (d : Dev) : Dev :=
  if 4 ≤ k then d
  else
    let gone (e : VoqEnt) : List Nat := if e.src = k then e.dsts else e.dsts.filter (fun x => decide (x = k))
    let hit := d.fab.voq.filter (fun e => !(gone e).isEmpty)
    let d := hit.foldl (fun d e => cutEntry e (gone e) (loseOn k (decide (e.src = k)) (lostFrames e (gone e) d) d)) d
    let voq := d.fab.voq.map (fun e => { e with dsts := e.dsts.filter (fun x => !(gone e).contains x)
                                                frames := e.frames.filter (fun f => !f.copy || !(gone e).contains (destDie f.dest)) })
    { d with fab := { d.fab with voq := voq.filter (fun e => !e.dsts.isEmpty) } }

/-- R34: a link leaves service. -/
def leaveLink (k : Nat) (st : LinkState) (d : Dev) : Dev :=
  let d := endStalls k d
  dropCross k (setLink k { pkgLink k d with state := st, replays := [] } d)

/-- R34, R41, R54, R462: a link is held off: a record, a notification, FAULT_CAUSE bit 1. -/
def linkOff (k cause : Nat) (d : Dev) : Dev :=
  let src := dieTarget (if k = 4 then 9 else k)
  let d := leaveLink k .down d
  setFault 1 (notifyRecord 0x41 src
    (le 1 k ++ le 1 cause ++ zeros 2 ++ le 4 (cntGet .pkg (pkgObj k true) 3 d)) d)

/-- R36: a link that fails its bring-up: the line die is absent, or start-up stops. -/
def bringUpFailed (k : Nat) (d : Dev) : Dev :=
  if !startingUp d then d
  else if k = 4 then { d with sys := { d.sys with stopped := true } }
  else { d with pkg := { d.pkg with present := if bit d.pkg.present k then d.pkg.present - 2 ^ k else d.pkg.present } }

/-- R34: a retrain attempt fails; the third in a row holds the link off. While the TRNG repeats its test the attempt waits
for keys, and a wait is no failure (R155). -/
def retrainFail (k : Nat) (d : Dev) : Dev :=
  let l := pkgLink k d
  if l.state ≠ .retrain ∨ d.vault.trng = 1 then d
  else if l.retrainFails + 1 < 3 then setLink k { l with retrainFails := l.retrainFails + 1 } d
  else bringUpFailed k (linkOff k 1 (setLink k { l with retrainFails := 3 } d))

def execLinkRetrainFail (link : Fin 5) (s : State) : Host.Outcome State Fault Refusal := onDev (retrainFail link.val) s

/-- R449: are the links of every die that takes part UP? -/
def allLinksUp (d : Dev) : Bool :=
  [0, 1, 2, 3, 4].all (fun k => decide (linkState k d = .up) || (decide (k < 4) && !diePresent k d && d.sys.bistDone))

/-- R32: the link secret of a die in OTP, in the order of link_secret (R140). -/
def linkSecret (o : Otp) (k : Nat) : Bytes := otpBytes o (0x300 + 32 * k) 32

/-- R32, R33: the vault draws fresh keys for a link, and for the key tunnel of a line die, and sends them wrapped under the
die's link secret; every counter starts at zero. -/
def keyLink (o : Otp) (k : Nat) (d : Dev) : Dev :=
  let (a, d) := freshBytes 32 d
  let (b, d) := freshBytes 32 d
  let (t, d) := if k < 4 then freshBytes 32 d else ([], d)
  let (u, d) := if k < 4 then freshBytes 32 d else ([], d)
  let x (key : Bytes) : LinkDir := ⟨key, 0, d.time.elapsed, []⟩
  emit (.linkKeys k (([a, b] ++ (if k < 4 then [t, u] else [])).map (kwpWrap (linkSecret o k))))
    (setLink k ⟨.up, [], 0, (pkgLink k d).authFails, x a, x b, t, u, 0, 0⟩ d)

/-- R32, R34, R155: training and keying complete: new keys, counters at zero, the link is UP. The bring-up of start-up is no
retrain. Without the TRNG the link waits for its keys, or, once the TRNG has FAILED, the attempt fails. -/
def retrainComplete (k : Nat) (o : Otp) (d : Dev) : Dev :=
  let l := pkgLink k d
  if l.state ≠ .retrain ∨ d.vault.trng = 1 then d
  else if d.vault.trng = 2 then retrainFail k d
  else
    let again := !l.toHub.key.isEmpty
    let d := keyLink o k d
    let d := if again then bump .pkg (pkgObj k true) 3 (bump .pkg (pkgObj k false) 3 d) else d
    if allLinksUp d then milestone 3 d else d

def execLinkRetrainComplete (link : Fin 5) (s : State) : Host.Outcome State Fault Refusal :=
  onOtp (retrainComplete link.val) s

/-! ### A flit arrives (R30, R31, R34) -/

/-- The place of a flit among the replays of a link. -/
def replayKey (toHub : Bool) (chan seq : Nat) : Nat := (2 * chan + b2n toHub) * 65536 + seq

/-- R34: the receiver asks for a replay by sequence number, and the sender sends the flit again from its replay buffer. -/
def askReplay (k : Nat) (toHub : Bool) (chan seq : Nat) (d : Dev) : Dev :=
  let d := emit (.replayRequest k toHub chan seq) (bump .pkg (pkgObj k toHub) 1 d)
  match Map.get? (chanOf k toHub chan d).sent seq with
  | some w => emit (.flit k toHub chan seq w) d
  | none => d

/-- R34: a CRC or protocol error of a flit. The 16th failed replay of one flit gives up: RETRAIN. -/
def flitError (k : Nat) (toHub : Bool) (chan seq lost : Nat) (d : Dev) : Dev :=
  let l := pkgLink k d
  let key := replayKey toHub chan seq
  match Map.get? l.replays key with
  | none => askReplay k toHub chan seq (setLink k { l with state := .retry, replays := Map.put l.replays key 0 } d)
  | some n =>
    if n + 1 < 16 then askReplay k toHub chan seq (setLink k { l with replays := Map.put l.replays key (n + 1) } d)
    else leaveLink k .retrain (bumpBy .pkg (pkgObj k toHub) 4 lost d)

/-- R34: the tag of a block does not match: the block is discarded; the third within 10 s holds the link off. -/
def tagMismatch (k : Nat) (toHub : Bool) (iv lost : Nat) (d : Dev) : Dev :=
  let l := pkgLink k d
  let recent := l.authFails.filter (fun t => decide (d.time.elapsed < t + ticksMs 10000))
  let d := setLink k { l with authFails := recent ++ [d.time.elapsed] } d
  let d := bump .pkg (pkgObj k toHub) 2 (bumpBy .pkg (pkgObj k toHub) 4 lost d)
  let d := record 0x110 (dieTarget (if k = 4 then 9 else k)) (le 1 k ++ le 12 iv) d
  if 2 ≤ recent.length then linkOff k 2 d else leaveLink k .retrain d

/-- R30, R37: the flit awaited is taken: its credit returns, which ends a wait for credit. -/
def takeCredit (k : Nat) (toHub : Bool) (chan : Nat) (w : Bytes) (d : Dev) : Dev :=
  let l := pkgLink k d
  let c := chanOf k toHub chan d
  let reps := Map.del l.replays (replayKey toHub chan c.expect)
  let d := match c.stalled with
    | some t => bumpBy .pkg (pkgObj k toHub) 5 (stallNs t d) d
    | none => d
  setChanOf k toHub chan { c with
      expect := (c.expect + 1) % 65536, credits := min 64 (c.credits + 1), stalled := none
      sent := Map.del c.sent c.expect, ahead := Map.del c.ahead c.expect, taken := c.taken ++ [w] }
    (setLink k { l with replays := reps, state := if reps.isEmpty then .up else .retry } d)

/-- R31, R34: with its fourth flit a block is complete and its tag is checked. -/
def closeBlock (k : Nat) (toHub : Bool) (chan lost : Nat) (d : Dev) : Dev :=
  let c := chanOf k toHub chan d
  if c.taken.length < 4 then d
  else
    let iv := c.ivs.headD 0
    let d := setChanOf k toHub chan { c with taken := [], ivs := c.ivs.drop 1 } d
    if blockAuthentic (linkDir toHub (pkgLink k d)).key iv c.taken then d else tagMismatch k toHub iv lost d

/-- R34: take a good flit that is next in order, and then those held behind it. -/
def flitGood (k : Nat) (toHub : Bool) (chan lost : Nat) : Nat → Bytes → Dev → Dev
  | 0, _, d => d
  | n + 1, w, d =>
    let d := closeBlock k toHub chan lost (takeCredit k toHub chan w d)
    if !linkUp k d then d
    else
      let c := chanOf k toHub chan d
      match Map.get? c.ahead c.expect with
      | some w => flitGood k toHub chan lost n w d
      | none => d

/-- R34: a sound flit behind the one awaited is held until that has come; its own replay has then succeeded. -/
def holdAhead (k : Nat) (toHub : Bool) (chan seq : Nat) (w : Bytes) (d : Dev) : Dev :=
  let l := pkgLink k d
  let c := chanOf k toHub chan d
  setChanOf k toHub chan { c with ahead := Map.put c.ahead seq w }
    (setLink k { l with replays := Map.del l.replays (replayKey toHub chan seq) } d)

/-- R30, R31, R34: flit `seq` of a channel arrives as `w`. The receiver takes flits in order, holds those behind one that is
to be replayed, and passes over one it has already taken. -/
def flitReceive (k : Nat) (toHub : Bool) (chan seq : Nat) (w : Bytes) (lost : Nat) (d : Dev) : Dev :=
  if !linkUp k d || !hasChan k chan then d
  else
    let c := chanOf k toHub chan d
    if 64 ≤ (seq + 65536 - c.expect) % 65536 ∨ Map.has c.ahead seq then d
    else if !flitSound w then flitError k toHub chan seq lost d
    else if c.expect = seq then flitGood k toHub chan lost 64 w d
    else
      let d := holdAhead k toHub chan seq w d
      if Map.has (pkgLink k d).replays (replayKey toHub chan c.expect) then d else flitError k toHub chan c.expect lost d

def execFlitReceive (link : Fin 5) (toHub : Bool) (chan : Fin 4) (seq : BitVec 16) (wire : Bytes)
    (framesLost : Nat) (s : State) : Host.Outcome State Fault Refusal :=
  onDev (flitReceive link.val toHub chan.val seq.toNat wire framesLost) s

/-! ### Beacons (R268, R269) -/

/-- R35, R268: can a beacon reach the island now? -/
def beaconReaches (k : Nat) (d : Dev) : Bool := islandRuns k d && (decide (16 ≤ k) || dieUp (k / 4) d)

/-- R268: the grand island sends a beacon to every island: t1. -/
def beaconSend (d : Dev) : Dev :=
  (List.range 18).foldl (fun d k =>
    if beaconReaches k d then setIsland k { island k d with t1 := some d.time.grand, t2 := none } d else d) d

def execBeaconSend (s : State) : Host.Outcome State Fault Refusal := onDev beaconSend s

/-- R268: the island notes t2 and replies at once, t3 = t2. -/
def beaconReceive (k : Nat) (d : Dev) : Dev :=
  let i := island k d
  if beaconReaches k d && i.t1.isSome then setIsland k { i with t2 := some i.count } d else d

def execBeaconReceive (i : Island) (s : State) : Host.Outcome State Fault Refusal := onDev (beaconReceive (islandNum i)) s

/-- R269: the INC40 an exchange leaves: open within 1,000 ppm of the device rate. -/
def nextInc (d : Dev) : Nat × Dev :=
  let base := (2 ^ 32 * (1024000000000 + d.time.rate) / 1024000000000).toNat
  let (v, d) := fresh d
  (base - 4294967 + v % 8589935, d)

/-- R269: ticks of an island over which an offset is removed: a beacon period, or for a rejoining island as many as
1,000 ppm takes. -/
def corrTicks (locked : Bool) (off : Int) : Nat := if locked then 1024 else max 1024 (ceilDiv (off.natAbs * 1000) (2 ^ 32))

/-- R268, R269: the reply arrives: t4. -/
def beaconReply (k : Nat) (o : Otp) (d : Dev) : Dev :=
  let i := island k d
  match i.t1, i.t2 with
  | some t1, some t2 =>
    if !beaconReaches k d then d
    else
      let t4 := d.time.grand
      let path := match calPoint o 0x10 k none (prm d) d with | some (f, u) => (calSum f u).1 | none => 0
      let clear := { i with t1 := none, t2 := none }
      if ((t4 - t1 : Nat) : Int) > (path + 4 * 65536) * 65536 then
        let d := setIsland k clear d
        if k < 16 then bump .pkg (pkgObj (k / 4) true) 6 d else d
      else
        let off : Int := ((t2 : Int) - t1 - ((t4 : Int) - t2)) / 2
        if !i.locked ∧ 1000000 * 2 ^ 32 < off.natAbs then
          setIsland k { clear with loadAt := some ((d.time.grand / (1000 * unitsPerNs) + 1) * (1000 * unitsPerNs)) } d
        else
          let (inc, d) := nextInc d
          setIsland k { clear with inc := inc, locked := i.locked || decide (off.natAbs ≤ 2 ^ 32)
                                   lastOk := d.time.elapsed, corr := -off, corrTicks := corrTicks i.locked off } d
  | _, _ => d

def execBeaconReplyReceive (i : Island) (s : State) : Host.Outcome State Fault Refusal :=
  onOtp (beaconReply (islandNum i)) s

/-- R269, R339: 1 ms without an accepted exchange: the island is unlocked, and the egg timer of its die suspended. -/
def islandUnlock (k : Nat) (d : Dev) : Dev :=
  let i := island k d
  if !i.locked then d
  else
    let d := waitTicks (i.lastOk + ticksMs 1) d
    let was := eggSuspended (k / 4) d
    let d := setIsland k { island k d with locked := false } d
    let d := record 0x121 deviceTarget (le 1 k ++ le 1 1) (bump .time 0 4 d)
    if k < 16 ∧ was = false then eggSuspend (k / 4) d else d

def execIslandUnlock (i : Island) (s : State) : Host.Outcome State Fault Refusal := onDev (islandUnlock (islandNum i)) s

/-- R269: the island loads hub time. -/
def islandHubLoad (k : Nat) (d : Dev) : Dev :=
  match (island k d).loadAt with
  | none => d
  | some g =>
    let d := waitUntil g d
    record 0x121 deviceTarget (le 1 k ++ le 1 2)
      (setIsland k { island k d with count := d.time.grand, corr := 0, corrTicks := 0, loadAt := none, lastOk := d.time.elapsed } d)

def execIslandHubLoad (i : Island) (s : State) : Host.Outcome State Fault Refusal := onDev (islandHubLoad (islandNum i)) s

end Sys2Proof.Machine
end

