-- ==== Sys2Proof/Machine/Dispatch.lean ====
section
/-! DEFINITION. Sys2Proof/Machine/Dispatch.lean: one arm per constructor of Instr. -/
namespace Sys2Proof.Machine

def exec (i : Instr) (s : State) : Host.Outcome State Fault Refusal :=
  match i with
  | .porstNAssert => Sys2Proof.Machine.execPorstNAssert s
  | .porstNRelease twrole hubOk vaultOk => Sys2Proof.Machine.execPorstNRelease twrole hubOk vaultOk s
  | .srstNAssert => Sys2Proof.Machine.execSrstNAssert s
  | .srstNRelease trngOk => Sys2Proof.Machine.execSrstNRelease trngOk s
  | .powerLoss standby => Sys2Proof.Machine.execPowerLoss standby s
  | .vstbyPowerOn => Sys2Proof.Machine.execVstbyPowerOn s
  | .pciePerst => Sys2Proof.Machine.execPciePerst s
  | .pcieLinkDown => Sys2Proof.Machine.execPcieLinkDown s
  | .functionLevelReset => Sys2Proof.Machine.execFunctionLevelReset s
  | .memoryBistComplete passed => Sys2Proof.Machine.execMemoryBistComplete passed s
  | .hubRomBoot => Sys2Proof.Machine.execHubRomBoot s
  | .stockpotTrainingComplete sp0 sp1 => Sys2Proof.Machine.execStockpotTrainingComplete sp0 sp1 s
  | .firmwareStart => Sys2Proof.Machine.execFirmwareStart s
  | .portEnableGraceExpiry p => Sys2Proof.Machine.execPortEnableGraceExpiry p s
  | .registerWrite place value => Sys2Proof.Machine.execRegisterWrite place value s
  | .mailboxRequestWrite off data => Sys2Proof.Machine.execMailboxRequestWrite off data s
  | .mbDoneClear mask => Sys2Proof.Machine.execMbDoneClear mask s
  | .faultCauseClear mask => Sys2Proof.Machine.execFaultCauseClear mask s
  | .fwRestartRequest value => Sys2Proof.Machine.execFwRestartRequest value s
  | .tsnapTrigger value => Sys2Proof.Machine.execTsnapTrigger value s
  | .nrEnable value => Sys2Proof.Machine.execNrEnable value s
  | .nrHeadWrite value => Sys2Proof.Machine.execNrHeadWrite value s
  | .ringOverflow => Sys2Proof.Machine.execRingOverflow s
  | .hostifCntLowRead index => Sys2Proof.Machine.execHostifCntLowRead index s
  | .windowDataWrite die aperture entry off data => Sys2Proof.Machine.execWindowDataWrite die aperture entry off data s
  | .windowCommit die aperture entry ctl => Sys2Proof.Machine.execWindowCommit die aperture entry ctl s
  | .windowControlWrite die aperture entry ctl => Sys2Proof.Machine.execWindowControlWrite die aperture entry ctl s
  | .windowReadSnapshot die aperture entry off => Sys2Proof.Machine.execWindowReadSnapshot die aperture entry off s
  | .dmaEnable ch value => Sys2Proof.Machine.execDmaEnable ch value s
  | .dmaReset ch value => Sys2Proof.Machine.execDmaReset ch value s
  | .dmaRingPost ch value => Sys2Proof.Machine.execDmaRingPost ch value s
  | .dmaDescriptorStart ch desc => Sys2Proof.Machine.execDmaDescriptorStart ch desc s
  | .dmaDescriptorDone ch data error => Sys2Proof.Machine.execDmaDescriptorDone ch data error s
  | .fwAliveTick => Sys2Proof.Machine.execFwAliveTick s
  | .watchdogExpiry => Sys2Proof.Machine.execWatchdogExpiry s
  | .fwRestartComplete => Sys2Proof.Machine.execFwRestartComplete s
  | .authLockoutEnd => Sys2Proof.Machine.execAuthLockoutEnd s
  | .systemIdentity r => Sys2Proof.Machine.execSystemIdentity r s
  | .systemPower r => Sys2Proof.Machine.execSystemPower r s
  | .sleepEntryComplete => Sys2Proof.Machine.execSleepEntryComplete s
  | .wakeComplete => Sys2Proof.Machine.execWakeComplete s
  | .systemReset r => Sys2Proof.Machine.execSystemReset r s
  | .systemResetFire trngOk => Sys2Proof.Machine.execSystemResetFire trngOk s
  | .startupSetSave r => Sys2Proof.Machine.execStartupSetSave r s
  | .startupSetSaveComplete => Sys2Proof.Machine.execStartupSetSaveComplete s
  | .systemStartupQuery r => Sys2Proof.Machine.execSystemStartupQuery r s
  | .debugEnable r => Sys2Proof.Machine.execDebugEnable r s
  | .pkgCntRead r => Sys2Proof.Machine.execPkgCntRead r s
  | .authChallenge r => Sys2Proof.Machine.execAuthChallenge r s
  | .flitSend link toHub chan kind payload => Sys2Proof.Machine.execFlitSend link toHub chan kind payload s
  | .flitReceive link toHub chan seq wire framesLost => Sys2Proof.Machine.execFlitReceive link toHub chan seq wire framesLost s
  | .linkRetrainComplete link => Sys2Proof.Machine.execLinkRetrainComplete link s
  | .linkRetrainFail link => Sys2Proof.Machine.execLinkRetrainFail link s
  | .beaconSend => Sys2Proof.Machine.execBeaconSend s
  | .beaconReceive island => Sys2Proof.Machine.execBeaconReceive island s
  | .beaconReplyReceive island => Sys2Proof.Machine.execBeaconReplyReceive island s
  | .islandUnlock island => Sys2Proof.Machine.execIslandUnlock island s
  | .islandHubLoad island => Sys2Proof.Machine.execIslandHubLoad island s
  | .configLoadShadow r => Sys2Proof.Machine.execConfigLoadShadow r s
  | .configLoadComplete => Sys2Proof.Machine.execConfigLoadComplete s
  | .configQuery r => Sys2Proof.Machine.execConfigQuery r s
  | .swapSet r => Sys2Proof.Machine.execSwapSet r s
  | .configSwapCancel r => Sys2Proof.Machine.execConfigSwapCancel r s
  | .configSwapInstant => Sys2Proof.Machine.execConfigSwapInstant s
  | .swapDrainEnd => Sys2Proof.Machine.execSwapDrainEnd s
  | .swapDrainTimeout => Sys2Proof.Machine.execSwapDrainTimeout s
  | .configWrite r => Sys2Proof.Machine.execConfigWrite r s
  | .calRead r => Sys2Proof.Machine.execCalRead r s
  | .cfgCntRead r => Sys2Proof.Machine.execCfgCntRead r s
  | .frameReceive rx => Sys2Proof.Machine.execFrameReceive rx s
  | .frameInject inj => Sys2Proof.Machine.execFrameInject inj s
  | .whiskMatch => Sys2Proof.Machine.execWhiskMatch s
  | .fabricFrameArrival die => Sys2Proof.Machine.execFabricFrameArrival die s
  | .residueEnqueue die => Sys2Proof.Machine.execResidueEnqueue die s
  | .residueLifetimeExpiry die => Sys2Proof.Machine.execResidueLifetimeExpiry die s
  | .portTransmitSelect p => Sys2Proof.Machine.execPortTransmitSelect p s
  | .frameTxEnd p fault => Sys2Proof.Machine.execFrameTxEnd p fault s
  | .spillReadback die queue => Sys2Proof.Machine.execSpillReadback die queue s
  | .stockpotBlockWrite => Sys2Proof.Machine.execStockpotBlockWrite s
  | .stockpotVerifyComplete block outcome => Sys2Proof.Machine.execStockpotVerifyComplete block outcome s
  | .regionRebuild region => Sys2Proof.Machine.execRegionRebuild region s
  | .regionRebuildComplete region passed => Sys2Proof.Machine.execRegionRebuildComplete region passed s
  | .rekeyTrigger region => Sys2Proof.Machine.execRekeyTrigger region s
  | .rekeyStart => Sys2Proof.Machine.execRekeyStart s
  | .rekeyComplete => Sys2Proof.Machine.execRekeyComplete s
  | .memStatus r => Sys2Proof.Machine.execMemStatus r s
  | .memRegionRekey r => Sys2Proof.Machine.execMemRegionRekey r s
  | .memRegionReturn r => Sys2Proof.Machine.execMemRegionReturn r s
  | .memCntRead r => Sys2Proof.Machine.execMemCntRead r s
  | .secyQuery r => Sys2Proof.Machine.execSecyQuery r s
  | .secyCntRead r => Sys2Proof.Machine.execSecyCntRead r s
  | .secyPortEnable r => Sys2Proof.Machine.execSecyPortEnable r s
  | .rxscCreate r => Sys2Proof.Machine.execRxscCreate r s
  | .rxscDelete r => Sys2Proof.Machine.execRxscDelete r s
  | .rxscQuery r => Sys2Proof.Machine.execRxscQuery r s
  | .cportCntRead r => Sys2Proof.Machine.execCportCntRead r s
  | .mkaFrameProcess => Sys2Proof.Machine.execMkaFrameProcess s
  | .mkaHelloSend die secy => Sys2Proof.Machine.execMkaHelloSend die secy s
  | .mkaPeerTimeout die secy => Sys2Proof.Machine.execMkaPeerTimeout die secy s
  | .saInstall r => Sys2Proof.Machine.execSaInstall r s
  | .saInstallBulk r => Sys2Proof.Machine.execSaInstallBulk r s
  | .saKeyLoad dieCheckOk => Sys2Proof.Machine.execSaKeyLoad dieCheckOk s
  | .saTxSwitch r => Sys2Proof.Machine.execSaTxSwitch r s
  | .saTxSwitchInstant die secy => Sys2Proof.Machine.execSaTxSwitchInstant die secy s
  | .saBatchSwitch r => Sys2Proof.Machine.execSaBatchSwitch r s
  | .saBatchInstant handle => Sys2Proof.Machine.execSaBatchInstant handle s
  | .saBatchCancel r => Sys2Proof.Machine.execSaBatchCancel r s
  | .saRetire r => Sys2Proof.Machine.execSaRetire r s
  | .saQuery r => Sys2Proof.Machine.execSaQuery r s
  | .saCntRead r => Sys2Proof.Machine.execSaCntRead r s
  | .keyCntRead r => Sys2Proof.Machine.execKeyCntRead r s
  | .mkaCaSet r => Sys2Proof.Machine.execMkaCaSet r s
  | .mkaCaLoad => Sys2Proof.Machine.execMkaCaLoad s
  | .mkaCaQuery r => Sys2Proof.Machine.execMkaCaQuery r s
  | .rxRetireTimerExpiry sa => Sys2Proof.Machine.execRxRetireTimerExpiry sa s
  | .saDrained sa => Sys2Proof.Machine.execSaDrained sa s
  | .saDrainLimitExpiry sa => Sys2Proof.Machine.execSaDrainLimitExpiry sa s
  | .switchGraceExpiry die secy => Sys2Proof.Machine.execSwitchGraceExpiry die secy s
  | .tamperLoopSample loop0 loop1 mesh => Sys2Proof.Machine.execTamperLoopSample loop0 loop1 mesh s
  | .supplyMonitorEvent high dipNs => Sys2Proof.Machine.execSupplyMonitorEvent high dipNs s
  | .clockMonitorEvent die => Sys2Proof.Machine.execClockMonitorEvent die s
  | .tempSensorReading raw => Sys2Proof.Machine.execTempSensorReading raw s
  | .trngHealthFail => Sys2Proof.Machine.execTrngHealthFail s
  | .trngRetest passed => Sys2Proof.Machine.execTrngRetest passed s
  | .drbgReseed => Sys2Proof.Machine.execDrbgReseed s
  | .vaultStatus r => Sys2Proof.Machine.execVaultStatus r s
  | .lcChange r => Sys2Proof.Machine.execLcChange r s
  | .lcTakeOwnership r => Sys2Proof.Machine.execLcTakeOwnership r s
  | .ownerRootRotate r => Sys2Proof.Machine.execOwnerRootRotate r s
  | .tamperClear r => Sys2Proof.Machine.execTamperClear r s
  | .vaultKeyInstall r => Sys2Proof.Machine.execVaultKeyInstall r s
  | .vaultKeyLoad => Sys2Proof.Machine.execVaultKeyLoad s
  | .vaultKeyActivate r => Sys2Proof.Machine.execVaultKeyActivate r s
  | .vaultKeyDelete r => Sys2Proof.Machine.execVaultKeyDelete r s
  | .vaultKeyQuery r => Sys2Proof.Machine.execVaultKeyQuery r s
  | .keyActivationInstant slot => Sys2Proof.Machine.execKeyActivationInstant slot s
  | .laJobStart r => Sys2Proof.Machine.execLaJobStart r s
  | .laJobAbort r => Sys2Proof.Machine.execLaJobAbort r s
  | .laJobComplete job => Sys2Proof.Machine.execLaJobComplete job s
  | .laJobIdleTimeout job => Sys2Proof.Machine.execLaJobIdleTimeout job s
  | .nonceCeilingCommit => Sys2Proof.Machine.execNonceCeilingCommit s
  | .vaultRandom r => Sys2Proof.Machine.execVaultRandom r s
  | .otpRead r => Sys2Proof.Machine.execOtpRead r s
  | .vaultCntRead r => Sys2Proof.Machine.execVaultCntRead r s
  | .learnInsert die => Sys2Proof.Machine.execLearnInsert die s
  | .stashDrain die => Sys2Proof.Machine.execStashDrain die s
  | .prefixWriteApply die => Sys2Proof.Machine.execPrefixWriteApply die s
  | .agingSweep die => Sys2Proof.Machine.execAgingSweep die s
  | .sweeperClamp die => Sys2Proof.Machine.execSweeperClamp die s
  | .pinExpiry die => Sys2Proof.Machine.execPinExpiry die s
  | .learnTimeRebase => Sys2Proof.Machine.execLearnTimeRebase s
  | .unifyPropagate die => Sys2Proof.Machine.execUnifyPropagate die s
  | .unifyResync => Sys2Proof.Machine.execUnifyResync s
  | .tableAdd r => Sys2Proof.Machine.execTableAdd r s
  | .tableDelete r => Sys2Proof.Machine.execTableDelete r s
  | .tableLookup r => Sys2Proof.Machine.execTableLookup r s
  | .tableFlush r => Sys2Proof.Machine.execTableFlush r s
  | .tableFlushComplete handle => Sys2Proof.Machine.execTableFlushComplete handle s
  | .tableInfo r => Sys2Proof.Machine.execTableInfo r s
  | .tableUnpin r => Sys2Proof.Machine.execTableUnpin r s
  | .clsCntRead r => Sys2Proof.Machine.execClsCntRead r s
  | .fabricGroupSet r => Sys2Proof.Machine.execFabricGroupSet r s
  | .fabricGroupQuery r => Sys2Proof.Machine.execFabricGroupQuery r s
  | .fabricPortQuery r => Sys2Proof.Machine.execFabricPortQuery r s
  | .mirrorPlainEnable r => Sys2Proof.Machine.execMirrorPlainEnable r s
  | .mirrorQuery r => Sys2Proof.Machine.execMirrorQuery r s
  | .fabCntRead r => Sys2Proof.Machine.execFabCntRead r s
  | .bufStatus r => Sys2Proof.Machine.execBufStatus r s
  | .bucketRefill die => Sys2Proof.Machine.execBucketRefill die s
  | .sfqIdleSweep die => Sys2Proof.Machine.execSfqIdleSweep die s
  | .queueQuery r => Sys2Proof.Machine.execQueueQuery r s
  | .shaperQuery r => Sys2Proof.Machine.execShaperQuery r s
  | .meterQuery r => Sys2Proof.Machine.execMeterQuery r s
  | .portSchedQuery r => Sys2Proof.Machine.execPortSchedQuery r s
  | .queCntRead r => Sys2Proof.Machine.execQueCntRead r s
  | .queueFlush r => Sys2Proof.Machine.execQueueFlush r s
  | .queueFlushComplete handle => Sys2Proof.Machine.execQueueFlushComplete handle s
  | .ppsinEdge => Sys2Proof.Machine.execPpsinEdge s
  | .todMessage msg => Sys2Proof.Machine.execTodMessage msg s
  | .todOutput => Sys2Proof.Machine.execTodOutput s
  | .ppsMissing => Sys2Proof.Machine.execPpsMissing s
  | .tref10Loss => Sys2Proof.Machine.execTref10Loss s
  | .tref10RateWindow edges => Sys2Proof.Machine.execTref10RateWindow edges s
  | .acquireEntry => Sys2Proof.Machine.execAcquireEntry s
  | .acquireTimeout => Sys2Proof.Machine.execAcquireTimeout s
  | .timeStepInstant => Sys2Proof.Machine.execTimeStepInstant s
  | .sourceLossTimeout => Sys2Proof.Machine.execSourceLossTimeout s
  | .pulseEdge pin => Sys2Proof.Machine.execPulseEdge pin s
  | .tciEdge pin rising => Sys2Proof.Machine.execTciEdge pin rising s
  | .timeQuery r => Sys2Proof.Machine.execTimeQuery r s
  | .timeUnlock r => Sys2Proof.Machine.execTimeUnlock r s
  | .timeStep r => Sys2Proof.Machine.execTimeStep r s
  | .timeRate r => Sys2Proof.Machine.execTimeRate r s
  | .timeSlew r => Sys2Proof.Machine.execTimeSlew r s
  | .timePulseSet r => Sys2Proof.Machine.execTimePulseSet r s
  | .timeCaptureSet r => Sys2Proof.Machine.execTimeCaptureSet r s
  | .timeCaptureRead r => Sys2Proof.Machine.execTimeCaptureRead r s
  | .timePtmRead r => Sys2Proof.Machine.execTimePtmRead r s
  | .timeCntRead r => Sys2Proof.Machine.execTimeCntRead r s
  | .ptpMessageProcess => Sys2Proof.Machine.execPtpMessageProcess s
  | .ptpSyncSend inst p => Sys2Proof.Machine.execPtpSyncSend inst p s
  | .ptpAnnounceSend inst p => Sys2Proof.Machine.execPtpAnnounceSend inst p s
  | .ptpPdelayReqSend p => Sys2Proof.Machine.execPtpPdelayReqSend p s
  | .announceReceiptTimeout inst => Sys2Proof.Machine.execAnnounceReceiptTimeout inst s
  | .ptpTsRead r => Sys2Proof.Machine.execPtpTsRead r s
  | .ptpPortQuery r => Sys2Proof.Machine.execPtpPortQuery r s
  | .ptpLinkDelaySet r => Sys2Proof.Machine.execPtpLinkDelaySet r s
  | .ptpInstanceQuery r => Sys2Proof.Machine.execPtpInstanceQuery r s
  | .tsCntRead r => Sys2Proof.Machine.execTsCntRead r s
  | .gateListInstall r => Sys2Proof.Machine.execGateListInstall r s
  | .gateConfigChangeInstant p => Sys2Proof.Machine.execGateConfigChangeInstant p s
  | .gateEvent p => Sys2Proof.Machine.execGateEvent p s
  | .gateListRestart p => Sys2Proof.Machine.execGateListRestart p s
  | .gateListCancel r => Sys2Proof.Machine.execGateListCancel r s
  | .gateListRead r => Sys2Proof.Machine.execGateListRead r s
  | .gateStatus r => Sys2Proof.Machine.execGateStatus r s
  | .eggReadback die => Sys2Proof.Machine.execEggReadback die s
  | .eggRelease die => Sys2Proof.Machine.execEggRelease die s
  | .cdPeerSet r => Sys2Proof.Machine.execCdPeerSet r s
  | .cdQuery r => Sys2Proof.Machine.execCdQuery r s
  | .actionList r => Sys2Proof.Machine.execActionList r s
  | .eggCntRead r => Sys2Proof.Machine.execEggCntRead r s
  | .trainingFrameReceive lane req trained => Sys2Proof.Machine.execTrainingFrameReceive lane req trained s
  | .portAnComplete p ability agreed => Sys2Proof.Machine.execPortAnComplete p ability agreed s
  | .portTrainingComplete p => Sys2Proof.Machine.execPortTrainingComplete p s
  | .portTrainingTimeout p => Sys2Proof.Machine.execPortTrainingTimeout p s
  | .portAligned p => Sys2Proof.Machine.execPortAligned p s
  | .portAlignTimeout p => Sys2Proof.Machine.execPortAlignTimeout p s
  | .remoteFaultReceived p => Sys2Proof.Machine.execRemoteFaultReceived p s
  | .remoteFaultCleared p => Sys2Proof.Machine.execRemoteFaultCleared p s
  | .linkSignalLoss p cause => Sys2Proof.Machine.execLinkSignalLoss p cause s
  | .linkSignalRestored p => Sys2Proof.Machine.execLinkSignalRestored p s
  | .linkDownHoldExpiry p => Sys2Proof.Machine.execLinkDownHoldExpiry p s
  | .partnerAnRestart p => Sys2Proof.Machine.execPartnerAnRestart p s
  | .adaptWindow lane w => Sys2Proof.Machine.execAdaptWindow lane w s
  | .twinTrainingSetReceive lane set => Sys2Proof.Machine.execTwinTrainingSetReceive lane set s
  | .twinLaneTrainTimeout lane => Sys2Proof.Machine.execTwinLaneTrainTimeout lane s
  | .eyeScanPoint lane errors => Sys2Proof.Machine.execEyeScanPoint lane errors s
  | .portQuery r => Sys2Proof.Machine.execPortQuery r s
  | .portAdmin r => Sys2Proof.Machine.execPortAdmin r s
  | .portCntRead r => Sys2Proof.Machine.execPortCntRead r s
  | .laneQuery r => Sys2Proof.Machine.execLaneQuery r s
  | .laneEyeScan r => Sys2Proof.Machine.execLaneEyeScan r s
  | .laneEyeAbort r => Sys2Proof.Machine.execLaneEyeAbort r s
  | .twinAutoAttach => Sys2Proof.Machine.execTwinAutoAttach s
  | .twinHello msg => Sys2Proof.Machine.execTwinHello msg s
  | .twinHandshakeMac mac => Sys2Proof.Machine.execTwinHandshakeMac mac s
  | .twinHandshakeTimeout => Sys2Proof.Machine.execTwinHandshakeTimeout s
  | .twinRecordSend => Sys2Proof.Machine.execTwinRecordSend s
  | .twinRecordReceive rec => Sys2Proof.Machine.execTwinRecordReceive rec s
  | .twinRecordAck seq => Sys2Proof.Machine.execTwinRecordAck seq s
  | .twinRxStateSend => Sys2Proof.Machine.execTwinRxStateSend s
  | .yoyoSend => Sys2Proof.Machine.execYoyoSend s
  | .yoyoReceive msg => Sys2Proof.Machine.execYoyoReceive msg s
  | .heartbeatMiss => Sys2Proof.Machine.execHeartbeatMiss s
  | .twinLostTimeout => Sys2Proof.Machine.execTwinLostTimeout s
  | .twinTimeExchange offset excess => Sys2Proof.Machine.execTwinTimeExchange offset excess s
  | .twfailITakeover => Sys2Proof.Machine.execTwfailITakeover s
  | .twinQuery r => Sys2Proof.Machine.execTwinQuery r s
  | .twinPairkeyInstall r => Sys2Proof.Machine.execTwinPairkeyInstall r s
  | .twinAttach r => Sys2Proof.Machine.execTwinAttach r s
  | .twinDetach r => Sys2Proof.Machine.execTwinDetach r s
  | .twinTakeover r => Sys2Proof.Machine.execTwinTakeover r s
  | .twinCntRead r => Sys2Proof.Machine.execTwinCntRead r s
  | .recordWrite => Sys2Proof.Machine.execRecordWrite s
  | .recordsSuppressed => Sys2Proof.Machine.execRecordsSuppressed s
  | .hoursCommit => Sys2Proof.Machine.execHoursCommit s
  | .perfConfig r => Sys2Proof.Machine.execPerfConfig r s
  | .perfRead r => Sys2Proof.Machine.execPerfRead r s
  | .perfLatch r => Sys2Proof.Machine.execPerfLatch r s
  | .recordRange r => Sys2Proof.Machine.execRecordRange r s
  | .recordRead r => Sys2Proof.Machine.execRecordRead r s
  | .tempRead r => Sys2Proof.Machine.execTempRead r s
  | .diagLoopback r => Sys2Proof.Machine.execDiagLoopback r s
  | .diagPrbs r => Sys2Proof.Machine.execDiagPrbs r s
  | .obsCntRead r => Sys2Proof.Machine.execObsCntRead r s
  | .fwQuery r => Sys2Proof.Machine.execFwQuery r s
  | .fwImageWrite r => Sys2Proof.Machine.execFwImageWrite r s
  | .fwImageWriteComplete => Sys2Proof.Machine.execFwImageWriteComplete s
  | .fwImageVerify r => Sys2Proof.Machine.execFwImageVerify r s
  | .fwImageVerifyComplete => Sys2Proof.Machine.execFwImageVerifyComplete s
  | .fwActivate r => Sys2Proof.Machine.execFwActivate r s
  | .fwCommit r => Sys2Proof.Machine.execFwCommit r s
  | .fwRollbackAdvance r => Sys2Proof.Machine.execFwRollbackAdvance r s
  | .firmwareFault => Sys2Proof.Machine.execFirmwareFault s
  | .doorbellDiscard value => Sys2Proof.Machine.execDoorbellDiscard value s
  | .reservedOpcode opcode r => Sys2Proof.Machine.execReservedOpcode opcode r s
  | .ptpDelayReqSend inst p => Sys2Proof.Machine.execPtpDelayReqSend inst p s
  | .tref10Return => Sys2Proof.Machine.execTref10Return s
  | .prbsLock lane => Sys2Proof.Machine.execPrbsLock lane s
  | .prbsLockLoss lane errors => Sys2Proof.Machine.execPrbsLockLoss lane errors s

end Sys2Proof.Machine
end

