-- ==== Sys2Proof/Machine/Step.lean ====
section
/-! DEFINITION. Sys2Proof/Machine/Step.lean: the command at the front of the queue, or one tick of the grand island. -/
namespace Sys2Proof.Machine

/-- The command that a word spells goes to the front of the queue. -/
def State.withFetchWord (s : State) (nbits w : Nat) : State :=
  match decodeTableWord nbits w with
  | some c => { s with pending := c :: s.pending }
  | none => s

/-- With no command waiting, one tick of the grand island passes (0.8 ns, R141): DESIGN CHOICE, log entry 1. -/
def idle (s : State) : State := { s with dev := elapse 1 { s.dev with out := [] } }

/-- The command at the front of the queue acts on the state with the queue's rest. -/
def step (s : State) : Host.Outcome State Fault Refusal :=
  match s.pending with
  | [] => .next (idle s)
  | c :: rest => exec c { s with pending := rest }

end Sys2Proof.Machine
end

