-- ==== Sys2Proof/Safety.lean ====
section
/-! DEFINITION. Sys2Proof/Safety.lean: what the statements about the block are said in: the forms its memories keep,
what one-time memory may do, and when a request is taken. -/
namespace Sys2Proof.Machine

/-- The canonical form of a sparse memory: addresses strictly rising, no entry that reads as an unlisted byte does. -/
def cellsOk (dflt : Byte) : List (Nat × Byte) → Bool
  | [] => true
  | [(_, b)] => b != dflt
  | (a, b) :: (c, x) :: m => b != dflt && decide (a < c) && cellsOk dflt ((c, x) :: m)

/-- The staging area, the boot flash and the record memory are in canonical form. -/
def Memory.wf (s : State) : Bool :=
  cellsOk 0 s.dev.host.staging && cellsOk flashErased s.dev.sys.flash && cellsOk 0 s.dev.obs.ring

/-- R140: every programmed bit of `o` is programmed in `o'`. -/
def Otp.kept (o o' : Otp) : Prop := ∀ a i, bit (otpByte o a) i = true → bit (otpByte o' a) i = true

/-- R48, R49, R509: the device takes the request as a new command with what the command index (R507) says of it, and
nothing common to all commands refuses it: no reset, power state of the PCIe function (R39) or firmware restart holds it up, the mailbox is free, the sequence is a
new one, length, header, life-cycle state, target, reserved fields, links and power are in order, and no pair of twins
sends it to the other twin (R24, R35, R407, R440). Authorization stands apart, in `Taken` and `Granted`. -/
structure Asked (c : CmdInfo) (r : Request) (t : Target) (s : State) : Prop where
  porst : s.dev.sys.porst = true
  srst : s.dev.sys.srst = true
  rom : s.dev.sys.romDone = true
  d0 : s.dev.host.pci.d3hot = false
  ready : s.dev.host.fwReady = true
  free : (mailbox r.mb.val s.dev).busy = false
  fresh : ((mailbox r.mb.val s.dev).stored.all (fun x => decide (x.1 ≠ r.sequence.toNat))) = true
  length : r.length.toNat = c.len
  flags : r.flags.toNat < 4
  reserved : r.reserved.toNat = 0
  life : c.held = true → s.dev.vault.lc ≠ 3 ∧ s.dev.vault.lc ≠ 4
  aimed : readTarget c.scopes r.target.toNat s.dev = .ok t
  awake : (t.needsAwake || c.awake) = true → awake s.dev = true
  vault : c.vault = true → vaultUp s.dev = true
  alone : c.shared t (payload r) s.dev = false
  resv : c.resv (payload r) = true

/-- The device takes the request, which needs no authorization. -/
structure Taken (c : CmdInfo) (r : Request) (t : Target) (s : State) : Prop where
  asked : Asked c r t s
  plain : needsAuth c r = false

/-- R56 to R59, R146: the device takes the request, which needs authorization and has it: a trailer whose token is right
under a challenge still in force on the mailbox, no lockout, and a command that the token key of the state may authorize. -/
structure Granted (c : CmdInfo) (r : Request) (t : Target) (s : State) : Prop where
  asked : Asked c r t s
  needs : needsAuth c r = true
  trailer : bit r.flags.toNat 0 = true
  open_ : lockedOut s.dev = false
  allowed : authAllowed s.dev.vault.lc c.op (payload r) = true
  token : ((liveChallenge r.mb.val s.dev).any (fun ch => tokenOk c.op r ch s.dev)) = true

/-- The state a command acts on: nothing sent yet, MB_BUSY set, the request copied (R48). -/
def taken (op : Nat) (r : Request) (s : State) : Dev := takeRequest op r { s.dev with out := [] }

/-- The state an authorized command acts on: the challenge is consumed and the count of failures restarts (R57, R59). -/
def granted (op : Nat) (r : Request) (s : State) : Dev :=
  let d := setMailbox r.mb.val { mailbox r.mb.val (taken op r s) with challenge := none } (taken op r s)
  { d with host := { d.host with authFails := 0, lockout := none } }

/-- The state with everything but the queue and one-time memory replaced. -/
def State.withDev (s : State) (d : Dev) : State := { s with dev := d }

/-- R47, R48: the next state of a command that completes at once with a status and a payload, having made `d` of the
state it acted on. -/
def answered (op : Nat) (r : Request) (st : Status) (pl : Bytes) (d : Dev) (s : State) : State :=
  s.withDev (respond (replyOf op r) st pl d)

/-- R52: the device after a command that answers PENDING with a bound in ms, naming the object it acts on, having made `d`
of the state it acted on: the operation is entered under the next handle and the response written. -/
def opened (op bound object : Nat) (r : Request) (d : Dev) (s : State) : Dev :=
  respond (replyOf op r) .pending (le 4 s.dev.host.nextHandle ++ le 4 bound)
    { d with host := { d.host with
      pend := d.host.pend ++
        [⟨s.dev.host.nextHandle, r.mb.val, r.tag.toNat, op, object, r.target.toNat,
          s.dev.time.elapsed + 1250000 * bound⟩]
      nextHandle := s.dev.host.nextHandle % (2 ^ 32 - 1) + 1 } }

/-- R52: the next state of such a command; with 64 operations pending it completes with BUSY and without effect. -/
def pended (op bound object : Nat) (r : Request) (d : Dev) (s : State) : State :=
  if 64 ≤ s.dev.host.pend.length then answered op r .busy [] (taken op r s) s else s.withDev (opened op bound object r d s)

/-- R48: the next state of a command that keeps its mailbox busy until its effect. -/
def running (op object : Nat) (r : Request) (d : Dev) (s : State) : State :=
  s.withDev (conclude op (replyOf op r) (.run object d) (taken op r s))

end Sys2Proof.Machine
end

