-- ==== Sys2Proof/Certificates/Slice0/Obligations.lean ====
section
/-! DEFINITION. The statements about the block, for the provers: what its commands answer, what its events do, what each
leaves as it was, and what holds in every step. -/
open Sys2Proof Sys2Proof.Machine

/-- The block takes its commands first in, first out: a step runs the command at the front of the queue on the state
with the queue's rest. -/
def Obligations.StepRunsTheFrontCommand : Prop :=
  ∀ (c : Instr) (rest : List Instr) (s : State),
    step { s with pending := c :: rest } = exec c { s with pending := rest } ∧
    (s.pending = c :: rest → step s = exec c { s with pending := rest })

/-- R68, R140, R265, R270, R323, R390, R410, R457: what reset leaves, in the values the spec gives; and the block with
no command waiting only lets time pass (the model's choice, log entry 1). -/
def Obligations.ResetAndIdle : Prop :=
  State.reset.pending = [] ∧ State.reset.otp.burned = [] ∧ State.reset.dev.cnt = [] ∧
  State.reset.dev.host.fwReady = false ∧ State.reset.dev.host.trafficReady = false ∧ State.reset.dev.host.faultCause = 0 ∧
  State.reset.dev.time.state = .freerun ∧ State.reset.dev.cfg.active = none ∧ State.reset.dev.cfg.shadow = none ∧
  State.reset.dev.twin.state = .unpaired ∧ State.reset.dev.twin.failOut = true ∧ State.reset.dev.vault.store = [] ∧
  State.reset.dev.prot.slots = [] ∧ State.reset.dev.que.queues = [] ∧ State.reset.dev.sys.porst = false ∧
  (∀ m, mailbox m State.reset.dev = emptyMailbox) ∧ (∀ p, (gateSt p State.reset.dev).gates = 0xFF) ∧
  (∀ p, (portSt p State.reset.dev).state = .disabled) ∧ (∀ k, linkState k State.reset.dev = .down) ∧
  Memory.wf State.reset = true ∧
  (∀ s : State, s.pending = [] → ∃ t, step s = .next t ∧ t.pending = [] ∧ t.otp = s.otp ∧ t.dev.cnt = s.dev.cnt ∧
    t.dev.host = s.dev.host ∧ t.dev.vault = s.dev.vault ∧ t.dev.prot = s.dev.prot ∧ t.dev.que = s.dev.que ∧
    t.dev.time.elapsed = s.dev.time.elapsed + 1)

/-- R140, R145, R155, R162, R165, R170, R171: every command answers a next state and leaves the queue alone, and only
the commands and events of the vault that burn a fuse touch one-time memory. -/
def Obligations.EveryCommandAnswers : Prop :=
  ∀ (c : Instr) (s : State), ∃ t, exec c s = .next t ∧ t.pending = s.pending ∧
    (match c with
     | .fwCommit _ | .fwRollbackAdvance _ | .lcChange _ | .lcTakeOwnership _ | .ownerRootRotate _ | .tamperClear _ => True
     | .porstNRelease _ _ _ | .doorbellDiscard _ | .tamperLoopSample _ _ _ | .supplyMonitorEvent _ _ | .clockMonitorEvent _ => True
     | .tempSensorReading _ => True
     | .registerWrite p _ => (match p with | .bar0 off size => off.toNat = 0x40 ∧ size = 4 | .config _ => False) ∨ t.otp = s.otp
     | _ => t.otp = s.otp)

/-- R140: one-time memory is one-time: in every step of every state, a bit that is programmed stays programmed. -/
def Obligations.ProgrammedBitsStay : Prop :=
  ∀ (s t : State), step s = .next t → Otp.kept s.otp t.otp

/-- R144, R145: RETIRED is for ever: in every step of every state in which one-time memory decodes to RETIRED, it
decodes to RETIRED after it. -/
def Obligations.RetiredIsForEver : Prop :=
  (decodeLc State.reset.otp ≠ 4) ∧ ∀ (s t : State), decodeLc s.otp = 4 → step s = .next t → decodeLc t.otp = 4

/-- R46, R49, R56, R57, R59, R147, R507, R509: in which order a doorbell is judged, whatever the command: a repeated
sequence first, then the length, the header, the life-cycle state, authorization, and the target. -/
def Obligations.MailboxChecksComeInOrder : Prop :=
  ∀ (info : CmdInfo) (body : Ctx → Otp → Dev → Ans × Otp) (r : Request) (o : Otp) (d d1 : Dev),
    hostReaches d = true → (mailbox r.mb.val d).busy = false → d.host.fwReady = true → takeRequest info.op r d = d1 →
    (∀ dig resp, (mailbox r.mb.val d).stored = some (r.sequence.toNat, dig, resp) →
      (mailboxOtp info body r o d).1 = o ∧
      (mailbox r.mb.val (mailboxOtp info body r o d).2).stored = some (r.sequence.toNat, dig, resp) ∧
      (mailbox r.mb.val (mailboxOtp info body r o d).2).done = true ∧
      (dig = digestOf info.op r → (mailbox r.mb.val (mailboxOtp info body r o d).2).resp = resp) ∧
      (dig ≠ digestOf info.op r → (mailbox r.mb.val (mailboxOtp info body r o d).2).resp =
        respBytes (replyOf info.op r) .badField 0 [] d)) ∧
    (((mailbox r.mb.val d).stored.all (fun x => decide (x.1 ≠ r.sequence.toNat))) = true →
      (lengthOk info r = false → mailboxOtp info body r o d = (o, respond (replyOf info.op r) .badLength [] d1)) ∧
      (lengthOk info r = true → headerOk r = false →
        mailboxOtp info body r o d = (o, respond (replyOf info.op r) .badField [] d1)) ∧
      (lengthOk info r = true → headerOk r = true →
        (∀ st, lifeRefusal info r d = some st →
          mailboxOtp info body r o d = (o, respond (replyOf info.op r) st [] d1)) ∧
        (lifeRefusal info r d = none → needsAuth info r = true → bit r.flags.toNat 0 = false →
          mailboxOtp info body r o d = (o, respond (replyOf info.op r) .authRequired [] d1)) ∧
        (lifeRefusal info r d = none → needsAuth info r = true → bit r.flags.toNat 0 = true → lockedOut d = true →
          mailboxOtp info body r o d = (o, respond (replyOf info.op r) .authFailed [] (bump .hostif 0 2 d1))) ∧
        (lifeRefusal info r d = none → needsAuth info r = true → bit r.flags.toNat 0 = true → lockedOut d = false →
          liveChallenge r.mb.val d = none →
          mailboxOtp info body r o d = (o, respond (replyOf info.op r) .authFailed [] (countAuthFail r.mb.val d1))) ∧
        (∀ st, lifeRefusal info r d = none → needsAuth info r = false → resolve info r d = .error st →
          mailboxOtp info body r o d = (o, respond (replyOf info.op r) st [] d1))))

/-- R17: an island counter of 48-bit seconds, 30-bit nanoseconds and a 32-bit fraction reports its seconds and
nanoseconds as they stand and the upper 16 bits of its fraction. -/
def Obligations.CounterReportsAsTs96 : Prop :=
  ∀ (sec ns frac : Nat), sec < 2 ^ 48 → ns < 1000000000 → frac < 2 ^ 32 →
    tsOf ((sec * 1000000000 + ns) * 2 ^ 32 + frac) = ⟨sec, ns, frac / 2 ^ 16⟩

/-- R508: every opcode of group 0x00 and of the groups from 0x10 on is reserved, as is every one the index does not
list; a request with a reserved opcode completes with BAD_OPCODE, changes nothing but its mailbox's answer, and consumes
no challenge. Forms shown to complete: reservedOpcode. -/
def Obligations.ReservedOpcodesAreRefused : Prop :=
  (∀ op, (op / 256 = 0 ∨ 16 ≤ op / 256) → opcodeDefined op = false) ∧
  (∀ (op : BitVec 16) (r : Request) (s : State), opcodeDefined op.toNat = false → hostReaches s.dev = true →
    s.dev.host.fwReady = true → (mailbox r.mb.val s.dev).busy = false →
    ((mailbox r.mb.val s.dev).stored.all (fun x => decide (x.1 ≠ r.sequence.toNat))) = true →
    exec (.reservedOpcode op r) s = .next (answered op.toNat r .badOpcode [] (taken op.toNat r s) s) ∧
    (∀ m, (mailbox m (answered op.toNat r .badOpcode [] (taken op.toNat r s) s).dev).challenge =
      (mailbox m s.dev).challenge))

/-- R445, R447 to R450, R38, R57: what each SYSTEM command answers and does. SYSTEM_POWER stands in a statement of its
own. R440 to R442, R446: what SYSTEM_POWER answers in each power state, and what it starts. R451 to R456: what each
FIRMWARE command answers and does: an image write takes its data from the staging area and invalidates the slot's
verdict, ACTIVATE starts a trial, COMMIT ends it and programs the revoke mask, and ROLLBACK_ADVANCE programs the
rollback thermometer in OTP. Forms shown to complete: systemIdentity, systemReset, startupSetSave, systemStartupQuery,
debugEnable, pkgCntRead, authChallenge, systemPower, fwQuery, fwImageWrite, fwImageVerify, fwActivate, fwCommit,
fwRollbackAdvance. -/
def Obligations.SystemAndFirmwareCommandsAnswer : Prop :=
  (∀ (r : Request) (s : State),
       (Taken { op := 0x0101, len := 0 } r .device s → ∀ d, taken 0x0101 r s = d →
         exec (.systemIdentity r) s = .next (answered 0x0101 r .ok
           (le 8 Config.serial ++ le 4 0x160800B1 ++ le 4 d.host.fwVersion ++ le 1 d.pkg.present ++ le 1 d.vault.lc
             ++ le 1 (powerCode d.sys.power) ++ le 1 d.sys.resetCause ++ le 4 0x001FD416 ++ le 4 d.obs.powerCycles ++ zeros 4)
           d s)) ∧
       (Taken { op := 0x0103, len := 4, resv := z 0 4 } r .device s → ∀ d, taken 0x0103 r s = d →
         exec (.systemReset r) s = .next (answered 0x0103 r .ok []
           { d with sys := { d.sys with resetAt := some (d.time.elapsed + 1250000) } } s)) ∧
       (Taken { op := 0x0104, len := 0 } r .device s → ∀ a, s.dev.cfg.active = some a → s.dev.sys.save = none →
         ∀ d, taken 0x0104 r s = d →
         exec (.startupSetSave r) s = .next (pended 0x0104 30000 0 r
           { d with sys := { d.sys with save := some (s.dev.host.nextHandle, a.image) } } s)) ∧
       (Taken { op := 0x0104, len := 0 } r .device s → s.dev.cfg.active = none →
         exec (.startupSetSave r) s = .next (answered 0x0104 r .badState [] (taken 0x0104 r s) s)) ∧
       (Taken { op := 0x0105, len := 0 } r .device s → ∀ d, taken 0x0105 r s = d →
         exec (.systemStartupQuery r) s = .next (answered 0x0105 r .ok
           ((List.range 12).flatMap (fun k => le 4 ((Map.get? d.sys.milestones k).getD 0xFFFFFFFF))) d s)) ∧
       (Taken { op := 0x0106, len := 4, auth := .enable1, resv := fun p => below 0 2 p && z 1 3 p } r .device s →
         ∀ d, taken 0x0106 r s = d →
         exec (.debugEnable r) s = .next (answered 0x0106 r .ok [] { d with sys := { d.sys with debug := false } } s)) ∧
       (Granted { op := 0x0106, len := 4, auth := .enable1, resv := fun p => below 0 2 p && z 1 3 p } r .device s →
         ∀ d, granted 0x0106 r s = d →
         exec (.debugEnable r) s = .next (if vaultUp s.dev then answered 0x0106 r .ok [] { d with sys := { d.sys with debug := true } } s
           else answered 0x0106 r .badState [] d s)) ∧
       (Taken { op := 0x0107, len := 4, resv := fun p => below 0 5 p && onlyBits 1 1 1 p && z 2 2 p } r .device s →
         ∀ k, fld (payload r) 0 1 = k → ∀ d, taken 0x0107 r s = d →
         exec (.pkgCntRead r) s = .next (answered 0x0107 r .ok
           (le 1 (linkCode k d) ++ zeros 7 ++ cntBytes .pkg (2 * k) 7 d ++ cntBytes .pkg (2 * k + 1) 7 d)
           (if bit (fld (payload r) 1 1) 0 then cntClear .pkg (2 * k) (cntClear .pkg (2 * k + 1) d) else d) s)) ∧
       (Taken { op := 0x01F0, len := 0, vault := true } r .device s → s.dev.vault.trng = 0 →
         ∀ d ch, taken 0x01F0 r s = d → le 16 (Config.freeNat d.free) = ch →
         exec (.authChallenge r) s = .next (answered 0x01F0 r .ok (ch ++ le 4 60000 ++ le 4 (tokenKeyId s.otp d))
           (setMailbox r.mb.val { mailbox r.mb.val d with challenge := some (ch, d.time.elapsed) } { d with free := d.free + 1 })
           s))) ∧
  (∀ (r : Request) (s : State),
       Taken { op := 0x0102, len := 4, resv := fun p => below 0 2 p && z 1 3 p } r .device s →
       s.dev.host.pend.length < 64 → ∀ d h, taken 0x0102 r s = d → s.dev.host.nextHandle = h →
       (fld (payload r) 0 1 = 0 → s.dev.sys.power = .run →
         exec (.systemPower r) s = .next (answered 0x0102 r .ok [] d s)) ∧
       (fld (payload r) 0 1 = 1 → s.dev.sys.power = .sleep →
         exec (.systemPower r) s = .next (answered 0x0102 r .ok [] d s)) ∧
       (fld (payload r) 0 1 = 0 → s.dev.sys.power = .sleep →
         exec (.systemPower r) s = .next (s.withDev (wakeStart h (opened 0x0102 400 0 r d s)))) ∧
       (fld (payload r) 0 1 = 0 → s.dev.sys.power = .entering → s.dev.sys.wakeOp = none →
         exec (.systemPower r) s = .next (pended 0x0102 400 0 r { d with sys := { d.sys with wakeOp := some h } } s)) ∧
       (fld (payload r) 0 1 = 1 → s.dev.sys.power = .run → sleepRefused d = false →
         exec (.systemPower r) s = .next (pended 0x0102 200 0 r
           { d with sys := { d.sys with power := .entering, sleepOp := some (h, d.time.elapsed) } } s)) ∧
       (fld (payload r) 0 1 = 1 → s.dev.sys.power = .run → sleepRefused d = true →
         exec (.systemPower r) s = .next (answered 0x0102 r .badState [] d s)) ∧
       (s.dev.sys.power = .waking →
         exec (.systemPower r) s = .next (answered 0x0102 r .busy [] d s))) ∧
  (∀ (r : Request) (s : State),
       (Taken { op := 0x0F01, len := 0 } r .device s → ∀ d b, taken 0x0F01 r s = d → bootCtl d = b →
         exec (.fwQuery r) s = .next (answered 0x0F01 r .ok
           (le 1 d.sys.runningSlot ++ le 1 b.active ++ le 1 b.trial ++ le 1 b.count ++ le 4 (shownVersion 0 d)
             ++ le 4 (shownVersion 1 d) ++ le 2 (shownSecurity 0 d) ++ le 2 (shownSecurity 1 d) ++ le 1 (rollbackLevel s.otp)
             ++ le 1 (otpByte s.otp 0x268) ++ zeros 14) d s)) ∧
       (Taken { op := 0x0F02, len := 16, resv := fun p => onlyBits 1 1 1 p && z 2 2 p } r .device s →
         ∀ slot off len stage, fld (payload r) 0 1 = slot → fld (payload r) 4 4 = off → fld (payload r) 8 4 = len →
         fld (payload r) 12 4 = stage →
         slot ≤ 1 → off % 256 = 0 → 256 ≤ len → len ≤ 4194304 → len % 256 = 0 → off + len ≤ 16777216 → stage % 256 = 0 →
         stage + len ≤ 4194304 → slot ≠ s.dev.sys.runningSlot → slot ≠ (bootCtl s.dev).trial → s.dev.sys.imgWrite = none →
         ∀ d, taken 0x0F02 r s = d →
         exec (.fwImageWrite r) s = .next (pended 0x0F02 120000 slot r
           { d with sys := { d.sys with
             verdicts := Map.del d.sys.verdicts slot
             imgWrite := some ⟨s.dev.host.nextHandle, slot, bit (fld (payload r) 1 1) 0, off,
               memRead 0 s.dev.host.staging stage len⟩ } } s)) ∧
       (Taken { op := 0x0F03, len := 4, resv := z 1 3 } r .device s → ∀ slot, fld (payload r) 0 1 = slot → slot ≤ 1 →
         s.dev.sys.imgVerify = none → ∀ d, taken 0x0F03 r s = d →
         exec (.fwImageVerify r) s = .next (pended 0x0F03 200 slot r
           { d with sys := { d.sys with imgVerify := some (s.dev.host.nextHandle, slot) } } s)) ∧
       (Taken { op := 0x0F04, len := 4, resv := fun p => below 1 2 p && z 2 2 p } r .device s →
         ∀ slot, fld (payload r) 0 1 = slot → slot ≤ 1 → (slotVerdict slot s.dev).1 = 0 → s.dev.sys.save = none →
         s.dev.sys.imgWrite = none → ∀ d, taken 0x0F04 r s = d →
         (fld (payload r) 1 1 = 0 →
           exec (.fwActivate r) s = .next (answered 0x0F04 r .ok [] (bootWrite { bootCtl d with trial := slot, count := 0 } d) s)) ∧
         (fld (payload r) 1 1 = 1 → (journalVersion slot s.dev = journalVersion s.dev.sys.runningSlot s.dev ∨
             journalVersion slot s.dev = journalVersion s.dev.sys.runningSlot s.dev + 1) →
           exec (.fwActivate r) s = .next (s.withDev (startFwRestart 2
             (answered 0x0F04 r .ok [] (bootWrite { bootCtl d with trial := slot, count := 0 } d) s).dev)))) ∧
       (Taken { op := 0x0F05, len := 0, vault := true } r .device s → s.dev.sys.runningTrial = true →
         ∀ slot, s.dev.sys.runningSlot = slot → (bootCtl s.dev).trial = slot → ∀ d, taken 0x0F05 r s = d →
         exec (.fwCommit r) s = .next { answered 0x0F05 r .ok []
             (bootWrite { bootCtl d with active := slot, trial := 0xFF, count := 0 }
               { d with sys := { d.sys with runningTrial := false } }) s with
           otp := burn 0x268 (fld (memRead flashErased s.dev.sys.flash (slot * 0x1000000) 32) 21 1 % 16) s.otp }) ∧
       (Granted { op := 0x0F06, len := 4, auth := .always, vault := true, resv := z 1 3 } r .device s →
         ∀ n, fld (payload r) 0 1 = n → s.dev.sys.runningTrial = false →
         (slotVerdict s.dev.sys.runningSlot s.dev).2.1 = n → rollbackLevel s.otp < n →
         exec (.fwRollbackAdvance r) s = .next { answered 0x0F06 r .ok (le 4 n) (granted 0x0F06 r s) s with
           otp := burnBytes 0x258 (le 16 (2 ^ n - 1)) s.otp }))

/-- R459, R460, R470 to R472, R474 to R483: what each observability command answers and does; the wasted blocks of
frames that have ended are counted first. R471, R472, R481, R482: loopback and PRBS. A loopback needs a port that is UP
and no twin attached; a PRBS test needs a port that is held and an existing lane. Forms shown to complete: perfConfig,
perfRead, perfLatch, recordRange, recordRead, tempRead, obsCntRead, diagLoopback, diagPrbs. -/
def Obligations.ObservabilityCommandsAnswer : Prop :=
  (∀ (r : Request) (s : State),
       (∀ n die c ev, (if n = 8 then 4 else n) = die → fld (payload r) 0 1 = c → fld (payload r) 2 2 = ev → c < 64 →
         perfEventOk die ev = true →
         Taken { op := 0x0E01, len := 4, scopes := [.dies [0, 1, 2, 3, 8]], resv := fun p => z 1 1 p && onlyBits 2 2 10 p }
           r (.die n) s → ∀ d, settleTallies (taken 0x0E01 r s) = d →
         exec (.perfConfig r) s = .next (answered 0x0E01 r .ok []
           { d with obs := { d.obs with perf := Map.put d.obs.perf (64 * die + c) ⟨ev, 0, false⟩ } } s)) ∧
       (∀ n die, (if n = 8 then 4 else n) = die → bit (fld (payload r) 0 4) 1 = false →
         Taken { op := 0x0E02, len := 4, scopes := [.dies [0, 1, 2, 3, 8]], resv := fun p => onlyBits 0 4 2 p } r (.die n) s →
         ∀ d, settleTallies (taken 0x0E02 r s) = d →
         exec (.perfRead r) s = .next (answered 0x0E02 r .ok
           ((perfTime die d).bytes ++ zeros 4 ++
             (List.range 64).flatMap (fun c => perfSlot ((Map.get? d.obs.perf (64 * die + c)).getD ⟨0x3FF, 0, false⟩)))
           (if bit (fld (payload r) 0 4) 0 then perfClear die d else d) s)) ∧
       (∀ n die t m, (if n = 8 then 4 else n) = die → bit (fld (payload r) 0 4) 1 = true →
         Taken { op := 0x0E02, len := 4, scopes := [.dies [0, 1, 2, 3, 8]], resv := fun p => onlyBits 0 4 2 p } r (.die n) s →
         ∀ d, settleTallies (taken 0x0E02 r s) = d → d.obs.latch = some (t, m) →
         exec (.perfRead r) s = .next (answered 0x0E02 r .ok
           (t.bytes ++ zeros 4 ++ (List.range 64).flatMap (fun c => perfSlot ((Map.get? m (64 * die + c)).getD ⟨0x3FF, 0, false⟩)))
           (if bit (fld (payload r) 0 4) 0 then perfClear die d else d) s)) ∧
       (Taken { op := 0x0E03, len := 0 } r .device s → ∀ g d, firstWhole 1000 20000 s.dev = g →
         settleTallies (waitUntil g (taken 0x0E03 r s)) = d →
         exec (.perfLatch r) s = .next (answered 0x0E03 r .ok ((tsOf g).bytes ++ zeros 4)
           { d with obs := { d.obs with latch := some (tsOf g, d.obs.perf) } } s)) ∧
       (Taken { op := 0x0E04, len := 0, vault := true } r .device s → ∀ d, taken 0x0E04 r s = d → ∀ seq off,
         (seq, off) = (match d.obs.recs with | e :: _ => (e.seq, e.offset) | [] => (0, d.obs.nextOffset)) →
         exec (.recordRange r) s = .next (answered 0x0E04 r .ok
           (le 4 seq ++ le 4 off ++ le 4 d.obs.nextSeq ++ le 4 d.obs.nextOffset ++ le 4 (hoursNow d) ++ le 4 d.obs.powerCycles
             ++ le 4 (min 262144 (d.obs.budget + (d.time.elapsed - d.obs.budgetAt) * 4096 / 1250000000)) ++ zeros 4) d s)) ∧
       (Taken { op := 0x0E05, len := 8, vault := true } r .device s → ∀ off n, fld (payload r) 0 4 = off →
         fld (payload r) 4 4 = n → off % 16 = 0 → n % 16 = 0 → 16 ≤ n → n ≤ 4064 → off + n ≤ 2097152 →
         exec (.recordRead r) s = .next (answered 0x0E05 r .ok (memRead 0 s.dev.obs.ring off n) (taken 0x0E05 r s) s)) ∧
       (Taken { op := 0x0E06, len := 0 } r .device s → ∀ d, taken 0x0E06 r s = d →
         exec (.tempRead r) s = .next (answered 0x0E06 r .ok
           ((List.range 16).flatMap (fun k => le 2 (tempNow k d))
             ++ (List.range 16).flatMap (fun k => le 2 ((Map.get? d.obs.tempHigh k).getD 0x8000))) d s)) ∧
       (Taken { op := 0x0E09, len := 4, resv := onlyBits 0 4 1 } r .device s → ∀ d, taken 0x0E09 r s = d →
         exec (.obsCntRead r) s = .next (answered 0x0E09 r .ok (cntBytes .obs 0 4 d)
           (if bit (fld (payload r) 0 4) 0 then cntClear .obs 0 d else d) s))) ∧
  (∀ (r : Request) (p : Nat) (s : State),
       (Taken { op := 0x0E07, len := 4, scopes := [.ports [1, 2, 3, 5]], resv := fun p => below 0 3 p && z 1 3 p }
           r (.port p) s → ∀ d, taken 0x0E07 r s = d → ∀ mode, fld (payload r) 0 1 = mode →
         (mode = 0 → exec (.diagLoopback r) s = .next (answered 0x0E07 r .ok []
           { d with obs := { d.obs with loopback := Map.del d.obs.loopback p } } s)) ∧
         (mode ≠ 0 → portIsUp p s.dev = true → twinAttached s.dev = false →
           exec (.diagLoopback r) s = .next (answered 0x0E07 r .ok []
             { d with obs := { d.obs with loopback := Map.put d.obs.loopback p mode } } s)) ∧
         (mode ≠ 0 → portIsUp p s.dev = false ∨ twinAttached s.dev = true →
           exec (.diagLoopback r) s = .next (answered 0x0E07 r .badState [] d s))) ∧
       (Taken { op := 0x0E08, len := 4, scopes := [.ports [1, 2, 3, 4, 5]], resv := fun p => below 1 4 p && z 2 2 p }
           r (.port p) s → ∀ d, taken 0x0E08 r s = d → ∀ l op t, laneOfPort p (fld (payload r) 0 1) = l →
         fld (payload r) 1 1 = op → fld (payload r) 0 1 < portLanes p s.dev → portHeld p s.dev = true →
         (op = 0 → t = { prbsRun l s.dev with state := 0 }) → (op = 1 → t = ⟨1, 0, 0, 0, s.dev.time.elapsed⟩) →
         (op = 2 → t = prbsRun l s.dev) →
         (op ≠ 3 → exec (.diagPrbs r) s = .next (answered 0x0E08 r .ok
           (le 1 t.state ++ zeros 3 ++ le 4 t.lockLosses ++ le 8 t.bits ++ le 8 (t.errors % 2 ^ 48))
           { d with obs := { d.obs with prbs := Map.put d.obs.prbs l t } } s)) ∧
         (op = 3 → ∀ u, prbsRun l s.dev = u → exec (.diagPrbs r) s = .next (answered 0x0E08 r .ok
           (le 1 u.state ++ zeros 3 ++ le 4 u.lockLosses ++ le 8 u.bits ++ le 8 (u.errors % 2 ^ 48))
           { d with obs := { d.obs with
             prbs := Map.put d.obs.prbs l { u with lockLosses := 0, bits := 0, errors := 0 } } } s))))

/-- R71, R76 to R80, R83, R85: what each CONFIG command answers and does. Forms shown to complete: configLoadShadow,
configQuery, swapSet, configSwapCancel, configWrite, calRead, cfgCntRead. -/
def Obligations.ConfigCommandsAnswer : Prop :=
  ∀ (r : Request) (t : Target) (s : State),
    (Taken { op := 0x0201, shared := sharedState, len := 8, resv := z 4 4 } r .device s → ∀ off, fld (payload r) 0 4 = off →
      off % 64 = 0 → off + 64 ≤ 4194304 → s.dev.cfg.shadowState ≠ .loading → s.dev.cfg.shadowState ≠ .draining →
      s.dev.cfg.swap = none → ∀ d k, taken 0x0201 r s = d → keepSet d.cfg.shadow d = k →
      ∀ len, fld (memRead 0 s.dev.host.staging off 32) 12 4 = len →
      exec (.configLoadShadow r) s = .next (if presentUp s.dev then pended 0x0201 2000 off r
        { k with cfg := { k.cfg with
          shadow := none
          shadowState := .loading
          load := some ⟨s.dev.host.nextHandle, off, memRead 0 s.dev.host.staging off (min (max len 64) 3145728)⟩ } } s
        else answered 0x0201 r .badState [] d s)) ∧
    (Taken { op := 0x0202, len := 0 } r .device s → ∀ d, taken 0x0202 r s = d →
      exec (.configQuery r) s = .next (answered 0x0202 r .ok
        (le 4 ((d.cfg.active.map (·.id)).getD 0) ++ le 4 ((d.cfg.active.map (·.crc)).getD 0)
          ++ le 4 ((d.cfg.shadow.map (·.id)).getD 0) ++ le 1 (shadowCode d.cfg.shadowState)
          ++ le 1 (if d.cfg.swap.any (fun w => w.mailbox.isNone) then 1 else 0) ++ zeros 2 ++ d.cfg.lastSwap.bytes ++ zeros 4)
        d s)) ∧
    (Taken { op := 0x0203, shared := sharedState, len := 16 } r .device s → ∀ d, taken 0x0203 r s = d →
      ∀ x g, s.dev.cfg.shadow = some x → s.dev.cfg.shadowState = .ready → s.dev.cfg.swap = none →
      fld (payload r) 0 4 = x.id → swapConflict x.params s.dev = false → setOnItsWay s.dev = false →
      (tsFld (payload r) 4).isZero = true → s.dev.time.state ≠ .acquire → firstWhole 1000 20000 s.dev = g →
      exec (.swapSet r) s = .next (if presentUp s.dev then running 0x0203 0 r
        { d with cfg := { d.cfg with swap := some ⟨g, none, some r.mb.val⟩ } } s else answered 0x0203 r .badState [] d s)) ∧
    (Taken { op := 0x0203, shared := sharedState, len := 16 } r .device s → ∀ d, taken 0x0203 r s = d →
      ∀ x g, s.dev.cfg.shadow = some x → s.dev.cfg.shadowState = .ready → s.dev.cfg.swap = none →
      fld (payload r) 0 4 = x.id → swapConflict x.params s.dev = false → setOnItsWay s.dev = false →
      (tsFld (payload r) 4).isZero = false → (tsFld (payload r) 4).ns < 1000000000 →
      unitsOf (tsFld (payload r) 4) = g → s.dev.time.state ≠ .acquire → s.dev.time.grand + 50000 * 2 ^ 32 ≤ g →
      g ≤ s.dev.time.grand + 86400 * 1000000000 * 2 ^ 32 →
      exec (.swapSet r) s = .next (if presentUp s.dev then pended 0x0203 (boundTo g s.dev) 0 r
        { d with cfg := { d.cfg with swap := some ⟨g, some s.dev.host.nextHandle, none⟩ } } s
        else answered 0x0203 r .badState [] d s)) ∧
    (Taken { op := 0x0204, shared := sharedState, len := 0 } r .device s → ∀ d, taken 0x0204 r s = d → ∀ w h,
      s.dev.cfg.swap = some w → w.handle = some h → s.dev.time.grand + 20000 * 2 ^ 32 ≤ w.at_ →
      exec (.configSwapCancel r) s = .next (answered 0x0204 r .ok []
        (complete h .badState [] { d with cfg := { d.cfg with swap := none } }) s)) ∧
    (Taken { op := 0x0205, shared := sharedState, len := 80,
             scopes := [.device, .dies [0, 1, 2, 3, 8, 9, 10, 11], .ports [1, 2, 3, 4, 5]],
             resv := fun p => below 0 2 p && z 1 3 p } r t s → ∀ d, taken 0x0205 r s = d → presentUp s.dev = true →
      ∀ field idx n, fld (payload r) 4 4 = field → fld (payload r) 8 4 = idx → fld (payload r) 12 4 = n →
      (fld (payload r) 0 1 = 1 → s.dev.cfg.swap = none → ∀ x, s.dev.cfg.active = some x →
        1 ≤ n → n ≤ 64 → allZero ((slice (payload r) 16 64).drop n) = true →
        ∃ st d', exec (.configWrite r) s = .next (answered 0x0205 r st [] d' s) ∧ (st ≠ .ok → d' = d) ∧
        (Config.fieldKind field = .unknown ∨ Config.fieldAccepts field (targetCode t) idx n = false → st = .badField) ∧
        (Config.fieldKind field = .notLive → Config.fieldAccepts field (targetCode t) idx n = true → st = .badState) ∧
        (∀ b, Config.fieldKind field = .counterClear b → Config.fieldAccepts field (targetCode t) idx n = true →
          st = .ok ∧ d' = clearObject b (cntObject b t idx) (bump .cfg 0 2 d)) ∧
        (∀ f, Config.fieldKind field = .live f → Config.fieldAccepts field (targetCode t) idx n = true →
          (plainSession f idx x.params = true → st = .badState) ∧
          (plainSession f idx x.params = false →
            (patchSet x field (targetCode t) idx (slice (payload r) 16 n) d = none → st = .badField) ∧
            (∀ y, patchSet x field (targetCode t) idx (slice (payload r) 16 n) d = some y →
              st = .ok ∧ d'.cfg.active = some { y with params := liveParams f x.params (altParams d.twin.tookHome y.params) })))) ∧
      (fld (payload r) 0 1 = 0 → s.dev.cfg.swap = none → ∀ x, s.dev.cfg.shadow = some x → s.dev.cfg.shadowState = .ready →
        ∃ st d', exec (.configWrite r) s = .next (answered 0x0205 r st [] d' s) ∧ (st = .ok ∨ st = .badField) ∧
        (st = .badField → d' = d) ∧
        (st = .ok → ∃ y, patchSet x field (targetCode t) idx (slice (payload r) 16 n) d = some y ∧ ∃ k, keepSet (some x) d = k ∧
          d' = twinPost (.configSet (d.cfg.active.map (fun a => (a.id, a.image))) (some (y.id, y.image)))
            (bump .cfg 0 2 { k with cfg := { k.cfg with shadow := some { y with gen := 0 } } })))) ∧
    (Taken { op := 0x0206, len := 4, scopes := [.device, .ports [1, 2, 3, 4, 5]] } r t s → ∀ d, taken 0x0206 r s = d →
      ∀ f u, calPoint s.otp (fld (payload r) 0 2) (fld (payload r) 2 2) (match t with | .port p => some p | _ => none)
        (prm d) d = some (f, u) →
      exec (.calRead r) s = .next (answered 0x0206 r .ok
        (le 4 (ofSigned 32 f) ++ le 4 (ofSigned 32 u) ++ le 4 (ofSigned 32 (max (-2147483648) (min 2147483647 (f + u))))
          ++ le 4 (if -2147483648 ≤ f + u ∧ f + u ≤ 2147483647 then 0 else 1)) d s)) ∧
    (Taken { op := 0x0207, len := 4, resv := onlyBits 0 4 1 } r .device s → ∀ d, taken 0x0207 r s = d →
      exec (.cfgCntRead r) s = .next (answered 0x0207 r .ok (cntBytes .cfg 0 4 d)
        (if bit (fld (payload r) 0 4) 0 then cntClear .cfg 0 d else d) s))

/-- R103 to R111: what each SECY command answers and does, on the port `p` of the die that holds it and the SecY or RX
SC whose index the request gives. R112 to R122, R131 to R137: what each SA command answers and does. An installation
waits for the vault on its mailbox when the queue is empty and under a handle when it is not; a switch is unscheduled
with a zero instant and scheduled else. R126, R127, R138, R139: the MKA commands. Forms shown to complete: secyQuery,
secyCntRead, secyPortEnable, rxscCreate, rxscDelete, rxscQuery, cportCntRead, saInstall, saQuery, saRetire, saCntRead,
saTxSwitch, saBatchSwitch, saBatchCancel, saInstallBulk, keyCntRead, mkaCaSet, mkaCaQuery. -/
def Obligations.SecySaAndMkaCommandsAnswer : Prop :=
  (∀ (r : Request) (p : Nat) (s : State) (die i : Nat), portDie p = die → fld (payload r) 0 2 = i →
       (Taken { op := 0x0401, len := 4, scopes := [.ports [2, 3]], resv := z 2 2 } r (.port p) s → ∀ d, taken 0x0401 r s = d →
         ∀ x, scSecy die p false i s.dev = some x →
         exec (.secyQuery r) s = .next (answered 0x0401 r .ok
           (le 2 i ++ le 2 x.vid ++ le 1 (b2n (portTpidAd x.port d)) ++ le 1 x.suite ++ le 1 x.confOffset ++ le 1 x.validate
             ++ le 4 x.replayWindow
             ++ le 2 (b2n x.protectFrames + 2 * b2n x.replayProtect + 4 * b2n x.confidentiality + 8 * b2n x.hostKeying
                 + 16 * b2n (portEnabled (2048 * die + i) d))
             ++ le 1 x.ptpTreatment ++ le 1 x.lldpTreatment ++ le 8 x.txSci ++ le 8 x.implicitSci
             ++ le 1 ((txInUse die i d).getD 0xFF) ++ zeros 1 ++ le 2 (rxScCount die i d)
             ++ le 4 ((d.cfg.active.map (·.id)).getD 0) ++ zeros 8) d s)) ∧
       (Taken { op := 0x0401, len := 4, scopes := [.ports [2, 3]], resv := z 2 2 } r (.port p) s →
         scSecy die p false i s.dev = none →
         exec (.secyQuery r) s = .next (answered 0x0401 r .badField [] (taken 0x0401 r s) s)) ∧
       (Taken { op := 0x0402, len := 4, scopes := [.ports [2, 3]], resv := onlyBits 2 2 1 } r (.port p) s →
         ∀ d, taken 0x0402 r s = d → ∀ x, scSecy die p false i s.dev = some x →
         exec (.secyCntRead r) s = .next (answered 0x0402 r .ok (cntBytes .secy (2048 * die + i) 17 d)
           (if bit (fld (payload r) 2 2) 0 then cntClear .secy (2048 * die + i) d else d) s)) ∧
       (Taken { op := 0x0403, shared := sharedSecy (fun p => fld p 0 2), len := 4, scopes := [.ports [2, 3]], held := true,
                resv := fun p => below 2 2 p && z 3 1 p } r (.port p) s → ∀ d, taken 0x0403 r s = d →
         ∀ x, scSecy die p false i s.dev = some x → x.hostKeying = true →
         (fld (payload r) 2 1 = 0 →
           exec (.secyPortEnable r) s = .next (answered 0x0403 r .ok []
             (if 2048 * die + i ∈ s.dev.prot.enabled then
               { d with prot := { d.prot with enabled := d.prot.enabled.filter (fun m => m != 2048 * die + i) } } else d) s)) ∧
         (fld (payload r) 2 1 = 1 → 2048 * die + i ∉ s.dev.prot.enabled →
           (x.protectFrames = false ∨ hasTxSa die i s.dev = true) →
           exec (.secyPortEnable r) s = .next (answered 0x0403 r .ok []
             { d with prot := { d.prot with enabled := (2048 * die + i) :: d.prot.enabled.filter (fun m => m != 2048 * die + i) } } s)) ∧
         (fld (payload r) 2 1 = 1 → 2048 * die + i ∉ s.dev.prot.enabled → x.protectFrames = true → hasTxSa die i s.dev = false →
           exec (.secyPortEnable r) s = .next (answered 0x0403 r .badState [] d s))) ∧
       (Taken { op := 0x0404, len := 16, scopes := [.ports [2, 3]],
                resv := fun p => decide (fld p 2 1 = 0 ∨ fld p 2 1 = 30 ∨ fld p 2 1 = 50) && z 3 5 p } r (.port p) s →
         ∀ d, taken 0x0404 r s = d → ∀ x sci, scSecy die p false i s.dev = some x → x.hostKeying = true →
         fld (payload r) 8 8 = sci → sciOnPort p sci s.dev = false →
         ∀ n d', (List.range 4096).find? (fun i => !Map.has s.dev.prot.rxscs (4096 * die + i)) = some n →
         sciInsert die p sci n i d = some d' →
         exec (.rxscCreate r) s = .next (answered 0x0404 r .ok (le 2 n ++ zeros 2)
           { d' with prot := { d'.prot with
             rxscs := Map.put d'.prot.rxscs (4096 * die + n) ⟨p, i, sci, fld (payload r) 2 1⟩ } } s)) ∧
       (Taken { op := 0x0405, len := 4, scopes := [.ports [2, 3]], resv := z 2 2 } r (.port p) s → ∀ d, taken 0x0405 r s = d →
         ∀ x y, Map.get? s.dev.prot.rxscs (4096 * die + i) = some x → x.port = p → secyPrm die x.secy s.dev = some y →
         y.hostKeying = true → (∀ a, a < 4 → (sa (saKey die true i a) s.dev).state = .empty) →
         exec (.rxscDelete r) s = .next (answered 0x0405 r .ok [] (deleteRxSc die i d) s)) ∧
       (Taken { op := 0x0406, len := 4, scopes := [.ports [2, 3]], resv := onlyBits 2 2 1 } r (.port p) s →
         ∀ d, taken 0x0406 r s = d → ∀ x, Map.get? s.dev.prot.rxscs (4096 * die + i) = some x → x.port = p →
         exec (.rxscQuery r) s = .next (answered 0x0406 r .ok
           (le 8 x.sci ++ le 2 x.secy ++ le 1 x.confOffset
             ++ le 1 (anMask die i (fun st => decide (st ≠ .empty ∧ st ≠ .loading)) d)
             ++ le 1 (anMask die i (fun st => decide (st = .inUse)) d) ++ zeros 3
             ++ le 8 (((newestAn die i d).map (fun a => lowestPn (saKey die true i a) d)).getD 0)
             ++ le 8 (((newestAn die i d).map (fun a => (sa (saKey die true i a) d).nextPn)).getD 0)
             ++ cntBytes .rxsc (4096 * die + i) 10 d)
           (if bit (fld (payload r) 2 2) 0 then cntClear .rxsc (4096 * die + i) d else d) s)) ∧
       (Taken { op := 0x0407, len := 4, scopes := [.ports [1, 2, 3]], resv := onlyBits 0 4 1 } r (.port p) s →
         ∀ d, taken 0x0407 r s = d →
         exec (.cportCntRead r) s = .next (answered 0x0407 r .ok
           (if isCipher p s.dev then cntBytes .cport p 6 d
            else zeros 8 ++ le 8 (cntGet .cport p 1 d) ++ zeros 8 ++ le 8 (cntGet .cport p 3 d) ++ zeros 16)
           (if bit (fld (payload r) 0 4) 0 then cntClear .cport p d else d) s))) ∧
  (∀ (r : Request) (p : Nat) (s : State) (die : Nat), portDie p = die →
       (∀ rx sc an, fld (payload r) 0 1 = b2n rx → fld (payload r) 2 2 = sc → fld (payload r) 1 1 = an → ∀ k,
         saKey die rx sc an = k → ∀ q, scSecy die p rx sc s.dev = some q →
         (Taken { op := 0x0501, shared := sharedSa, len := 104, scopes := [.ports [2, 3]], held := true, vault := true,
                  resv := saInstallResv } r (.port p) s → ∀ d, taken 0x0501 r s = d →
           ∀ x, readSaLoad (.mailbox r.mb.val) die (payload r) = x → saFieldsOk x q (payload r) = true →
           q.hostKeying = true → (sa k s.dev).state = .empty ∨ (sa k s.dev).state = .installed →
           (rx = true → (sa k s.dev).state = .empty → rxSlotsUsed die s.dev < 8192) →
           (rx = false → heldBySwitch die sc an s.dev = false) → (sa k s.dev).loading = false →
           ∀ rep e, decide ((sa k s.dev).state = .installed) = rep →
           e = (if rep then setSa k { sa k d with loading := true } d else saEnter .loading k d) →
           (s.dev.prot.loads = [] →
             exec (.saInstall r) s = .next (running 0x0501 k r
               { e with prot := { e.prot with loads := [{ x with replace := rep }] } } s)) ∧
           (s.dev.prot.loads ≠ [] →
             exec (.saInstall r) s = .next (pended 0x0501 2000 k r
               { e with prot := { e.prot with
                 loads := d.prot.loads ++ [{ x with waiter := .handle s.dev.host.nextHandle, replace := rep }] } } s))) ∧
         (Taken { op := 0x0502, len := 4, scopes := [.ports [2, 3]], resv := fun p => below 0 2 p && below 1 4 p } r (.port p) s →
           ∀ d, taken 0x0502 r s = d → ∀ x sw, sa k d = x →
           (!rx && (pendingSwitch die sc s.dev).any (fun w => decide (w.2 = an))) = sw →
           exec (.saQuery r) s = .next (answered 0x0502 r .ok
             (le 1 (saCode x.state) ++ le 1 (if rx then 2 else 1) ++ le 1 q.suite
               ++ le 1 (b2n x.loading + 2 * b2n sw + 4 * b2n x.threshold + 8 * b2n x.retireAt.isSome)
               ++ le 4 x.keyId ++ le 4 x.installSeq ++ le 4 (framesBound k d) ++ le 8 x.nextPn
               ++ le 8 (if rx then (if x.state = .empty then 0 else lowestPn k d) else x.reserve)
               ++ x.installedAt.bytes ++ zeros 4 ++ x.since.bytes ++ zeros 4) d s)) ∧
         (Taken { op := 0x0504, shared := sharedSa, len := 4, scopes := [.ports [2, 3]],
                  resv := fun p => below 0 2 p && below 1 4 p } r (.port p) s → ∀ d, taken 0x0504 r s = d →
           q.hostKeying = true → (sa k s.dev).loading = false → (rx = false → heldBySwitch die sc an s.dev = false) →
           (rx = false → (sa k s.dev).state = .installed →
             exec (.saRetire r) s = .next (answered 0x0504 r .ok [] (freeSa k d) s)) ∧
           (rx = true → (sa k s.dev).state = .inUse →
             exec (.saRetire r) s = .next (answered 0x0504 r .ok []
               (saEnter .retiring k (setSa k { sa k d with retireAt := none } d)) s)) ∧
           ((sa k s.dev).state ≠ .installed → (sa k s.dev).state ≠ .inUse → (sa k s.dev).state ≠ .loading →
             exec (.saRetire r) s = .next (answered 0x0504 r .badState [] d s))) ∧
         (Taken { op := 0x0508, len := 8, scopes := [.ports [2, 3]],
                  resv := fun p => below 0 2 p && below 1 4 p && onlyBits 4 4 1 p } r (.port p) s → ∀ d, taken 0x0508 r s = d →
           exec (.saCntRead r) s = .next (answered 0x0508 r .ok (cntBytes .sa k 5 d)
             (if bit (fld (payload r) 4 4) 0 then cntClear .sa k d else d) s))) ∧
       (Taken { op := 0x0503, shared := sharedSecy (fun p => fld p 0 2), len := 16, scopes := [.ports [2, 3]], held := true,
                resv := fun p => below 2 4 p && z 3 1 p } r (.port p) s → ∀ d, taken 0x0503 r s = d →
         ∀ i an n q, fld (payload r) 0 2 = i → fld (payload r) 2 1 = an → 2048 * die + i = n →
         scSecy die p false i s.dev = some q → q.hostKeying = true → (sa (saKey die false i an) s.dev).state = .installed →
         (sa (saKey die false i an) s.dev).loading = false → switchPending die i s.dev = false → s.dev.time.state ≠ .acquire →
         ((tsFld (payload r) 4).isZero = true →
           exec (.saTxSwitch r) s = .next (running 0x0503 n r { d with prot := { d.prot with
             switches := Map.put d.prot.switches n ⟨an, firstWhole 1000 20000 s.dev, none, some r.mb.val⟩ } } s)) ∧
         (∀ g, (tsFld (payload r) 4).isZero = false → (tsFld (payload r) 4).ns < 1000000000 →
           unitsOf (tsFld (payload r) 4) = g → s.dev.time.grand + 50000 * 2 ^ 32 ≤ g →
           g ≤ s.dev.time.grand + 86400 * 1000000000 * 2 ^ 32 →
           exec (.saTxSwitch r) s = .next (pended 0x0503 (boundTo g s.dev) n r { d with prot := { d.prot with
             switches := Map.put d.prot.switches n ⟨an, g, some s.dev.host.nextHandle, none⟩ } } s))) ∧
       (Taken { op := 0x0505, shared := fun _ _ d => pairedSecondary d && decide ((prm d).twinMode = 0), len := 24, held := true,
                awake := true } r .device s → ∀ d, taken 0x0505 r s = d → z 20 4 (payload r) = true → ∀ off n g,
         fld (payload r) 0 4 = off → fld (payload r) 4 4 = n → unitsOf (tsFld (payload r) 8) = g → off % 8 = 0 → 1 ≤ n →
         n ≤ 8192 → off + 8 * n ≤ 4194304 → (tsFld (payload r) 8).ns < 1000000000 → s.dev.time.state ≠ .acquire →
         s.dev.time.grand + 1000000 * 2 ^ 32 ≤ g → g ≤ s.dev.time.grand + 86400 * 1000000000 * 2 ^ 32 →
         (∀ l, s.dev.prot.batches.length < 4 →
           batchCheck s.dev 0 (chunks 8 (memRead 0 s.dev.host.staging off (8 * n))) [] = .ok l →
           exec (.saBatchSwitch r) s = .next (pended 0x0505 (boundTo g s.dev) 0 r { d with prot := { d.prot with
             batches := Map.put d.prot.batches s.dev.host.nextHandle ⟨g, l⟩ } } s)) ∧
         (∀ st i, batchCheck s.dev 0 (chunks 8 (memRead 0 s.dev.host.staging off (8 * n))) [] = .error (st, i) →
           exec (.saBatchSwitch r) s = .next (answered 0x0505 r st (le 4 i) d s))) ∧
       (Taken { op := 0x0506, shared := fun _ _ d => pairedSecondary d && decide ((prm d).twinMode = 0), len := 4 }
           r .device s → ∀ d, taken 0x0506 r s = d → ∀ h b, fld (payload r) 0 4 = h → Map.get? s.dev.prot.batches h = some b →
         s.dev.time.grand + 20000 * 2 ^ 32 ≤ b.at_ →
         exec (.saBatchCancel r) s = .next (answered 0x0506 r .ok []
           (complete h .badState [] { d with prot := { d.prot with batches := Map.del d.prot.batches h } }) s)) ∧
       (Taken { op := 0x0507, shared := fun _ _ d => pairedSecondary d && decide ((prm d).twinMode = 0), len := 8, held := true,
                vault := true, awake := true } r .device s → ∀ d, taken 0x0507 r s = d → ∀ off n h,
         fld (payload r) 0 4 = off → fld (payload r) 4 4 = n → s.dev.host.nextHandle = h → off % 64 = 0 → 1 ≤ n → n ≤ 16384 →
         off + 112 * n ≤ 4194304 → s.dev.host.pend.length < 64 →
         exec (.saInstallBulk r) s = .next (s.withDev ((List.range n).foldl
           (fun e i => bulkRecord h i (memRead 0 s.dev.host.staging (off + 112 * i) 112) e)
           (opened 0x0507 2000 0 r { d with prot := { d.prot with bulks := d.prot.bulks ++ [⟨h, off, n, 0, 0⟩] } } s)))) ∧
       (∀ n, Taken { op := 0x0509, len := 4, scopes := [.dies [0, 1, 2, 3]], resv := onlyBits 0 4 1 } r (.die n) s →
         ∀ d, taken 0x0509 r s = d →
         exec (.keyCntRead r) s = .next (answered 0x0509 r .ok (cntBytes .key n 9 d)
           (if bit (fld (payload r) 0 4) 0 then cntClear .key n d else d) s))) ∧
  (∀ (r : Request) (p : Nat) (s : State) (i n : Nat) (q : SecyPrm), fld (payload r) 0 2 = i → 2048 * portDie p + i = n →
       scSecy (portDie p) p false i s.dev = some q →
       (Taken { op := 0x050A, len := 112, scopes := [.ports [2, 3]], held := true, vault := true,
                shared := sharedSecy (fun p => fld p 0 2), resv := fun p => onlyBits 2 1 1 p && z 5 1 p && z 12 4 p }
           r (.port p) s → ∀ d, taken 0x050A r s = d → caFieldsOk (payload r) = true → caRunning n d = false →
         q.hostKeying = false →
         (bit (fld (payload r) 2 1) 0 = true → (Map.get? s.dev.prot.mka n).isSome = true →
           exec (.mkaCaSet r) s = .next (answered 0x050A r .ok []
             { d with prot := { d.prot with mka := Map.del d.prot.mka n } } s)) ∧
         (bit (fld (payload r) 2 1) 0 = false → (Map.get? s.dev.prot.mka n).isSome = true ∨ caCount s.dev < 4096 → ∀ x : CaLoad,
           x = ⟨none, r.mb.val, portDie p, i, fld (payload r) 3 1, slice (payload r) 16 (fld (payload r) 4 1),
             fld (payload r) 8 4, slice (payload r) 48 (fld (payload r) 6 2)⟩ →
           (s.dev.prot.caLoads = [] →
             exec (.mkaCaSet r) s = .next (running 0x050A n r { d with prot := { d.prot with caLoads := [x] } } s)) ∧
           (s.dev.prot.caLoads ≠ [] →
             exec (.mkaCaSet r) s = .next (pended 0x050A 100 n r { d with prot := { d.prot with
               caLoads := d.prot.caLoads ++ [{ x with handle := some s.dev.host.nextHandle }] } } s)))) ∧
       (Taken { op := 0x050B, len := 4, scopes := [.ports [2, 3]], resv := z 2 2 } r (.port p) s → ∀ d, taken 0x050B r s = d →
         (Map.get? s.dev.prot.mka n = none →
           exec (.mkaCaQuery r) s = .next (answered 0x050B r .ok (zeros 3 ++ le 1 0xFF ++ zeros 28) d s)) ∧
         (∀ m, Map.get? s.dev.prot.mka n = some m →
           exec (.mkaCaQuery r) s = .next (answered 0x050B r .ok
             (le 1 (if m.peers = [] then 1 else if m.latestAn ≠ none ∧ txInUse (portDie p) i d = m.latestAn then 3 else 2)
               ++ le 1 (b2n m.server) ++ le 1 m.peers.length ++ le 1 (m.latestAn.getD 0xFF)
               ++ slice (aesCmac m.ick m.ckn) 0 4 ++ le 4 m.keyNumber ++ le 4 m.rxBad ++ m.lastHello.bytes ++ zeros 4) d s))))

/-- R142, R152 to R157, R168, R169, R172, R174 to R176: what each VAULT command that needs no authorization answers and
does. R145, R170, R171, R173: the authorized life-cycle commands. Each programs OTP as R144 codes the state, and the
state becomes the one that OTP then decodes to. Forms shown to complete: vaultStatus, vaultKeyInstall, vaultKeyActivate,
vaultKeyDelete, vaultKeyQuery, laJobStart, vaultRandom, otpRead, vaultCntRead, laJobAbort, lcChange, tamperClear,
lcTakeOwnership, ownerRootRotate. -/
def Obligations.VaultCommandsAnswer : Prop :=
  (∀ (r : Request) (s : State),
       (Taken { op := 0x0601, len := 0, vault := true } r .device s → ∀ d o v, taken 0x0601 r s = d → s.otp = o →
         s.dev.vault = v →
         exec (.vaultStatus r) s = .next (answered 0x0601 r .ok
           (le 1 v.lc ++ le 1 ((ownerSlot o).getD 0xFF) ++ le 1 (heldEntries o) ++ le 1 (heldClears o)
             ++ le 1 (rollbackLevel o) ++ le 1 (otpByte o 0x268) ++ le 1 (otpByte o 0x253) ++ le 1 v.trng ++ le 4 v.latch
             ++ le 4 v.live ++ le 2 (v.store.length + v.derived.length) ++ le 2 d.prot.mka.length ++ le 2 v.jobs.length ++ zeros 2
             ++ le 8 v.nonce ++ le 8 v.ceiling ++ v.lastTamper.bytes ++ zeros 12) d s)) ∧
       (Taken { op := 0x0606, shared := sharedState, len := 88, held := true, vault := true,
                resv := fun p => below 2 3 p && z 3 1 p && z 6 2 p } r .device s → ∀ d, taken 0x0606 r s = d →
         ∀ slot len blob x, fld (payload r) 0 2 = slot → fld (payload r) 4 2 = len → slice (payload r) 24 64 = blob →
         32 ≤ slot → slot ≤ 1022 → (len = 48 ∨ len = 64) → allZero (blob.drop len) = true →
         storeClass (fld blob 1 1) = true → keyLoadRunning slot d = false →
         idElsewhere (fld (payload r) 8 4) slot s.dev = false →
         x = (⟨none, r.mb.val, slot, fld (payload r) 2 1, 0, fld (payload r) 8 4, slice blob 0 len⟩ : KeyLoad) →
         (fld (payload r) 2 1 ≠ 2 → (tsFld (payload r) 12).isZero = true → s.dev.vault.queue = [] →
           exec (.vaultKeyInstall r) s = .next (running 0x0606 slot r
             { d with vault := { d.vault with queue := [x] } } s)) ∧
         (fld (payload r) 2 1 ≠ 2 → (tsFld (payload r) 12).isZero = true → s.dev.vault.queue ≠ [] →
           exec (.vaultKeyInstall r) s = .next (pended 0x0606 2000 slot r { d with vault := { d.vault with
             queue := d.vault.queue ++ [{ x with handle := some s.dev.host.nextHandle }] } } s)) ∧
         (∀ g, fld (payload r) 2 1 = 2 → (tsFld (payload r) 12).ns < 1000000000 → unitsOf (tsFld (payload r) 12) = g →
           s.dev.time.state ≠ .acquire → s.dev.time.grand + 50000 * 2 ^ 32 ≤ g →
           g ≤ s.dev.time.grand + 86400 * 1000000000 * 2 ^ 32 →
           exec (.vaultKeyInstall r) s = .next (pended 0x0606 2000 slot r { d with vault := { d.vault with
             queue := d.vault.queue ++ [{ x with handle := some s.dev.host.nextHandle, at_ := g }] } } s))) ∧
       (Taken { op := 0x0607, shared := sharedState, len := 4, held := true, vault := true, resv := z 2 2 } r .device s →
         ∀ d, taken 0x0607 r s = d → ∀ slot p, fld (payload r) 0 2 = slot → slot ≤ 1023 →
         keyLoadRunning slot d = false → (keySlot slot s.dev).pending = some p →
         (idElsewhere p.key.id slot s.dev = true → exec (.vaultKeyActivate r) s = .next (answered 0x0607 r .badState [] d s)) ∧
         (idElsewhere p.key.id slot s.dev = false →
           (p.handle = none → exec (.vaultKeyActivate r) s =
             .next (answered 0x0607 r .ok [] (mirrorActive slot (activateSlot slot d)) s)) ∧
           (∀ h, p.handle = some h → exec (.vaultKeyActivate r) s = .next (answered 0x0607 r .ok []
             (complete h .ok (le 4 p.key.id ++ le 4 1 ++ zeros 8) (mirrorActive slot (activateSlot slot d))) s)))) ∧
       (Taken { op := 0x0608, shared := sharedState, len := 4, vault := true, resv := onlyBits 2 2 1 } r .device s →
         ∀ d, taken 0x0608 r s = d → ∀ slot k e, fld (payload r) 0 2 = slot → 32 ≤ slot → slot ≤ 1023 →
         jobsBound slot s.dev = 0 → keyLoadRunning slot d = false → keySlot slot s.dev = k →
         areaDel slot true (cancelActivation slot .badState d) = e →
         (bit (fld (payload r) 2 2) 0 = false → k.active ≠ none ∨ k.pending ≠ none →
           exec (.vaultKeyDelete r) s = .next (answered 0x0608 r .ok [] (setKeySlot slot emptySlot (areaDel slot false e)) s)) ∧
         (bit (fld (payload r) 2 2) 0 = true → k.pending ≠ none →
           exec (.vaultKeyDelete r) s = .next (answered 0x0608 r .ok [] (setKeySlot slot { k with pending := none } e) s))) ∧
       (Taken { op := 0x0609, len := 4, vault := true, resv := z 2 2 } r .device s → ∀ d, taken 0x0609 r s = d →
         ∀ slot k a x sched, fld (payload r) 0 2 = slot → 32 ≤ slot → slot ≤ 1023 → keySlot slot s.dev = k → k.active = a →
         (a <|> k.pending.map (·.key)) = x → k.pending.bind (·.at_) = sched →
         exec (.vaultKeyQuery r) s = .next (answered 0x0609 r .ok
           (le 1 (b2n a.isSome + 2 * b2n k.pending.isSome + 4 * b2n sched.isSome)
             ++ le 1 ((x.map (·.cls)).getD 0) ++ le 1 ((x.map (fun y => attrOf y.cls)).getD 0)
             ++ le 1 ((x.map (fun y => y.bytes.length)).getD 0) ++ le 4 ((a.map (·.id)).getD 0)
             ++ le 4 ((k.pending.map (fun p => p.key.id)).getD 0) ++ le 4 (jobsBound slot d)
             ++ k.activatedAt.bytes ++ ((sched.map (fun g => (tsOf g).bytes)).getD (zeros 12)) ++ zeros 8) d s)) ∧
       (Taken { op := 0x0609, len := 4, vault := true, resv := z 2 2 } r .device s → ∀ d, taken 0x0609 r s = d →
         ∀ slot a, fld (payload r) 0 2 = slot → slot < 32 → Map.get? s.dev.vault.derived slot = a →
         exec (.vaultKeyQuery r) s = .next (answered 0x0609 r .ok
           (le 1 (b2n a.isSome + 8) ++ le 1 ((a.map (·.cls)).getD 0) ++ le 1 ((a.map (fun y => attrOf y.cls)).getD 0)
             ++ le 1 ((a.map (fun y => y.bytes.length)).getD 0) ++ le 4 ((a.map (·.id)).getD 0) ++ le 4 0
             ++ le 4 (jobsBound slot d) ++ zeros 12 ++ zeros 12 ++ zeros 8) d s)) ∧
       (Taken { op := 0x060A, len := 48, held := true, vault := true,
                resv := fun p => decide (1 ≤ fld p 1 1 ∧ fld p 1 1 ≤ 7) && onlyBits 2 1 1 p && z 3 1 p && z 6 2 p }
           r .device s → ∀ d, taken 0x060A r s = d → ∀ j mode hold slot aad data iv tag k nd, fld (payload r) 0 1 = j →
         fld (payload r) 1 1 = mode → bit (fld (payload r) 2 1) 0 = hold → fld (payload r) 4 2 = slot →
         fld (payload r) 8 4 = aad → fld (payload r) 12 4 = data → slice (payload r) 16 16 = iv → slice (payload r) 32 16 = tag →
         j < 16 → 32 ≤ slot → slot ≤ 1023 → Map.get? s.dev.vault.jobs j = none → (keySlot slot s.dev).active = some k →
         k.cls = laClass mode → laShapeOk mode aad data hold iv tag = true →
         (hold = false ∨ (s.dev.vault.jobs.any (fun e => e.2.hold)) = false) →
         (mode = 1 → nd = takeNonce s.otp d) → (mode = 2 → nd = (iv.take 12, d)) → (mode ≠ 1 → mode ≠ 2 → nd = (iv, d)) →
         ∀ job : LaJob, job =
           ⟨s.dev.host.nextHandle, mode, hold, slot, k, aad, data, nd.1, tag, [], 0, [], false, none, s.dev.time.elapsed, 0, 0, []⟩ →
         exec (.laJobStart r) s = .next (pended 0x060A (1000 + ceilDiv (aad + data) 3750) j r
           { nd.2 with vault := { nd.2.vault with jobs := Map.put nd.2.vault.jobs j job } } s)) ∧
       (Taken { op := 0x060C, len := 4, vault := true } r .device s → ∀ d n, taken 0x060C r s = d → fld (payload r) 0 4 = n →
         16 ≤ n → n ≤ 256 → n % 16 = 0 → s.dev.vault.trng = 0 →
         exec (.vaultRandom r) s = .next (answered 0x060C r .ok (le n (Config.freeNat d.free))
           { d with free := d.free + 1, vault := { d.vault with generates := d.vault.generates + 1 } } s)) ∧
       (Taken { op := 0x060D, len := 4, vault := true } r .device s → ∀ off n, fld (payload r) 0 2 = off →
         fld (payload r) 2 2 = n → 4 ≤ n → n ≤ 256 → n % 4 = 0 → off + n ≤ 8192 →
         (overlapsSecret off n = false →
           exec (.otpRead r) s = .next (answered 0x060D r .ok (otpBytes s.otp off n) (taken 0x060D r s) s)) ∧
         (overlapsSecret off n = true →
           exec (.otpRead r) s = .next (answered 0x060D r .badField [] (taken 0x060D r s) s))) ∧
       (Taken { op := 0x060E, len := 4, vault := true, resv := onlyBits 0 4 1 } r .device s → ∀ d, taken 0x060E r s = d →
         exec (.vaultCntRead r) s = .next (answered 0x060E r .ok (cntBytes .vault 0 8 d)
           (if bit (fld (payload r) 0 4) 0 then cntClear .vault 0 d else d) s)) ∧
       (Taken { op := 0x060B, len := 4, vault := true, resv := z 1 3 } r .device s → ∀ i d, taken 0x060B r s = d →
         fld (payload r) 0 1 = i → i < 16 → Map.has d.vault.jobs i = true →
         exec (.laJobAbort r) s = .next (s.withDev (endLaJob i .badState (respond (replyOf 0x060B r) .ok [] d))))) ∧
  (∀ (r : Request) (s : State) (o : Otp), s.otp = o →
       (Granted { op := 0x0602, len := 4, auth := .always, vault := true,
                  resv := fun p => decide (fld p 0 1 = 1 ∨ fld p 0 1 = 3 ∨ fld p 0 1 = 4) && z 1 3 p } r .device s →
         ∀ d, granted 0x0602 r s = d →
         (s.dev.vault.lc = 0 → fld (payload r) 0 1 = 1 → ∀ o', burn 0x252 1 o = o' →
           exec (.lcChange r) s = .next { answered 0x0602 r .ok [] (emptyStores .badState (lcMove o' d)) s with otp := o' }) ∧
         (s.dev.vault.lc = 2 → fld (payload r) 0 1 = 3 → ∀ o', burnHeld o = o' →
           exec (.lcChange r) s = .next { answered 0x0602 r .ok []
             (setFault 2 (stopService (lcMove o' (zeroize d)))) s with otp := o' }) ∧
         (s.dev.vault.lc ≠ 0 → s.dev.vault.lc < 4 → fld (payload r) 0 1 = 4 → ∀ o', burn 0x252 4 o = o' →
           exec (.lcChange r) s = .next { answered 0x0602 r .ok [] (stopService (lcMove o' (zeroize d))) s with otp := o' })) ∧
       (Granted { op := 0x0605, len := 4, auth := .always, vault := true, resv := z 1 3 } r .device s →
         ∀ d, granted 0x0605 r s = d → fld (payload r) 0 1 = heldEntries o → s.dev.vault.live = 0 →
         (s.dev.vault.lc = 3 → ∀ o', burnNext 0x256 15 o = o' →
           exec (.tamperClear r) s = .next { answered 0x0605 r .ok []
             (emptyStores .badState (lcMove o' { d with vault := { d.vault with latch := 0 } })) s with otp := o' }) ∧
         (s.dev.vault.lc < 2 → s.dev.vault.latch ≠ 0 →
           exec (.tamperClear r) s = .next (answered 0x0605 r .ok [] { d with vault := { d.vault with latch := 0 } } s))) ∧
       (Granted { op := 0x0603, len := 72, auth := .always, vault := true, resv := ownResv } r .device s →
         ∀ d te n otk o', granted 0x0603 r s = d → fld (payload r) 0 1 = te → fld (payload r) 2 2 = 64 → te < 8 →
         s.dev.vault.lc = 1 → s.dev.vault.latch = 0 → s.dev.vault.trng = 0 →
         openOtk (payload r) 0xFFFF0005 s.dev = some otk →
         ((List.range 8).find? (fun i => !bit (otpByte o 0x250) i)).getD 0 = n →
         burn 0x252 2 (burn 0x253 te (drawRoots n o (countBlob true d)).1) = o' →
         exec (.lcTakeOwnership r) s = .next { answered 0x0603 r .ok (ownerBlobs n otk (attOf o) o')
           (emptyStores .badState (lcMove o' (drawRoots n o (countBlob true d)).2)) s with otp := o' }) ∧
       (Granted { op := 0x0604, len := 72, auth := .always, vault := true, resv := ownResv } r .device s →
         ∀ d n otk o', granted 0x0604 r s = d → fld (payload r) 0 1 = 0 → fld (payload r) 2 2 = 64 → s.dev.vault.lc = 2 →
         s.dev.vault.trng = 0 → (ownerSlot o).getD 0 = n → n ≠ 7 →
         openOtk (payload r) (0xFFFF0001 + 0x100 * n) s.dev = some otk →
         burn 0x251 (2 ^ n) (drawRoots (n + 1) o (countBlob true d)).1 = o' →
         exec (.ownerRootRotate r) s = .next { answered 0x0604 r .ok (ownerBlobs (n + 1) otk (tkOf (n + 1) o') o')
           (lcMove o' (drawRoots (n + 1) o (countBlob true d)).2) s with otp := o' }))

/-- R194, R201, R202, R206 to R212: what each TABLE command answers and does. A command names one line die, or under
device scope every present one, each of which must be connected (R25). R226, R231 to R241: what each FABRIC command
answers and does. R259 to R264: what each QUEUE command answers and does. Forms shown to complete: tableAdd,
tableDelete, tableLookup, tableFlush, tableInfo, tableUnpin, clsCntRead, fabricGroupSet, fabricGroupQuery,
mirrorPlainEnable, mirrorQuery, fabricPortQuery, fabCntRead, bufStatus, queueQuery, shaperQuery, meterQuery,
portSchedQuery, queCntRead, queueFlush. -/
def Obligations.TableFabricAndQueueCommandsAnswer : Prop :=
  (∀ (r : Request) (t : Target) (s : State) (e : Bytes) (table : Nat), slice (payload r) 4 64 = e →
       fld (payload r) 0 1 = table →
       (Taken { op := 0x0701, len := 68, scopes := [.device, .dies [0, 1, 2, 3]], awake := true,
                resv := fun p => onlyBits 1 1 1 p && z 2 2 p } r t s → ∀ d, taken 0x0701 r s = d → ∀ ds l d' rep,
         addEntryOk table e = true → scopeDies t s.dev = some ds → bit (fld (payload r) 1 1) 0 = rep →
         (∀ fid mac, readKey table e = some (.mac fid mac) → 
           onDies (fun die d => addMacOn rep (addMac e) die (engineCatchUp die d)) ds [] d = .ok (l, d') →
           exec (.tableAdd r) s = .next (answered 0x0701 r .ok (indexBytes l) d' s)) ∧
         (∀ v6 fid len p, readKey table e = some (.pfx v6 fid len p) →
           onDies (addPfxOn rep v6 ⟨fid, len, p, fld e 20 4, fld e 24 1, bit (fld e 60 4) 1, none⟩) ds [] d = .ok (l, d') →
           exec (.tableAdd r) s = .next (answered 0x0701 r .ok (indexBytes l) d' s)) ∧
         (∀ die fid mac pos x d1, t = .die die → ds = [die] → readKey table e = some (.mac fid mac) → engineCatchUp die d = d1 →
           macFind die fid mac d1 = some pos → Map.get? d1.cls.mac (tblPos die pos) = some x → x.lock = false →
           (addMac e).fid = fid → (addMac e).mac = mac →
           (rep = true → exec (.tableAdd r) s =
             .next (answered 0x0701 r .ok (indexBytes [(die, pos)]) (macSet die pos (addMac e) d1) s)) ∧
           (rep = false → exec (.tableAdd r) s = .next (answered 0x0701 r .badState [] d s)))) ∧
       (Taken { op := 0x0702, len := 68, scopes := [.device, .dies [0, 1, 2, 3]], awake := true, resv := fun p => z 1 3 p }
           r t s → ∀ d, taken 0x0702 r s = d → ∀ ds key l d', keyOnly table e = true → scopeDies t s.dev = some ds →
         readKey table e = some key → onDies (deleteOn key) ds [] d = .ok (l, d') →
         exec (.tableDelete r) s = .next (answered 0x0702 r .ok [] d' s)) ∧
       (Taken { op := 0x0703, len := 68, scopes := [.dies [0, 1, 2, 3]], resv := fun p => z 1 3 p } r t s →
         ∀ d, taken 0x0703 r s = d → keyOnly table e = true →
         (∀ fid mac pos x, readKey table e = some (.mac fid mac) → macFind t.dieNo fid mac s.dev = some pos →
           Map.get? s.dev.cls.mac (tblPos t.dieNo pos) = some x →
           exec (.tableLookup r) s = .next (answered 0x0703 r .ok (le 4 (posIndex pos) ++ macBytes x) d s)) ∧
         (∀ fid mac, readKey table e = some (.mac fid mac) → macFind t.dieNo fid mac s.dev = none →
           exec (.tableLookup r) s = .next (answered 0x0703 r .ok (le 4 0xFFFFFFFF ++ zeros 64) d s)) ∧
         (∀ v6 fid len p pos x, readKey table e = some (.pfx v6 fid len p) →
           pfxFind v6 t.dieNo fid len p s.dev = some (pos, x) → x.held ≠ some .deleted →
           exec (.tableLookup r) s = .next (answered 0x0703 r .ok (le 4 (posIndex pos) ++ pfxBytes v6 x) d s))) ∧
       (Taken { op := 0x0704, len := 16, scopes := [.device, .dies [0, 1, 2, 3]], awake := true,
                resv := fun p => onlyBits 1 1 4 p && z 8 8 p } r t s → ∀ d, taken 0x0704 r s = d → ∀ ds flags fid dest,
         fld (payload r) 1 1 = flags → fld (payload r) 2 2 = fid → fld (payload r) 4 4 = dest → scopeDies t s.dev = some ds →
         (table = 3 ∨ table = 7 ∨ table = 9) → (bit flags 1 = true → fid < 4096) → (bit flags 2 = true → destValid dest = true) →
         exec (.tableFlush r) s = .next (pended 0x0704 500 table r { d with cls := { d.cls with
           flushes := d.cls.flushes ++ [⟨s.dev.host.nextHandle, ds, table, flags, fid, dest⟩] } } s)) ∧
       (Taken { op := 0x0705, len := 4, scopes := [.dies [0, 1, 2, 3]], resv := z 1 3 } r t s → ∀ d, taken 0x0705 r s = d →
         (∀ k used st locked pinned, tidOf table = some (k, false) →
           tableFigures k false t.dieNo s.dev = (used, st, locked, pinned) →
           exec (.tableInfo r) s = .next (answered 0x0705 r .ok
             (le 4 (4 * k.buckets) ++ le 4 used ++ le 2 st ++ le 2 (min locked 65535) ++ le 4 (4 * k.buckets * 95 / 100)
               ++ le 4 pinned ++ zeros 4) d s)) ∧
         (∀ k used st locked pinned, tidOf table = some (k, true) →
           tableFigures k true t.dieNo s.dev = (used, st, locked, pinned) →
           exec (.tableInfo r) s = .next (answered 0x0705 r .ok
             (le 4 64 ++ le 4 used ++ le 2 st ++ le 2 (min locked 65535) ++ le 4 64 ++ le 4 pinned ++ zeros 4) d s)) ∧
         (∀ n used, tidOf table = none → directFigures table t.dieNo s.dev = some (n, used) →
           exec (.tableInfo r) s = .next (answered 0x0705 r .ok
             (le 4 n ++ le 4 used ++ le 2 0 ++ le 2 0 ++ le 4 n ++ le 4 0 ++ zeros 4) d s))) ∧
       (Taken { op := 0x0706, len := 8, scopes := [.device, .dies [0, 1, 2, 3]], awake := true } r t s →
         ∀ d, taken 0x0706 r s = d → ∀ fid mac die pos x, fld (payload r) 0 2 = fid → fldBe (payload r) 2 6 = mac → fid < 4096 →
         t = .die die → macFind die fid mac s.dev = some pos → Map.get? s.dev.cls.mac (tblPos die pos) = some x →
         (x.pinned = true → exec (.tableUnpin r) s =
           .next (answered 0x0706 r .ok [] (macSet die pos (unpin (msNow d) x) d) s)) ∧
         (x.pinned = false → exec (.tableUnpin r) s = .next (answered 0x0706 r .badState [] d s))) ∧
       (Taken { op := 0x0707, len := 4, scopes := [.dies [0, 1, 2, 3]], resv := onlyBits 0 4 1 } r t s →
         ∀ d, taken 0x0707 r s = d →
         exec (.clsCntRead r) s = .next (answered 0x0707 r .ok (cntBytes .cls t.dieNo 22 d)
           (if bit (fld (payload r) 0 4) 0 then cntClear .cls t.dieNo d else d) s))) ∧
  (∀ (r : Request) (p : Nat) (s : State),
       (Taken { op := 0x0901, len := 12, awake := true, resv := fun p => below 2 4 p && z 3 1 p } r .device s →
         ∀ d, taken 0x0901 r s = d → ∀ g op n off codes, fld (payload r) 0 2 = g → fld (payload r) 2 1 = op →
         fld (payload r) 4 4 = n → fld (payload r) 8 4 = off → readCodes (memRead 0 s.dev.host.staging off (4 * n)) = codes →
         g < 8192 → n ≤ 1024 → (op = 3 → n = 0) → off % 4 = 0 → off + 4 * n ≤ 4194304 →
         (∀ m ∈ codes, destValid m = true ∧ (m / 2 ^ 28 = 1 ∨ m / 2 ^ 28 = 2)) → distinct codes = true →
         (presentUp s.dev = false → exec (.fabricGroupSet r) s = .next (answered 0x0901 r .badState [] d s)) ∧
         (presentUp s.dev = true → ∀ l x, group g s.dev = x → (op = 0 → l = codes) → (op = 1 → (∀ m ∈ codes, m ∉ x.members) ∧ l = x.members ++ codes) →
         (op = 2 → (∀ m ∈ codes, m ∈ x.members) ∧ l = x.members.filter (fun m => !codes.contains m)) → (op = 3 → l = []) →
         l.length ≤ 1024 →
         (∀ k, k < 4 → (l.filter (fun m => decide (destDie m = k))).length + otherEntries g k s.dev ≤ 65536) →
         oldVersionUsed g s.dev = false →
         exec (.fabricGroupSet r) s = .next (answered 0x0901 r .ok
           (le 4 l.length ++ le 4 ((x.version + 1) % 2 ^ 32) ++ zeros 8)
           { d with fab := { d.fab with groups := Map.put d.fab.groups g ⟨l, (x.version + 1) % 2 ^ 32⟩ } } s))) ∧
       (Taken { op := 0x0902, len := 8, resv := z 2 2 } r .device s → ∀ d, taken 0x0902 r s = d → ∀ g off x,
         fld (payload r) 0 2 = g → fld (payload r) 4 4 = off → group g s.dev = x → g < 8192 → off % 4 = 0 →
         off + 4 * x.members.length ≤ 4194304 →
         exec (.fabricGroupQuery r) s = .next (answered 0x0902 r .ok
           (le 4 x.members.length ++ le 4 x.version
             ++ le 4 ((List.range 4).map (fun k => if x.members.any (fun m => decide (destDie m = k)) then 2 ^ k else 0)).sum
             ++ zeros 4)
           { d with host := { d.host with staging := memWrite 0 d.host.staging off (x.members.flatMap (le 4)) } } s)) ∧
       (Taken { op := 0x0903, shared := sharedState, len := 4, scopes := [.ports [1, 2, 3]], auth := .enable1,
                resv := fun p => below 0 2 p && z 1 3 p } r (.port p) s → isPlain p s.dev = true →
         ∀ d, taken 0x0903 r s = d →
         exec (.mirrorPlainEnable r) s = .next (answered 0x0903 r .ok [] (analysisOff p d) s)) ∧
       (Granted { op := 0x0903, shared := sharedState, len := 4, scopes := [.ports [1, 2, 3]], auth := .enable1,
                  resv := fun p => below 0 2 p && z 1 3 p } r (.port p) s → isPlain p s.dev = true →
         ∀ d, granted 0x0903 r s = d → (vaultUp s.dev = false →
           exec (.mirrorPlainEnable r) s = .next (answered 0x0903 r .badState [] d s)) ∧
         (vaultUp s.dev = true → p ∈ s.dev.fab.analysis →
           exec (.mirrorPlainEnable r) s = .next (answered 0x0903 r .ok [] d s)) ∧
         (vaultUp s.dev = true → p ∉ s.dev.fab.analysis → exec (.mirrorPlainEnable r) s = .next (answered 0x0903 r .ok []
           { d with fab := { d.fab with
             analysis := p :: d.fab.analysis
             analysisFrom := Map.put d.fab.analysisFrom p d.fab.nextFrame
             sample := (plainSessions p (prm d)).foldl (fun m k => Map.put m k 0) d.fab.sample } } s))) ∧
       (Taken { op := 0x0904, len := 4, resv := fun p => below 0 8 p && onlyBits 1 1 1 p && z 2 2 p } r .device s →
         ∀ d, taken 0x0904 r s = d → ∀ k, fld (payload r) 0 1 = k →
         (Map.get? (prm s.dev).mirrors k = none →
           exec (.mirrorQuery r) s = .next (answered 0x0904 r .ok (le 1 k ++ le 1 0xFF ++ zeros 10 ++ le 4 1 ++ zeros 8 ++ cntBytes .mirror k 4 d)
             (if bit (fld (payload r) 1 1) 0 then cntClear .mirror k d else d) s)) ∧
         (∀ m, Map.get? (prm s.dev).mirrors k = some m →
           exec (.mirrorQuery r) s = .next (answered 0x0904 r .ok
             (le 1 k ++ le 1 m.point ++ le 1 (b2n m.plain)
               ++ le 1 (if m.enabled = false then 0 else if mirrorBlocked m d.fab.nextFrame d = true then 2 else 1)
               ++ le 4 (if m.point = 4 then 0 else (m.source.map portTarget).getD 0) ++ le 4 (portTarget m.dest) ++ le 4 m.sampleN
               ++ le 2 (if m.point = 4 then m.vid else 0) ++ le 1 (if m.point = 4 then m.classMask else 0) ++ zeros 1 ++ le 4 ((d.cfg.active.map (·.id)).getD 0) ++ cntBytes .mirror k 4 d)
             (if bit (fld (payload r) 1 1) 0 then cntClear .mirror k d else d) s))) ∧
       (Taken { op := 0x0905, len := 4, scopes := [.ports [1, 2, 3]], resv := onlyBits 0 4 1 } r (.port p) s →
         ∀ d, taken 0x0905 r s = d →
         exec (.fabricPortQuery r) s = .next (answered 0x0905 r .ok
           (le 1 (((portPrm p d).map (·.ctMask)).getD 0) ++ le 1 (prm d).releaseMask
             ++ le 1 (b2n (d.fab.analysis.contains p) + 2 * b2n (isPlain p d)) ++ zeros 1 ++ cntBytes .fport p 3 d ++ zeros 4)
           (if bit (fld (payload r) 0 4) 0 then cntClear .fport p d else d) s)) ∧
       (∀ n, Taken { op := 0x0906, len := 4, scopes := [.dies [0, 1, 2, 3]], resv := onlyBits 0 4 1 } r (.die n) s →
         ∀ d, taken 0x0906 r s = d →
         exec (.fabCntRead r) s = .next (answered 0x0906 r .ok (cntBytes .fab n 11 d)
           (if bit (fld (payload r) 0 4) 0 then cntClear .fab n d else d) s)) ∧
       (∀ n, Taken { op := 0x0907, len := 0, scopes := [.dies [0, 1, 2, 3]] } r (.die n) s → ∀ d, taken 0x0907 r s = d →
         ∀ own bad spilled held, (List.range 128).filter (fun k => decide (regionOwner k d = n)) = own →
         own.filter (fun k => decide
           ((region k d).state = .quarantined ∨ (region k d).state = .rebuilding ∨ (region k d).state = .heldOut)) = bad →
         d.que.queues.filter (fun e => decide (queueDie e.1 = n) && e.2.frames.any Frame.spilled) = spilled →
         ((d.act.egg.filter (fun h => decide (h.die = n) && h.spilled)).map (fun h => h.frame.data.length + 4)).sum = held →
         exec (.bufStatus r) s = .next (answered 0x0907 r .ok
           (le 4 (kib (256 * poolUnits n d)) ++ le 4 (kib (voqPool n d)) ++ le 4 (kib (256 * eggUnits n d)) ++ le 2 own.length
             ++ le 2 bad.length ++ le 8 (framesBytes (spilledOf n d) + held) ++ le 4 spilled.length ++ zeros 4) d s))) ∧
  (∀ (r : Request) (n p i : Nat) (s : State), fld (payload r) 0 4 = i →
       (Taken { op := 0x0801, len := 8, scopes := [.dies [0, 1, 2, 3]], resv := onlyBits 4 4 1 } r (.die n) s → i < 262144 →
         ∀ d, taken 0x0801 r s = d → ∀ q y x busy, 2 ^ 18 * n + i = q → queueAt q d = y → Map.get? (prm d).queues q = x →
         (!y.frames.isEmpty) = busy →
         exec (.queueQuery r) s = .next (answered 0x0801 r .ok
           (queueSettings x (b2n x.isSome + 2 * b2n (x.any (·.ecnEnable)) + 4 * b2n (decide (0 < queueSpilled q d))
               + 8 * b2n (rehomeHeld y d) + 16 * b2n y.fprev.isSome + 32 * b2n busy)
             ++ le 4 y.frames.length ++ le 8 (queueBytes q d) ++ le 8 (queueSpilled q d)
             ++ le 8 (if busy then y.tag else y.fprev.getD 0) ++ cntBytes .queue q 4 d
             ++ le 8 ((x.map (fun p => invWeight p.weight)).getD (2 ^ 32)) ++ zeros 8)
           (if bit (fld (payload r) 4 4) 0 then cntClear .queue q d else d) s)) ∧
       (Taken { op := 0x0802, len := 4, scopes := [.dies [0, 1, 2, 3]] } r (.die n) s → i < 65536 → ∀ d, taken 0x0802 r s = d →
         ∀ k, 65536 * n + i = k →
         (shaperPrm k d = none → exec (.shaperQuery r) s = .next (answered 0x0802 r .ok (zeros 64) d s)) ∧
         (∀ x b m, shaperPrm k d = some x → shaperBuckets k d = b →
           ((prm d).queues.filter (fun e => decide (queueDie e.1 = n) && decide (e.2.shaper = some i))).length = m →
           exec (.shaperQuery r) s = .next (answered 0x0802 r .ok
             (le 1 x.role ++ le 1 (if x.role = 2 then x.cls else 0) ++ le 2 (if x.role = 1 then min m 65535 else 0)
               ++ le 4 (portTarget x.port) ++ le 8 x.cir ++ le 8 x.pir ++ tokBytes (tok x.cbs) ++ tokBytes (tok x.pbs)
               ++ tokBytes b.c ++ tokBytes b.p ++ le 2 b.cRes ++ le 2 b.pRes ++ zeros 4) d s))) ∧
       (Taken { op := 0x0803, len := 8, scopes := [.dies [0, 1, 2, 3]], resv := onlyBits 4 4 1 } r (.die n) s → i < 65536 →
         ∀ d, taken 0x0803 r s = d → ∀ k, 65536 * n + i = k →
         (Map.get? (prm d).meters k = none →
           exec (.meterQuery r) s = .next (answered 0x0803 r .ok (zeros 56 ++ cntBytes .meter k 3 d ++ zeros 16)
             (if bit (fld (payload r) 4 4) 0 then cntClear .meter k d else d) s)) ∧
         (∀ x b, Map.get? (prm d).meters k = some x → meterBuckets k x d = b →
           exec (.meterQuery r) s = .next (answered 0x0803 r .ok
             (le 1 x.mode ++ le 1 x.colour ++ zeros 6 ++ le 8 x.cir ++ le 8 x.rate2 ++ tokBytes (tok x.cbs)
               ++ tokBytes (tok x.burst2) ++ tokBytes b.c ++ tokBytes b.p ++ cntBytes .meter k 3 d ++ zeros 16)
             (if bit (fld (payload r) 4 4) 0 then cntClear .meter k d else d) s))) ∧
       (Taken { op := 0x0804, len := 0, scopes := [.ports [1, 2, 3]] } r (.port p) s → ∀ d, taken 0x0804 r s = d →
         ∀ x, portPrm p d = some x →
         exec (.portSchedQuery r) s = .next (answered 0x0804 r .ok
           (le 1 x.strictMask ++ le 1 ((List.range 8).map (fun c => if classBacklog p c d then 2 ^ c else 0)).sum ++ zeros 2
             ++ le 4 (x.portShaper.getD 0xFFFFFFFF) ++ le 8 (vpOf p d)
             ++ (List.range 8).flatMap (fun c => le 2 (if bit x.strictMask c then 0 else Map.get x.classWeight c 1))
             ++ (List.range 8).flatMap (fun c => le 4 ((Map.get? x.classShaper c).getD 0xFFFFFFFF))
             ++ le 8 ((portQueues p d).map (fun e => queueBytes e.1 d)).sum ++ zeros 8) d s)) ∧
       (Taken { op := 0x0805, len := 4, scopes := [.dies [0, 1, 2, 3, 8]], resv := onlyBits 0 4 1 } r (.die n) s →
         ∀ d, taken 0x0805 r s = d →
         exec (.queCntRead r) s = .next (answered 0x0805 r .ok (cntBytes .que n 10 d)
           (if bit (fld (payload r) 0 4) 0 then cntClear .que n d else d) s)) ∧
       (Taken { op := 0x0806, len := 8, scopes := [.dies [0, 1, 2, 3]], resv := z 4 4 } r (.die n) s → i < 262144 →
         ∀ d, taken 0x0806 r s = d → ∀ q k b e, 2 ^ 18 * n + i = q → (Map.get? (prm s.dev).queues q).isSome = true →
         (queueAt q s.dev).frames.length = k → queueBytes q s.dev = b →
         bumpBy .queue q 2 k (bumpBy .que n 7 k (setQueue q ((queueAt q d).keep (fun _ => false)) d)) = e →
         (queueSpilled q s.dev = 0 →
           exec (.queueFlush r) s = .next (answered 0x0806 r .ok (le 4 k ++ zeros 4 ++ le 8 b) e s)) ∧
         (0 < queueSpilled q s.dev →
           exec (.queueFlush r) s = .next (pended 0x0806 100 q r
             { e with que := { e.que with flushes := e.que.flushes ++ [⟨s.dev.host.nextHandle, k, b⟩] } } s))))

/-- R283 to R292: what each TIME command answers and does. R312 to R316: what each PTP command answers and does. Forms
shown to complete: timeQuery, timeUnlock, timeStep, timeRate, timeSlew, timePulseSet, timeCaptureSet, timeCaptureRead,
timePtmRead, timeCntRead, ptpTsRead, ptpPortQuery, ptpLinkDelaySet, ptpInstanceQuery, tsCntRead. -/
def Obligations.TimeAndPtpCommandsAnswer : Prop :=
  (∀ (r : Request) (t : Target) (s : State),
       (Taken { op := 0x0A01, len := 0 } r t s → ∀ d, taken 0x0A01 r s = d → ∀ flags locks,
         b2n d.time.trefInUse + 2 * b2n d.time.trefPresent + 4 * b2n (decide (d.time.slew ≠ 0)) + 8 * b2n d.time.alarm
           + 16 * b2n d.time.step.isSome = flags →
         ((List.range 4).map (fun k => if islandsLocked k d then 2 ^ k else 0)).sum
           + 16 * b2n (island 16 d).locked + 32 * b2n (island 17 d).locked = locks →
         exec (.timeQuery r) s = .next (answered 0x0A01 r .ok
           (le 1 (timeCode d.time.state) ++ le 1 (prm d).timeSource ++ le 1 flags ++ le 1 locks
             ++ le 4 (ofSigned 32 d.time.rate) ++ le 8 d.time.inc ++ le 8 (ofSigned 64 (sns d.time.slew))
             ++ le 8 (ofSigned 64 (sns d.time.lastOffset)) ++ (tsOf d.time.grand).bytes ++ d.time.lastStep.bytes
             ++ d.time.since.bytes ++ le 4 d.time.steps ++ zeros 8) d s)) ∧
       (Taken { op := 0x0A02, len := 0 } r t s → ∀ d, taken 0x0A02 r s = d →
         (d.time.state = .acquire ∨ d.time.acquireAt.isSome = true →
           exec (.timeUnlock r) s = .next (answered 0x0A02 r .ok [] d s)) ∧
         (d.time.state ≠ .acquire → d.time.acquireAt = none →
           exec (.timeUnlock r) s = .next (answered 0x0A02 r .ok [] { d with time := { d.time with
             acquireAt := some ((d.time.grand + 25000 * 2 ^ 32 + 1000 * 2 ^ 32 - 1) / (1000 * 2 ^ 32) * (1000 * 2 ^ 32))
             acquireCause := 2 } } s))) ∧
       (Taken { op := 0x0A03, len := 32, resv := z 24 8, shared := sharedState } r t s → ∀ d, taken 0x0A03 r s = d →
         ∀ at_ new, tsFld (payload r) 0 = at_ → tsFld (payload r) 12 = new → at_.valid = true → new.valid = true →
         timeSourceNow d = 3 → d.time.state = .acquire → stepClose d = false → ∀ e, replaceStep d = e →
         (at_.isZero = true → exec (.timeStep r) s = .next (running 0x0A03 0 r { e with time := { e.time with
           step := some ⟨(d.time.grand + 20000 * 2 ^ 32 + 1000 * 2 ^ 32 - 1) / (1000 * 2 ^ 32) * (1000 * 2 ^ 32), new, none,
             some r.mb.val, none, [0, 1, 2, 3].filter (fun k => dieUp k e), 0⟩ } } s)) ∧
         (at_.isZero = false → d.time.grand + 50000 * 2 ^ 32 ≤ unitsOf at_ →
           unitsOf at_ ≤ d.time.grand + 86400 * 1000000000 * 2 ^ 32 →
           exec (.timeStep r) s = .next (pended 0x0A03 (boundTo (unitsOf at_) d) 0 r { e with time := { e.time with
             step := some ⟨unitsOf at_, new, some d.host.nextHandle, none, none,
               [0, 1, 2, 3].filter (fun k => dieUp k e), 0⟩ } } s))) ∧
       (Taken { op := 0x0A04, len := 8, resv := z 4 4 } r t s → ∀ d, taken 0x0A04 r s = d →
         ∀ x, toSigned 32 (fld (payload r) 0 4) = x → -1024000000 ≤ x → x ≤ 1024000000 →
         timeSourceNow d = 3 → d.time.state ≠ .freerun →
         exec (.timeRate r) s = .next (answered 0x0A04 r .ok []
           { d with time := { d.time with rate := x, inc := incOf x } } s)) ∧
       (Taken { op := 0x0A05, len := 16, resv := z 8 8 } r t s → ∀ d, taken 0x0A05 r s = d →
         ∀ x, toSigned 64 (fld (payload r) 0 8) = x → x.natAbs ≤ 1000000000 * 65536 → timeSourceNow d = 3 →
         (d.time.state = .track ∨ d.time.state = .locked ∨ d.time.state = .holdover) →
         1024000 ≤ slewRoom (decide (0 ≤ x)) d →
         exec (.timeSlew r) s = .next (answered 0x0A05 r .ok (le 8 (ofSigned 64 (sns d.time.slew))) (servo (x * 65536) d) s)) ∧
       (Taken { op := 0x0A06, len := 32,
                resv := fun p => below 0 8 p && below 1 3 p && below 2 2 p && z 3 1 p && z 28 4 p,
                shared := fun _ p d => decide (fld p 1 1 = 1) && pairedSecondary d } r t s → ∀ d, taken 0x0A06 r s = d →
         ∀ pin mode width period start x, fld (payload r) 0 1 = pin → fld (payload r) 1 1 = mode →
         fld (payload r) 4 4 = width → fld (payload r) 20 8 = period → tsFld (payload r) 8 = start → tpo pin d = x →
         start.valid = true → d.time.state ≠ .acquire →
         ∀ e, (x.activeUntil = none → x.polarity ≠ fld (payload r) 2 1 → e = emit (.pulse pin (decide (fld (payload r) 2 1 = 1))) d) →
         (x.activeUntil ≠ none ∨ x.polarity = fld (payload r) 2 1 → e = d) →
         (mode = 0 → period = 0 → exec (.timePulseSet r) s = .next (answered 0x0A06 r .ok []
           (setTpo pin ⟨0, fld (payload r) 2 1, width, start, 0, none, x.activeUntil⟩ e) s)) ∧
         (mode = 1 → period = 0 → 8 ≤ width → width ≤ 1000000000 → d.time.grand + 50000 * 2 ^ 32 ≤ unitsOf start →
           exec (.timePulseSet r) s = .next (answered 0x0A06 r .ok []
             (setTpo pin ⟨1, fld (payload r) 2 1, width, start, 0, some (unitsOf start), x.activeUntil⟩ e) s)) ∧
         (mode = 2 → 8 ≤ width → width ≤ 1000000000 → 1000 * 65536 ≤ period → (width + 8) * 65536 ≤ period →
           period < 2 ^ 63 → ∀ y : Tpo, ⟨2, fld (payload r) 2 1, width, start, period, none, x.activeUntil⟩ = y →
           exec (.timePulseSet r) s = .next (answered 0x0A06 r .ok []
             (setTpo pin { y with next := some (pulseStart y e) } e) s))) ∧
       (Taken { op := 0x0A07, len := 4, resv := fun p => below 0 4 p && below 1 4 p && z 2 2 p } r t s →
         ∀ d, taken 0x0A07 r s = d → ∀ pin e, fld (payload r) 0 1 = pin → fld (payload r) 1 1 = e →
         ((tci pin d).edge = e → exec (.timeCaptureSet r) s = .next (answered 0x0A07 r .ok [] (setTci pin (tci pin d) d) s)) ∧
         ((tci pin d).edge ≠ e → exec (.timeCaptureSet r) s =
           .next (answered 0x0A07 r .ok [] (setTci pin { tci pin d with edge := e, fifo := [] } d) s))) ∧
       (Taken { op := 0x0A08, len := 4, resv := fun p => below 0 4 p && z 2 2 p } r t s →
         ∀ d, taken 0x0A08 r s = d → ∀ pin n x, fld (payload r) 0 1 = pin → fld (payload r) 1 1 = n → tci pin d = x →
         1 ≤ n → n ≤ 32 → exec (.timeCaptureRead r) s = .next (answered 0x0A08 r .ok
           (le 4 (min n x.fifo.length) ++ le 4 x.lost
             ++ (x.fifo.take n).flatMap (fun (c : Capture) => c.time.bytes ++ le 4 c.flags))
           (setTci pin { x with fifo := x.fifo.drop n, lost := 0 } d) s)) ∧
       (Taken { op := 0x0A09, len := 0 } r t s → ∀ d, taken 0x0A09 r s = d → d.time.ptmEnabled = true → d.time.linkL0 = true →
         ∃ master delay, (exec (.timePtmRead r) s = .next (answered 0x0A09 r .ok
             ((tsOf (island 16 d).count).bytes ++ zeros 4 ++ le 8 master ++ le 4 delay ++ zeros 4)
             { d with free := d.free + 3 } s) ∨
           exec (.timePtmRead r) s = .next (answered 0x0A09 r .internalError [] (bump .time 0 12 { d with free := d.free + 1 }) s))) ∧
       (Taken { op := 0x0A0A, len := 4, resv := onlyBits 0 4 1 } r t s → ∀ d, taken 0x0A0A r s = d →
         exec (.timeCntRead r) s = .next (answered 0x0A0A r .ok (cntBytes .time 0 13 d)
           (if bit (fld (payload r) 0 4) 0 then cntClear .time 0 d else d) s))) ∧
  (∀ (r : Request) (p : Nat) (t : Target) (s : State),
       (Taken { op := 0x0A0B, len := 4, scopes := [.ports [1, 2, 3, 5]], resv := z 1 3 } r (.port p) s →
         ∀ d, taken 0x0A0B r s = d → ∀ n l, fld (payload r) 0 1 = n → 1 ≤ n → n ≤ 64 →
         Map.get d.ts.fifoHost p [] = l →
         exec (.ptpTsRead r) s = .next (answered 0x0A0B r .ok
           (le 4 (min n l.length) ++ le 4 (Map.get d.ts.hostLost p 0) ++ (l.take n).flatMap stampBytes)
           { d with ts := { d.ts with
             fifoHost := Map.put d.ts.fifoHost p (l.drop n)
             hostLost := Map.put d.ts.hostLost p 0 } } s)) ∧
       (Taken { op := 0x0A0C, len := 4, scopes := [.ports [1, 2, 3]], resv := onlyBits 0 4 1 } r (.port p) s →
         ∀ d, taken 0x0A0C r s = d → ∀ x i, portPrm p d = some x →
         (match instOfPort p d with | some (k, _) => k | none => 0xFF) = i →
         exec (.ptpPortQuery r) s = .next (answered 0x0A0C r .ok
           (le 1 x.ptpMode ++ le 1 x.ptpProfile ++ le 1 (b2n (Map.get? d.ts.linkDelay p).isSome + 2 * b2n x.pdelayHost)
             ++ le 1 i ++ zeros 4 ++ le 8 (ofSigned 64 ((Map.get? d.ts.linkDelay p).getD 0))
             ++ le 4 (ofSigned 32 (asymOf p (prm d))) ++ zeros 4 ++ cntBytes .ptp p 4 d ++ zeros 8)
           (if bit (fld (payload r) 0 4) 0 then cntClear .ptp p d else d) s)) ∧
       (Taken { op := 0x0A0D, len := 16, scopes := [.ports [1, 2, 3]], resv := z 8 8 } r (.port p) s →
         ∀ d, taken 0x0A0D r s = d → ∀ x v, portPrm p d = some x → x.ptpMode = 2 → x.pdelayHost = true →
         toSigned 64 (fld (payload r) 0 8) = v → 0 ≤ v → v ≤ 1000000 * 65536 →
         exec (.ptpLinkDelaySet r) s = .next (answered 0x0A0D r .ok []
           { d with ts := { d.ts with linkDelay := Map.put d.ts.linkDelay p v } } s)) ∧
       (Taken { op := 0x0A0E, len := 4, resv := fun p => below 0 4 p && z 1 3 p } r t s →
         ∀ d, taken 0x0A0E r s = d → ∀ i x y a, fld (payload r) 0 1 = i → (Map.get? (prm d).ptp i).getD {} = x →
         inst i d = y → y.parent.getD ⟨0, 0, 0, 0, 0, 0, 0, 0, 0⟩ = a → ∀ mpd,
         (match y.slavePort with | some q => (pathDelay i q x d).getD 0 | none => y.meanPathDelay.getD 0) = mpd →
         exec (.ptpInstanceQuery r) s = .next (answered 0x0A0E r .ok
           (le 1 x.role ++ le 1 x.domain ++ le 1 x.profile
             ++ le 1 (b2n x.timeSource + 2 * b2n x.oneStep + 4 * b2n (decide (x.role ≠ 0) && y.parent.isNone)
                       + 8 * b2n y.slavePort.isSome)
             ++ le 4 (match y.slavePort with | some q => portTarget q | none => 0) ++ le 8 a.identity ++ le 2 a.portNumber
             ++ le 1 a.clockClass ++ le 1 a.priority1 ++ le 2 a.stepsRemoved ++ zeros 2 ++ le 8 (ofSigned 64 y.lastOffset)
             ++ le 8 (ofSigned 64 mpd) ++ y.lastSync.bytes ++ le 4 y.syncRx ++ le 4 y.announceTimeouts ++ zeros 4) d s)) ∧
       (Taken { op := 0x0A0F, len := 4, scopes := [.dies [0, 1, 2, 3, 8]], resv := onlyBits 0 4 1 } r t s →
         ∀ d, taken 0x0A0F r s = d →
         exec (.tsCntRead r) s = .next (answered 0x0A0F r .ok (cntBytes .ts t.dieNo 11 d)
           (if bit (fld (payload r) 0 4) 0 then cntClear .ts t.dieNo d else d) s)))

/-- R342 to R345: what each GATE_LIST command and GATE_STATUS answer and do. R346 to R349: what the commands of timed
actions answer and do. Forms shown to complete: gateListInstall, gateListCancel, gateListRead, gateStatus, cdPeerSet,
cdQuery, actionList, eggCntRead. -/
def Obligations.GateAndTimedActionCommandsAnswer : Prop :=
  (∀ (r : Request) (p : Nat) (s : State),
       (Taken { op := 0x0B01, len := 64, scopes := [.ports [1, 2, 3]], shared := sharedState,
                resv := fun p => below 0 2 p && z 3 1 p && z 6 2 p && z 28 4 p && z 56 8 p } r (.port p) s →
         ∀ d, taken 0x0B01 r s = d → ∀ n off entries l now_ at_, fld (payload r) 4 2 = n → fld (payload r) 8 4 = off →
         memRead 0 d.host.staging off (8 * n) = entries → readGateList (payload r) entries = l →
         d.time.grand / 65536 = now_ → listChange l now_ = at_ → gateListOk l n off entries = true →
         at_ ≤ now_ + 86400 * 1000000000 * 65536 → d.time.state ≠ .acquire →
         (∀ t, (gateSt p d).change = some t → now_ + 20000 * 65536 ≤ t) →
         exec (.gateListInstall r) s = .next (answered 0x0B01 r .ok (gateInstallResp l at_ now_ (portMbps p d))
           (postGates p (setGate p { gateSt p d with
             admin := some l
             change := some at_
             extended := false
             cancelled := false
             gates := if (gateSt p d).oper.isNone then l.init else (gateSt p d).gates } d)) s)) ∧
       (Taken { op := 0x0B02, len := 0, scopes := [.ports [1, 2, 3]], shared := sharedState } r (.port p) s →
         ∀ d, taken 0x0B02 r s = d → ∀ t, (gateSt p d).change = some t → d.time.grand / 65536 + 20000 * 65536 ≤ t →
         exec (.gateListCancel r) s = .next (answered 0x0B02 r .ok []
           (postGates p (setGate p { gateSt p d with
             change := none
             extended := false
             cancelled := (gateSt p d).oper.isNone } d)) s)) ∧
       (Taken { op := 0x0B03, len := 8, scopes := [.ports [1, 2, 3]], resv := fun p => below 0 2 p && z 1 3 p }
           r (.port p) s → ∀ d, taken 0x0B03 r s = d → ∀ l off, fld (payload r) 4 4 = off →
         (if fld (payload r) 0 1 = 0 then (gateSt p d).admin else (gateSt p d).oper) = some l → off % 8 = 0 →
         off + 8 * l.entries.length ≤ 4194304 →
         exec (.gateListRead r) s = .next (answered 0x0B03 r .ok (gateListBytes l off) { d with host := { d.host with
           staging := memWrite 0 d.host.staging off (l.entries.flatMap (fun e => le 1 e.1 ++ zeros 3 ++ le 4 e.2)) } } s)) ∧
       (Taken { op := 0x0B04, len := 4, scopes := [.ports [1, 2, 3]], resv := onlyBits 0 4 1 } r (.port p) s →
         ∀ d, taken 0x0B04 r s = d → ∀ g en running, gateSt p d = g →
         (match g.admin with | some l => l.enable | none => false) = en → g.operating.isSome = running →
         exec (.gateStatus r) s = .next (answered 0x0B04 r .ok
           (le 1 (gateStateCode g) ++ le 1 g.gates ++ le 1 (b2n g.change.isSome + 2 * b2n (g.change.isSome && en)) ++ zeros 1
             ++ le 2 (if running then g.entry else 0) ++ zeros 2
             ++ (if running then TS96.ofCount g.cycleStart else TS96.zero).bytes
             ++ (match g.change, g.restart with
                 | some t, _ => TS96.ofCount t
                 | none, some t => TS96.ofCount t
                 | none, none => TS96.zero).bytes
             ++ cntBytes .gate p 6 d ++ zeros 16) (if bit (fld (payload r) 0 4) 0 then cntClear .gate p d else d) s))) ∧
  (∀ (r : Request) (p : Nat) (t : Target) (s : State),
       (Taken { op := 0x0B05, len := 8, scopes := [.ports [2, 3]], resv := fun p => onlyBits 2 1 1 p && z 3 1 p }
           r (.port p) s → ∀ d, taken 0x0B05 r s = d → ∀ i n v x, fld (payload r) 0 2 = i → 2048 * portDie p + i = n →
         fld (payload r) 4 4 = v → i < 2048 → (v = 0 ∨ (2000 ≤ v ∧ v ≤ 100000000)) → secyPrm (portDie p) i d = some x →
         x.port = p → x.hostKeying = true →
         exec (.cdPeerSet r) s = .next (answered 0x0B05 r .ok [] (cdJudge n { d with act := { d.act with
           cdPeer := Map.put d.act.cdPeer n (bit (fld (payload r) 2 1) 0, v) } }) s)) ∧
       (Taken { op := 0x0B06, len := 4, scopes := [.ports [2, 3]], resv := onlyBits 2 2 1 } r (.port p) s →
         ∀ d, taken 0x0B06 r s = d → ∀ i n x stamps told flags, fld (payload r) 0 2 = i → 2048 * portDie p + i = n →
         i < 2048 → secyPrm (portDie p) i d = some x → x.port = p →
         (match txInUse (portDie p) i d with | some a => (sa (saKey (portDie p) false i a) d).stamps | none => false) = stamps →
         (match cdPeerOf n x d with | some (_, v :: _) => v | _ => 0) = told →
         b2n (cdConfirmed (portDie p) i x d) + 2 * b2n stamps + 4 * b2n (d.act.delayMis.contains n) + 8 * b2n x.cd.pass
           + 16 * b2n x.cd.requireLocked = flags →
         exec (.cdQuery r) s = .next (answered 0x0B06 r .ok
           (le 1 x.cd.mode ++ le 1 flags ++ zeros 2 ++ le 4 x.cd.delay ++ le 4 told ++ zeros 4 ++ cntBytes .cd n 5 d ++ zeros 8)
           (if bit (fld (payload r) 2 2) 0 then cntClear .cd n d else d) s)) ∧
       (Taken { op := 0x0B07, len := 8 } r t s → ∀ d, taken 0x0B07 r s = d → ∀ off m all,
         fld (payload r) 0 4 = off → fld (payload r) 4 4 = m →
         (pendingActions d).foldl (fun l a => insertAction a l) [] = all → off % 32 = 0 → 1 ≤ m → m ≤ 16384 →
         off + 32 * (all.take m).length ≤ 4194304 →
         exec (.actionList r) s = .next (answered 0x0B07 r .ok (le 4 (all.take m).length ++ le 4 all.length)
           { d with host := { d.host with
             staging := memWrite 0 d.host.staging off ((all.take m).flatMap Action.bytes) } } s)) ∧
       (Taken { op := 0x0B08, len := 4, scopes := [.dies [0, 1, 2, 3]], resv := onlyBits 0 4 1 } r t s →
         ∀ d, taken 0x0B08 r s = d →
         exec (.eggCntRead r) s = .next (answered 0x0B08 r .ok (cntBytes .egg t.dieNo 18 d)
           (if bit (fld (payload r) 0 4) 0 then cntClear .egg t.dieNo d else d) s)))

/-- R370 to R373: what each MEMORY command answers and does. Forms shown to complete: memStatus, memRegionRekey,
memRegionReturn, memCntRead. -/
def Obligations.MemoryCommandsAnswer : Prop :=
  ∀ (r : Request) (t : Target) (s : State) (k : Nat), fld (payload r) 0 4 = k →
    (Taken { op := 0x0C01, len := 0, awake := true } r t s → ∀ d, taken 0x0C01 r s = d → ∀ n,
      ((List.range 128).filter (fun k => decide (shownState k d = .inService))).length = n →
      exec (.memStatus r) s = .next (answered 0x0C01 r .ok
        (le 4 n ++ le 4 (128 - n) ++ le 4 ((rekeying d).getD 0xFFFFFFFF) ++ le 4 d.mem.queue.length ++ d.mem.lastAlarm.bytes
          ++ zeros 4 ++ (List.range 128).flatMap (regionEntry d)) d s)) ∧
    (Taken { op := 0x0C02, len := 4, awake := true } r t s → ∀ d, taken 0x0C02 r s = d → k < 128 →
      shownState k d = .inService →
      exec (.memRegionRekey r) s = .next (pended 0x0C02 1000 k r (awaitRekey k (some d.host.nextHandle) d) s)) ∧
    (Taken { op := 0x0C03, len := 4, awake := true } r t s → ∀ d, taken 0x0C03 r s = d → k < 128 →
      (region k d).state = .heldOut → (region k d).handle = none → ∀ d', setRegion k { region k d with handle := some d.host.nextHandle } d = d' →
      (d.vault.trng ≠ 0 → exec (.memRegionReturn r) s = .next (pended 0x0C03 100 k r d' s)) ∧
      (d.vault.trng = 0 → exec (.memRegionReturn r) s = .next (pended 0x0C03 100 k r (freshRegion k .rebuilding d') s))) ∧
    (Taken { op := 0x0C03, len := 4, awake := true } r t s → ∀ d, taken 0x0C03 r s = d → k < 128 →
      (region k d).state = .heldOut → (region k d).handle.isSome = true →
      exec (.memRegionReturn r) s = .next (answered 0x0C03 r .busy [] d s)) ∧
    (Taken { op := 0x0C04, len := 4, scopes := [.device, .dies [8]], resv := onlyBits 0 4 1 } r t s →
      ∀ d, taken 0x0C04 r s = d →
      exec (.memCntRead r) s = .next (answered 0x0C04 r .ok (cntBytes .mem 0 14 d)
        (if bit (fld (payload r) 0 4) 0 then cntClear .mem 0 d else d) s))

/-- R395 to R400: what each PORT and LANE command answers and does. R398 to R400: what each LANE command answers and
does. Forms shown to complete: portQuery, portAdmin, portCntRead, laneQuery, laneEyeScan, laneEyeAbort. -/
def Obligations.PortAndLaneCommandsAnswer : Prop :=
  (∀ (r : Request) (p : Nat) (s : State) (x : PortPrm),
       (Taken { op := 0x0301, len := 0, scopes := everyPort } r (.port p) s → ∀ d, taken 0x0301 r s = d →
         portPrm p d = some x → ∀ y flags, portSt p d = y →
         b2n y.hold + 2 * b2n (anShown x) + 4 * b2n y.anComplete + 8 * b2n y.remoteFault + 16 * b2n y.localFault
           + 32 * b2n x.mediumCr + 64 * b2n (squelched p d) = flags →
         exec (.portQuery r) s = .next (answered 0x0301 r .ok
           (le 1 (linkStCode y.state) ++ le 1 x.form ++ le 1 x.side ++ le 1 (formLanes x.form) ++ le 1 flags ++ zeros 3
             ++ le 4 (if portLinked p d then portMbps p d else 0) ++ le 4 x.rxMax ++ y.since.bytes ++ zeros 4
             ++ le 8 y.lpAbility ++ zeros 8) d s)) ∧
       (Taken { op := 0x0302, len := 4, scopes := everyPort, resv := fun p => below 0 4 p && z 1 3 p } r (.port p) s →
         ∀ d, taken 0x0302 r s = d → ∀ op, fld (payload r) 0 1 = op → portPrm p d = some x →
         (p = 96 → twinAttached d = false) →
         (op = 0 → exec (.portAdmin r) s = .next (answered 0x0302 r .ok [] (adminDisable p d) s)) ∧
         (op = 1 → d.vault.lc ≠ 4 → exec (.portAdmin r) s = .next (answered 0x0302 r .ok [] (adminEnable p d) s)) ∧
         (op = 2 → (portSt p d).state ≠ .disabled → x.form ≤ 3 →
           exec (.portAdmin r) s = .next (answered 0x0302 r .ok [] (startTraining false p d) s)) ∧
         (op = 2 → (portSt p d).state ≠ .disabled → x.form = 7 →
           exec (.portAdmin r) s = .next (answered 0x0302 r .ok [] (portAgain false p d) s)) ∧
         (op = 3 → (portSt p d).state ≠ .disabled → negotiates x = true →
           exec (.portAdmin r) s = .next (answered 0x0302 r .ok [] (portTo .an p (anReset p d)) s))) ∧
       (Taken { op := 0x0303, len := 4, scopes := everyPort, resv := onlyBits 0 4 1 } r (.port p) s →
         ∀ d, taken 0x0303 r s = d →
         exec (.portCntRead r) s = .next (answered 0x0303 r .ok (cntBytes .port p 16 d)
           (if bit (fld (payload r) 0 4) 0 then cntClear .port p d else d) s))) ∧
  (∀ (r : Request) (p i l : Nat) (s : State), fld (payload r) 0 1 = i → laneOfPort p i = l →
       (Taken { op := 0x0304, len := 4, scopes := everyPort, resv := fun p => onlyBits 1 1 1 p && z 2 2 p } r (.port p) s →
         ∀ d, taken 0x0304 r s = d → ∀ x y st, i < portLanes p d → laneSt l d = x → portPrm p d = some y →
         b2n x.signal + 2 * b2n x.cdr + 4 * b2n x.lock + 8 * b2n x.frozen + 16 * b2n (bit y.txInvert i)
           + 32 * b2n (bit y.rxInvert i) + 64 * b2n x.pll = st →
         exec (.laneQuery r) s = .next (answered 0x0304 r .ok
           (le 1 (laneKind l) ++ le 1 st ++ le 1 (if laneKind l = 3 then x.rxId else i) ++ zeros 1
             ++ ((List.range 5).flatMap (fun k => le 1 (ofSigned 8 (x.taps.getD k 0)))) ++ zeros 7 ++ cntBytes .lane l 7 d)
           (if bit (fld (payload r) 1 1) 0 then cntClear .lane l d else d) s)) ∧
       (Taken { op := 0x0305, len := 24, scopes := everyPort, resv := z 20 4 } r (.port p) s →
         ∀ d, taken 0x0305 r s = d → ∀ hMin vMin hStep vStep nH nV dwell off ns,
         toSigned 8 (fld (payload r) 4 1) = hMin → toSigned 8 (fld (payload r) 6 1) = vMin → fld (payload r) 2 1 = hStep →
         fld (payload r) 3 1 = vStep → (toSigned 8 (fld (payload r) 5 1) - hMin).toNat / hStep + 1 = nH →
         (toSigned 8 (fld (payload r) 7 1) - vMin).toNat / vStep + 1 = nV → fld (payload r) 8 8 = dwell →
         fld (payload r) 16 4 = off → scanNs l dwell (nH * nV) d = ns → i < portLanes p d →
         scanOk (decide (p < 32)) (payload r) = true → off + 16 * (nH * nV) ≤ 4194304 → ns ≤ 3600000000000 →
         (portSt p d).state = .up → (laneSt l d).scan = none → ∀ w : EyeScan,
         ⟨d.host.nextHandle, fld (payload r) 1 1, hMin, hStep, nH, vMin, vStep, nV, dwell, off, 0, d.time.elapsed⟩ = w →
         exec (.laneEyeScan r) s = .next (pended 0x0305 (100 + (ns + 999999) / 1000000) l r
           (setLaneSt l { laneSt l d with scan := some w } d) s)) ∧
       (Taken { op := 0x0306, len := 4, scopes := everyPort, resv := z 1 3 } r (.port p) s →
         ∀ d, taken 0x0306 r s = d → ∀ x, i < portLanes p d → (laneSt l d).scan = some x →
         ∀ d', respond (replyOf 0x0306 r) .ok [] d = d' →
         exec (.laneEyeAbort r) s = .next (s.withDev (complete x.handle .badState [] (setLaneSt l { laneSt l d' with scan := none } d')))))

/-- R422 to R427: what each TWIN command answers and does. Forms shown to complete: twinQuery, twinPairkeyInstall,
twinAttach, twinDetach, twinTakeover, twinCntRead. -/
def Obligations.TwinCommandsAnswer : Prop :=
  ∀ (r : Request) (t : Target) (s : State),
    (Taken { op := 0x0D01, len := 0 } r t s → ∀ d, taken 0x0D01 r s = d → ∀ w flags, d.twin = w →
      b2n w.serving + 2 * b2n w.failIn + 4 * b2n w.failOut + 8 * b2n (strapHigh d) + 16 * b2n w.mirrorTables
        + 32 * b2n (pairKey d).isSome = flags →
      exec (.twinQuery r) s = .next (answered 0x0D01 r .ok
        (le 1 (twinCode w.state) ++ le 1 w.role ++ le 1 (prm d).twinMode ++ le 1 flags ++ le 8 w.peerSerial
          ++ le 4 w.peerVersion ++ le 1 w.recordVersion ++ zeros 3 ++ le 4 w.unprotected.length
          ++ le 8 (ofSigned 64 w.offset) ++ w.since.bytes ++ le 4 w.acked ++ zeros 16) d s)) ∧
    (Granted { op := 0x0D02, len := 72, auth := .always, held := true, vault := true, resv := z 2 2 } r t s →
      ∀ d, granted 0x0D02 r s = d → ∀ id blob, fld (payload r) 4 4 = id → slice (payload r) 8 64 = blob →
      fld (payload r) 0 2 = 64 → fld blob 1 1 = 5 → fld blob 3 1 = 32 → keyLoadRunning 1023 d = false →
      idElsewhere id 1023 d = false →
      d.vault.queue = [] → ∃ t',
        exec (.twinPairkeyInstall r) s = .next t' ∧ t'.otp = s.otp ∧
        t'.dev.vault = { d.vault with queue := [⟨none, r.mb.val, 1023, 0, 0, id, blob⟩] } ∧
        (mailbox r.mb.val t'.dev).busy = true ∧ t'.dev.out = []) ∧
    (Taken { op := 0x0D03, len := 4, resv := fun p => onlyBits 0 1 1 p && z 1 3 p } r t s →
      ∀ d, taken 0x0D03 r s = d → canAttach d = true → d.host.pend.length < 64 →
      exec (.twinAttach r) s = .next (s.withDev (startAttach 0 { opened 0x0D03 2000 0 r d s with
        twin := { d.twin with
          handle := some d.host.nextHandle
          mirrorTables := bit (fld (payload r) 0 1) 0 } }))) ∧
    (Taken { op := 0x0D04, len := 0 } r t s → ∀ d, taken 0x0D04 r s = d → d.twin.state = .paired →
      exec (.twinDetach r) s = .next (answered 0x0D04 r .ok [] (dissolve (heartbeat .unpaired d)) s)) ∧
    (Taken { op := 0x0D05, len := 4, resv := fun p => below 0 3 p && z 1 3 p } r t s →
      ∀ d, taken 0x0D05 r s = d → ∀ op, fld (payload r) 0 1 = op →
      (op = 0 → d.twin.state = .lost → standsBy d = true →
        exec (.twinTakeover r) s = .next (answered 0x0D05 r .ok [] (takeover 2 d) s)) ∧
      (op = 1 → d.twin.state = .paired → d.twin.serving = true →
        exec (.twinTakeover r) s = .next (answered 0x0D05 r .ok [] (handOverService d) s)) ∧
      (op = 2 → exec (.twinTakeover r) s = .next (answered 0x0D05 r .ok []
        { d with twin := { d.twin with failOut := true, squelch := true, serving := false } } s))) ∧
    (Taken { op := 0x0D06, len := 4, resv := onlyBits 0 4 1 } r t s → ∀ d, taken 0x0D06 r s = d →
      exec (.twinCntRead r) s = .next (answered 0x0D06 r .ok (cntBytes .twin 0 10 d)
        (if bit (fld (payload r) 0 4) 0 then cntClear .twin 0 d else d) s))

/-- R275 to R277: what an edge of PPSIN, a second without one, a message on TODI and the edges of TREF10 do. R277 to
R279: what the outputs of the time base send and what its capture inputs keep. Forms shown to complete: ppsinEdge,
ppsMissing, todMessage, tref10Loss, tref10Return, tref10RateWindow, todOutput, pulseEdge, tciEdge. -/
def Obligations.TimeInputsAndOutputs : Prop :=
  (∀ (s : State) (d : Dev), { s.dev with out := [] } = d → d.time.running = true →
       (∀ u d1, calibrated d.time.grand (-(pinCal s.otp 0x20 0 d)) = u →
         { d with time := { d.time with ppsLast := some (u, d.time.elapsed), todNext := none } } = d1 →
         (d.time.ppsLast = none → exec .ppsinEdge s = .next (s.withDev d1)) ∧
         (∀ v e, d.time.ppsLast = some (v, e) → 1000000 * unitsPerNs < ((u : Int) - v - unitsPerS).natAbs →
           exec .ppsinEdge s = .next (s.withDev (bump .time 0 5 d1))) ∧
         (∀ v e n, d.time.ppsLast = some (v, e) → ((u : Int) - v - unitsPerS).natAbs ≤ 1000000 * unitsPerNs →
           d.time.todNext = some n → timeSourceNow d = 2 → d.host.fwRestarting = false →
           exec .ppsinEdge s = .next (s.withDev (measure u (n * unitsPerS) d1)))) ∧
       (∀ u e d1, d.time.ppsLast = some (u, e) → waitTicks (e + ticksMs 1001) d = d1 →
         exec .ppsMissing s = .next (s.withDev (bump .time 0 5
           { d1 with time := { d1.time with ppsLast := some (u, d1.time.elapsed) } }))) ∧
       (∀ m u e, m.length = 16 → fldBe m 0 2 = 0xC33C → fldBe m 14 2 = crc16 (slice m 2 12) → d.time.ppsLast = some (u, e) →
         u + 100000000 * unitsPerNs ≤ d.time.grand → d.time.grand ≤ u + 900000000 * unitsPerNs → fld m 2 1 = 1 →
         bit (fld m 3 1) 0 = true → fld m 3 1 / 8 = 0 → fldBe m 12 2 = 0 →
         exec (.todMessage m) s = .next (s.withDev { d with time := { d.time with
           todNext := some (fldBe m 4 6)
           todInfo := fld m 3 1 * 65536 + fldBe m 10 2 } })) ∧
       (∀ m, (m.length ≠ 16 ∨ fldBe m 0 2 ≠ 0xC33C ∨ fldBe m 14 2 ≠ crc16 (slice m 2 12) ∨ d.time.ppsLast = none) →
         exec (.todMessage m) s = .next (s.withDev (bump .time 0 6 d))) ∧
       (d.time.trefPresent = true → exec .tref10Loss s = .next (s.withDev (record 0x122 deviceTarget []
         (bump .time 0 7 { d with time := { d.time with trefPresent := false, trefInUse := false } })))) ∧
       (d.time.trefPresent = false → exec .tref10Return s = .next (s.withDev { d with time := { d.time with
         trefPresent := true
         trefSince := d.time.elapsed
         trefWindow := d.time.grand } })) ∧
       (∀ edges d1 x, d.time.trefPresent = true → (prm d).tref10Use = true →
         waitUntil (d.time.trefWindow + 10 * unitsPerS) d = d1 →
         rateFor d1.time.rate (edges * 100 * unitsPerNs) (d1.time.grand - d1.time.trefWindow) = x →
         exec (.tref10RateWindow edges) s = .next (s.withDev { d1 with time := { d1.time with
           trefWindow := d1.time.grand
           trefInUse := true
           rate := x
           inc := incOf x } }))) ∧
  (∀ (s : State) (d : Dev), { s.dev with out := [] } = d →
       (d.time.running = true → ∀ n d1, (d.time.grand + 500000000 * unitsPerNs) / unitsPerS = n →
         waitUntil (n * unitsPerS + 500000000 * unitsPerNs) d = d1 → ∃ leap utc, leap < 4 ∧ utc < 65536 ∧
         exec .todOutput s = .next (s.withDev (emit (.tod (todBytes (b2n (decide (d1.time.state = .locked)) + leap * 2) (n + 1) utc))
           { d1 with
             time := { d1.time with todSent := some n }
             free := d1.free + 1 }))) ∧
       (∀ (pin : Fin 8) x, tpo pin.val d = x →
         (∀ u d1, x.activeUntil = some u → waitUntil (pinInstant s.otp pin.val u d) d = d1 →
           exec (.pulseEdge pin) s = .next (s.withDev (emit (.pulse pin.val (decide (x.polarity = 1)))
             (setTpo pin.val { x with activeUntil := none } d1)))) ∧
         (∀ g d1, x.activeUntil = none → x.next = some g → x.mode = 1 → waitUntil (pinInstant s.otp pin.val g d) d = d1 →
           exec (.pulseEdge pin) s = .next (s.withDev (emit (.pulse pin.val (decide (x.polarity = 0)))
             (setTpo pin.val { x with activeUntil := some (g + x.width * unitsPerNs), mode := 0, next := none } d1)))) ∧
         (∀ g d1, x.activeUntil = none → x.next = some g → x.mode = 2 → waitUntil (pinInstant s.otp pin.val g d) d = d1 →
           exec (.pulseEdge pin) s = .next (s.withDev (emit (.pulse pin.val (decide (x.polarity = 0)))
             (setTpo pin.val { x with activeUntil := some (g + x.width * unitsPerNs), next := some (g + x.period * 65536) } d1))))) ∧
       (∀ (pin : Fin 4) rising x e c, d.time.running = true → tci pin.val d = x → selects x.edge rising = true →
         (∀ l, x.lastEdge = some l → l + ticksUs 1 ≤ d.time.elapsed) → some d.time.elapsed = e →
         (⟨tsOf (calibrated d.time.grand (-(pinCal s.otp 0x21 pin.val d))),
           b2n rising + 2 * b2n (decide (d.time.state = .acquire)) + 4 * b2n (decide (d.time.state ≠ .locked))⟩ : Capture) = c →
         (x.fifo.length < 64 →
           exec (.tciEdge pin rising) s = .next (s.withDev (setTci pin.val { x with lastEdge := e, fifo := x.fifo ++ [c] } d))) ∧
         (64 ≤ x.fifo.length →
           exec (.tciEdge pin rising) s =
             .next (s.withDev (bump .time 0 8 (setTci pin.val { x with lastEdge := e, lost := x.lost + 1 } d))))))

/-- R270: what a measurement does in each state of device time, and R267: it is slewed away, never written to the
counter. -/
def Obligations.MeasurementFollowsState : Prop :=
  ∀ (loc ref : Nat) (d : Dev) (off : Int), ((ref : Int) - loc) = off →
    (d.time.state = .freerun → (measure loc ref d).time.samples = d.time.samples ++ [⟨loc, ref⟩] ∧
      (measure loc ref d).time.grand = d.time.grand ∧ (measure loc ref d).time.acquireAt.isSome = true) ∧
    (d.time.state = .acquire → d.time.step = none → d.time.samples.length + 1 < (prm d).acqSamples →
      (measure loc ref d).time.samples = d.time.samples ++ [⟨loc, ref⟩] ∧ (measure loc ref d).time.step = none) ∧
    (d.time.state = .acquire → d.time.step = none → (prm d).acqSamples ≤ d.time.samples.length + 1 →
      ∃ x, (measure loc ref d).time.step = some x ∧ x.handle = none ∧ loc + 500000 * unitsPerNs ≤ x.at_ ∧
        x.at_ % (1000000 * unitsPerNs) = 0) ∧
    ((d.time.state = .track ∨ d.time.state = .locked ∨ d.time.state = .holdover) →
      (measure loc ref d).time.slew = off ∧ (measure loc ref d).time.lastOffset = off ∧
      (measure loc ref d).time.grand = d.time.grand ∧ (measure loc ref d).time.inc = d.time.inc) ∧
    (d.time.state = .holdover → (measure loc ref d).time.state = .track) ∧
    (d.time.state = .track → (prm d).lockCount ≤ d.time.lockRun + 1 → off.natAbs ≤ (prm d).lockThreshold * unitsPerNs →
      (measure loc ref d).time.state = .locked) ∧
    (d.time.state = .track → (prm d).lockThreshold * unitsPerNs < off.natAbs → 1 ≤ (prm d).lockCount →
      (measure loc ref d).time.state = .track ∧ (measure loc ref d).time.lockRun = 0) ∧
    (d.time.state = .locked → 3 ≤ d.time.unlockRun → (prm d).unlockThreshold * unitsPerNs < off.natAbs →
      (measure loc ref d).time.state = .track) ∧
    (d.time.state = .locked → off.natAbs ≤ (prm d).unlockThreshold * unitsPerNs →
      (measure loc ref d).time.state = .locked ∧ (measure loc ref d).time.unlockRun = 0)

/-- R270 to R273: how ACQUIRE is entered and left, what a step does, and R275: the loss of the source. Forms shown to
complete: acquireEntry, acquireTimeout, timeStepInstant, sourceLossTimeout. -/
def Obligations.TimeStatesChange : Prop :=
  ∀ (s : State) (d : Dev), { s.dev with out := [] } = d →
    (∀ g d1, d.time.acquireAt = some g → waitUntil g (unscheduledFirst g d) = d1 →
      exec .acquireEntry s = .next (s.withDev (eggSuspendAll (onGates gateAcquire
        (timeEnter .acquire d1.time.acquireCause (decide (d1.time.acquireCause = 2))
          (restPulses (cancelScheduled { d1 with time := { d1.time with
            acquireAt := none
            acquireStart := d1.time.elapsed
            samples := if d1.time.acquireCause = 1 then d1.time.samples else [] } }))))))) ∧
    (∀ d1 e, d.time.state = .acquire → waitTicks (d.time.acquireStart + ticksNs (prm d).acquireTimeout) d = d1 →
      { d1 with time := { d1.time with step := none, samples := [] } } = e → ∀ d2,
      (d.time.step = none → d2 = bump .time 0 1 e) →
      (∀ x, d.time.step = some x → d2 = bump .time 0 1 (settle x.handle x.mailbox .timePassed [] e)) →
      (d.time.stepped = false →
        exec .acquireTimeout s = .next (s.withDev (acquireEnd (timeEnter .freerun 3 true d2)))) ∧
      (d.time.stepped = true →
        exec .acquireTimeout s = .next (s.withDev (acquireEnd (bump .time 0 2 (timeEnter .holdover 3 true
          { d2 with time := { d2.time with slew := 0 } })))))) ∧
    (∀ x, d.time.step = some x → ∃ t, exec .timeStepInstant s = .next t ∧ t.otp = s.otp ∧
      t.dev.time.grand = unitsOf x.new ∧ t.dev.time.step = none ∧ t.dev.time.stepped = true ∧ t.dev.time.slew = x.residual ∧
      (t.dev.time.state = .track ∨ t.dev.time.state = .locked) ∧
      t.dev.time.lastStep = x.new ∧ t.dev.time.samples = [] ∧
      (∀ r, x.newRate = some r → t.dev.time.rate = r ∧ t.dev.time.inc = incOf r)) ∧
    (∀ e d1, (d.time.state = .track ∨ d.time.state = .locked) → lossDeadline d = some e → waitTicks e d = d1 →
      exec .sourceLossTimeout s = .next (s.withDev (bump .time 0 2 (timeEnter .holdover 4 false
        { d1 with time := { d1.time with slew := 0 } }))))

/-- R428, R429, R443, R447, R467: what the resets and the supplies do: PORST_N low and the loss of power leave the
device held in its cold reset, SRST_N low and SYSTEM_RESET reset all but what a warm reset keeps. Forms shown to
complete: porstNAssert, powerLoss, vstbyPowerOn, srstNAssert, systemResetFire. -/
def Obligations.ResetsTakeEffect : Prop :=
  ∀ (s : State) (d : Dev), { s.dev with out := [] } = d →
    (d.sys.porst = true → exec .porstNAssert s = .next (s.withDev (coldReset .run (zeroFillJobs d)))) ∧
    (∀ standby, exec (.powerLoss standby) s = .next (s.withDev { coldReset .off d with
      vault := { (coldReset .off d).vault with vstby := d.vault.vstby && standby } })) ∧
    exec .vstbyPowerOn s = .next (s.withDev { d with vault := { d.vault with vstbyLost := true, vstby := true } }) ∧
    (d.sys.porst = true → d.sys.vaultDone = true →
      exec .srstNAssert s = .next (s.withDev (warmReset 2 (zeroFillJobs d)))) ∧
    (∀ t e, d.sys.resetAt = some t → d.sys.porst = true → d.sys.vaultDone = true → warmReset 3 (zeroFillJobs (waitTicks t d)) = e →
      exec (.systemResetFire false) s = .next (s.withDev { e with sys := { e.sys with srst := true, stopped := true } })) ∧
    (∀ t, d.sys.resetAt = some t → d.sys.porst = true → d.sys.vaultDone = true →
      ∃ t', exec (.systemResetFire true) s = .next t' ∧ t'.otp = s.otp ∧ t'.dev.sys.resetCause = 3 ∧
        t'.dev.sys.porst = true ∧ t'.dev.sys.srst = true ∧ t'.dev.sys.starting = true ∧ t'.dev.sys.cold = false ∧
        t'.dev.vault.lc = d.vault.lc ∧ t'.dev.vault.latch = d.vault.latch ∧ t'.dev.cfg = Dev.reset.cfg)

/-- R443: what a cold and a warm reset keep, and what they return to its reset state. -/
def Obligations.ResetsKeepWhatTheyMust : Prop :=
  ∀ (d : Dev) (c : Nat) (w : Power),
    (coldReset w d).host = HostIf.reset ∧ (coldReset w d).time = TimeBase.reset ∧ (coldReset w d).cfg = Dev.reset.cfg ∧
    (coldReset w d).prot = Dev.reset.prot ∧ (coldReset w d).cls = Dev.reset.cls ∧ (coldReset w d).cnt = [] ∧
    (coldReset w d).vault.latch = d.vault.latch ∧ (coldReset w d).vault.lastTamper = d.vault.lastTamper ∧
    (coldReset w d).vault.area = d.vault.area ∧ (coldReset w d).vault.nonceSlots = d.vault.nonceSlots ∧
    (coldReset w d).vault.store = [] ∧ (coldReset w d).vault.vstby = d.vault.vstby ∧
    (coldReset w d).vault.loopPattern = d.vault.loopPattern ∧ (coldReset w d).obs.ring = d.obs.ring ∧ (coldReset w d).obs.nextSeq = d.obs.nextSeq ∧
    (coldReset w d).sys.flash = d.sys.flash ∧ (coldReset w d).sys.porst = false ∧ (coldReset w d).sys.power = w ∧
    (warmReset c d).host = HostIf.reset ∧ (warmReset c d).cfg = Dev.reset.cfg ∧ (warmReset c d).prot = Dev.reset.prot ∧
    (warmReset c d).cls = Dev.reset.cls ∧ (warmReset c d).que = Dev.reset.que ∧ (warmReset c d).mem = Dev.reset.mem ∧
    (warmReset c d).twin = Dev.reset.twin ∧ (warmReset c d).cnt = [] ∧
    (warmReset c d).vault.lc = d.vault.lc ∧ (warmReset c d).vault.derived = d.vault.derived ∧
    (warmReset c d).vault.latch = d.vault.latch ∧ (warmReset c d).vault.nonce = d.vault.nonce ∧
    (warmReset c d).vault.area = d.vault.area ∧ (warmReset c d).vault.store = [] ∧
    (warmReset c d).pkg.present = d.pkg.present ∧ (warmReset c d).obs.hours = d.obs.hours ∧
    (warmReset c d).obs.powerCycles = d.obs.powerCycles ∧ (warmReset c d).obs.ring = d.obs.ring ∧
    (warmReset c d).sys.flash = d.sys.flash ∧ (warmReset c d).sys.twrole = d.sys.twrole ∧
    (warmReset c d).sys.resetCause = c ∧ (warmReset c d).sys.porst = true ∧ (warmReset c d).sys.srst = false

/-- R144, R429, R430, R432, R444, R468: what the rising edges of PORST_N and SRST_N start. R68, R291, R499: what a
function-level reset, a PCIe link down and PCIE_PERST_N keep and reset. Forms shown to complete: porstNRelease,
srstNRelease, functionLevelReset, pcieLinkDown, pciePerst. -/
def Obligations.ReleasesAndEndpointResets : Prop :=
  (∀ (s : State) (d : Dev), { s.dev with out := [] } = d →
       (∀ twrole, d.sys.porst = false → d.vault.aonLatch = 0 → d.vault.vstbyLost = false →
         ∃ t, exec (.porstNRelease twrole true true) s = .next t ∧ t.otp = s.otp ∧ t.dev.sys.porst = true ∧
           t.dev.sys.srst = true ∧ t.dev.sys.resetCause = 1 ∧ t.dev.sys.twrole = twrole ∧ t.dev.sys.cold = true ∧
           t.dev.sys.vaultDone = true ∧ t.dev.sys.starting = true ∧ t.dev.sys.power = .run ∧
           t.dev.vault.lc = decodeLc s.otp ∧ t.dev.vault.latch = d.vault.latch ∧ t.dev.vault.trng = 0 ∧
           t.dev.obs.powerCycles = ((bestHours d).2 + 1) % 2 ^ 32 ∧ t.dev.time.running = true ∧
           (∀ k, k < 5 → linkState k t.dev = .retrain)) ∧
       (∀ twrole hubOk vaultOk, d.sys.porst = false → (hubOk = false ∨ vaultOk = false) →
         exec (.porstNRelease twrole hubOk vaultOk) s = .next (s.withDev { d with
         sys := { d.sys with porst := true, srst := true, power := .run, resetCause := 1, twrole := twrole, cold := true,
                             stopped := true } })) ∧
       (d.sys.porst = true → d.sys.srst = false → d.sys.vaultDone = true →
         ∃ t, exec (.srstNRelease true) s = .next t ∧ t.otp = s.otp ∧ t.dev.sys.srst = true ∧ t.dev.sys.starting = true ∧
           t.dev.vault.startHeld = decide (d.vault.latch ≠ 0) ∧ t.dev.vault.trng = 0 ∧ t.dev.vault.lc = d.vault.lc ∧ t.dev.time.running = true ∧
           t.dev.sys.resetCause = d.sys.resetCause ∧ (∀ k, k < 5 → linkState k t.dev = .retrain)) ∧
       (d.sys.porst = true → d.sys.srst = false → d.sys.vaultDone = true →
         exec (.srstNRelease false) s = .next (s.withDev { d with sys := { d.sys with srst := true, stopped := true } })) ∧
       (∀ trngOk, d.sys.porst = true → d.sys.srst = false → d.sys.vaultDone = false →
         exec (.srstNRelease trngOk) s = .next (s.withDev { d with sys := { d.sys with srst := true } }))) ∧
  (∀ (s : State) (d d1 : Dev), { s.dev with out := [] } = d → enumerated d = true →
       { d with
         host := hostFlr d.host
         vault := { d.vault with jobs := Map.mapVals d.vault.jobs (fun j => { j with heldDesc := none }) }
         time := { d.time with ptmEnabled := false } } = d1 →
       exec .functionLevelReset s = .next (s.withDev d1) ∧
       exec .pcieLinkDown s = .next (s.withDev { d1 with time := { d1.time with linkL0 := false } }) ∧
       exec .pciePerst s = .next (s.withDev { d1 with time := { d1.time with linkL0 := false } }) ∧
       d1.host.nrEnable = false ∧ d1.host.msixEnable = false ∧ d1.host.faultCause = 0 ∧ d1.host.pend = d.host.pend ∧
       d1.host.staging = d.host.staging ∧ d1.host.fwReady = d.host.fwReady ∧ d1.host.pci.d3hot = false ∧ d1.host.mbs.length = d.host.mbs.length ∧
       (∀ n, n < 16 → Map.get? d1.host.dma n = some { DmaChan.init with halted := true }))

/-- R36, R352, R430, R432, R436: what each step of start-up does. Forms shown to complete: memoryBistComplete,
hubRomBoot, stockpotTrainingComplete, firmwareStart, portEnableGraceExpiry, startupSetSaveComplete. -/
def Obligations.StartupSteps : Prop :=
  ∀ (s : State) (d : Dev), { s.dev with out := [] } = d →
    (∀ passed : BitVec 4, startingUp d = true → d.sys.bistDone = false →
      exec (.memoryBistComplete passed) s = .next (s.withDev (milestone 5 { d with
        sys := { d.sys with bistDone := true }
        pkg := { d.pkg with present := withLink (if d.sys.cold then passed.toNat else d.pkg.present) d } }))) ∧
    (startingUp d = true → d.sys.romDone = false → ∃ t, exec .hubRomBoot s = .next t ∧ t.otp = s.otp ∧
      t.dev.sys.romDone = true ∧ t.dev.time.linkL0 = true ∧ t.dev.free = d.free ∧
      (bootChoose (bootPlan d).1 s.otp (bootPlan d).2 = none → t.dev.sys.stopped = true) ∧
      (∀ k, bootChoose (bootPlan d).1 s.otp (bootPlan d).2 = some k →
        t.dev.sys.stopped = false ∧ t.dev.sys.runningSlot = k ∧ t.dev.host.fwVersion = (verifySlot k s.otp (bootPlan d).2).version)) ∧
    (∀ a b, d.sys.porst = true → d.sys.srst = true → d.sys.vaultDone = true → d.sys.stockpotDone = false →
      ∃ t, exec (.stockpotTrainingComplete a b) s = .next t ∧ t.otp = s.otp ∧ t.dev.sys.stockpotDone = true ∧
        t.dev.mem.trained = (if a then [0] else []) ++ (if b then [1] else []) ∧
        (∀ r, r < 128 → (a = true ∧ b = true → (region r t.dev).state = .inService) ∧
          (a = false ∧ b = false → (region r t.dev).state = .heldOut) ∧
          (a = true ∧ b = false → (region r t.dev).state = if r % 2 = 0 then .inService else .heldOut) ∧
          (a = false ∧ b = true → (region r t.dev).state = if r % 2 = 1 then .inService else .heldOut))) ∧
    (startingUp d = true → d.sys.bistDone = true → d.sys.romDone = true →
      ∃ t, exec .firmwareStart s = .next t ∧ t.otp = s.otp ∧ t.dev.sys.fwRunning = true ∧ t.dev.host.fwReady = true ∧
        t.dev.sys.starting = false ∧ t.dev.sys.keysLoaded = true ∧
        t.dev.twin.failOut = decide (d.vault.lc = 3 ∨ d.vault.lc = 4)) ∧
    (∀ p e d1, (portSt (portNum p) d).enabledAt = some e → waitTicks (e + ticksMs 500) d = d1 →
      exec (.portEnableGraceExpiry p) s = .next (s.withDev (trafficCheck
        (setPortSt (portNum p) { portSt (portNum p) d1 with enabledAt := none } d1)))) ∧
    (∀ h img k, d.sys.save = some (h, img) → olderCopy d = k →
      exec .startupSetSaveComplete s = .next (s.withDev (complete h .ok (slice img 8 4 ++ slice img 16 4 ++ zeros 8)
        { d with sys := { d.sys with
          save := none
          saveSeq := Map.put d.sys.saveSeq k (Map.get d.sys.saveSeq (1 - k) 0 + 1)
          flash := memWrite 0xFF d.sys.flash (0x2100000 + k * 0x400000) img } })))

/-- R441, R442: SLEEP begins once everything has left or 100 ms have passed, and a wake ends with its command. Forms
shown to complete: sleepEntryComplete, wakeComplete. -/
def Obligations.SleepAndWake : Prop :=
  ∀ (s : State) (d : Dev), { s.dev with out := [] } = d →
    (∀ h start, d.sys.power = .entering → d.sys.sleepOp = some (h, start) → d.sys.wakeOp = none →
      ∃ t, exec .sleepEntryComplete s = .next t ∧ t.otp = s.otp ∧ t.dev.sys.power = .sleep ∧ t.dev.sys.sleepOp = none ∧
        t.dev.host.trafficReady = false ∧ t.dev.twin.serving = false ∧ t.dev.act.egg = [] ∧ t.dev.que.queues = [] ∧
        t.dev.fab.voq = [] ∧ t.dev.mem.writes = [] ∧ t.dev.vault.lc = d.vault.lc) ∧
    (∀ h, d.sys.power = .waking → d.sys.wakeOp = some h →
      exec .wakeComplete s = .next (s.withDev (complete h .ok []
        (trafficCheck { d with sys := { d.sys with power := .run, wakeOp := none } }))))

/-- R40, R41, R43, R44, R48, R54, R55, R60, R63, R67, R69: what the host's accesses to BAR0 do, once they reach the
device. R55: the host makes room in a full ring, and RING_OVERFLOW reports what was lost. R39, R44: what a write to each
field of the function's configuration space does; D3hot closes BAR0 to the host. R40 to R42, R60, R69: what a read of
BAR0 returns. Forms shown to complete: mbDoneClear, faultCauseClear, fwRestartRequest, tsnapTrigger, nrEnable,
nrHeadWrite, hostifCntLowRead, doorbellDiscard, registerWrite, mailboxRequestWrite, ringOverflow. -/
def Obligations.HostRegistersAndRings : Prop :=
  (∀ (s : State) (d : Dev), { s.dev with out := [], time := { s.dev.time with linkL0 := true } } = d →
       hostReaches d = true →
       (∀ m : BitVec 32, exec (.mbDoneClear m) s = .next (s.withDev { d with host := { d.host with
         mbs := d.host.mbs.map (fun e => if bit m.toNat e.1 then (e.1, { e.2 with done := false }) else e) } })) ∧
       (∀ m : BitVec 32, exec (.faultCauseClear m) s = .next (s.withDev { d with host := { d.host with
         faultCause := d.host.faultCause &&& ((2 ^ 32 - 1) ^^^ m.toNat) } })) ∧
       (∀ v : BitVec 32, bit v.toNat 0 = true → d.sys.fwRunning = true → d.host.fwRestarting = false →
         ∃ t, exec (.fwRestartRequest v) s = .next t ∧ t.dev.host.fwRestarting = true ∧ t.dev.host.fwReady = false ∧
           t.dev.host.restartCause = 2 ∧
           t.dev.host.interrupted = (d.host.mbs.filter (fun e => e.2.busy)).map (fun e => (e.1, false)) ∧
           t.dev.host.mbs = d.host.mbs ∧ t.dev.host.staging = d.host.staging ∧ t.otp = s.otp) ∧
       (∀ v : BitVec 32, bit v.toNat 0 = true → exec (.tsnapTrigger v) s = .next (s.withDev { d with host := { d.host with
         tsnapValid := true
         tsnap := tsOf (island 16 d).count } })) ∧
       (∀ v : BitVec 32, (bit v.toNat 0 = false →
           exec (.nrEnable v) s = .next (s.withDev { d with host := { d.host with nrEnable := false } })) ∧
         (bit v.toNat 0 = true → d.host.nrEnable = false → ringValid d.host = true → d.host.lost = none →
           exec (.nrEnable v) s = .next (s.withDev { d with host := { d.host with
             nrEnable := true
             nrErr := false
             nrTail := 0
             nrPhase := true } })) ∧
         (bit v.toNat 0 = true → d.host.nrEnable = false → ringValid d.host = false →
           exec (.nrEnable v) s = .next (s.withDev (setFault 3 { d with host := { d.host with nrErr := true } })))) ∧
       (∀ v : BitVec 32, d.host.lost = none →
         exec (.nrHeadWrite v) s = .next (s.withDev { d with host := { d.host with nrHead := v.toNat } })) ∧
       (∀ i : Fin 8, exec (.hostifCntLowRead i) s = .next (s.withDev { d with host := { d.host with
         lastRead := cntGet .hostif 0 i.val d % 2 ^ 32
         cntLatch := Map.put d.host.cntLatch i.val (cntGet .hostif 0 i.val d / 2 ^ 32) } })) ∧
       (∀ v : BitVec 32, (16 ≤ v.toNat ∨ (mailbox (v.toNat % 16) d).busy = true ∨ d.host.fwReady = false) →
         exec (.doorbellDiscard v) s = .next (s.withDev (bump .hostif 0 0 d))) ∧
       (∀ (v : BitVec 32) (m : Fin 16), v.toNat = m.val → (mailbox m.val d).busy = false → d.host.fwReady = true →
         exec (.doorbellDiscard v) s = runOpcode (fld (mailbox m.val d).req 0 2) (storedRequest m s.dev) s) ∧
       (∀ v : BitVec 64, exec (.registerWrite (.bar0 0x040 4) v) s = exec (.doorbellDiscard (v.setWidth 32)) s) ∧
       (∀ (off : BitVec 18) data m o, off.toNat = 0x20000 + 0x2000 * m + o → o < 0x1000 → m < 16 →
         ((mailbox m d).busy = true → exec (.mailboxRequestWrite off data) s = .next (s.withDev (bump .hostif 0 1 d))) ∧
         ((mailbox m d).busy = false → exec (.mailboxRequestWrite off data) s = .next (s.withDev
           (setMailbox m { mailbox m d with req := (splice (mailbox m d).req o data).take 4096 } d)))) ∧
       (∀ v : BitVec 64, exec (.registerWrite (.bar0 0x080 4) v) s =
         .next (s.withDev { d with host := { d.host with nrBaseLo := v.toNat % 2 ^ 32 } })) ∧
       (∀ v : BitVec 64, exec (.registerWrite (.bar0 0x088 4) v) s =
         .next (s.withDev { d with host := { d.host with nrSize := v.toNat % 2 ^ 32 } })) ∧
       (∀ v : BitVec 64, exec (.registerWrite (.bar0 0x000 4) v) s = .next (s.withDev d)) ∧
       (∀ v : BitVec 64, exec (.registerWrite (.bar0 0x080 2) v) s = .next (s.withDev (bump .hostif 0 7 d)))) ∧
  (∀ (s : State) (d : Dev) (c f : Nat), { s.dev with out := [] } = d → d.host.lost = some (c, f) →
       d.host.nrEnable = true → (d.host.nrTail + 1) % d.host.nrSize ≠ d.host.nrHead →
       ∃ t, exec .ringOverflow s = .next t ∧ t.otp = s.otp ∧ t.dev.host.lost = none ∧
         t.dev.host.nrTail = (d.host.nrTail + 1) % d.host.nrSize ∧ t.dev.host.nrSeq = (d.host.nrSeq + 1) % 2 ^ 32 ∧
         (Output.hostWrite (d.host.nrBaseHi * 2 ^ 32 + d.host.nrBaseLo + 64 * d.host.nrTail)
           (notifBytes ⟨2, d.host.nrSeq, tsOf d.time.grand, 0xF0000000, le 4 c ++ le 4 f⟩ d.host.nrPhase)) ∈ t.dev.out) ∧
  (∀ (s : State) (d : Dev) (v : BitVec 64) (n : Nat), { s.dev with out := [] } = d → enumerated d = true → v.toNat = n →
       (bit n 0 = false → exec (.registerWrite (.config .msixEnable) v) s =
         .next (s.withDev { d with host := { d.host with msixEnable := false } })) ∧
       (d.host.pba = 0 → exec (.registerWrite (.config .msixEnable) v) s =
           .next (s.withDev { d with host := { d.host with msixEnable := bit n 0 } }) ∧
         exec (.registerWrite (.config .msixMask) v) s =
           .next (s.withDev { d with host := { d.host with pci := { d.host.pci with mask := bit n 0 } } }) ∧
         (n = 0 ∨ n = 3 → exec (.registerWrite (.config .powerState) v) s =
           .next (s.withDev { d with host := { d.host with pci := { d.host.pci with d3hot := decide (n = 3) } } }))) ∧
       exec (.registerWrite (.config .ptmEnable) v) s =
         .next (s.withDev { d with time := { d.time with ptmEnabled := bit n 0 } }) ∧
       (n = 128 ∨ n = 256 ∨ n = 512 → exec (.registerWrite (.config .maxPayload) v) s =
         .next (s.withDev { d with host := { d.host with pci := { d.host.pci with maxPayload := n } } })) ∧
       (n ∈ [128, 256, 512, 1024, 2048, 4096] → exec (.registerWrite (.config .maxRead) v) s =
         .next (s.withDev { d with host := { d.host with pci := { d.host.pci with maxRead := n } } })) ∧
       exec (.registerWrite (.config .aspm) v) s =
         .next (s.withDev { d with host := { d.host with pci := { d.host.pci with aspmL1 := bit n 1 } } }) ∧
       exec (.registerWrite (.config .aerStatus) v) s = .next (s.withDev { d with host := { d.host with
         pci := { d.host.pci with aer := d.host.pci.aer &&& ((2 ^ 32 - 1) ^^^ n % 2 ^ 32) } } }) ∧
       (∀ off size, d.host.pci.d3hot = true → exec (.registerWrite (.bar0 off size) v) s = .next (s.withDev d))) ∧
  (∀ (d : Dev) (size : Nat), registerRead 0x000 4 d = 0x1608B101 ∧ registerRead 0x004 4 d = devStatus d ∧
       registerRead 0x018 4 d = d.host.faultCause ∧ registerRead 0x090 4 d = d.host.nrTail ∧
       registerRead 0x01C 4 d = 0 ∧ registerRead 0x040 4 d = 0 ∧ bit (registerRead 0x100 4 d) 0 = false ∧
       (∀ off, off < 0x2000 → size ≠ 4 ∨ off % 4 ≠ 0 → registerRead off size d = 0) ∧
       (∀ off, 0x2200 ≤ off → off < 0x3000 ∨ 0x3008 ≤ off ∧ off < 0x20000 → registerRead off size d = 0) ∧
       (∀ i, i < 8 → registerRead (0x800 + 8 * i) 4 d = cntGet .hostif 0 i d % 2 ^ 32 ∧
         (∀ x, Map.get? d.host.cntLatch i = some x → registerRead (0x804 + 8 * i) 4 d = x)) ∧
       (∀ ch c, ch < 16 → dmaChan ch d = c →
         registerRead (0x1004 + 0x100 * ch) 4 d = b2n c.running + 2 * b2n c.halted + 256 * c.err ∧
         registerRead (0x1018 + 0x100 * ch) 4 d = c.cons))

/-- R60, R63, R64, R182, R203: what the host's accesses to a table through a window do. R60 to R62: what the registers
of a DMA channel, the start of a descriptor and the end of its transfer do. Forms shown to complete: windowDataWrite,
windowCommit, windowControlWrite, windowReadSnapshot, dmaEnable, dmaReset, dmaRingPost, dmaDescriptorStart,
dmaDescriptorDone. -/
def Obligations.WindowsAndDmaReachTables : Prop :=
  (∀ (s : State) (d : Dev) (die : Fin 4) (a : Fin 16) (e : Fin 16384) (n : Nat),
       { s.dev with out := [], time := { s.dev.time with linkL0 := true } } = d → hostReaches d = true →
       16 * die.val + a.val = n →
       (∀ (off : Fin 60) data t k b d0 d1, shown die.val a.val e.val d = .entry t k → tableWritable t = true →
         ((aperture n d).stage = some (entryKey t k, b) ∧ d0 = d ∨ (aperture n d).stage = none ∧ freshBytes 64 d = (b, d0)) →
         setAperture n { aperture n d0 with
           stage := some (entryKey t k, slice (splice b off.val (data.take (60 - off.val))) 0 64) } d0 = d1 →
         (off.val + data.length < 64 → exec (.windowDataWrite die a e off data) s = .next (s.withDev d1)) ∧
         (64 ≤ off.val + data.length → exec (.windowDataWrite die a e off data) s =
           .next (s.withDev (windowCommit n t die.val k (fld data (60 - off.val) 4) d1)))) ∧
       (∀ (off : Fin 60) data, shown die.val a.val e.val d = .off →
         exec (.windowDataWrite die a e off data) s = .next (s.withDev d)) ∧
       (∀ (off : Fin 60) data, shown die.val a.val e.val d = .nothing →
         exec (.windowDataWrite die a e off data) s = .next (s.withDev (bump .hostif 0 5 d))) ∧
       (∀ (ctl : BitVec 32) t k b, shown die.val a.val e.val d = .entry t k → tableWritable t = true →
         (aperture n d).stage = some (entryKey t k, b) → ∀ d1, commitEntry t die.val k (slice b 0 60 ++ le 4 ctl.toNat)
           (setAperture n { aperture n d with stage := none } d) = d1 →
         exec (.windowCommit die a e ctl) s = .next (s.withDev d1) ∧
         exec (.windowControlWrite die a e ctl) s = .next (s.withDev d1)) ∧
       (∀ (ctl : BitVec 32) t k d1 b d2, shown die.val a.val e.val d = .entry t k → tableWritable t = true →
         (∀ x, (aperture n d).stage ≠ some (entryKey t k, x)) → stagingFor n (entryKey t k) d = d1 →
         tableEntry t die.val k d1 = b →
         commitEntry t die.val k (slice b 0 60 ++ le 4 (fld b 60 4 / 4 * 4 + ctl.toNat % 4)) d1 = d2 →
         exec (.windowControlWrite die a e ctl) s = .next (s.withDev d2) ∧
         exec (.windowCommit die a e ctl) s = .next (s.withDev d2)) ∧
       (∀ t k, shown die.val a.val e.val d = .entry t k → tableWritable t = false →
         (∀ (off : Fin 60) data, exec (.windowDataWrite die a e off data) s = .next (s.withDev (bump .hostif 0 5 d))) ∧
         (∀ ctl, exec (.windowCommit die a e ctl) s = .next (s.withDev (bump .hostif 0 5 d)))) ∧
       (∀ (off : Fin 64) t k b, shown die.val a.val e.val d = .entry t k →
         (off.val < 4 ∨ ∀ x, (aperture n d).snap ≠ some (entryKey t k, x)) → tableEntry t die.val k d = b →
         ∀ d2, setAperture n { aperture n d with snap := some (entryKey t k, b) } d = d2 →
         exec (.windowReadSnapshot die a e off) s =
           .next (s.withDev { d2 with host := { d2.host with lastRead := fld b (off.val / 4 * 4) 4 } })) ∧
       (∀ (off : Fin 64) t k b, shown die.val a.val e.val d = .entry t k → 4 ≤ off.val →
         (aperture n d).snap = some (entryKey t k, b) →
         exec (.windowReadSnapshot die a e off) s =
           .next (s.withDev { d with host := { d.host with lastRead := fld b (off.val / 4 * 4) 4 } })) ∧
       (∀ off : Fin 64, shown die.val a.val e.val d = .off →
         exec (.windowReadSnapshot die a e off) s = .next (s.withDev { d with host := { d.host with lastRead := 0 } })) ∧
       (∀ (off : Fin 64) d1, shown die.val a.val e.val d = .nothing → bump .hostif 0 5 d = d1 →
         (diePresent die.val d = false → exec (.windowReadSnapshot die a e off) s =
           .next (s.withDev { d1 with host := { d1.host with lastRead := 0xFFFFFFFF } })) ∧
         (diePresent die.val d = true → exec (.windowReadSnapshot die a e off) s = .next (s.withDev { d1 with
           host := { d1.host with lastRead := Config.freeNat d.free % 2 ^ 32 }
           free := d.free + 1 })))) ∧
  (∀ (s : State) (d d0 : Dev) (ch : Fin 16) (c : DmaChan), { s.dev with out := [] } = d0 →
       { d0 with time := { d0.time with linkL0 := true } } = d → dmaChan ch.val d = c →
       (∀ v : BitVec 32, hostReaches d = true → ch.val < 14 →
         (exec (.dmaEnable ch v) s = .next (s.withDev (setChan ch.val { c with
           enable := bit v.toNat 0
           irqEnable := bit v.toNat 2
           running := bit v.toNat 0 && !c.halted } d))) ∧
         (bit v.toNat 1 = true → ∃ t, exec (.dmaReset ch v) s = .next t ∧ t.otp = s.otp ∧
           dmaChan ch.val t.dev = { c with
             enable := bit v.toNat 0
             irqEnable := bit v.toNat 2
             running := bit v.toNat 0
             halted := false
             err := 0
             cons := c.prod
             inFlight := none }) ∧
         exec (.dmaRingPost ch v) s = .next (s.withDev (setChan ch.val { c with prod := v.toNat } d))) ∧
       (∀ v : BitVec 32, hostReaches d = true → 14 ≤ ch.val →
         exec (.dmaEnable ch v) s = .next (s.withDev d) ∧ exec (.dmaReset ch v) s = .next (s.withDev d) ∧
         exec (.dmaRingPost ch v) s = .next (s.withDev d)) ∧
       (∀ bs x, c.inFlight = none → (ch.val < 14 ∧ c.halted = false ∧ c.enable = true ∧ c.cons ≠ c.prod ∨
           14 ≤ ch.val ∧ d0.host.fwReady = true ∧ d0.host.fwRestarting = false) →
         d0.sys.porst = true → d0.sys.srst = true → readDesc c.cons bs = x → ∀ d1, setChan ch.val { c with
           cons := (c.cons + 1) % max c.size 1
           inFlight := some x
           halted := false
           running := true } d0 = d1 →
         (descCode ch.val x d1 = 0 → exec (.dmaDescriptorStart ch bs) s =
           .next (s.withDev (takeDead ch.val (laPost (regionAt x.devAddr) x.length d1)))) ∧
         (descCode ch.val x d1 ≠ 0 → exec (.dmaDescriptorStart ch bs) s =
           .next (s.withDev (takeDead ch.val (descDone ch.val x (descCode ch.val x d1) d1))))) ∧
       (∀ data x off, c.inFlight = some x → x.devAddr = 0x2000000000 + off → off < 0x400000 → d0.vault.jobs = [] →
         (bit x.ctrl 0 = true → exec (.dmaDescriptorDone ch data none) s = .next (s.withDev (descDone ch.val x 0
           (emit (.hostWrite x.hostAddr (memRead 0 d0.host.staging off x.length)) d0)))) ∧
         (bit x.ctrl 0 = false → exec (.dmaDescriptorDone ch data none) s = .next (s.withDev (descDone ch.val x 0
           { d0 with host := { d0.host with
             staging := memWrite 0 d0.host.staging off (slice data 0 x.length) } }))) ∧
         (∀ err, exec (.dmaDescriptorDone ch data (some err)) s =
           .next (s.withDev (descDone ch.val x 4 (notePcieError err d0))))) ∧
       (∀ data x a, c.inFlight = some x → regionAt x.devAddr = a → d0.vault.jobs = [] → (∀ j o, a ≠ .laIn j o ∧ a ≠ .laOut j o) →
         (regionAnswers a d0 = false → exec (.dmaDescriptorDone ch data none) s = .next (s.withDev (descDone ch.val x 5 d0))) ∧
         (∀ bs d1, regionAnswers a d0 = true → stockpotBad ch.val a x d0 = none → bit x.ctrl 0 = true →
           regionRead a (decide (14 ≤ ch.val)) x.length d0 = (bs, d1) → exec (.dmaDescriptorDone ch data none) s =
             .next (s.withDev (descDone ch.val x 0 (emit (.hostWrite x.hostAddr bs) d1)))) ∧
         (regionAnswers a d0 = true → stockpotBad ch.val a x d0 = none → bit x.ctrl 0 = false →
           exec (.dmaDescriptorDone ch data none) s =
             .next (s.withDev (descDone ch.val x 0 (regionWrite a (slice data 0 x.length) d0)))) ∧
         (∀ b, regionAnswers a d0 = true → stockpotBad ch.val a x d0 = some b →
           exec (.dmaDescriptorDone ch data none) s = .next (s.withDev (descDone ch.val x 5 (readFailure b d0))))))

/-- R41, R59, R67, R438, R452, R453: the watchdog, the firmware restart, the lockout, and the ends of image writes and
verifications. Forms shown to complete: fwAliveTick, watchdogExpiry, firmwareFault, fwRestartComplete, authLockoutEnd,
fwImageWriteComplete, fwImageVerifyComplete. -/
def Obligations.FirmwareLives : Prop :=
  ∀ (s : State) (d : Dev), { s.dev with out := [] } = d →
    (d.sys.fwRunning = true → d.host.fwRestarting = false →
      exec .fwAliveTick s = .next (s.withDev { d with host := { d.host with
        fwAlive := (d.host.fwAlive + 1) % 2 ^ 32
        aliveAt := d.time.elapsed } }) ∧
      (∃ t, exec .watchdogExpiry s = .next t ∧ t.otp = s.otp ∧ t.dev.host.fwRestarting = true ∧
        t.dev.host.fwReady = false ∧ t.dev.host.restartCause = 1 ∧ d.host.aliveAt + ticksMs 100 ≤ t.dev.time.elapsed ∧
        t.dev.host.mbs = d.host.mbs ∧ t.dev.prot = d.prot ∧ t.dev.cls = d.cls ∧ t.dev.que = d.que) ∧
      (∃ t, exec .firmwareFault s = .next t ∧ t.otp = s.otp ∧ t.dev.host.fwRestarting = true ∧
        t.dev.host.fwReady = false ∧ t.dev.host.restartCause = 3 ∧ t.dev.host.mbs = d.host.mbs ∧
        t.dev.time = d.time ∧ t.dev.prot = d.prot ∧ t.dev.cls = d.cls ∧ t.dev.que = d.que)) ∧
    (d.host.fwRestarting = true → ∃ t, exec .fwRestartComplete s = .next t ∧ t.otp = s.otp ∧
      (bootChoose (bootPlan d).1 s.otp (bootPlan d).2 = none →
        t.dev.sys.stopped = true ∧ t.dev.sys.fwRunning = false) ∧
      (bootChoose (bootPlan d).1 s.otp (bootPlan d).2 ≠ none →
        t.dev.host.fwRestarting = false ∧ t.dev.host.fwReady = true ∧ t.dev.host.interrupted = [] ∧
        t.dev.host.held = [] ∧ bit t.dev.host.faultCause 0 = true)) ∧
    (∀ t0 d1, d.host.lockout = some t0 → waitTicks (t0 + ticksMs 10000) d = d1 →
      exec .authLockoutEnd s = .next (s.withDev { d1 with host := { d1.host with lockout := none, authFails := 0 } })) ∧
    (∀ w, d.sys.imgWrite = some w →
      exec .fwImageWriteComplete s = .next (s.withDev (complete w.handle .ok [] { d with sys := { d.sys with
        imgWrite := none
        flash := memWrite 0xFF
          (if w.erase then d.sys.flash.filter (fun c => c.1 < slotBase w.slot ∨ slotBase w.slot + 0x1000000 ≤ c.1)
            else d.sys.flash) (slotBase w.slot + w.offset) w.data } }))) ∧
    (∀ h slot v, d.sys.imgVerify = some (h, slot) → verifySlot slot s.otp d = v →
      exec .fwImageVerifyComplete s = .next (s.withDev (complete h .ok
        (le 1 v.verdict ++ le 1 v.root ++ le 2 v.security ++ le 4 v.version ++ zeros 8)
        { d with sys := { d.sys with
          imgVerify := none
          verdicts := Map.put d.sys.verdicts slot (v.verdict, v.security, v.version) } })))

/-- R30 to R37: what a flit sent and a flit received do to a package link. R32 to R36, R155: what the end of a retrain
attempt does to a package link. Forms shown to complete: flitSend, flitReceive, linkRetrainComplete, linkRetrainFail. -/
def Obligations.PackageLinksCarryFlits : Prop :=
  (∀ (s : State) (d : Dev) (k : Fin 5) (l : PkgLink) (toHub : Bool) (chan : Fin 4) (x : LinkDir) (c : FlitChan),
       { s.dev with out := [] } = d → Map.get? d.pkg.links k.val = some l → linkUp k.val d = true →
       hasChan k.val chan.val = true → linkDir toHub l = x → flitChan chan.val x = c →
       (∀ kind payload,
         (c.credits = 0 → exec (.flitSend k toHub chan kind payload) s = .next (s.withDev (setChanOf k.val toHub chan.val
           { c with stalled := some (c.stalled.getD d.time.elapsed) } d))) ∧
         (∀ w, 0 < c.credits → c.inBlock ≠ 0 → c.block.getD c.inBlock [] = w →
           ∃ t, exec (.flitSend k toHub chan kind payload) s = .next t ∧ t.otp = s.otp ∧
             t.dev.out = [.flit k.val toHub chan.val c.seq w] ∧
             Map.get? t.dev.pkg.links k.val = some (setDir toHub { x with chans := Map.put x.chans chan.val { c with
               credits := c.credits - 1
               seq := (c.seq + 1) % 65536
               inBlock := (c.inBlock + 1) % 4
               sent := Map.put c.sent c.seq w } } l)) ∧
         (0 < c.credits → c.inBlock = 0 → ∃ t n iv b w, n ≤ idleBlocks k.val x d ∧ iv = (x.iv + n) % 2 ^ 96 ∧
           blockFlits x.key iv kind chan.val c.seq payload = b ∧ b.getD 0 [] = w ∧
           exec (.flitSend k toHub chan kind payload) s = .next t ∧ t.otp = s.otp ∧
           t.dev.out = [.flit k.val toHub chan.val c.seq w] ∧
           ∃ y, Map.get? t.dev.pkg.links k.val = some (setDir toHub y l) ∧ y.key = x.key ∧ y.iv = (iv + 1) % 2 ^ 96 ∧
             y.blockAt = d.time.elapsed ∧ flitChan chan.val y = { c with
               credits := c.credits - 1
               seq := (c.seq + 1) % 65536
               inBlock := 1
               block := b
               sent := Map.put c.sent c.seq w
               ivs := c.ivs ++ [iv] })) ∧
       (∀ (seq : BitVec 16) w lost, (64 ≤ (seq.toNat + 65536 - c.expect) % 65536 ∨ Map.has c.ahead seq.toNat = true) →
         exec (.flitReceive k toHub chan seq w lost) s = .next (s.withDev d)) ∧
       (∀ (seq : BitVec 16) w lost n, (seq.toNat + 65536 - c.expect) % 65536 = n → n < 64 →
         Map.has c.ahead seq.toNat = false → flitSound w = true →
         (seq.toNat = c.expect → c.taken.length < 3 → Map.get? c.ahead ((c.expect + 1) % 65536) = none →
           ∃ t, exec (.flitReceive k toHub chan seq w lost) s = .next t ∧ t.otp = s.otp ∧ t.dev.out = [] ∧
             chanOf k.val toHub chan.val t.dev = { c with
               expect := (c.expect + 1) % 65536
               credits := min 64 (c.credits + 1)
               stalled := none
               sent := Map.del c.sent c.expect
               ahead := Map.del c.ahead c.expect
               taken := c.taken ++ [w] }) ∧
         (seq.toNat = c.expect → c.taken.length = 3 → Map.get? c.ahead ((c.expect + 1) % 65536) = none →
           blockAuthentic x.key (c.ivs.headD 0) (c.taken ++ [w]) = true →
           ∃ t, exec (.flitReceive k toHub chan seq w lost) s = .next t ∧ t.otp = s.otp ∧ t.dev.out = [] ∧
             chanOf k.val toHub chan.val t.dev = { c with
               expect := (c.expect + 1) % 65536
               credits := min 64 (c.credits + 1)
               stalled := none
               sent := Map.del c.sent c.expect
               ahead := Map.del c.ahead c.expect
               taken := []
               ivs := c.ivs.drop 1 }) ∧
         (seq.toNat = c.expect → c.taken.length = 3 → blockAuthentic x.key (c.ivs.headD 0) (c.taken ++ [w]) = false →
           ∃ t, exec (.flitReceive k toHub chan seq w lost) s = .next t ∧ t.otp = s.otp ∧
             ((l.authFails.filter (fun t => decide (d.time.elapsed < t + ticksMs 10000))).length < 2 →
               linkState k.val t.dev = .retrain) ∧
             (2 ≤ (l.authFails.filter (fun t => decide (d.time.elapsed < t + ticksMs 10000))).length →
               linkState k.val t.dev = .down ∧ bit t.dev.host.faultCause 1 = true)) ∧
         (seq.toNat ≠ c.expect → Map.has l.replays (replayKey toHub chan.val c.expect) = true →
           exec (.flitReceive k toHub chan seq w lost) s = .next (s.withDev (holdAhead k.val toHub chan.val seq.toNat w d))) ∧
         (seq.toNat ≠ c.expect → Map.has l.replays (replayKey toHub chan.val c.expect) = false →
           exec (.flitReceive k toHub chan seq w lost) s = .next (s.withDev
             (flitError k.val toHub chan.val c.expect lost (holdAhead k.val toHub chan.val seq.toNat w d))))) ∧
       (∀ (seq : BitVec 16) w lost q, (seq.toNat + 65536 - c.expect) % 65536 < 64 → Map.has c.ahead seq.toNat = false →
         flitSound w = false → replayKey toHub chan.val seq.toNat = q →
         (Map.get? l.replays q = none → exec (.flitReceive k toHub chan seq w lost) s =
           .next (s.withDev (askReplay k.val toHub chan.val seq.toNat (setLink k.val { l with
             state := .retry
             replays := Map.put l.replays q 0 } d)))) ∧
         (∀ n, Map.get? l.replays q = some n → n < 15 → exec (.flitReceive k toHub chan seq w lost) s =
           .next (s.withDev (askReplay k.val toHub chan.val seq.toNat (setLink k.val { l with
             replays := Map.put l.replays q (n + 1) } d)))) ∧
         (Map.get? l.replays q = some 15 → ∃ t,
           exec (.flitReceive k toHub chan seq w lost) s = .next t ∧ linkState k.val t.dev = .retrain ∧ t.otp = s.otp))) ∧
  (∀ (s : State) (d : Dev) (k : Fin 5) (l : PkgLink), { s.dev with out := [] } = d → Map.get? d.pkg.links k.val = some l →
       l.state = .retrain →
       (d.vault.trng = 0 → ∃ t a b tk tb, exec (.linkRetrainComplete k) s = .next t ∧ t.otp = s.otp ∧
         a = le 32 (Config.freeNat d.free) ∧ b = le 32 (Config.freeNat (d.free + 1)) ∧
         (k.val < 4 → tk = le 32 (Config.freeNat (d.free + 2)) ∧ tb = le 32 (Config.freeNat (d.free + 3))) ∧
         (k.val = 4 → tk = [] ∧ tb = []) ∧
         Map.get? t.dev.pkg.links k.val =
           some ⟨.up, [], 0, l.authFails, ⟨a, 0, d.time.elapsed, []⟩, ⟨b, 0, d.time.elapsed, []⟩, tk, tb, 0, 0⟩ ∧
         (∀ chan toHub, chanOf k.val toHub chan t.dev = FlitChan.full) ∧
         t.dev.out = [.linkKeys k.val (([a, b] ++ (if k.val < 4 then [tk, tb] else [])).map
           (kwpWrap (otpBytes s.otp (0x300 + 32 * k.val) 32)))]) ∧
       (d.vault.trng = 1 → exec (.linkRetrainComplete k) s = .next (s.withDev d) ∧
         exec (.linkRetrainFail k) s = .next (s.withDev d)) ∧
       (d.vault.trng = 2 → exec (.linkRetrainComplete k) s = exec (.linkRetrainFail k) s) ∧
       (d.vault.trng ≠ 1 → l.retrainFails < 2 → exec (.linkRetrainFail k) s = .next (s.withDev
         (setLink k.val { l with retrainFails := l.retrainFails + 1 } d))) ∧
       (d.vault.trng ≠ 1 → 2 ≤ l.retrainFails → ∃ t, exec (.linkRetrainFail k) s = .next t ∧ t.otp = s.otp ∧
         linkState k.val t.dev = .down ∧ bit t.dev.host.faultCause 1 = true ∧
         (startingUp d = true → k.val = 4 → t.dev.sys.stopped = true) ∧
         (startingUp d = true → k.val < 4 → diePresent k.val t.dev = false)))

/-- R268, R269: how a beacon measures an island and its reply disciplines it, and when the island is unlocked or loads
hub time. Forms shown to complete: beaconSend, beaconReceive, beaconReplyReceive, islandUnlock, islandHubLoad. -/
def Obligations.BeaconsDisciplineIslands : Prop :=
  ∀ (s : State) (d : Dev) (i : Island) (x : IslandSt) (k : Nat), { s.dev with out := [] } = d → islandNum i = k →
    island k d = x →
    (∃ t, exec .beaconSend s = .next t ∧ t.otp = s.otp ∧ t.dev.time.grand = d.time.grand ∧
      (beaconReaches k d = true → island k t.dev = { x with t1 := some d.time.grand, t2 := none }) ∧
      (beaconReaches k d = false → island k t.dev = x)) ∧
    (beaconReaches k d = true → x.t1.isSome = true →
      exec (.beaconReceive i) s = .next (s.withDev (setIsland k { x with t2 := some x.count } d))) ∧
    (∀ t1 t2 path off, x.t1 = some t1 → x.t2 = some t2 → beaconReaches k d = true →
      (match calPoint s.otp 0x10 k none (prm d) d with | some (f, u) => (calSum f u).1 | none => 0) = path →
      (((t2 : Int) - t1 - ((d.time.grand : Int) - t2)) / 2) = off →
      (((d.time.grand - t1 : Nat) : Int) ≤ (path + 4 * 65536) * 65536 → (x.locked = true ∨ off.natAbs ≤ 1000000 * 2 ^ 32) →
        ∃ t inc, exec (.beaconReplyReceive i) s = .next t ∧ t.otp = s.otp ∧ island k t.dev = { x with
          t1 := none
          t2 := none
          inc := inc
          locked := x.locked || decide (off.natAbs ≤ 2 ^ 32)
          lastOk := d.time.elapsed
          corr := -off
          corrTicks := corrTicks x.locked off } ∧ t.dev.time.grand = d.time.grand) ∧
      (((d.time.grand - t1 : Nat) : Int) ≤ (path + 4 * 65536) * 65536 → x.locked = false → 1000000 * 2 ^ 32 < off.natAbs →
        exec (.beaconReplyReceive i) s = .next (s.withDev (setIsland k { x with
          t1 := none
          t2 := none
          loadAt := some ((d.time.grand / (1000 * unitsPerNs) + 1) * (1000 * unitsPerNs)) } d))) ∧
      ((path + 4 * 65536) * 65536 < ((d.time.grand - t1 : Nat) : Int) → 16 ≤ k →
        exec (.beaconReplyReceive i) s = .next (s.withDev (setIsland k { x with t1 := none, t2 := none } d))) ∧
      ((path + 4 * 65536) * 65536 < ((d.time.grand - t1 : Nat) : Int) → k < 16 →
        exec (.beaconReplyReceive i) s = .next (s.withDev (bump .pkg (pkgObj (k / 4) true) 6
          (setIsland k { x with t1 := none, t2 := none } d))))) ∧
    (x.locked = true → ∃ t, exec (.islandUnlock i) s = .next t ∧ t.otp = s.otp ∧ (island k t.dev).locked = false ∧
      x.lastOk + ticksMs 1 ≤ t.dev.time.elapsed) ∧
    (∀ g d1, x.loadAt = some g → waitUntil g d = d1 →
      exec (.islandHubLoad i) s = .next (s.withDev (record 0x121 0xF0000000 (le 1 k ++ le 1 2) (setIsland k
        { island k d1 with count := d1.time.grand, corr := 0, corrTicks := 0, loadAt := none, lastOk := d1.time.elapsed } d1))))

/-- R71, R73, R77, R81, R84: how a load ends, what a swap does at its instant, and how the old set drains. The outcome
of compiling an image is open where the spec gives no layout of its sections. Forms shown to complete:
configLoadComplete, configSwapInstant, swapDrainEnd, swapDrainTimeout. -/
def Obligations.ConfigurationSetsExchange : Prop :=
  ∀ (s : State) (d : Dev), { s.dev with out := [] } = d →
    (∀ j, d.cfg.load = some j → ∃ t, exec .configLoadComplete s = .next t ∧ t.otp = s.otp ∧ t.dev.cfg.load = none ∧
      t.dev.cfg.active = d.cfg.active ∧
      (match (if presentUp d then checkImage j.image j.stage d else .error (.badState, 0)) with
       | .ok p => t.dev.cfg.shadow = some ⟨fld j.image 8 4, imageCrc j.image, j.image, p, 0⟩ ∧ t.dev.cfg.shadowState = .ready
       | .error _ => t.dev.cfg.shadow = d.cfg.shadow ∧ t.dev.cfg.shadowState = .empty)) ∧
    (∀ w x, d.cfg.swap = some w → d.cfg.shadow = some x →
      (w.mailbox.isSome = true ∨ swapConflict x.params (waitUntil w.at_ d) = false) →
      ∃ t, exec .configSwapInstant s = .next t ∧ t.otp = s.otp ∧ t.dev.cfg.swap = none ∧
        t.dev.cfg.active = some { x with params := altParams d.twin.tookHome x.params, gen := d.cfg.nextGen } ∧
        t.dev.cfg.nextGen = d.cfg.nextGen + 1 ∧ t.dev.cfg.shadow = d.cfg.active ∧
        t.dev.cfg.shadowState = (if d.cfg.active.isSome then .draining else .empty) ∧
        t.dev.cfg.lastSwap = tsOf w.at_ ∧ cntGet .cfg 0 0 t.dev = (cntGet .cfg 0 0 (waitUntil w.at_ d) + 1) % 2 ^ 48) ∧
    (∀ w x d1, d.cfg.swap = some w → d.cfg.shadow = some x → w.mailbox = none → waitUntil w.at_ d = d1 →
      swapConflict x.params d1 = true →
      exec .configSwapInstant s = .next (s.withDev (settle w.handle none .badState []
        { d1 with cfg := { d1.cfg with swap := none } }))) ∧
    (∀ x, d.cfg.shadowState = .draining → d.cfg.shadow = some x → carriesGen x.gen d = false →
      exec .swapDrainEnd s = .next (s.withDev { d with cfg := { d.cfg with shadowState := .ready } })) ∧
    (∀ x d1, d.cfg.shadowState = .draining → d.cfg.shadow = some x → waitTicks d.cfg.drainUntil d = d1 →
      ∃ t, exec .swapDrainTimeout s = .next t ∧ t.otp = s.otp ∧ t.dev.cfg.shadowState = .ready ∧
        t.dev.cfg.shadow = some x ∧ t.dev.cfg.active = d.cfg.active ∧
        cntGet .cfg 0 1 t.dev = (cntGet .cfg 0 1 d1 + genFrames x.gen d1) % 2 ^ 48 ∧
        (∀ f ∈ waitingFrames t.dev, f.gen ≠ x.gen) ∧ (∀ f ∈ t.dev.prot.fwBuf, f.gen ≠ x.gen))

/-- R114, R119, R124: a switch makes an INSTALLED slot the TX SA in use of its SecY, and the SA in use before it becomes
RETIRING; no other slot changes state. -/
def Obligations.SwitchMovesTransmit : Prop :=
  ∀ (die idx an : Nat) (d : Dev), idx < 2048 → an < 4 → (sa (saKey die false idx an) d).state = .installed →
    (sa (saKey die false idx an) (doSwitch die idx an d)).state = .inUse ∧
    (sa (saKey die false idx an) (doSwitch die idx an d)).nextPn = (sa (saKey die false idx an) d).nextPn ∧
    (sa (saKey die false idx an) (doSwitch die idx an d)).key = (sa (saKey die false idx an) d).key ∧
    (∀ a, txInUse die idx d = some a → (sa (saKey die false idx a) (doSwitch die idx an d)).state = .retiring) ∧
    (∀ k, k ≠ saKey die false idx an → (∀ a, txInUse die idx d = some a → k ≠ saKey die false idx a) →
      sa k (doSwitch die idx an d) = sa k d) ∧
    (∀ g k, sa k (switchAt g die idx an d) = sa k (doSwitch die idx an d))

/-- R115 to R117, R119, R122: how the oldest queued installation ends, and what a switch and a batch do at their
instants. Forms shown to complete: saKeyLoad, saTxSwitchInstant, saBatchInstant. -/
def Obligations.SaEventsTakeEffect : Prop :=
  ∀ (s : State) (d : Dev), { s.dev with out := [] } = d →
    (∀ x rest k p, d.prot.loads = x :: rest → saKey x.die x.rx x.sc x.an = k → dieUp x.die d = true →
      linkUp 4 d = true →
      secyPrm x.die (if x.rx then saSecy k d else x.sc) d = some p →
      ∃ t, exec (.saKeyLoad true) s = .next t ∧ t.otp = s.otp ∧ t.dev.prot.loads = rest ∧
        (match (if fld x.blob 1 1 = (if x.rx then 0x11 else 0x10) ∧ fld x.blob 4 4 = x.keyId then
            openBlob x.blob x.blob.length d else none) with
         | some key => if key.bytes.length = suiteKeyLen p.suite then
             (sa k t.dev).state = (if x.rx then .inUse else .installed) ∧ (sa k t.dev).key = key.bytes ∧
               (sa k t.dev).nextPn = x.nextPn ∧ (sa k t.dev).keyId = x.keyId ∧ (sa k t.dev).ssci = x.ssci ∧
               (sa k t.dev).salt = x.salt ∧ (sa k t.dev).installSeq = Map.get d.prot.installSeq x.die 1
           else (x.replace = false → (sa k t.dev).state = .empty) ∧ (x.replace = true → (sa k t.dev).key = (sa k d).key)
         | none => (x.replace = false → (sa k t.dev).state = .empty) ∧ (x.replace = true → (sa k t.dev).key = (sa k d).key))) ∧
    (d.prot.loads ≠ [] → linkState 4 d = .retrain → ∀ ok, exec (.saKeyLoad ok) s = .next (s.withDev d)) ∧
    (∀ x rest ok, d.prot.loads = x :: rest → linkState 4 d ≠ .retrain → (linkUp 4 d = false ∨ dieUp x.die d = false) →
      ∃ t, exec (.saKeyLoad ok) s = .next t ∧ t.otp = s.otp ∧ t.dev.prot.loads = rest ∧
        (x.replace = false → (sa (saKey x.die x.rx x.sc x.an) t.dev).state = .empty) ∧
        (x.replace = true → (sa (saKey x.die x.rx x.sc x.an) t.dev).key = (sa (saKey x.die x.rx x.sc x.an) d).key)) ∧
    (∀ x rest, d.prot.loads = x :: rest → dieUp x.die d = true → linkUp 4 d = true →
      ∃ t, exec (.saKeyLoad false) s = .next t ∧ t.otp = s.otp ∧ t.dev.prot.loads = rest ∧
        (x.replace = false → (sa (saKey x.die x.rx x.sc x.an) t.dev).state = .empty) ∧
        (x.replace = true → (sa (saKey x.die x.rx x.sc x.an) t.dev).key = (sa (saKey x.die x.rx x.sc x.an) d).key)) ∧
    (∀ (die : Fin 4) (idx : Fin 2048) n w d1, 2048 * die.val + idx.val = n → Map.get? d.prot.switches n = some w →
      waitIsland (dieIsland die.val) w.at_ (swapFirst w.at_ d) = d1 →
      exec (.saTxSwitchInstant die idx) s = .next (s.withDev (settle w.handle w.mailbox .ok
        ((tsOf w.at_).bytes ++ le 1 w.an ++ zeros 3) (switchAt w.at_ die.val idx.val w.an
          { d1 with prot := { d1.prot with switches := Map.del d1.prot.switches n } })))) ∧
    (∀ h b d1 d2, Map.get? d.prot.batches h = some b →
      b.list.foldl (fun e x => waitIsland (dieIsland x.1) b.at_ e) (waitUntil b.at_ (swapFirst b.at_ d)) = d1 →
      { d1 with prot := { d1.prot with batches := Map.del d1.prot.batches h } } = d2 →
      exec (.saBatchInstant h) s = .next (s.withDev (complete h .ok ((tsOf b.at_).bytes
          ++ le 4 (b.list.filter (fun e => (sa (saKey e.1 false e.2.1 e.2.2) d2).state = .installed)).length)
        (b.list.foldl (fun e x => switchAt b.at_ x.1 x.2.1 x.2.2 e) d2))))

/-- R118, R121, R124: how the SAs that no longer carry traffic end. Forms shown to complete: rxRetireTimerExpiry,
saDrained, saDrainLimitExpiry, switchGraceExpiry. -/
def Obligations.SaTimersExpire : Prop :=
  ∀ (s : State) (d : Dev), { s.dev with out := [] } = d →
    (∀ i t0, (sa (saIdKey i) d).retireAt = some t0 → d.sys.power = .sleep → d.time.lineElapsed < t0 →
      exec (.rxRetireTimerExpiry i) s = .next (s.withDev d)) ∧
    (∀ i t0 d1, (sa (saIdKey i) d).state = .inUse → (sa (saIdKey i) d).retireAt = some t0 → d.sys.power ≠ .sleep → d.sys.power ≠ .off →
      waitLine t0 d = d1 →
      exec (.rxRetireTimerExpiry i) s = .next (s.withDev (bump .key (saDie (saIdKey i)) 7 (setSa (saIdKey i)
        { sa (saIdKey i) d with retireAt := none, state := .retiring, since := tsOf d1.time.grand,
                                sinceTick := d1.time.lineElapsed }
        (setSa (saIdKey i) { sa (saIdKey i) d with retireAt := none } d1))))) ∧
    (∀ i, (sa (saIdKey i) d).state = .retiring → framesBound (saIdKey i) d = 0 →
      ∃ t, exec (.saDrained i) s = .next t ∧ t.otp = s.otp ∧
        sa (saIdKey i) t.dev = { emptySa with since := tsOf d.time.grand, sinceTick := d.time.lineElapsed } ∧
        (∀ k, k ≠ saIdKey i → sa k t.dev = sa k d) ∧ (∀ j, cntGet .sa (saIdKey i) j t.dev = 0 ∨ 64 ≤ j)) ∧
    (∀ i d1, (sa (saIdKey i) d).state = .retiring → d.sys.power ≠ .sleep → d.sys.power ≠ .off →
      waitLine ((sa (saIdKey i) d).sinceTick + ticksMs (prm d).drainLimit) d = d1 →
      ∃ t, exec (.saDrainLimitExpiry i) s = .next t ∧ t.otp = s.otp ∧
        sa (saIdKey i) t.dev = { emptySa with since := tsOf d1.time.grand, sinceTick := d1.time.lineElapsed } ∧
        (∀ f ∈ waitingFrames t.dev, f.slot ≠ some (saIdKey i)) ∧
        (∀ e ∈ t.dev.que.sending, e.2.frame.slot = some (saIdKey i) → e.2.stomp = true) ∧
        cntGet .key (saDie (saIdKey i)) 4 t.dev =
          (cntGet .key (saDie (saIdKey i)) 4 d1 + framesBound (saIdKey i) d1) % 2 ^ 48) ∧
    (∀ (die : Fin 4) (idx : Fin 2048) a p k d1, txInUse die.val idx.val d = some a → secyPrm die.val idx.val d = some p →
      saKey die.val false idx.val a = k → (sa k d).state = .exhausted → (sa k d).graceOver = false →
      d.sys.power ≠ .sleep → d.sys.power ≠ .off →
      waitLine ((sa k d).sinceTick + ticksMs p.switchGrace) d = d1 →
      ∃ t, exec (.switchGraceExpiry die idx) s = .next t ∧ t.otp = s.otp ∧
        sa k t.dev = { sa k d with graceOver := true } ∧ (∀ f ∈ waitingFrames t.dev, f.slot ≠ some k) ∧
        cntGet .secy (2048 * die.val + idx.val) 7 t.dev =
          (cntGet .secy (2048 * die.val + idx.val) 7 d1 + framesWaiting k d1) % 2 ^ 48)

/-- R94, R126 to R128, R138: what the firmware does with an MKA frame, at a hello time, when a peer's life ends, and
with a CAK that the vault takes. The keys of a CA follow IEEE 802.1X-2020 (PRESUMED, NOTES.md). Forms shown to complete:
mkaFrameProcess, mkaHelloSend, mkaPeerTimeout, mkaCaLoad. -/
def Obligations.MkaEventsTakeEffect : Prop :=
  ∀ (s : State) (d : Dev), { s.dev with out := [] } = d →
    (∀ f n p, fwRuns d = true →
      d.prot.fwBuf.find? (fun f => decide ((parse f.data).etype = 0x888E)) = some f → f.secy = some n →
      secyPrm (n / 2048) (n % 2048) d = some p →
      ∀ d1, { d with prot := { d.prot with fwBuf := d.prot.fwBuf.erase f } } = d1 →
      (p.hostKeying = true → exec .mkaFrameProcess s = .next (s.withDev (emit (.cpu f.port (tsOf f.tIn) f.data) d1))) ∧
      (∀ m, p.hostKeying = false → Map.get? d.prot.mka n = some m →
        (readMkpdu f.data = none → exec .mkaFrameProcess s = .next (s.withDev d1)) ∧
        (∀ x, readMkpdu f.data = some x →
          (x.ckn ≠ m.ckn ∨ x.agility ≠ 0x0080C201 → exec .mkaFrameProcess s = .next (s.withDev d1)) ∧
          (x.ckn = m.ckn → x.agility = 0x0080C201 →
            (aesCmac m.ick x.covered ≠ x.icv →
              exec .mkaFrameProcess s = .next (s.withDev (setMka n { m with rxBad := (m.rxBad + 1) % 2 ^ 32 } d1))) ∧
            (aesCmac m.ick x.covered = x.icv →
              exec .mkaFrameProcess s = .next (s.withDev (mkaReceive n p x m d1))))))) ∧
    (∀ (die : Fin 4) (idx : Fin 2048) n m p, 2048 * die.val + idx.val = n → Map.get? d.prot.mka n = some m →
      secyPrm die.val idx.val d = some p →
      ((fwRuns d = false ∨ p.hostKeying = true) → exec (.mkaHelloSend die idx) s = .next (s.withDev d)) ∧
      (fwRuns d = true → p.hostKeying = false →
        ∀ d2, (match m.helloAt with | some t => waitTicks (t + helloTime m) d | none => d) = d2 →
        let sent (m' : MkaSession) (d3 : Dev) : Dev := injectFrame false (some (secyCode p.port p.index)) 7 (mkpduBytes n p m' d3) none none
          (setMka n { m' with lastHello := now d3, helloAt := some d3.time.elapsed, msgNumber := (m'.msgNumber + 1) % 2 ^ 32 } d3)
        ((m.server = false ∨ m.rekey = false) →
          exec (.mkaHelloSend die idx) s = .next (s.withDev (sent m d2)) ∧ fldBe (mkpduBytes n p m d2) 12 2 = 0x888E) ∧
        (m.server = true → m.rekey = true → d.vault.trng = 0 → ∃ m' d3, Map.get? d3.prot.mka n = some m' ∧ m'.rekey = false ∧
          m'.keyNumber = (m.keyNumber + 1) % 2 ^ 32 ∧ exec (.mkaHelloSend die idx) s = .next (s.withDev (sent m' d3)))) ∧
      (∀ x, firstToDie m.peers = some x → ∃ t, exec (.mkaPeerTimeout die idx) s = .next t ∧ t.otp = s.otp ∧
        x.deadline ≤ t.dev.time.elapsed ∧ (∀ m', Map.get? t.dev.prot.mka n = some m' →
          m'.peers = m.peers.filter (fun y => decide (y.sci ≠ x.sci))) ∧
        (m.peers.filter (fun y => decide (y.sci ≠ x.sci)) = [] → t.dev.prot.enabled.contains n = false))) ∧
    (∀ ld rest n, d.prot.caLoads = ld :: rest → 2048 * ld.die + ld.secy = n →
      ∃ t, exec .mkaCaLoad s = .next t ∧ t.otp = s.otp ∧ t.dev.prot.caLoads = rest ∧
        (match (if fld ld.blob 1 1 = 3 ∧ fld ld.blob 4 4 = ld.keyId then openBlob ld.blob ld.blob.length d else none) with
         | some k => Map.get? t.dev.prot.mka n = some (newSession ld k.bytes (le 12 (Config.freeNat d.free)))
         | none => t.dev.prot.mka = d.prot.mka))

/-- R114, R118, R145, R147, R164, R165: what a detected tamper leaves: no working key, every line-die slot EMPTY,
nothing that waited for one; from OWNED the device enters HELD (or RETIRED at the 16th entry), one held_entry bit more. -/
def Obligations.TamperLeavesNoKeys : Prop :=
  ∀ (src : Nat) (o : Otp) (d : Dev), d.sys.porst = true → ∀ r, tamper src o d = r →
    (∀ k, (sa k r.2).state = .empty ∧ ((sa k d).state ≠ .empty → (sa k r.2).key = [] ∧ (sa k r.2).since = now d)) ∧ r.2.prot.loads = [] ∧ r.2.prot.switches = [] ∧ r.2.prot.batches = [] ∧ r.2.prot.mka = [] ∧
    r.2.prot.caLoads = [] ∧ r.2.vault.store = [] ∧ r.2.vault.queue = [] ∧ r.2.vault.jobs = [] ∧
    r.2.twin.keyOut = [] ∧ r.2.twin.keyIn = [] ∧ r.2.vault.latch = d.vault.latch ||| src ∧
    (d.vault.lc ≠ 2 → r.1 = o ∧ r.2.vault.lc = d.vault.lc) ∧
    (d.vault.lc = 2 → r.1 = burnHeld o ∧ r.2.vault.lc = decodeLc r.1 ∧ r.2.prot.enabled = [] ∧
      r.2.vault.derived = deriveAll r.2.vault.lc r.1 ∧ r.2.twin.failOut = true ∧ bit r.2.host.faultCause 2 = true)

/-- R155, R163, R165, R166: which readings of the sensors are tamper, and what the always-on island does while the
device is in reset. Forms shown to complete: clockMonitorEvent, supplyMonitorEvent, tamperLoopSample, tempSensorReading. -/
def Obligations.SensorsDetectTamper : Prop :=
  ∀ (s : State) (d : Dev), { s.dev with out := [] } = d →
    (∀ src, d.sys.porst = false → tamper src s.otp d = (s.otp, if d.vault.vstby then
      { d with vault := { d.vault with aonLatch := d.vault.aonLatch ||| src } } else d)) ∧
    (d.sys.porst = true → exec (.clockMonitorEvent .h) s = .next ⟨s.pending, (tamper 16 s.otp d).1, (tamper 16 s.otp d).2⟩) ∧
    (∀ dip high, d.sys.porst = true → (high = true ∨ dip ≤ 10000) → exec (.supplyMonitorEvent high dip) s =
      .next ⟨s.pending, (tamper 8 s.otp d).1, (tamper 8 s.otp d).2⟩) ∧
    (∀ dip, d.sys.porst = true → 10000 < dip →
      exec (.supplyMonitorEvent false dip) s = .next (s.withDev (powerLoss true d))) ∧
    (d.sys.porst = false → ∀ high dip, exec (.supplyMonitorEvent high dip) s = .next (s.withDev d)) ∧
    (∀ l0 l1 mesh, sensed d = false → exec (.tamperLoopSample l0 l1 mesh) s = .next (s.withDev d)) ∧
    (∀ d1, sensed d = true → bit (otpByte s.otp 0x253) 0 = true → Map.get d.vault.loopBad 0 0 = 1 → bit d.vault.live 0 = false →
      loopNext 1 (loopNext 0 (loopNew true 1 2 false
        (loopNew (bit (otpByte s.otp 0x253) 1) 2 1 false (loopNew true 2 0 true d).1).1).1) = d1 →
      exec (.tamperLoopSample (!loopOut 0 d) (loopOut 1 d) false) s = .next ⟨s.pending, (tamper 1 s.otp d1).1, (tamper 1 s.otp d1).2⟩) ∧
    (sensed d = true → ∃ t, exec (.tamperLoopSample (loopOut 0 d) (loopOut 1 d) false) s = .next t ∧ t.otp = s.otp ∧
      t.dev.vault.latch = d.vault.latch ∧ t.dev.prot = d.prot ∧ (∀ k, k < 3 → bit t.dev.vault.live k = false) ∧
      (∀ n, n < 2 → ∃ b : Bool, Map.get? t.dev.vault.loopPattern n =
        some ((Map.get d.vault.loopPattern n 0) <<< 1 ||| (if b then 1 else 0)))) ∧
    (∃ t, exec (.tempSensorReading []) s = .next t ∧ (d.vault.tempBad = [] → t.otp = s.otp ∧ t.dev.prot = d.prot ∧
      t.dev.vault.latch = d.vault.latch)) ∧
    (∀ raw : BitVec 16, awake d = true → d.sys.porst = true → d.vault.tempBad = [] →
      -5500 ≤ tempOf s.otp 0 raw → tempOf s.otp 0 raw ≤ 12500 →
      ∃ t, exec (.tempSensorReading [raw]) s = .next t ∧ t.otp = s.otp ∧ t.dev.prot = d.prot ∧
        Map.get? t.dev.obs.temp 0 = some (ofSigned 16 (tempOf s.otp 0 raw)))

/-- R155, R159: the random generator fails, is tested again and reseeds; the nonce ceiling is committed ahead of use.
Forms shown to complete: trngHealthFail, trngRetest, drbgReseed, nonceCeilingCommit. -/
def Obligations.RandomAndNonces : Prop :=
  ∀ (s : State) (d : Dev), { s.dev with out := [] } = d →
    (d.vault.trng = 0 → exec .trngHealthFail s = .next (s.withDev (record 0x116 0x90000000 (le 1 0 ++ le 1 0 ++ le 1 0)
      (bump .vault 0 5 { d with vault := { d.vault with trng := 1, trngFails := 0 } })))) ∧
    (d.vault.trng = 1 → ∃ t, exec (.trngRetest true) s = .next t ∧ t.otp = s.otp ∧ t.dev.vault.trng = 0 ∧
      t.dev.vault.trngFails = 0 ∧ t.dev.vault.generates = 0 ∧ t.dev.free = d.free + 1) ∧
    (d.vault.trng = 1 → ∃ t, exec (.trngRetest false) s = .next t ∧ t.otp = s.otp ∧
      t.dev.vault.trng = (if d.vault.trngFails = 2 then 2 else 1) ∧ t.dev.vault.trngFails = d.vault.trngFails + 1) ∧
    (d.vault.trng = 0 → ∃ t, exec .drbgReseed s = .next t ∧ t.otp = s.otp ∧ t.dev.vault.generates = 0 ∧
      t.dev.vault.reseedAt = t.dev.time.elapsed ∧
      (d.vault.generates < 65536 → d.vault.reseedAt + ticksMs 10000 ≤ t.dev.time.elapsed) ∧
      (65536 ≤ d.vault.generates → t.dev.time = d.time)) ∧
    (d.sys.vaultDone = true → d.vault.ceiling ≤ d.vault.nonce + 32768 → ∃ t, exec .nonceCeilingCommit s = .next t ∧ t.otp = s.otp ∧
      t.dev.vault.ceiling = d.vault.ceiling + 65536 ∧ t.dev.vault.nonce = d.vault.nonce ∧
      t.dev.vault.nonceSlots.any (fun e => decide (e.2.1 = d.vault.ceiling + 65536)) = true) ∧
    (d.sys.vaultDone = false ∨ d.vault.nonce + 32768 < d.vault.ceiling → exec .nonceCeilingCommit s = .next (s.withDev d))

/-- R153, R154, R158 to R161: what the vault does with the oldest queued key, a scheduled activation, and a look-aside
job that is complete or idle. Forms shown to complete: vaultKeyLoad, keyActivationInstant, laJobComplete,
laJobIdleTimeout. -/
def Obligations.VaultEventsTakeEffect : Prop :=
  ∀ (s : State) (d : Dev), { s.dev with out := [] } = d →
    (∀ ld rest, d.vault.queue = ld :: rest →
      ∃ t, exec .vaultKeyLoad s = .next t ∧ t.otp = s.otp ∧ t.dev.vault.queue = rest ∧
        (match (if fld ld.blob 4 4 = ld.keyId then openBlob ld.blob ld.blob.length d else none) with
         | none => (keySlot ld.slot t.dev).active = (keySlot ld.slot d).active ∧ (keySlot ld.slot t.dev).pending = none
         | some k =>
           if idElsewhere k.id ld.slot d then
             (keySlot ld.slot t.dev).active = (keySlot ld.slot d).active ∧ (keySlot ld.slot t.dev).pending = none
           else if ld.mode = 0 then (keySlot ld.slot t.dev).active = some k ∧ (keySlot ld.slot t.dev).pending = none
           else (keySlot ld.slot t.dev).active = (keySlot ld.slot d).active ∧
             (∃ p, (keySlot ld.slot t.dev).pending = some p ∧ p.key = k ∧
               p.at_ = (if ld.mode = 2 ∧ ld.handle.isSome then some ld.at_ else none)))) ∧
    (∀ (slot : Fin 1024) p g, (keySlot slot.val d).pending = some p → p.at_ = some g →
      ∃ t, exec (.keyActivationInstant slot) s = .next t ∧ t.otp = s.otp ∧ (keySlot slot.val t.dev).pending = none ∧
        (keySlot slot.val t.dev).active =
          (if idElsewhere p.key.id slot.val d then (keySlot slot.val d).active else some p.key)) ∧
    (∀ (j : Fin 16) x, Map.get? d.vault.jobs j.val = some x →
      (x.mode = 1 → x.iv = [] → d.vault.nonce < d.vault.ceiling → ∃ t, exec (.laJobComplete j) s = .next t ∧ t.otp = s.otp ∧
        t.dev.vault.nonce = d.vault.nonce + 1 ∧ nonceDue d ≤ t.dev.time.elapsed ∧
        Map.get? t.dev.vault.jobs j.val = some { x with iv := be 4 (otpFld s.otp 0x0C 4) ++ be 8 d.vault.nonce }) ∧
      ((x.mode = 1 → x.iv ≠ []) →
        (laInputDone x = false → exec (.laJobComplete j) s = .next (s.withDev d)) ∧
        (laInputDone x = true → x.hold = true → x.verified = false → exec (.laJobComplete j) s = .next (s.withDev
          (if tagOk x = false then endLaJob j.val .keyRejected (bump .vault 0 4 d)
           else if laOutLen x = 0 then complete x.handle .ok (laResult x) (bump .vault 0 3 (dropJob j.val d))
           else setJob j.val { x with verified := true } d))) ∧
        (laInputDone x = true → (x.hold = false ∨ x.verified = true) → laOutLen x ≤ x.outOff →
          (tagOk x = true → x.heldDesc = none → exec (.laJobComplete j) s =
            .next (s.withDev (complete x.handle .ok (laResult x) (bump .vault 0 3 (dropJob j.val d))))) ∧
          (tagOk x = false → exec (.laJobComplete j) s =
            .next (s.withDev (endLaJob j.val .keyRejected (bump .vault 0 4 d))))))) ∧
    (∀ (j : Fin 16) x d1, Map.get? d.vault.jobs j.val = some x → waitTicks (x.lastDesc + ticksMs 1000) d = d1 →
      exec (.laJobIdleTimeout j) s = .next (s.withDev (endLaJob j.val .badState d1)))

/-- R464, R466 to R468, R472: how event records reach the record memory, when they are suppressed, and what the commit
of the hours and a PRBS checker do. Forms shown to complete: recordWrite, recordsSuppressed, hoursCommit, prbsLock,
prbsLockLoss. -/
def Obligations.RecorderAndPrbs : Prop :=
  ∀ (s : State) (d : Dev), { s.dev with out := [] } = d →
    (∀ x rest n, d.obs.subs = x :: rest → vhOpen d = true → 16 + x.body.length = n →
      ∀ d1, { d with obs := { d.obs with subs := rest } } = d1 →
      (neverSuppressed x.type = true → exec .recordWrite s = .next (s.withDev (writeRecord x d1))) ∧
      (neverSuppressed x.type = false → n ≤ budgetNow d1 → exec .recordWrite s = .next (s.withDev (writeRecord x
        { d1 with obs := { d1.obs with budget := budgetNow d1 - n, budgetAt := d.time.elapsed } }))) ∧
      (neverSuppressed x.type = false → budgetNow d1 < n → ∃ t, exec .recordWrite s = .next t ∧ t.otp = s.otp ∧
        t.dev.obs.ring = d.obs.ring ∧ t.dev.obs.suppressed = d.obs.suppressed + 1 ∧
        cntGet .obs 0 1 t.dev = (cntGet .obs 0 1 d + 1) % 2 ^ 48)) ∧
    (d.obs.suppressed ≠ 0 → ∃ t, exec .recordsSuppressed s = .next t ∧ t.otp = s.otp ∧ t.dev.obs.suppressed = 0 ∧
      t.dev.obs.firstSuppressed = 0 ∧ t.dev.obs.nextSeq = nextRecSeq d.obs.nextSeq) ∧
    (∀ d1, d.sys.porst = true → waitTicks (d.obs.hoursAt + 450000000000) d = d1 →
      ∃ t, exec .hoursCommit s = .next t ∧ t.otp = s.otp ∧ t.dev.obs.hours = hoursNow d1 ∧
      t.dev.obs.powerCycles = d.obs.powerCycles ∧
      t.dev.obs.slots.any (fun e => decide (e.2.1 = hoursNow d1 ∧ e.2.2.1 = d.obs.powerCycles)) = true) ∧
    (∀ (l : Lane) x, prbs (laneNum l) d = x →
      (x.state = 1 → exec (.prbsLock l) s =
        .next (s.withDev (setPrbs (laneNum l) { x with state := 2, since := d.time.elapsed } d))) ∧
      (∀ n, x.state = 2 → exec (.prbsLockLoss l n) s = .next (s.withDev (setPrbs (laneNum l) { x with
        state := 1
        lockLosses := (x.lockLosses + 1) % 2 ^ 32
        errors := (x.errors + n) % 2 ^ 48
        bits := x.bits + (d.time.elapsed - x.since) * laneBitsPer10 (laneNum l) d / 10
        since := d.time.elapsed } d))))

/-- R466: a record written to record memory stands there whole: header, sequence and body, and the sequences run on. -/
def Obligations.RecordStandsInMemory : Prop :=
  ∀ (x : Submission) (d : Dev) (n : Nat), 16 + x.body.length = n → d.obs.nextOffset + n ≤ ringSize →
    (∀ i, i < n → ringBytes (d.obs.nextOffset + i) 1 (writeRecord x d) =
      slice (recHeader n x.type d.obs.nextSeq x.hours x.cycles ++ x.body) i 1) ∧
    (writeRecord x d).obs.nextSeq = nextRecSeq d.obs.nextSeq ∧
    (writeRecord x d).obs.nextOffset = (d.obs.nextOffset + n) % ringSize ∧
    (∃ q ∈ (writeRecord x d).obs.recs, q = ⟨d.obs.nextOffset, n, d.obs.nextSeq⟩)

/-- R320, R322, R326, R327: a gate list takes effect at its change time, its gate events follow the entries, the cycle
before a change is withheld for its extension, and a stopped list restarts. Forms shown to complete:
gateConfigChangeInstant, gateEvent, gateListRestart. -/
def Obligations.GatesFollowTheirLists : Prop :=
  ∀ (s : State) (d : Dev) (p : Port) (n : Nat) (g : GateSt), { s.dev with out := [] } = d → portNum p = n →
    gateSt n d = g →
    (∀ t l d1, g.change = some t → g.admin = some l → waitPort n t d = d1 →
      ∃ u, exec (.gateConfigChangeInstant p) s = .next u ∧ u.otp = s.otp ∧
        gateSt n u.dev = { g with
          oper := if l.enable then some l else none
          change := none
          cycleStart := if l.enable then t else 0
          entry := 0
          restart := none
          extended := false
          gates := if l.enable then (match gateSlots l with | (_, x) :: _ => x | [] => 0xFF) else 0xFF } ∧
        (∀ m, m ≠ n → gateSt m u.dev = gateSt m d) ∧
        cntGet .gate n 4 u.dev = (cntGet .gate n 4 d1 + 1) % 2 ^ 48 ∧
        (overrun n t l d1 = true → cntGet .gate n 3 u.dev = (cntGet .gate n 3 d1 + 1) % 2 ^ 48) ∧
        (overrun n t l d1 = false → cntGet .gate n 3 u.dev = cntGet .gate n 3 d1)) ∧
    (∀ l, awake d = true → g.operating = some l → g.extended = false →
      (∀ o x d1, (gateSlots l)[g.entry + 1]? = some (o, x) → waitPort n (g.cycleStart + o) d = d1 → g.change = none →
        exec (.gateEvent p) s = .next (s.withDev (setGate n { g with entry := g.entry + 1, gates := x } d1))) ∧
      (∀ o x rest d1, (gateSlots l)[g.entry + 1]? = none → gateSlots l = (o, x) :: rest →
        waitPort n (g.cycleStart + l.cycle) d = d1 →
        (g.change = none → exec (.gateEvent p) s = .next (s.withDev (setGate n
          { g with cycleStart := g.cycleStart + l.cycle, entry := 0, gates := x } d1))) ∧
        (∀ t a, 0 < l.cycle → g.change = some t → g.admin = some a → g.cycleStart + l.cycle < t →
          t - (g.cycleStart + l.cycle) < a.ext * 65536 →
          exec (.gateEvent p) s = .next (s.withDev (setGate n { g with extended := true } d1))))) ∧
    (∀ t l d1, g.restart = some t → g.oper = some l → waitPort n t d = d1 →
      exec (.gateListRestart p) s = .next (s.withDev (setGate n { g with
        restart := none
        cycleStart := t
        entry := 0
        extended := false
        gates := (match gateSlots l with | (_, x) :: _ => x | [] => 0xFF) } d1)))

/-- R336, R338: the egg timer reads a spilled frame back at the latest 20 µs before its release, and releases the
earliest frame of its die at its instant: onto a free port, else it counts a collision; a port that cannot send drops
it. Forms shown to complete: eggReadback, eggRelease. -/
def Obligations.EggTimerReleases : Prop :=
  ∀ (s : State) (d : Dev) (die : Fin 4), { s.dev with out := [] } = d →
    (∀ h d1, firstHeld (d.act.egg.filter (fun x =>
        decide (x.die = die.val) && x.spilled && !x.readBack && !unwritten x.frame d)) = some h →
      waitLane h.port (h.release - 20000 * unitsPerNs) d = d1 →
      ∃ u, exec (.eggReadback die) s = .next u ∧ u.otp = s.otp ∧ u.dev.time = d1.time ∧
        u.dev.act.egg = d.act.egg.map (fun x => if x.frame.id = h.frame.id then
          { h with frame := { h.frame with readBack := true, unverified := h.frame.blocks }, readBack := true } else x)) ∧
    (∀ h d1, firstHeld (d.act.egg.filter (fun x => decide (x.die = die.val) && canRelease x d)) = some h →
      waitLane h.port h.release d = d1 →
      (portSends h.port d1 = false → exec (.eggRelease die) s = .next (s.withDev (bump .egg die.val 13 (dropHeld h d1)))) ∧
      (portSends h.port d1 = true → Map.get d.obs.loopback h.port 0 ≠ 2 → Map.has d.que.sending h.port = true →
        exec (.eggRelease die) s = .next (s.withDev (bump .egg die.val 12 (setHeld { h with collided := true } d1)))) ∧
      (portSends h.port d1 = true → Map.get d.obs.loopback h.port 0 ≠ 2 → Map.has d.que.sending h.port = false →
        stale h.frame h.port d = false → ∃ u x, exec (.eggRelease die) s = .next u ∧ u.otp = s.otp ∧
          Map.get? u.dev.que.sending h.port = some x ∧ x.egg = true ∧ x.frame.id = h.frame.id)) ∧
    (∀ l h, firstHeld l = some h → h ∈ l ∧ ∀ x ∈ l, h.release ≤ x.release)

/-- R177, R223, R242, R252, R301, R389, R391: a frame that a port receives is judged by the port's checks and
classified; one injected for MGT joins the hub queue of its class; a port that can send starts the frame chosen, one
that cannot drops what waits for it; and the frame being sent leaves whole, with its FCS inverted where it is stomped.
Forms shown to complete: frameReceive, frameInject, portTransmitSelect, frameTxEnd. -/
def Obligations.FramesEnterAndLeave : Prop :=
  ∀ (s : State) (d : Dev), { s.dev with out := [] } = d →
    (∀ rx n, portNum rx.port = n → (portReceives n d = false ∨ Map.has d.obs.loopback n = true) →
      exec (.frameReceive rx) s = .next (s.withDev d)) ∧
    (∀ rx0 rx n x data d0, portNum rx0.port = n → portReceives n d = true → Map.has d.obs.loopback n = false →
      portPrm n d = some x → rx0.bytes.take (rx0.bytes.length - 4) = data → lineErrors n rx0 d = rx →
      countFec n rx (if (laneSt (laneOfPort n 0) d).slipped then
        setLaneSt (laneOfPort n 0) { laneSt (laneOfPort n 0) d with slipped := false } d else d) = d0 →
      (∀ slot late, portCheck x rx.bytes rx.codeError = some (slot, late) → (late = false ∨ (rx.early = false ∧ rx.head = false) ∨ n = 97) →
        exec (.frameReceive rx0) s = .next (s.withDev (bump .port n slot d0))) ∧
      (n = 97 → portCheck x rx.bytes rx.codeError = none → (parse data).etype ≠ 0x888E → ptpRef data = none →
        d.host.fwRestarting = false → (∀ c, c < 8 → (queueAt (fwQueue c) d).frames = []) → data.length + 4 ≤ 262144 →
        fwBufBytes d + data.length + 4 ≤ 1048576 → ∃ u ts, exec (.frameReceive rx0) s = .next u ∧ u.otp = s.otp ∧
          u.dev.out = [.cpu 97 ts data] ∧ cntGet .port 97 0 u.dev = (cntGet .port 97 0 d + 1) % 2 ^ 48 ∧
          cntGet .port 97 1 u.dev = (cntGet .port 97 1 d + rx.bytes.length) % 2 ^ 48) ∧
      ((prmAt (portTime n d) d).mirrors = [] → n ≠ 97 → portCheck x rx.bytes rx.codeError = none →
        ∀ d1, bumpBy .port n 1 rx.bytes.length (bump .port n 0 d0) = d1 →
        ∀ f d2, arrived s.otp n data rx.early rx.head none d1 = (f, d2) →
        (x.side ≠ 1 → (parse data).etype ≠ 0x888E →
          exec (.frameReceive rx0) s = .next (s.withDev (classify f rx.lookupFull d2))) ∧
        (x.side ≠ 1 → (parse data).etype = 0x888E → exec (.frameReceive rx0) s = .next (s.withDev (mkaTaken x f d2))) ∧
        (x.side = 1 → (∃ v, (outerTag (if x.tpidAd then 0x88A8 else 0x8100) data).2 = v ∧
            (v = 4095 ∨ Map.get? x.vlanSecy v = none)) →
          exec (.frameReceive rx0) s = .next (s.withDev (bump .cport n 0 d2))) ∧
        (∀ f' d3, x.side = 1 → cipherStage f x rx.noBuffer d2 = .go f' d3 → (parse f'.data).etype ≠ 0x888E →
          exec (.frameReceive rx0) s = .next (s.withDev (classify f' rx.lookupFull d3))))) ∧
    (∀ inj, (awake d = false ∨ 9600 < inj.bytes.length + 4) → exec (.frameInject inj) s = .next (s.withDev d)) ∧
    (∀ inj q, awake d = true → inj.bytes.length + 4 ≤ 9600 → inj.dest = none → 2 ^ 18 * 8 + inj.cls.val = q →
      (queueBytes q d + (padded inj.bytes).length + 4 ≤ 262144 → ∃ u f, exec (.frameInject inj) s = .next u ∧
        u.otp = s.otp ∧ queueAt q u.dev = { queueAt q d with frames := (queueAt q d).frames ++ [f] } ∧
        f.data = padded inj.bytes ∧ f.cls = inj.cls.val ∧ f.id = d.fab.nextFrame ∧
        f.stampFor = inj.stamp.map (fun c => (inj.byHost, c.toNat)) ∧ u.dev.fab.nextFrame = d.fab.nextFrame + 1) ∧
      (262144 < queueBytes q d + (padded inj.bytes).length + 4 → ∃ u, exec (.frameInject inj) s = .next u ∧
        queueAt q u.dev = queueAt q d ∧ cntGet .que 8 1 u.dev = (cntGet .que 8 1 d + 1) % 2 ^ 48)) ∧
    (∀ p n, portNum p = n → awake d = true → n ≠ 96 → formed n d = true → Map.has d.que.sending n = false →
      (((portSt n d).state ≠ .up ∨ squelched n d = true ∨ portServed n d = false) →
        exec (.portTransmitSelect p) s = .next (s.withDev (dropPort n d))) ∧
      (∀ d1, (portSt n d).state = .up → squelched n d = false → portServed n d = true → (portSt n d).lossAt = none →
        Map.get d.obs.loopback n 0 ≠ 2 → n < 96 → noteWaits n (cleanPort n d) = d1 →
        (choose n d1 = none → mirrorHead n d1 = none → exec (.portTransmitSelect p) s = .next (s.withDev d1)) ∧
        (∀ c, choose n d1 = some c → ∃ u x, exec (.portTransmitSelect p) s = .next u ∧ u.otp = s.otp ∧
          Map.get? u.dev.que.sending n = some x ∧ x.egg = false ∧ x.frame.id = c.f.id ∧ x.frame.data = c.f.data))) ∧
    (∀ p n x d1 fault, portNum p = n → Map.get? d.que.sending n = some x → Map.get d.obs.loopback n 0 ≠ 1 →
      (∀ k, x.frame.stomp = some k → k < 64) → waitTicks x.ends d = d1 →
      ∃ u, exec (.frameTxEnd p fault) s = .next u ∧ u.otp = s.otp ∧ u.dev.time = d1.time ∧
        Map.get? u.dev.que.sending n = none ∧
        ((fault = false ∨ x.patched = false) → u.dev.out = [.frame n (x.wire ++ sentFcs x) x.stomp]) ∧
        (fault = true → x.patched = true → u.dev.out = [.frame n (x.wire ++ (fcsOf x.wire).map (fun b => ~~~b)) true] ∧
          cntGet .ts (portDie n) 9 u.dev = (cntGet .ts (portDie n) 9 d + 1) % 2 ^ 48) ∧
        cntGet .port n 2 u.dev = (cntGet .port n 2 d + 1) % 2 ^ 48 ∧
        cntGet .port n 3 u.dev = (cntGet .port n 3 d + (x.wire.length + 4)) % 2 ^ 48)

/-- R18, R251, R252: the queue chosen at a port is backlogged and eligible, no strict class above it had an eligible
queue, and among the eligible queues of its class a committed one goes before one that is not. -/
def Obligations.SelectionServesByClassAndColour : Prop :=
  ∀ (p : Nat) (d : Dev) (c : Cand), choose p d = some c →
    c ∈ candidates p d ∧ eligible p d c = true ∧ pReady (portDie p) (livePort p d).portShaper d = true ∧
    pReady (portDie p) (Map.get? (livePort p d).classShaper c.cls) d = true ∧
    (∀ e ∈ candidates p d, eligible p d e = true → e.cls < 8 → bit (livePort p d).strictMask e.cls = true →
      pReady (portDie p) (Map.get? (livePort p d).classShaper e.cls) d = true → e.cls ≤ c.cls) ∧
    (∀ e ∈ candidates p d, eligible p d e = true → e.cls = c.cls → committed p d e = true → committed p d c = true)

/-- R217, R220, R228, R245, R248, R254, R256, R264: the whisk carries cells, a frame that reached a die is admitted
there, a residue copy enters or ends with its lifetime, buckets refill up to their bursts, the idle sweep invalidates
stale finish tags, and a flush ends. Forms shown to complete: whiskMatch, fabricFrameArrival, residueEnqueue,
residueLifetimeExpiry, bucketRefill, sfqIdleSweep, queueFlushComplete, spillReadback. -/
def Obligations.QueuesAndFabricMove : Prop :=
  ∀ (s : State) (d : Dev), { s.dev with out := [] } = d →
    (awake d = false → exec .whiskMatch s = .next (s.withDev d)) ∧
    (∀ e, awake d = true → d.fab.voq = [e] → entryCredit e d = false →
      ∃ u, exec .whiskMatch s = .next u ∧ u.otp = s.otp ∧ u.dev.que = d.que ∧ u.dev.fab.voq = [e] ∧
        u.dev.fab.arrived = d.fab.arrived) ∧
    (∀ e, awake d = true → entryCredit e d = true → d.fab.voq = [e] → e.input < 17 → e.output < 17 → 0 < e.left →
      ∃ u, exec .whiskMatch s = .next u ∧ u.otp = s.otp ∧ u.dev.que = d.que ∧
        u.dev.fab.voq = (if e.left ≤ 240 then [] else [{ e with left := e.left - 240, started := true, frames := [] }]) ∧
        u.dev.fab.arrived = d.fab.arrived ++ (if e.started then [] else arrivals e)) ∧
    (∀ (die : Fin 5) k f, (if die.val = 4 then 8 else die.val) = k →
      d.fab.arrived.find? (fun e => decide (e.1 = k)) = some (k, f) →
      exec (.fabricFrameArrival die) s = .next (s.withDev (deliver k f { d with fab := { d.fab with
        arrived := d.fab.arrived.filter (fun e => !(decide (e.1 = k ∧ e.2.id = f.id))) } }))) ∧
    (∀ (die : Fin 4) r x d1, d.fab.residues = [r] → r.die = die.val → frameQueue r.frame d = some x →
      (admitColoured true r.frame.queue r.frame x (residueColour r.frame) d = .admitted d1 → ∃ u,
        exec (.residueEnqueue die) s = .next u ∧ u.otp = s.otp ∧ u.dev.que = d1.que ∧
        u.dev.fab.residues = d1.fab.residues.filter (fun e => e.frame.id ≠ r.frame.id)) ∧
      ((∀ d2, admitColoured true r.frame.queue r.frame x (residueColour r.frame) d ≠ .admitted d2) →
        exec (.residueEnqueue die) s = .next (s.withDev d))) ∧
    (∀ (die : Fin 4), d.fab.residues.any (fun r => decide (r.die = die.val)) = true →
      ∃ u r, exec (.residueLifetimeExpiry die) s = .next u ∧ u.otp = s.otp ∧ r ∈ d.fab.residues ∧ r.die = die.val ∧
        (∀ x ∈ d.fab.residues, x.die = die.val → r.deadline ≤ x.deadline) ∧
        u.dev.fab.residues = d.fab.residues.filter (fun e => e.frame.id ≠ r.frame.id) ∧
        cntGet .fab die.val 7 u.dev = (cntGet .fab die.val 7 d + 1) % 2 ^ 48) ∧
    (∀ (die : Fin 4), ∃ u, exec (.bucketRefill die) s = .next u ∧ u.otp = s.otp ∧ u.dev.fab = d.fab ∧ u.dev.cnt = d.cnt ∧
      u.dev.que.queues = d.que.queues ∧
      (∀ k p b, k / 65536 = die.val → shaperPrm k d = some p → Map.get? d.que.shapers k = some b →
        Map.get? u.dev.que.shapers k = some ⟨(refill p.cir p.cbs b.c b.cRes).1, (refill p.pir p.pbs b.p b.pRes).1,
          (refill p.cir p.cbs b.c b.cRes).2, (refill p.pir p.pbs b.p b.pRes).2⟩) ∧
      (∀ k p b, k / 65536 = die.val → Map.get? (prm d).meters k = some p → Map.get? d.que.meters k = some b →
        Map.get? u.dev.que.meters k = some ⟨(refill p.cir p.cbs b.c b.cRes).1, (refill p.rate2 p.burst2 b.p b.pRes).1,
          (refill p.cir p.cbs b.c b.cRes).2, (refill p.rate2 p.burst2 b.p b.pRes).2⟩) ∧
      (∀ k, k / 65536 ≠ die.val → Map.get? u.dev.que.shapers k = Map.get? d.que.shapers k ∧
        Map.get? u.dev.que.meters k = Map.get? d.que.meters k)) ∧
    (∀ (die : Fin 4), ∃ u, exec (.sfqIdleSweep die) s = .next u ∧ u.otp = s.otp ∧ u.dev.cnt = d.cnt ∧
      (∀ q x f y, queueDie q = die.val → Map.get? d.que.queues q = some y → y.frames = [] → y.fprev = some f →
        Map.get? (prm d).queues q = some x → Map.get? u.dev.que.queues q =
          some (if precedes64 (classSt x.port x.cls d).vc f then y else { y with fprev := none })) ∧
      (∀ q, (queueAt q u.dev).frames = (queueAt q d).frames)) ∧
    (∀ h x, d.que.flushes.find? (fun y => decide (y.handle = h)) = some x →
      exec (.queueFlushComplete h) s = .next (s.withDev (complete h .ok (flushResult x.frames x.bytes)
        { d with que := { d.que with flushes := d.que.flushes.filter (fun y => decide (y.handle ≠ h)) } }))) ∧
    (∀ (die : Fin 4) n q f d1, 2 ^ 18 * die.val + n % 2 ^ 18 = q → (queueAt q d).frames = [f] →
      f.spilled = true → f.readBack = false → f.data.length + 4 ≤ 16384 → unwritten f d = false →
      queueServable q d = true → f.blocks.foldl (fun e b => fetchPath b e) d = d1 →
      ∃ u, exec (.spillReadback die n) s = .next u ∧ u.otp = s.otp ∧
        (queueAt q u.dev).frames = [{ f with readBack := true, unverified := f.blocks }] ∧
        cntGet .mem 0 1 u.dev = (cntGet .mem 0 1 d1 + f.blocks.length) % 2 ^ 48) ∧
    (∀ (die : Fin 4) n q, 2 ^ 18 * die.val + n % 2 ^ 18 = q → queueServable q d = false →
      exec (.spillReadback die n) s = .next (s.withDev d))

/-- R353, R359, R360, R362 to R364, R366: what the stockpot's events do: a gathered block is written under the next
write counter, a verification passes or alarms, a quarantined region is rebuilt or held out, and a re-key draws a new
pair. Forms shown to complete: stockpotBlockWrite, stockpotVerifyComplete, regionRebuild, regionRebuildComplete,
rekeyTrigger, rekeyStart, rekeyComplete. -/
def Obligations.StockpotEventsTakeEffect : Prop :=
  ∀ (s : State) (d : Dev), { s.dev with out := [] } = d →
    (∀ block data rest d1, d.mem.writes = (block, data) :: rest →
      fetchPath block { d with mem := { d.mem with writes := rest } } = d1 →
      ∃ u w c, exec .stockpotBlockWrite s = .next u ∧ u.otp = s.otp ∧ u.dev.mem.writes = rest ∧
        w = blockCounter block d1 + 1 ∧ c = blockCrypt (region (blockRegion block) d1).ke block w (slice data 0 512) ∧
        blockCounter block u.dev = w ∧
        Map.get? u.dev.mem.blocks block = some ⟨c, blockMacs (region (blockRegion block) d1).km block w c⟩ ∧
        (∀ b, b ≠ block → Map.get? u.dev.mem.blocks b = Map.get? d1.mem.blocks b) ∧
        cntGet .mem 0 0 u.dev = (cntGet .mem 0 0 d1 + 1) % 2 ^ 48) ∧
    (∀ block out, verifying block d = false → exec (.stockpotVerifyComplete block out) s = .next (s.withDev d)) ∧
    (∀ block, verifying block d = true →
      exec (.stockpotVerifyComplete block .passed) s = .next (s.withDev (blockPassed block d)) ∧
      verifying block (blockPassed block d) = false ∧
      exec (.stockpotVerifyComplete block .corrected) s = .next (s.withDev (blockPassed block (bump .mem 0 3 d))) ∧
      (∃ u, exec (.stockpotVerifyComplete block .eccData) s = .next u ∧ u.otp = s.otp ∧
        (∀ f ∈ notStarted u.dev, touches (fun b => decide (b = block)) f = false) ∧
        (∀ e ∈ u.dev.que.sending, touches (fun b => decide (b = block)) e.2.frame = true → e.2.stomp = true) ∧
        cntGet .mem 0 4 u.dev = (cntGet .mem 0 4 d + 1) % 2 ^ 48) ∧
      (∀ l, ∃ u, exec (.stockpotVerifyComplete block (.eccNode l)) s = .next u ∧ u.otp = s.otp ∧
        (∀ f ∈ notStarted u.dev, touches (under l.val block) f = false) ∧
        cntGet .mem 0 5 u.dev = (cntGet .mem 0 5 d + 1) % 2 ^ 48) ∧
      (exec (.stockpotVerifyComplete block .macGranule) s = .next (s.withDev (quarantine (blockRegion block) 1
        (lateAlarm block 1 0xFF (fun b => decide (b = block)) (bump .mem 0 6 d))))) ∧
      (∀ l, exec (.stockpotVerifyComplete block (.macNode l)) s = .next (s.withDev (quarantine (blockRegion block) 2
        (lateAlarm block 2 l.val (fun b => decide (b = block)) (bump .mem 0 6 d)))))) ∧
    (∀ (r : Fin 128) x, region r.val d = x → x.state = .quarantined → regionReferred r.val { d with mem := { d.mem with
        writes := d.mem.writes.filter (fun w => decide (blockRegion w.1 ≠ r.val)) } } = false →
      (3 ≤ (recentQuarantines x d).length → ∃ u, exec (.regionRebuild r) s = .next u ∧
        region r.val u.dev = { x with state := .heldOut }) ∧
      ((recentQuarantines x d).length < 3 → d.vault.trng ≠ 0 → ∃ u, exec (.regionRebuild r) s = .next u ∧
        region r.val u.dev = x) ∧
      ((recentQuarantines x d).length < 3 → d.vault.trng = 0 → ∃ u, exec (.regionRebuild r) s = .next u ∧
        u.otp = s.otp ∧ u.dev.free = d.free + 2 ∧ (region r.val u.dev).state = .rebuilding ∧
        (region r.val u.dev).epoch = x.epoch + 1 ∧ (region r.val u.dev).ke = le 32 (Config.freeNat d.free) ∧
        maxCounter r.val u.dev = 0)) ∧
    (∀ (r : Fin 128) x, region r.val d = x → x.state = .heldOut → x.handle.isSome = true → d.vault.trng = 0 →
      exec (.regionRebuild r) s = .next (s.withDev (freshRegion r.val .rebuilding d))) ∧
    (∀ (r : Fin 128) x, region r.val d = x → x.state = .rebuilding →
      (∃ u, exec (.regionRebuildComplete r true) s = .next u ∧ u.otp = s.otp ∧
        region r.val u.dev = { x with state := .inService, handle := none }) ∧
      (∃ u, exec (.regionRebuildComplete r false) s = .next u ∧ u.otp = s.otp ∧
        (region r.val u.dev).state = .quarantined ∧ (region r.val u.dev).next = none)) ∧
    (∀ (r : Fin 128), (region r.val d).state = .inService → 268369920 ≤ maxCounter r.val d →
      ∃ u, exec (.rekeyTrigger r) s = .next u ∧ u.otp = s.otp ∧ u.dev.mem.queue = d.mem.queue ++ [r.val] ∧
        region r.val u.dev = { region r.val d with state := .waiting, handle := none }) ∧
    (∀ r rest, d.mem.queue = r :: rest → rekeying d = none → d.vault.trng = 0 →
      ∃ u, exec .rekeyStart s = .next u ∧ u.otp = s.otp ∧ u.dev.mem.queue = rest ∧ region r u.dev =
        { region r d with state := .rekeying, epoch := (region r d).epoch + 1,
                          next := some (le 32 (Config.freeNat d.free), le 32 (Config.freeNat (d.free + 1))) }) ∧
    (∀ r k, rekeying d = some r → (region r d).next = some k →
      ((usedBlocks d).filter (fun b => decide (blockRegion b = r))).all (fun b => blockVerifies b d) = true →
      ∃ u, exec .rekeyComplete s = .next u ∧ u.otp = s.otp ∧ region r u.dev =
        { region r d with state := .inService, ke := k.1, km := k.2, next := none, handle := none } ∧
        cntGet .mem 0 12 u.dev = (cntGet .mem 0 12 d + 1) % 2 ^ 48) ∧
    (∀ r, rekeying d = some r →
      ((usedBlocks d).filter (fun b => decide (blockRegion b = r))).any (fun b => !blockVerifies b d) = true →
      exec .rekeyComplete s = .next (s.withDev (quarantine r 1 (bump .mem 0 6 d))))

/-- R366: a quarantine of a region in service takes it out of allocation and drops or stomps every frame with data in
it; a region already out stays as it is. -/
def Obligations.QuarantineTakesARegionOut : Prop :=
  ∀ (r cause : Nat) (d : Dev),
    ((region r d).state = .quarantined ∨ (region r d).state = .heldOut ∨ (region r d).state = .rebuilding →
      quarantine r cause d = d) ∧
    ((region r d).state ≠ .quarantined → (region r d).state ≠ .heldOut → (region r d).state ≠ .rebuilding →
      (region r (quarantine r cause d)).state = .quarantined ∧ (∀ o, regionOpen o r (quarantine r cause d) = false) ∧
      (∀ f ∈ notStarted (quarantine r cause d), touches (fun b => decide (blockRegion b = r)) f = false) ∧
      (∀ e ∈ (quarantine r cause d).que.sending, touches (fun b => decide (blockRegion b = r)) e.2.frame = true →
        e.2.stomp = true) ∧
      (quarantine r cause d).mem.queue = d.mem.queue.filter (· ≠ r) ∧
      cntGet .mem 0 11 (quarantine r cause d) = (cntGet .mem 0 11 d + 1) % 2 ^ 48)

/-- R189, R190, R194 to R198, R200, R209, R273: what the engines of the tables do with a learned address (the state
table of R197), a stash entry, a held-back prefix write, an aging or clamping visit, a pin, a step, the logs of
learning, and a flush. Forms shown to complete: learnInsert, stashDrain, prefixWriteApply, agingSweep, sweeperClamp,
pinExpiry, learnTimeRebase, unifyPropagate, unifyResync, tableFlushComplete. -/
def Obligations.TableEnginesTakeEffect : Prop :=
  ∀ (s : State) (d : Dev), { s.dev with out := [] } = d →
    (∀ (die : Fin 4) ev rest d1, Map.get d.cls.learnQ die.val [] = ev :: rest →
      (if d.time.rebase = 0 then d else learnTimeRebase d) = d1 →
      exec (.learnInsert die) s = .next (s.withDev (learnApply die.val ev
        { d1 with cls := { d1.cls with learnQ := Map.put d1.cls.learnQ die.val rest } }))) ∧
    (∀ (die : Fin 4), Map.get d.cls.learnQ die.val [] = [] → ∃ u, exec (.stashDrain die) s = .next u ∧ u.otp = s.otp ∧
      u.dev.cls.mac = (match ((macEngine die.val d).drainNext d.cls.mac (Map.get d.cls.drainAt (16 * die.val + Tid.mac.code) 0)).bind
        ((macEngine die.val d).retry d.cls.mac) with | some r => r.map | none => d.cls.mac) ∧
      u.dev.cls.sci = (match ((sciEngine die.val d).drainNext d.cls.sci (Map.get d.cls.drainAt (16 * die.val + Tid.sci.code) 0)).bind
        ((sciEngine die.val d).retry d.cls.sci) with | some r => r.map | none => d.cls.sci) ∧
      u.dev.cls.pfx4 = (match ((pfxEngine false die.val d).drainNext d.cls.pfx4 (Map.get d.cls.drainAt (16 * die.val + Tid.ipv4.code) 0)).bind
        ((pfxEngine false die.val d).retry d.cls.pfx4) with | some r => r.map | none => d.cls.pfx4) ∧
      u.dev.cls.pfx6 = (match ((pfxEngine true die.val d).drainNext d.cls.pfx6 (Map.get d.cls.drainAt (16 * die.val + Tid.ipv6.code) 0)).bind
        ((pfxEngine true die.val d).retry d.cls.pfx6) with | some r => r.map | none => d.cls.pfx6) ∧
      (∀ k, (macEngine die.val d).drainNext d.cls.mac (Map.get d.cls.drainAt (16 * die.val + Tid.mac.code) 0) = some k →
        Map.get? u.dev.cls.drainAt (16 * die.val + Tid.mac.code) = some ((k + 1) % 64))) ∧
    (∀ (die : Fin 4), d.cls.pfx4.Pairwise (·.1 < ·.1) → d.cls.pfx6.Pairwise (·.1 < ·.1) →
      ∃ u, exec (.prefixWriteApply die) s = .next u ∧ u.otp = s.otp ∧ u.dev.cls.mac = d.cls.mac ∧
        (∀ k e, k / 2 ^ 20 = die.val → (Map.get? d.cls.pfx4 k = some e → Map.get? u.dev.cls.pfx4 k =
            (if e.held = some .deleted then none else some { e with held := none })) ∧
          (Map.get? d.cls.pfx6 k = some e → Map.get? u.dev.cls.pfx6 k =
            (if e.held = some .deleted then none else some { e with held := none })))) ∧
    (∀ (die : Fin 4), (prm d).agingTime ≠ 0 → awake d = true → d.cls.mac.Pairwise (·.1 < ·.1) →
      ∃ u, exec (.agingSweep die) s = .next u ∧ u.otp = s.otp ∧ sweepDue die.val d ≤ u.dev.time.lineElapsed ∧
        Map.get? u.dev.cls.sweptAt die.val = some u.dev.time.lineElapsed ∧
        (∀ k e, Map.get? d.cls.mac k = some e → Map.get? u.dev.cls.mac k =
          (if k / 2 ^ 20 ≠ die.val ∨ (e.static || e.lock || e.pinned || e.remote) = true then some e
           else if e.age < 3 then some { e with age := e.age + 1 } else none))) ∧
    (∀ (die : Fin 4), awake d = true → ∃ u, exec (.sweeperClamp die) s = .next u ∧ u.otp = s.otp ∧
      (∀ k e, Map.get? d.cls.mac k = some e → Map.get? u.dev.cls.mac k =
        some (if k / 2 ^ 20 = die.val then clampVisit (msNow d) e else e))) ∧
    (∀ (die : Fin 4) w d1, awake d = true → nextPin die.val d = some w →
      (if w = 0 then d else waitUntil ((d.time.grand / (1000000 * unitsPerNs) + w) * 1000000 * unitsPerNs) d) = d1 →
      ∃ u, exec (.pinExpiry die) s = .next u ∧ u.otp = s.otp ∧ u.dev.time = d1.time ∧
        (∀ k e, Map.get? d.cls.mac k = some e → Map.get? u.dev.cls.mac k =
          some (if k / 2 ^ 20 = die.val ∧ pinPassed (msNow d1) e = true then
            { e with pinned := false, conflicts := 0, lastUpdate := msNow d1, age := 0 } else e))) ∧
    (∃ u, exec .learnTimeRebase s = .next u ∧ u.otp = s.otp ∧ u.dev.time.rebase = 0 ∧ u.dev.time.grand = d.time.grand ∧
      (∀ k e, Map.get? d.cls.mac k = some e → ∃ x, Map.get? u.dev.cls.mac k = some x ∧ x.dest = e.dest ∧ x.mac = e.mac ∧
        x.lastUpdate = (((e.lastUpdate : Int) + d.time.rebase) % 4294967296).toNat ∧
        x.pinUntil = (((e.pinUntil : Int) + d.time.rebase) % 4294967296).toNat)) ∧
    (∀ (die : Fin 4) e, (prm d).learnUnify = true → dieUp die.val d = true → d.host.fwRestarting = false →
      Map.get d.cls.logs die.val [] = [e] → ∃ u, exec (.unifyPropagate die) s = .next u ∧ u.otp = s.otp ∧
        Map.get u.dev.cls.logs die.val [] = [] ∧
        (∀ k ∈ otherDies die.val d, Map.get u.dev.cls.learnQ k [] = Map.get d.cls.learnQ k [] ++
          [match e.dest with | some x => LearnEv.copy e.fid e.mac x | none => .remove e.fid e.mac])) ∧
    ((prm d).learnUnify = true → d.cls.logLost ≠ [] → d.host.fwRestarting = false →
      ∃ u, exec .unifyResync s = .next u ∧ u.otp = s.otp ∧ u.dev.cls.logs = [] ∧ u.dev.cls.logLost = [] ∧
        (∀ k, k < 4 → dieUp k d = true → cntGet .cls k 20 u.dev = (cntGet .cls k 20 d + 1) % 2 ^ 48)) ∧
    (∀ h f r, d.cls.flushes.find? (fun x => x.handle = h) = some f →
      f.dies.foldl (fun a die => if f.table = 3 then flushMac f die a else flushPfx f (decide (f.table = 9)) die a)
        (0, 0, { d with cls := { d.cls with flushes := d.cls.flushes.filter (fun g => g.handle ≠ h) } }) = r →
      exec (.tableFlushComplete h) s = .next (s.withDev
        (complete h .ok (le 4 r.1 ++ le 4 r.2.1 ++ zeros 8) r.2.2)))

/-- R195, R197, R201: the state table of learning: what a source address that arrives from `src` at `t` ms does to the
entry it meets, and that a locked or static entry never changes. -/
def Obligations.LearningFollowsItsStateTable : Prop :=
  ∀ (die fid mac src t pos : Nat) (d : Dev) (e : MacEntry), macFind die fid mac d = some pos →
    Map.get? d.cls.mac (tblPos die pos) = some e →
    Map.get? (learnApply die (.learn fid mac src t) d).cls.mac (tblPos die pos) = some (
      if e.lock || e.static || e.pinned then e
      else if e.dest = src then { e with age := 0 }
      else if (prm d).moveHold ≤ msSince t e.lastUpdate then { e with dest := src, lastUpdate := t, remote := false }
      else if e.conflicts = 0 ∨ 10000 ≤ msSince t e.firstConflict then
        { e with conflicts := 1, firstConflict := t, firstDest := e.dest }
      else if e.conflicts = 1 then { e with conflicts := 2 }
      else { e with dest := e.firstDest, pinned := true, pinUntil := (t + 1000 * (prm d).pinTime) % 2 ^ 32 }) ∧
    (∀ k, k ≠ tblPos die pos → Map.get? (learnApply die (.learn fid mac src t) d).cls.mac k = Map.get? d.cls.mac k) ∧
    (e.static = true → e.dest ≠ src → cntGet .cls die 21 (learnApply die (.learn fid mac src t) d) = (cntGet .cls die 21 d + 1) % 2 ^ 48) ∧
    (e.static = false → e.lock = true → cntGet .cls die 12 (learnApply die (.learn fid mac src t) d) = (cntGet .cls die 12 d + 1) % 2 ^ 48)

/-- R377 to R379, R390, R391: how each event moves the state of a port: negotiation, training, alignment and their
timeouts, a remote fault, a loss, its return and its end, and a partner that starts anew. Forms shown to complete:
portAnComplete, portTrainingComplete, portTrainingTimeout, portAligned, portAlignTimeout, remoteFaultReceived,
remoteFaultCleared, linkSignalLoss, linkSignalRestored, linkDownHoldExpiry, partnerAnRestart. -/
def Obligations.PortStatesMove : Prop :=
  ∀ (s : State) (d : Dev) (p : Port) (n : Nat) (x : PortPrm), { s.dev with out := [] } = d → portNum p = n →
    portPrm n d = some x →
    (∀ ability agreed, (portSt n d).state = .an → x.form ≠ 7 →
      ((agreed && abilityOk x (BitVec.toNat ability)) = false →
        exec (.portAnComplete p ability agreed) s = .next (s.withDev (bump .port n 13 d))) ∧
      ((agreed && abilityOk x (BitVec.toNat ability)) = true → ∃ u, exec (.portAnComplete p ability agreed) s = .next u ∧
        u.otp = s.otp ∧ (portSt n u.dev).state = (if x.form ≤ 3 then .training else .up) ∧
        (portSt n u.dev).anComplete = true ∧ (portSt n u.dev).lpAbility = BitVec.toNat ability)) ∧
    ((portSt n d).state = .training → (∀ l ∈ lanesOf n d, (laneSt l d).trained = true) →
      ∃ u, exec (.portTrainingComplete p) s = .next u ∧ u.otp = s.otp ∧ (portSt n u.dev).state = .aligning ∧
        (portSt n u.dev).since = now d) ∧
    (∀ d1, (portSt n d).state = .training → waitTicks ((portSt n d).sinceTick + ticksMs 450) d = d1 →
      ∃ u, exec (.portTrainingTimeout p) s = .next u ∧ u.otp = s.otp ∧ u.dev.time = d1.time ∧
        (portSt n u.dev).state = (if x.anEnable then .an else .training) ∧
        cntGet .port n 12 u.dev = (cntGet .port n 12 d + 1) % 2 ^ 48) ∧
    ((portSt n d).state = .aligning → ∃ u, exec (.portAligned p) s = .next u ∧ u.otp = s.otp ∧
      (portSt n u.dev).state = (if 3 < x.form ∧ (negotiates x = true ∨ x.form = 7) then .an else .up)) ∧
    (∀ d1, (portSt n d).state = .aligning → waitTicks ((portSt n d).sinceTick + ticksMs 10) d = d1 →
      ∃ u, exec (.portAlignTimeout p) s = .next u ∧ u.otp = s.otp ∧ u.dev.time = d1.time ∧ (portSt n u.dev).state =
        (if x.form ≤ 3 then (if x.anEnable then .an else .training) else .aligning)) ∧
    ((portSt n d).state = .up → ∃ u, exec (.remoteFaultReceived p) s = .next u ∧ u.otp = s.otp ∧
      (portSt n u.dev).state = .fault ∧ (portSt n u.dev).remoteFault = true ∧
      (∀ e ∈ u.dev.que.sending, e.1 = n → e.2.stomp = true)) ∧
    ((portSt n d).state = .fault → ∃ u, exec (.remoteFaultCleared p) s = .next u ∧ u.otp = s.otp ∧
      (portSt n u.dev).state = .up ∧ (portSt n u.dev).remoteFault = false) ∧
    (∀ c : Fin 3, portLinked n d = true → (portSt n d).lossAt = none → ∃ u, exec (.linkSignalLoss p c) s = .next u ∧
      u.otp = s.otp ∧ portSt n u.dev = { portSt n d with
        lossAt := some d.time.elapsed, lossCause := c.val + 1, localFault := true } ∧ portSends n u.dev = false) ∧
    (∀ t, portLinked n d = true → (portSt n d).lossAt = some t → ∃ u, exec (.linkSignalRestored p) s = .next u ∧
      u.otp = s.otp ∧ portSt n u.dev = { portSt n d with lossAt := none, localFault := false }) ∧
    (∀ t d1, portLinked n d = true → (portSt n d).lossAt = some t → waitTicks (t + ticksMs x.linkDownHold) d = d1 →
      ∃ u, exec (.linkDownHoldExpiry p) s = .next u ∧ u.otp = s.otp ∧ u.dev.time = d1.time ∧ portIsUp n u.dev = false ∧
        (portSt n u.dev).state = (if x.form ≤ 3 then (if x.anEnable then .an else .training) else .aligning) ∧
        cntGet .port n 11 u.dev = (cntGet .port n 11 d + 1) % 2 ^ 48) ∧
    (portLinked n d = true → negotiates x = true → ∃ u, exec (.partnerAnRestart p) s = .next u ∧ u.otp = s.otp ∧
      (portSt n u.dev).state = .an ∧ cntGet .port n 11 u.dev = (cntGet .port n 11 d + 1) % 2 ^ 48)

/-- R378, R386 to R388: what reaches a lane: a training frame moves its taps within their ranges, a training ordered set
counts its run, a lane not trained in time starts again, the 8b/10b adaptation freezes, and a point of a scan ends.
Forms shown to complete: trainingFrameReceive, twinTrainingSetReceive, twinLaneTrainTimeout, adaptWindow, eyeScanPoint. -/
def Obligations.LanesFollowTheirInputs : Prop :=
  ∀ (s : State) (d : Dev), { s.dev with out := [] } = d →
    (∀ lane l req trained r, laneNum lane = l → l < 32 → (portSt (portOfLane l d) d).state = .training →
      req.preset = none → tapSteps l (req.taps.map (·.val)) (laneSt l d).taps = r →
      ∃ u, exec (.trainingFrameReceive lane req trained) s = .next u ∧ u.otp = s.otp ∧
        laneSt l u.dev = { laneSt l d with taps := r.map (·.1), trained := trained, signal := true, cdr := true } ∧
        u.dev.out = [.lane l (r.map (fun e => BitVec.ofNat 8 e.2))]) ∧
    (∀ lane l req trained, laneNum lane = l → l < 32 → (portSt (portOfLane l d) d).state = .training →
      req.preset.isSome = true → ∃ u t, exec (.trainingFrameReceive lane req trained) s = .next u ∧ u.otp = s.otp ∧
        laneSt l u.dev = { laneSt l d with taps := t, trained := trained, signal := true, cdr := true } ∧
        t.length = 5 ∧ (∀ e ∈ (tapRange l).zip t, e.1.1 ≤ e.2 ∧ e.2 ≤ e.1.2)) ∧
    (∀ req (r : Int × Int) t, r.1 ≤ t → t ≤ r.2 → r.1 ≤ (tapStep req r t).1 ∧ (tapStep req r t).1 ≤ r.2) ∧
    (∀ (i : Fin 4) t, tosOk t = false → exec (.twinTrainingSetReceive i t) s = .next (s.withDev d)) ∧
    (∀ (i : Fin 4) t run, tosOk t = true → (portSt 96 d).state = .an →
      (if bit (fld t 4 1) 6 then (laneSt (96 + i.val) d).readyRun + 1 else 0) = run →
      ∃ u, exec (.twinTrainingSetReceive i t) s = .next u ∧ u.otp = s.otp ∧ (laneSt (96 + i.val) u.dev).readyRun = run ∧
        (laneSt (96 + i.val) u.dev).rxId = fld t 1 1 ∧
        (laneSt (96 + i.val) u.dev).trained = ((laneSt (96 + i.val) d).trained || decide (8 ≤ run))) ∧
    (∀ (i : Fin 4) d1, (laneSt (96 + i.val) d).trained = false →
      ((portSt 96 d).state = .aligning ∨ (portSt 96 d).state = .an) →
      waitTicks ((laneSt (96 + i.val) d).since + ticksMs 5) d = d1 →
      ∃ u, exec (.twinLaneTrainTimeout i) s = .next u ∧ u.otp = s.otp ∧ u.dev.time = d1.time ∧
        (laneSt (96 + i.val) u.dev).readyRun = 0 ∧ (laneSt (96 + i.val) u.dev).since = d1.time.elapsed ∧
        cntGet .lane (96 + i.val) 6 u.dev = (cntGet .lane (96 + i.val) 6 d + 1) % 2 ^ 48 ∧
        cntGet .port 96 12 u.dev = (cntGet .port 96 12 d + 1) % 2 ^ 48) ∧
    (∀ lane w, laneNum lane < 32 → exec (.adaptWindow lane w) s = .next (s.withDev d)) ∧
    (∀ lane l w x f, laneNum lane = l → 32 ≤ l → laneSt l d = x → x.fill + w.drift = f →
      ∃ u y, exec (.adaptWindow lane w) s = .next u ∧ u.otp = s.otp ∧ laneSt l u.dev = y ∧
        y.frozen = decide (7 * w.codes < 8 * w.idleCodes) ∧ y.taps = x.taps ∧
        cntGet .lane l 4 u.dev = (if x.frozen = false ∧ 7 * w.codes < 8 * w.idleCodes then (cntGet .lane l 4 d + 1) % 2 ^ 48
          else cntGet .lane l 4 d) ∧
        cntGet .lane l 0 u.dev = (cntGet .lane l 0 d + w.symbolErrors) % 2 ^ 48 ∧
        cntGet .lane l 1 u.dev = (cntGet .lane l 1 d + w.disparityErrors) % 2 ^ 48 ∧
        ((l < 96 ∨ 100 ≤ l) → u.dev.port = (setLaneSt l y d).port ∧
          (16 < f.natAbs → y.fill = 0 ∧ y.slipped = (x.slipped || decide (w.idleCodes < w.codes))) ∧
          (f.natAbs ≤ 16 → w.idleCodes < 2 → y = { x with frozen := y.frozen, fill := f }) ∧
          (∀ n, f.natAbs ≤ 16 → 2 ≤ w.idleCodes → 0 ≤ f → min (w.idleCodes / 2) (f.natAbs / 2) = n →
            y = { x with frozen := y.frozen, fill := f - 2 * n } ∧ cntGet .lane l 3 u.dev = (cntGet .lane l 3 d + n) % 2 ^ 48) ∧
          (∀ n, f.natAbs ≤ 16 → 2 ≤ w.idleCodes → f < 0 → f.natAbs / 2 = n →
            y = { x with frozen := y.frozen, fill := f + 2 * n } ∧ cntGet .lane l 2 u.dev = (cntGet .lane l 2 d + n) % 2 ^ 48)) ∧
        (96 ≤ l → l < 100 →
          u.dev.out = (if portIsUp 96 d then [.lane l skipSet] else []) ∧
          y.fill = (if 0 ≤ f then f - min 2 f.natAbs else f + min 2 f.natAbs) ∧
          (0 ≤ f → cntGet .lane l 3 u.dev = (cntGet .lane l 3 d + min 2 f.natAbs) % 2 ^ 48) ∧
          (f < 0 → cntGet .lane l 2 u.dev = (cntGet .lane l 2 d + min 2 f.natAbs) % 2 ^ 48) ∧
          ((w.skipMissing = false ∨ portLinked 96 d = false) → portSt 96 u.dev = portSt 96 d) ∧
          (w.skipMissing = true → portLinked 96 d = true → y.lock = false ∧ (portSt 96 u.dev).lossAt.isSome = true ∧
            cntGet .lane l 5 u.dev = (cntGet .lane l 5 d + 1) % 2 ^ 48))) ∧
    (∀ lane l errors x d1, laneNum lane = l → (laneSt l d).scan = some x →
      waitTicks (x.start + ticksNs (scanNs l x.dwell (x.done + 1) d)) d = d1 →
      (x.done + 1 < x.nH * x.nV → ∃ u, exec (.eyeScanPoint lane errors) s = .next u ∧ u.otp = s.otp ∧
        u.dev.time = d1.time ∧ laneSt l u.dev = { laneSt l d with scan := some { x with done := x.done + 1 } }) ∧
      (x.nH * x.nV ≤ x.done + 1 → ∃ u, exec (.eyeScanPoint lane errors) s = .next u ∧ u.otp = s.otp ∧
        u.dev.time = d1.time ∧ laneSt l u.dev = { laneSt l d with scan := none } ∧
        u.dev.host.pend = d.host.pend.filter (fun q => q.handle ≠ x.handle)))

/-- R388: ber_code: the search of 16 steps finds the largest n of its range with 10^(2n−1) e^512 ≤ b^512, so the code is
⌊256 log10(b/e) + 1/2⌋, with no errors read as 3. -/
def Obligations.BerCodeIsTheRoundedLogarithm : Prop :=
  ∀ (errors bits e n : Nat), (if errors = 0 then 3 else errors) = e → berCode errors bits = n →
    (n = 0 ∨ 10 ^ (2 * n - 1) * e ^ 512 ≤ bits ^ 512) ∧
    (n < 65535 → bits ^ 512 < 10 ^ (2 * n + 1) * e ^ 512)

/-- R297, R303 to R305: what the PTP clocks of the firmware send on a port of an instance, under the next sequence
number, what they do with a message that waits, and what an Announce that does not come ends. Forms shown to complete:
ptpSyncSend, ptpAnnounceSend, ptpDelayReqSend, ptpPdelayReqSend, ptpMessageProcess, announceReceiptTimeout. -/
def Obligations.PtpClocksSpeak : Prop :=
  ∀ (s : State) (d : Dev), { s.dev with out := [] } = d →
    (∀ (i : Fin 4) p n x dest y d1, portNum p = n → instPrm i.val d = some x → fwTarget n d = some dest →
      inst i.val d = y →
      { setInst i.val { y with nextSeq := (y.nextSeq + 1) % 65536 } d with free := d.free + 1 } = d1 →
      masterPort i.val n x d = true →
      (∀ one, d.time.state ≠ .acquire → (x.oneStep && decide (x.role ≠ 3)) = one →
        exec (.ptpSyncSend i p) s = .next (s.withDev (injectFrame false dest 7
          (be 6 (if x.profile = 3 then 0x0180C200000E else 0x011B19000000) ++ le 6 (Config.freeNat d.free) ++ be 2 0x88F7 ++
            ptpMessage 0 (instSdo x) x.domain (if one then 0 else 0x0200) 0 n y.nextSeq x.logSync (zeros 10))
          (if one then none else some y.nextSeq) (if one then some (1, 0) else none) d1))) ∧
      (∀ a tlvs d2, announced i.val x d = a → powerTlvs x (setInst i.val { y with nextSeq := (y.nextSeq + 1) % 65536 } d) = (tlvs, d2) →
        (x.profile ≠ 2 → tlvs = [] ∧ d2.free = d.free) ∧
        exec (.ptpAnnounceSend i p) s = .next (s.withDev (injectFrame false dest 7
        (be 6 (if x.profile = 3 then 0x0180C200000E else 0x011B19000000) ++ le 6 (Config.freeNat d2.free) ++ be 2 0x88F7 ++
          ptpMessage 0xB (instSdo x) x.domain (utcInfo i.val d).1 0 n y.nextSeq x.logAnnounce
            (zeros 10 ++ be 2 (utcInfo i.val d).2 ++ zeros 1 ++ be 1 a.priority1 ++ be 1 a.clockClass ++ be 1 a.clockAccuracy
              ++ be 2 a.variance ++ be 1 a.priority2 ++ be 8 a.grandmaster ++ be 2 a.stepsRemoved ++ be 1 0xA0 ++ tlvs))
        none none { d2 with free := d2.free + 1 }))) ∧
      (d.time.state = .acquire → exec (.ptpSyncSend i p) s = .next (s.withDev d))) ∧
    (∀ (i : Fin 4) p n x dest, portNum p = n → instPrm i.val d = some x → fwTarget n d = some dest → fwRuns d = true →
      awake d = true → x.p2p = false → (inst i.val d).slavePort = some n → ∃ u d1, exec (.ptpDelayReqSend i p) s = .next u ∧
        u.otp = s.otp ∧ (inst i.val d1).delayReq = some ((inst i.val d).nextSeq, none) ∧
        (inst i.val d1).nextSeq = ((inst i.val d).nextSeq + 1) % 65536 ∧ d1.que = d.que ∧
        u.dev = injectFrame false dest 7 (be 6 0x011B19000000 ++ le 6 (Config.freeNat d.free) ++ be 2 0x88F7 ++
          ptpMessage 1 0 x.domain 0 0 n (inst i.val d).nextSeq 0x7F (zeros 10)) (some (inst i.val d).nextSeq) none d1) ∧
    (∀ p n dest q, portNum p = n → fwTarget n d = some dest → fwPeerDelay n d = true →
      (match Map.get? d.ts.pdelay n with | some y => (y.seq + 1) % 65536 | none => 0) = q →
      exec (.ptpPdelayReqSend p) s = .next (s.withDev (injectFrame false dest 7
        (be 6 0x0180C200000E ++ le 6 (Config.freeNat d.free) ++ be 2 0x88F7 ++
          ptpMessage 2 (peerSdo n d).1 (peerSdo n d).2 0 0 n q 0 (zeros 20)) (some q) none
        { d with ts := { d.ts with pdelay := Map.put d.ts.pdelay n ⟨q, none, none, 0⟩ }, free := d.free + 1 }))) ∧
    (∀ f r d1, fwRuns d = true → readStamps d = d1 →
      d1.prot.fwBuf.find? (fun f => (ptpRef f.data).isSome) = some f → ptpRef f.data = some r →
      (ptpWellFormed f.data r = false → exec .ptpMessageProcess s = .next (s.withDev (emit (.cpu f.port (tsOf f.tIn) f.data)
        { d1 with prot := { d1.prot with fwBuf := d1.prot.fwBuf.erase f } }))) ∧
      (ptpWellFormed f.data r = true → (ptpType f.data r = 2 ∨ ptpType f.data r = 3 ∨ ptpType f.data r = 10) →
        fwPeerDelay f.port d1 = true → exec .ptpMessageProcess s = .next (s.withDev (peerMessage f r
          { d1 with prot := { d1.prot with fwBuf := d1.prot.fwBuf.erase f } }))) ∧
      (∀ i x, ptpWellFormed f.data r = true → ptpType f.data r ≠ 2 → ptpType f.data r ≠ 3 → ptpType f.data r ≠ 10 →
        instOfPort f.port d1 = some (i, x) → x.domain = fld f.data (r.off + 4) 1 →
        exec .ptpMessageProcess s = .next (s.withDev (instMessage i x f r
          { d1 with prot := { d1.prot with fwBuf := d1.prot.fwBuf.erase f } })))) ∧
    (∀ (i : Fin 4) x a, instPrm i.val d = some x → (inst i.val d).parent = some a → fwRuns d = true →
      ∃ u, exec (.announceReceiptTimeout i) s = .next u ∧ u.otp = s.otp ∧ (inst i.val u.dev).parent = none ∧
        (inst i.val u.dev).slavePort = none ∧
        (inst i.val u.dev).announceTimeouts = ((inst i.val d).announceTimeouts + 1) % 2 ^ 32 ∧
        (x.timeSource = true → timeSourceNow d = 1 → d.time.state = .locked → u.dev.time.state = .holdover))

/-- R304: a complete Sync gives the offset (t1 + corrections + mean path delay − t2) of the instance; of the instance
that is the source of time it is a measurement. -/
def Obligations.SyncMeasuresTheOffset : Prop :=
  ∀ (i p t1 t2 : Nat) (x : PtpPrm) (corr : Int) (d : Dev),
    (pathDelay i p x d = none → (inst i (syncComplete i p x t1 corr t2 d)).lastOffset = (inst i d).lastOffset ∧
      (syncComplete i p x t1 corr t2 d).time = d.time) ∧
    (∀ mpd, pathDelay i p x d = some mpd → ∃ d2,
      (inst i d2).lastOffset = (t1 : Int) * 65536 + corr + mpd - (t2 / 65536 : Nat) ∧ (inst i d2).lastSync = tsOf t2 ∧
      (inst i d2).syncRx = ((inst i d).syncRx + 1) % 2 ^ 32 ∧ (inst i d2).sync = none ∧ d2.time = d.time ∧
      syncComplete i p x t1 corr t2 d =
        if x.timeSource && decide (timeSourceNow d = 1) then
          measure t2 ((t2 : Int) + ((t1 : Int) * 65536 + corr + mpd - (t2 / 65536 : Nat)) * 65536).toNat d2 else d2)

/-- R402, R404, R405: the handshake on W: who says HELLO, the MACs, the session keys and roles that a passed handshake
gives, and what a wrong MAC or silence does. Forms shown to complete: twinAutoAttach, twinHello, twinHandshakeMac,
twinHandshakeTimeout. -/
def Obligations.TwinsShakeHands : Prop :=
  ∀ (s : State) (d : Dev), { s.dev with out := [] } = d →
    (fwRuns d = true → (prm d).twinAuto = true → canAttach d = true → ∃ u, exec .twinAutoAttach s = .next u ∧
      u.otp = s.otp ∧ u.dev.twin.state = .attaching ∧
      u.dev.twin.hs = some ⟨true, le 16 (Config.freeNat d.free), [], Config.serial, 0, d.time.elapsed, 0, false, false, 0, 0⟩ ∧
      u.dev.out = (sayHello 1 (le 16 (Config.freeNat d.free)) [] d).out) ∧
    ((fwRuns d = false ∨ (prm d).twinAuto = false ∨ canAttach d = false) →
      exec .twinAutoAttach s = .next (s.withDev d)) ∧
    (∀ m key h, portIsUp 96 d = true → fwRuns d = true → m.mac = none → pairKey d = some key → canAttach d = true →
      ((prm d).twinAuto = true ∨ d.twin.handle.isSome = true) → m.serial.toNat ≠ Config.serial → d.twin.hs = none →
      (⟨false, m.nonce, le 16 (Config.freeNat d.free), m.serial.toNat, Config.serial, d.time.elapsed, 0, m.serving,
        m.strapHigh, m.fwVersion.toNat, m.recordVersion.toNat⟩ : Handshake) = h → peerRefusal h d = none →
      ∃ u, exec (.twinHello m) s = .next u ∧ u.otp = s.otp ∧ u.dev.twin.state = .attaching ∧ u.dev.twin.hs = some h ∧
        u.dev.out = (sayHello 2 h.nonceR (handMac key 0x52 h) d).out) ∧
    (∀ m mac key h h', portIsUp 96 d = true → fwRuns d = true → m.mac = some mac → pairKey d = some key →
      d.twin.hs = some h → d.twin.state = .attaching → h.initiator = true →
      { h with nonceR := m.nonce, serialR := m.serial.toNat, stepAt := d.time.elapsed, peerServing := m.serving,
               peerStrap := m.strapHigh, peerVersion := m.fwVersion.toNat, peerRecords := m.recordVersion.toNat } = h' →
      (mac = handMac key 0x52 h' → h'.serialR ≠ Config.serial → peerRefusal h' d = none →
        ∃ u, exec (.twinHello m) s = .next u ∧ u.otp = s.otp ∧ u.dev.twin.state = .syncing ∧
          u.dev.twin.role = settleRole h' d ∧ u.dev.twin.keyOut = sessionKey key 0 h' ∧
          u.dev.twin.keyIn = sessionKey key 1 h' ∧ u.dev.out = [.twin 3 (handMac key 0x49 h')]) ∧
      (mac ≠ handMac key 0x52 h' → ∃ u, exec (.twinHello m) s = .next u ∧ u.dev.twin.state = .unpaired ∧
        u.dev.twin.keyOut = [] ∧ cntGet .twin 0 5 u.dev = (cntGet .twin 0 5 d + 1) % 2 ^ 48)) ∧
    (∀ mac key h, portIsUp 96 d = true → fwRuns d = true → pairKey d = some key → d.twin.hs = some h →
      d.twin.state = .attaching → h.initiator = false →
      (mac = handMac key 0x49 h → ∃ u, exec (.twinHandshakeMac mac) s = .next u ∧ u.otp = s.otp ∧
        u.dev.twin.state = .syncing ∧ u.dev.twin.role = settleRole h d ∧ u.dev.twin.keyOut = sessionKey key 1 h ∧
        u.dev.twin.keyIn = sessionKey key 0 h ∧ u.dev.twin.peerSerial = h.serialI) ∧
      (mac ≠ handMac key 0x49 h → exec (.twinHandshakeMac mac) s = .next (s.withDev (attachFail .authFailed d)))) ∧
    (∀ h d1, d.twin.hs = some h → d.twin.state = .attaching → waitTicks (h.stepAt + ticksMs 5) d = d1 →
      (h.fails < 2 → portIsUp 96 d = true → ∃ u x, exec .twinHandshakeTimeout s = .next u ∧ u.otp = s.otp ∧
        u.dev.time = d1.time ∧ u.dev.twin.state = .attaching ∧ u.dev.twin.hs = some x ∧ x.fails = h.fails + 1 ∧
        x.initiator = true) ∧
      (2 ≤ h.fails → ∃ u, exec .twinHandshakeTimeout s = .next u ∧ u.otp = s.otp ∧ u.dev.time = d1.time ∧
        u.dev.twin.state = .unpaired ∧ cntGet .twin 0 4 u.dev = (cntGet .twin 0 4 d + 1) % 2 ^ 48))

/-- R406, R407, R409 to R411, R413, R416: records, heartbeats and time exchanges of a pair, and how SUSPECT, LOST and
SOLO come about. Forms shown to complete: twinRecordSend, twinRecordAck, twinRxStateSend, twinRecordReceive, yoyoSend,
yoyoReceive, heartbeatMiss, twinLostTimeout, twinTimeExchange, twfailITakeover. -/
def Obligations.TwinsShareAndTakeOver : Prop :=
  ∀ (s : State) (d : Dev), { s.dev with out := [] } = d →
    (∀ d1 b rest, twinShares d = true → portIsUp 96 d = true → d.twin.keyOut ≠ [] → fwRuns d = true →
      followState d = d1 → d1.twin.waiting = b :: rest → ∃ u, exec .twinRecordSend s = .next u ∧ u.otp = s.otp ∧
        u.dev.twin.waiting = rest ∧ u.dev.twin.unacked = d.twin.unacked ++ [(d.twin.nextRec, b)] ∧
        u.dev.twin.nextRec = d.twin.nextRec + 1 ∧ u.dev.out = [.twinRecord d.twin.nextRec b] ∧
        d.twin.queueUntil < u.dev.time.elapsed + queueTicks ∧ u.dev.twin.queueUntil =
          max d.twin.queueUntil u.dev.time.elapsed + (Config.recordLength b + 3) / 4) ∧
    (∀ q b, d.twin.unacked.find? (fun e => decide (e.1 = q)) = some (q, b) →
      (d.twin.state ≠ .syncing → ∃ u, exec (.twinRecordAck q) s = .next u ∧ u.otp = s.otp ∧
        u.dev.twin.unacked = d.twin.unacked.filter (fun e => decide (e.1 ≠ q)) ∧ u.dev.twin.ctrIn = d.twin.ctrIn + 1 ∧
        (∀ k r, b = .pnReservation k r → Map.has d.prot.slots k = true →
          sa k u.dev = { sa k d with reserve := r, renewing := false })) ∧
      (d.twin.state = .syncing → d.twin.waiting = [] → d.twin.unacked = [(q, b)] → d.twin.synced = true →
        ∃ u, exec (.twinRecordAck q) s = .next u ∧ u.dev.twin.state = .paired ∧ u.dev.twin.missed = 0)) ∧
    (paired d = true → ∃ u, exec .twinRxStateSend s = .next u ∧ u.otp = s.otp ∧ u.dev.prot = d.prot ∧
      u.dev.twin.waiting = d.twin.waiting ++ (if twinMirrors d then
        (d.prot.slots.filter (fun e => saRx e.1 && decide (e.2.state = .inUse) && servesSlot e.1 d)).map
          (fun e => TwinBody.rxState e.1 e.2.nextPn) else [])) ∧
    (∀ r, twinShares d = true → portIsUp 96 d = true → d.twin.keyIn ≠ [] → fwRuns d = true →
      (∀ b, r.body = some b → exec (.twinRecordReceive r) s = .next (s.withDev (applyRecord b
        (emit (.twin 5 (le 4 r.seq)) { d with twin := { d.twin with
          ctrIn := d.twin.ctrIn + 1, ctrOut := d.twin.ctrOut + 1 } })))) ∧
      (∀ k pn, r.body = some (.rxState k pn) → (sa k d).state ≠ .empty → ∃ u,
        exec (.twinRecordReceive r) s = .next u ∧ sa k u.dev = { sa k d with nextPn := max (sa k d).nextPn pn }) ∧
      (r.body = none → r.mustUnderstand = false → ∃ u, exec (.twinRecordReceive r) s = .next u ∧
        u.dev.out = [.twin 5 (le 4 r.seq)] ∧ u.dev.twin.state = d.twin.state ∧
        cntGet .twin 0 6 u.dev = (cntGet .twin 0 6 d + 1) % 2 ^ 48) ∧
      (r.body = none → r.mustUnderstand = true → ∃ u, exec (.twinRecordReceive r) s = .next u ∧
        u.dev.twin.state = .unpaired ∧ u.dev.twin.keyIn = [])) ∧
    ((paired d = true ∨ d.twin.state = .solo) → portIsUp 96 d = true →
      exec .yoyoSend s = .next (s.withDev (heartbeat d.twin.state d))) ∧
    (∀ m, paired d = true → portIsUp 96 d = true → ∃ u, exec (.yoyoReceive m) s = .next u ∧ u.otp = s.otp ∧
      (m.state.val ≠ 0 → u.dev.twin.state = .paired ∧ u.dev.twin.missed = 0 ∧ u.dev.twin.heard = d.time.elapsed) ∧
      (m.state.val = 0 → u.dev.twin.state = .unpaired ∧ u.dev.twin.role = 0)) ∧
    (∀ d1, paired d = true → waitTicks (d.twin.heard + ticksUs 10 * (d.twin.missed + 1)) d = d1 →
      ∃ u, exec .heartbeatMiss s = .next u ∧ u.otp = s.otp ∧ u.dev.time = d1.time ∧
        u.dev.twin.missed = d.twin.missed + 1 ∧ cntGet .twin 0 0 u.dev = (cntGet .twin 0 0 d + 1) % 2 ^ 48 ∧
        u.dev.twin.state = (if d.twin.missed = 7 then .suspect else d.twin.state)) ∧
    (d.twin.state = .suspect → ∃ u, exec .twinLostTimeout s = .next u ∧ u.otp = s.otp ∧ u.dev.twin.state = .lost ∧
      u.dev.twin.keyOut = [] ∧ u.dev.twin.keyIn = [] ∧ u.dev.twin.role = d.twin.role ∧
      d.twin.heard + ticksMs (prm d).lostTime ≤ u.dev.time.elapsed) ∧
    (∀ off excess d1, paired d = true → portIsUp 96 d = true → excess ≤ 4 →
      { d with twin := { d.twin with offset := off } } = d1 → exec (.twinTimeExchange off excess) s = .next (s.withDev
        (if pairedSecondary d then
          measure d.time.grand (((d.time.grand : Int) - off * 65536) % (counterMod : Int)).toNat d1 else d1))) ∧
    ((d.twin.state = .paired ∨ d.twin.state = .suspect ∨ d.twin.state = .lost) → standsBy d = true →
      ∃ u, exec .twfailITakeover s = .next u ∧ u.otp = s.otp ∧ u.dev.twin.state = .solo ∧ u.dev.twin.role = 1 ∧
        u.dev.twin.serving = true ∧ u.dev.twin.squelch = false ∧ u.dev.twin.keyIn = [] ∧ u.dev.twin.actions = []) ∧
    ((d.twin.state = .unpaired ∨ d.twin.state = .attaching ∨ d.twin.state = .solo ∨ standsBy d = false) →
      d.twin.state ≠ .syncing →
      exec .twfailITakeover s = .next (s.withDev { d with twin := { d.twin with failIn := true } }))

/-- R217, R220, R228, R256, R322, R326, R338, R353, R359, R378, R388, R407, R410: events keep to their units: what each
may change, everything else as it was. -/
def Obligations.EventsKeepToTheirUnits : Prop :=
  ∀ (s : State) (d : Dev), { s.dev with out := [] } = d →
    (∀ p c, c ∈ [Instr.gateConfigChangeInstant p, .gateEvent p, .gateListRestart p] → ∃ t b a h n w,
      exec c s = .next (s.withDev { d with time := t, obs := b, act := a, host := h, cnt := n, out := w })) ∧
    (∀ die, ∃ q a, exec (.bucketRefill die) s = .next (s.withDev { d with que := q, act := a })) ∧
    (∀ die, ∃ q, exec (.sfqIdleSweep die) s = .next (s.withDev { d with que := q })) ∧
    (∀ die, ∃ q f m n, exec (.residueEnqueue die) s = .next (s.withDev { d with que := q, fab := f, mem := m, cnt := n })) ∧
    (∀ die, ∃ t b f n, exec (.residueLifetimeExpiry die) s =
      .next (s.withDev { d with time := t, obs := b, fab := f, cnt := n })) ∧
    (∃ p f b, exec .whiskMatch s = .next (s.withDev { d with pkg := p, fab := f, obs := b })) ∧
    (∀ h, ∃ q x b n w, exec (.queueFlushComplete h) s =
      .next (s.withDev { d with que := q, host := x, obs := b, cnt := n, out := w })) ∧
    (∀ die k c, c ∈ [Instr.spillReadback die k, .eggReadback die, .stockpotBlockWrite] → ∃ t q a m b n f,
      exec c s = .next (s.withDev { d with time := t, que := q, act := a, mem := m, obs := b, cnt := n, free := f })) ∧
    (∀ r c, c ∈ [Instr.regionRebuild r, .rekeyTrigger r, .rekeyStart] → ∃ m f,
      exec c s = .next (s.withDev { d with mem := m, free := f })) ∧
    (∀ die c, c ∈ [Instr.stashDrain die, .prefixWriteApply die, .sweeperClamp die, .unifyPropagate die] → ∃ x n,
      exec c s = .next (s.withDev { d with cls := x, cnt := n })) ∧
    (∀ die c, c ∈ [Instr.pinExpiry die, .learnTimeRebase] → ∃ x t b,
      exec c s = .next (s.withDev { d with cls := x, time := t, obs := b })) ∧
    (∀ die, ∃ x y n t b, exec (.agingSweep die) s =
      .next (s.withDev { d with cls := x, twin := y, cnt := n, time := t, obs := b })) ∧
    (∀ lane i, ∃ x n w, exec (.adaptWindow lane i) s = .next (s.withDev { d with port := x, cnt := n, out := w })) ∧
    (∀ lane req b, ∃ x f w, exec (.trainingFrameReceive lane req b) s =
      .next (s.withDev { d with port := x, free := f, out := w })) ∧
    (∀ p c, c ∈ [Instr.linkSignalLoss p 0, .linkSignalLoss p 1, .linkSignalLoss p 2, .linkSignalRestored p] → ∃ x n,
      exec c s = .next (s.withDev { d with port := x, cnt := n })) ∧
    (∀ c, c ∈ [Instr.yoyoSend, .twinRxStateSend] → ∃ x w,
      exec c s = .next (s.withDev { d with twin := x, out := w })) ∧
    (∃ x w t b, exec .twinRecordSend s = .next (s.withDev { d with twin := x, out := w, time := t, obs := b })) ∧
    (∃ t b x h n w, exec .heartbeatMiss s =
      .next (s.withDev { d with time := t, obs := b, twin := x, host := h, cnt := n, out := w }))
end

