-- ==== Sys2Proof/Laws/Mailbox.lean ====
section
/-! SUPPORT. Sys2Proof/Laws/Mailbox.lean: what a mailbox command that the device takes comes to: its own answer. -/
namespace Sys2Proof.Machine

/-- Taking a request changes mailboxes alone: each part a command reads stands as before. -/
@[simp] theorem taken_time (op : Nat) (r : Request) (s : State) : (taken op r s).time = s.dev.time := rfl
@[simp] theorem taken_pkg (op : Nat) (r : Request) (s : State) : (taken op r s).pkg = s.dev.pkg := rfl
@[simp] theorem taken_cfg (op : Nat) (r : Request) (s : State) : (taken op r s).cfg = s.dev.cfg := rfl
@[simp] theorem taken_sys (op : Nat) (r : Request) (s : State) : (taken op r s).sys = s.dev.sys := rfl
@[simp] theorem taken_vault (op : Nat) (r : Request) (s : State) : (taken op r s).vault = s.dev.vault := rfl
@[simp] theorem taken_prot (op : Nat) (r : Request) (s : State) : (taken op r s).prot = s.dev.prot := rfl
@[simp] theorem taken_cls (op : Nat) (r : Request) (s : State) : (taken op r s).cls = s.dev.cls := rfl
@[simp] theorem taken_fab (op : Nat) (r : Request) (s : State) : (taken op r s).fab = s.dev.fab := rfl
@[simp] theorem taken_que (op : Nat) (r : Request) (s : State) : (taken op r s).que = s.dev.que := rfl
@[simp] theorem taken_ts (op : Nat) (r : Request) (s : State) : (taken op r s).ts = s.dev.ts := rfl
@[simp] theorem taken_act (op : Nat) (r : Request) (s : State) : (taken op r s).act = s.dev.act := rfl
@[simp] theorem taken_mem (op : Nat) (r : Request) (s : State) : (taken op r s).mem = s.dev.mem := rfl
@[simp] theorem taken_port (op : Nat) (r : Request) (s : State) : (taken op r s).port = s.dev.port := rfl
@[simp] theorem taken_twin (op : Nat) (r : Request) (s : State) : (taken op r s).twin = s.dev.twin := rfl
@[simp] theorem taken_obs (op : Nat) (r : Request) (s : State) : (taken op r s).obs = s.dev.obs := rfl
@[simp] theorem taken_cnt (op : Nat) (r : Request) (s : State) : (taken op r s).cnt = s.dev.cnt := rfl
@[simp] theorem taken_free (op : Nat) (r : Request) (s : State) : (taken op r s).free = s.dev.free := rfl
@[simp] theorem taken_out (op : Nat) (r : Request) (s : State) : (taken op r s).out = [] := rfl

theorem Map.get?_put {α : Type} (m : Map α) (k : Nat) (a : α) : Map.get? (Map.put m k a) k = some a := by
  induction m with
  | nil => simp [Map.put, Map.get?]
  | cons e m ih =>
    obtain ⟨i, b⟩ := e
    simp only [Map.put]
    split
    · simp [Map.get?]
    · split
      · simp [Map.get?]
      · rename_i h _
        simp [Map.get?, h, ih]

/-- The mailbox of a request the device has taken is busy, keeping its stored copy. -/
theorem taken_mailbox (op : Nat) (r : Request) (s : State) :
    mailbox r.mb.val (taken op r s) =
      { mailbox r.mb.val s.dev with req := headerBytes op r ++ bodyBytes r, busy := true, done := false } := by
  simp [taken, takeRequest, setMailbox, mailbox, Map.get, Map.get?_put]

theorem duplicate_none {c : CmdInfo} {r : Request} {t : Target} {s : State} (h : Asked c r t s) :
    duplicate c.op r (taken c.op r s) = none := by
  have hf := h.fresh
  unfold duplicate
  rw [taken_mailbox]
  cases hs : (mailbox r.mb.val s.dev).stored with
  | none => rfl
  | some x =>
    obtain ⟨q, g, b⟩ := x
    rw [hs] at hf
    have : q ≠ r.sequence.toNat := by simpa using hf
    simp [this]

/-- What the length and the header ask of a command is met (R45, R46). -/
theorem lengthOk_of_asked {c : CmdInfo} {r : Request} {t : Target} {s : State} (h : Asked c r t s)
    (h4 : c.len % 4 = 0) (hm : c.len ≤ 4048) : lengthOk c r = true := by
  have h1 := h.length
  unfold lengthOk
  split <;> simp [h1, h4] <;> omega

theorem headerOk_of_asked {c : CmdInfo} {r : Request} {t : Target} {s : State} (h : Asked c r t s) : headerOk r = true := by
  have h1 := h.flags; have h2 := h.reserved
  simp [headerOk, h2]; omega

/-- No life-cycle state refuses the command (R147). -/
theorem lifeRefusal_none {c : CmdInfo} {r : Request} {t : Target} {s : State} {d : Dev} (h : Asked c r t s)
    (hd : d.vault = s.dev.vault)
    (ha : (needsAuth c r && !authAllowed s.dev.vault.lc c.op (payload r)) = false) : lifeRefusal c r d = none := by
  have h1 := h.life
  unfold lifeRefusal
  rw [hd]
  simp only [ha, Bool.or_false]
  split
  · rename_i h3
    cases hh : c.held with
    | false => rfl
    | true => exact absurd h3 (h1 hh).1
  · rename_i h4
    cases hh : c.held with
    | false => rfl
    | true => exact absurd h4 (h1 hh).2
  · rfl

/-- A command that is asked for comes to its own answer: the target is right, and nothing takes it away. -/
theorem answer_asked {c : CmdInfo} {r : Request} {t : Target} {s : State} (body : Ctx → Otp → Dev → Ans × Otp)
    (h : Asked c r t s) (d : Dev) (ht : readTarget c.scopes r.target.toNat d = .ok t)
    (ha : awake d = awake s.dev) (hv : vaultUp d = vaultUp s.dev)
    (hs : c.shared t (payload r) d = c.shared t (payload r) s.dev) :
    answer c body r s.otp d = body ⟨r.mb.val, t, payload r, nextHandle d⟩ s.otp d := by
  have h1 := h.awake; have h2 := h.vault
  unfold answer resolve
  rw [ht]
  have e1 : ((t.needsAwake || c.awake) && !awake d) = false := by
    rw [ha]; cases hx : (t.needsAwake || c.awake) with
    | false => rfl
    | true => rw [h1 hx]; rfl
  have e2 : (c.vault && !vaultUp d) = false := by
    rw [hv]; cases hx : c.vault with
    | false => rfl
    | true => rw [h2 hx]; rfl
  simp only [e1, h.resv, e2, hs, h.alone, Bool.not_true, Bool.false_eq_true, if_false]

/-- A request that needs no authorization comes to the command's own answer (R48, R509). -/
theorem mailboxOtp_taken (c : CmdInfo) (body : Ctx → Otp → Dev → Ans × Otp) (r : Request) (t : Target) (s : State)
    (h : Taken c r t s) (h4 : c.len % 4 = 0) (hm : c.len ≤ 4048)
    (hs : c.shared t (payload r) (taken c.op r s) = c.shared t (payload r) s.dev) :
    mailboxOtp c body r s.otp { s.dev with out := [] } =
      (match (body ⟨r.mb.val, t, payload r, s.dev.host.nextHandle⟩ s.otp (taken c.op r s)).1 with
        | .fail _ => s.otp | _ => (body ⟨r.mb.val, t, payload r, s.dev.host.nextHandle⟩ s.otp (taken c.op r s)).2,
       conclude c.op (replyOf c.op r)
        (body ⟨r.mb.val, t, payload r, s.dev.host.nextHandle⟩ s.otp (taken c.op r s)).1 (taken c.op r s)) := by
  have ha := h.asked
  have hr : hostReaches { s.dev with out := [] } = true := by simp [hostReaches, enumerated, ha.porst, ha.srst, ha.rom, ha.d0]
  have hb : (mailbox r.mb.val { s.dev with out := [] }).busy = false := ha.free
  have hf : ({ s.dev with out := [] } : Dev).host.fwReady = true := ha.ready
  have hd : duplicate c.op r (takeRequest c.op r { s.dev with out := [] }) = none := duplicate_none ha
  unfold mailboxOtp doorbell
  rw [hr, hb, hf]
  simp only [Bool.not_true, Bool.false_eq_true, if_false]
  rw [hd]
  change execute c body r s.otp (taken c.op r s) = _
  have hl : lifeRefusal c r (taken c.op r s) = none := lifeRefusal_none ha rfl (by rw [h.plain]; rfl)
  have hau : authorize c r (taken c.op r s) = (none, taken c.op r s) := by simp [authorize, h.plain]
  have han := answer_asked body ha (taken c.op r s) ha.aimed rfl rfl hs
  simp only [execute, lengthOk_of_asked ha h4 hm, headerOk_of_asked ha, hl, hau, han]
  rfl

/-- The same for a command that leaves one-time memory alone. -/
theorem onMailbox_taken (c : CmdInfo) (body : Ctx → Otp → Dev → Ans) (r : Request) (t : Target) (s : State)
    (h : Taken c r t s) (h4 : c.len % 4 = 0) (hm : c.len ≤ 4048)
    (hs : c.shared t (payload r) (taken c.op r s) = c.shared t (payload r) s.dev) :
    onMailbox c body r s =
      .next (s.withDev (conclude c.op (replyOf c.op r)
        (body ⟨r.mb.val, t, payload r, s.dev.host.nextHandle⟩ s.otp (taken c.op r s)) (taken c.op r s))) := by
  unfold onMailbox onOtp mailboxCmd
  rw [mailboxOtp_taken c _ r t s h h4 hm hs]
  rfl

/-- Authorization consumes the challenge alone: each part a command reads stands as before. -/
@[simp] theorem granted_time (op : Nat) (r : Request) (s : State) : (granted op r s).time = s.dev.time := rfl
@[simp] theorem granted_pkg (op : Nat) (r : Request) (s : State) : (granted op r s).pkg = s.dev.pkg := rfl
@[simp] theorem granted_cfg (op : Nat) (r : Request) (s : State) : (granted op r s).cfg = s.dev.cfg := rfl
@[simp] theorem granted_sys (op : Nat) (r : Request) (s : State) : (granted op r s).sys = s.dev.sys := rfl
@[simp] theorem granted_vault (op : Nat) (r : Request) (s : State) : (granted op r s).vault = s.dev.vault := rfl
@[simp] theorem granted_prot (op : Nat) (r : Request) (s : State) : (granted op r s).prot = s.dev.prot := rfl
@[simp] theorem granted_cls (op : Nat) (r : Request) (s : State) : (granted op r s).cls = s.dev.cls := rfl
@[simp] theorem granted_fab (op : Nat) (r : Request) (s : State) : (granted op r s).fab = s.dev.fab := rfl
@[simp] theorem granted_que (op : Nat) (r : Request) (s : State) : (granted op r s).que = s.dev.que := rfl
@[simp] theorem granted_ts (op : Nat) (r : Request) (s : State) : (granted op r s).ts = s.dev.ts := rfl
@[simp] theorem granted_act (op : Nat) (r : Request) (s : State) : (granted op r s).act = s.dev.act := rfl
@[simp] theorem granted_mem (op : Nat) (r : Request) (s : State) : (granted op r s).mem = s.dev.mem := rfl
@[simp] theorem granted_port (op : Nat) (r : Request) (s : State) : (granted op r s).port = s.dev.port := rfl
@[simp] theorem granted_twin (op : Nat) (r : Request) (s : State) : (granted op r s).twin = s.dev.twin := rfl
@[simp] theorem granted_obs (op : Nat) (r : Request) (s : State) : (granted op r s).obs = s.dev.obs := rfl
@[simp] theorem granted_cnt (op : Nat) (r : Request) (s : State) : (granted op r s).cnt = s.dev.cnt := rfl
@[simp] theorem granted_free (op : Nat) (r : Request) (s : State) : (granted op r s).free = s.dev.free := rfl
@[simp] theorem granted_out (op : Nat) (r : Request) (s : State) : (granted op r s).out = [] := rfl

theorem granted_awake (op : Nat) (r : Request) (s : State) : awake (granted op r s) = awake s.dev := by
  simp only [awake, granted_sys]

theorem granted_vaultUp (op : Nat) (r : Request) (s : State) : vaultUp (granted op r s) = vaultUp s.dev := by
  simp only [vaultUp, linkState, granted_pkg]

/-- A request that has its authorization comes to the command's own answer with the challenge consumed (R57). -/
theorem mailboxOtp_granted (c : CmdInfo) (body : Ctx → Otp → Dev → Ans × Otp) (r : Request) (t : Target) (s : State)
    (h : Granted c r t s) (h4 : c.len % 4 = 0) (hm : c.len ≤ 4048)
    (hs : c.shared t (payload r) (granted c.op r s) = c.shared t (payload r) s.dev) :
    mailboxOtp c body r s.otp { s.dev with out := [] } =
      (match (body ⟨r.mb.val, t, payload r, s.dev.host.nextHandle⟩ s.otp (granted c.op r s)).1 with
        | .fail _ => s.otp | _ => (body ⟨r.mb.val, t, payload r, s.dev.host.nextHandle⟩ s.otp (granted c.op r s)).2,
       conclude c.op (replyOf c.op r)
        (body ⟨r.mb.val, t, payload r, s.dev.host.nextHandle⟩ s.otp (granted c.op r s)).1 (granted c.op r s)) := by
  have ha := h.asked
  have hr : hostReaches { s.dev with out := [] } = true := by simp [hostReaches, enumerated, ha.porst, ha.srst, ha.rom, ha.d0]
  have hb : (mailbox r.mb.val { s.dev with out := [] }).busy = false := ha.free
  have hf : ({ s.dev with out := [] } : Dev).host.fwReady = true := ha.ready
  have hd : duplicate c.op r (takeRequest c.op r { s.dev with out := [] }) = none := duplicate_none ha
  unfold mailboxOtp doorbell
  rw [hr, hb, hf]
  simp only [Bool.not_true, Bool.false_eq_true, if_false]
  rw [hd]
  change execute c body r s.otp (taken c.op r s) = _
  have hl : lifeRefusal c r (taken c.op r s) = none := lifeRefusal_none ha rfl (by rw [h.allowed]; simp)
  obtain ⟨ch, hc, hk⟩ : ∃ ch, liveChallenge r.mb.val s.dev = some ch ∧ tokenOk c.op r ch s.dev = true := by
    have ht := h.token
    cases hc : liveChallenge r.mb.val s.dev with
    | none => rw [hc] at ht; simp at ht
    | some ch => rw [hc] at ht; exact ⟨ch, rfl, by simpa using ht⟩
  have hc' : liveChallenge r.mb.val (taken c.op r s) = some ch := by
    unfold liveChallenge; rw [taken_mailbox]; exact hc
  have hau : authorize c r (taken c.op r s) = (none, granted c.op r s) := by
    have ho : lockedOut (taken c.op r s) = false := h.open_
    have hk' : tokenOk c.op r ch (taken c.op r s) = true := hk
    simp only [authorize, h.needs, h.trailer, ho, hc', hk']
    rfl
  have han := answer_asked body ha (granted c.op r s) ha.aimed (granted_awake ..) (granted_vaultUp ..) hs
  simp only [execute, lengthOk_of_asked ha h4 hm, headerOk_of_asked ha, hl, hau, han]
  rfl

/-- The same for a command that leaves one-time memory alone. -/
theorem onMailbox_granted (c : CmdInfo) (body : Ctx → Otp → Dev → Ans) (r : Request) (t : Target) (s : State)
    (h : Granted c r t s) (h4 : c.len % 4 = 0) (hm : c.len ≤ 4048)
    (hs : c.shared t (payload r) (granted c.op r s) = c.shared t (payload r) s.dev) :
    onMailbox c body r s =
      .next (s.withDev (conclude c.op (replyOf c.op r)
        (body ⟨r.mb.val, t, payload r, s.dev.host.nextHandle⟩ s.otp (granted c.op r s)) (granted c.op r s))) := by
  unfold onMailbox onOtp mailboxCmd
  rw [mailboxOtp_granted c _ r t s h h4 hm hs]
  rfl

@[simp] theorem taken_pend (op : Nat) (r : Request) (s : State) : (taken op r s).host.pend = s.dev.host.pend := rfl
@[simp] theorem taken_nextHandle (op : Nat) (r : Request) (s : State) :
    (taken op r s).host.nextHandle = s.dev.host.nextHandle := rfl

/-- R45, R54: the bytes of the copied header hold the target. -/
theorem digest_target (op : Nat) (r : Request) : fld (replyOf op r).digest 16 4 = r.target.toNat := by
  have e : fld (replyOf op r).digest 16 4 = unle (le 4 r.target.toNat) := rfl
  have h := r.target.isLt
  rw [e]
  simp only [le, unle, BitVec.toNat_ofNat]
  omega

/-- A command that answers PENDING, and what follows its response. -/
theorem concludePend_taken (op bound object : Nat) (r : Request) (d : Dev) (k : Dev → Dev) (s : State) :
    concludePend op (replyOf op r) bound object d k (taken op r s) =
      if 64 ≤ s.dev.host.pend.length then respond (replyOf op r) .busy [] (taken op r s)
      else k (opened op bound object r d s) := by
  unfold concludePend opened
  rw [digest_target]
  rfl

/-- A command that answers PENDING and leaves the rest for later. -/
theorem next_pended (op bound object : Nat) (r : Request) (d : Dev) (s : State) :
    (Host.Outcome.next (s.withDev (conclude op (replyOf op r) (.pend bound object d) (taken op r s))) :
      Host.Outcome State Fault Refusal) = .next (pended op bound object r d s) := by
  have e : conclude op (replyOf op r) (.pend bound object d) (taken op r s) = _ := concludePend_taken op bound object r d id s
  rw [e, pended]
  split <;> rfl

/-- A command that keeps its mailbox busy. -/
theorem next_running (op object : Nat) (r : Request) (d : Dev) (s : State) :
    (Host.Outcome.next (s.withDev (conclude op (replyOf op r) (.run object d) (taken op r s))) :
      Host.Outcome State Fault Refusal) = .next (running op object r d s) := rfl

/-- R73, R119: an instant from the shortest lead on and no more than a day ahead is in order outside ACQUIRE. -/
theorem instantRefusal_none {t : TS96} {us : Nat} {d : Dev} (h1 : d.time.state ≠ .acquire)
    (h2 : d.time.grand + us * 1000 * 2 ^ 32 ≤ unitsOf t) (h3 : unitsOf t ≤ d.time.grand + 86400 * 1000000000 * 2 ^ 32) :
    instantRefusal t us d = none := by
  have e2 : ¬ unitsOf t < d.time.grand + us * 1000 * unitsPerNs := by unfold unitsPerNs; omega
  have e3 : ¬ d.time.grand + 86400 * unitsPerS < unitsOf t := by unfold unitsPerS; omega
  simp only [instantRefusal, h1, e2, e3, if_false]

/-- The zero instant is a valid time. -/
theorem valid_of_isZero {t : TS96} (h : t.isZero = true) : t.valid = true := by
  have : t.ns = 0 := by
    simp only [TS96.isZero, TS96.toNat, beq_iff_eq] at h; omega
  simp [TS96.valid, this]

end Sys2Proof.Machine
end

