-- ==== Sys2Proof/Laws/Memory.lean ====
section
/-! SUPPORT. Sys2Proof/Laws/Memory.lean: the laws of sparse tables and sparse memories: what reads after a write, and that
every write keeps the canonical form. -/
namespace Sys2Proof.Machine

/-! ### Tables -/

theorem Map.get?_put_ne {α : Type} (m : Map α) (k j : Nat) (a : α) (h : j ≠ k) :
    Map.get? (Map.put m k a) j = Map.get? m j := by
  have h' : ¬ k = j := fun e => h e.symm
  induction m with
  | nil => simp [Map.put, Map.get?, h']
  | cons e m ih =>
    obtain ⟨i, b⟩ := e
    unfold Map.put
    split
    · next e => subst e; simp [Map.get?, h']
    · split
      · simp [Map.get?, h']
      · simp only [Map.get?, ih]

theorem Map.get?_del {α : Type} (m : Map α) (k : Nat) : Map.get? (Map.del m k) k = none := by
  unfold Map.del
  induction m with
  | nil => rfl
  | cons e m ih =>
    rw [List.filter_cons]
    split
    · next h => rw [decide_eq_true_eq] at h; rw [Map.get?, if_neg h]; exact ih
    · exact ih

theorem Map.get?_del_ne {α : Type} (m : Map α) (k j : Nat) (h : j ≠ k) : Map.get? (Map.del m k) j = Map.get? m j := by
  unfold Map.del
  induction m with
  | nil => rfl
  | cons e m ih =>
    obtain ⟨i, b⟩ := e
    rw [List.filter_cons]
    split
    · rw [Map.get?, Map.get?, ih]
    · next h' =>
      rw [decide_eq_true_eq, not_not] at h'
      rw [ih, Map.get?, if_neg (fun e => h (e.symm.trans h'))]

theorem Map.get?_map {α β : Type} (m : Map α) (g : Nat → α → β) (k : Nat) :
    Map.get? (m.map (fun e => (e.1, g e.1 e.2))) k = (Map.get? m k).map (g k) := by
  induction m with
  | nil => rfl
  | cons e m ih =>
    obtain ⟨i, b⟩ := e
    by_cases h : i = k
    · subst h; simp [Map.get?]
    · simp [Map.get?, h, ih]

theorem Map.get?_mapVals {α : Type} (m : Map α) (g : α → α) (k : Nat) :
    Map.get? (Map.mapVals m g) k = (Map.get? m k).map g := Map.get?_map m (fun _ => g) k

/-! ### The canonical form -/

theorem cellsOk_cons (dflt : Byte) (a : Nat) (b : Byte) (m : List (Nat × Byte)) :
    cellsOk dflt ((a, b) :: m) = true ↔ b ≠ dflt ∧ (∀ e ∈ m, a < e.1) ∧ cellsOk dflt m = true := by
  induction m generalizing a b with
  | nil => simp [cellsOk]
  | cons e m ih =>
    obtain ⟨c, x⟩ := e
    simp only [cellsOk, Bool.and_eq_true, bne_iff_ne, decide_eq_true_eq, List.mem_cons, forall_eq_or_imp]
    constructor
    · rintro ⟨⟨h1, h2⟩, h3⟩
      exact ⟨h1, ⟨h2, fun y hy => Nat.lt_trans h2 (((ih c x).mp h3).2.1 y hy)⟩, h3⟩
    · rintro ⟨h1, ⟨h2, _⟩, h3⟩
      exact ⟨⟨h1, h2⟩, h3⟩

theorem mem_put {α : Type} {m : Map α} {k : Nat} {a : α} {e : Nat × α} (h : e ∈ Map.put m k a) : e = (k, a) ∨ e ∈ m := by
  induction m with
  | nil => simpa [Map.put] using h
  | cons x m ih =>
    obtain ⟨i, b⟩ := x
    unfold Map.put at h
    split at h
    · rcases List.mem_cons.mp h with h | h
      · exact .inl h
      · exact .inr (List.mem_cons_of_mem _ h)
    · split at h
      · rcases List.mem_cons.mp h with h | h
        · exact .inl h
        · exact .inr h
      · rcases List.mem_cons.mp h with h | h
        · exact .inr (h ▸ List.mem_cons_self)
        · rcases ih h with h | h
          · exact .inl h
          · exact .inr (List.mem_cons_of_mem _ h)

theorem cellsOk_put (dflt : Byte) (m : List (Nat × Byte)) (a : Nat) (b : Byte) (h : cellsOk dflt m = true) (hb : b ≠ dflt) :
    cellsOk dflt (Map.put m a b) = true := by
  induction m with
  | nil => simpa [Map.put, cellsOk] using hb
  | cons e m ih =>
    obtain ⟨i, x⟩ := e
    obtain ⟨h1, h2, h3⟩ := (cellsOk_cons dflt i x m).mp h
    unfold Map.put
    split
    · next e => subst e; exact (cellsOk_cons _ _ _ _).mpr ⟨hb, h2, h3⟩
    · next hne =>
      split
      · next hlt =>
        refine (cellsOk_cons _ _ _ _).mpr ⟨hb, ?_, h⟩
        intro e he
        rcases List.mem_cons.mp he with he | he
        · subst he; exact hlt
        · exact Nat.lt_trans hlt (h2 e he)
      · next hlt =>
        refine (cellsOk_cons _ _ _ _).mpr ⟨h1, ?_, ih h3⟩
        intro e he
        rcases mem_put he with he | he
        · subst he; show i < a; omega
        · exact h2 e he

theorem cellsOk_del (dflt : Byte) (m : List (Nat × Byte)) (a : Nat) (h : cellsOk dflt m = true) :
    cellsOk dflt (Map.del m a) = true := by
  unfold Map.del
  induction m with
  | nil => rfl
  | cons e m ih =>
    obtain ⟨i, x⟩ := e
    obtain ⟨h1, h2, h3⟩ := (cellsOk_cons dflt i x m).mp h
    rw [List.filter_cons]
    split
    · exact (cellsOk_cons _ _ _ _).mpr ⟨h1, fun e he => h2 e (List.mem_of_mem_filter he), ih h3⟩
    · exact ih h3

/-- Writing a byte keeps the canonical form. -/
theorem cellsOk_memPut (dflt : Byte) (m : List (Nat × Byte)) (a : Nat) (b : Byte) (h : cellsOk dflt m = true) :
    cellsOk dflt (memPut dflt m a b) = true := by
  unfold memPut
  split
  · exact cellsOk_del dflt m a h
  · next hb => exact cellsOk_put dflt m a b h hb

/-- Writing a run of bytes keeps it. -/
theorem cellsOk_memWrite (dflt : Byte) (m : List (Nat × Byte)) (a : Nat) (bs : Bytes) (h : cellsOk dflt m = true) :
    cellsOk dflt (memWrite dflt m a bs) = true := by
  induction bs generalizing m a with
  | nil => exact h
  | cons b bs ih => exact ih _ _ (cellsOk_memPut dflt m a b h)

/-! ### Reads after writes -/

theorem memByte_memPut (dflt : Byte) (m : List (Nat × Byte)) (a : Nat) (b : Byte) : memByte dflt (memPut dflt m a b) a = b := by
  unfold memByte memPut Map.get
  split
  · next h => rw [Map.get?_del, h]; rfl
  · rw [Map.get?_put]; rfl

theorem memByte_memPut_ne (dflt : Byte) (m : List (Nat × Byte)) (a c : Nat) (b : Byte) (h : c ≠ a) :
    memByte dflt (memPut dflt m a b) c = memByte dflt m c := by
  unfold memByte memPut Map.get
  split
  · rw [Map.get?_del_ne _ _ _ h]
  · rw [Map.get?_put_ne _ _ _ _ h]

/-- Bytes outside a written run read as before. -/
theorem memByte_memWrite_out (dflt : Byte) (m : List (Nat × Byte)) (a c : Nat) (bs : Bytes) (h : c < a ∨ a + bs.length ≤ c) :
    memByte dflt (memWrite dflt m a bs) c = memByte dflt m c := by
  induction bs generalizing m a with
  | nil => rfl
  | cons b bs ih =>
    simp only [List.length_cons] at h
    unfold memWrite
    rw [ih _ _ (by omega), memByte_memPut_ne _ _ _ _ _ (by omega)]

/-- A written run reads back. -/
theorem memByte_memWrite (dflt : Byte) (m : List (Nat × Byte)) (a i : Nat) (bs : Bytes) (h : i < bs.length) :
    memByte dflt (memWrite dflt m a bs) (a + i) = bs[i] := by
  induction bs generalizing m a i with
  | nil => exact absurd h (Nat.not_lt_zero i)
  | cons b bs ih =>
    unfold memWrite
    cases i with
    | zero =>
      rw [memByte_memWrite_out _ _ _ _ _ (by omega)]
      simpa using memByte_memPut dflt m a b
    | succ i =>
      have := ih (memPut dflt m a b) (a + 1) i (by simpa using h)
      rw [show a + (i + 1) = a + 1 + i by omega, this]
      rfl

/-- A run that was written reads back whole. -/
theorem memRead_memWrite (dflt : Byte) (m : List (Nat × Byte)) (a : Nat) (bs : Bytes) :
    memRead dflt (memWrite dflt m a bs) a bs.length = bs := by
  unfold memRead
  apply List.ext_getElem
  · simp
  · intro i h1 h2
    simpa using memByte_memWrite dflt m a i bs h2

/-- The memories at reset are in canonical form. -/
theorem reset_memory_wf : Memory.wf State.reset = true := rfl

end Sys2Proof.Machine
end

