-- ==== Sys2Proof/Laws/State.lean ====
section
/-! SUPPORT. Sys2Proof/Laws/State.lean: for each plain update of the device, the fields it leaves alone and the one it
sets: every lemma holds by unfolding the update, and later proofs cite these instead. -/
namespace Sys2Proof.Machine

/-! ### `emit` -/

@[simp] theorem emit_time (o : Output) (d : Dev) : (emit o d).time = d.time := rfl
@[simp] theorem emit_host (o : Output) (d : Dev) : (emit o d).host = d.host := rfl
@[simp] theorem emit_pkg (o : Output) (d : Dev) : (emit o d).pkg = d.pkg := rfl
@[simp] theorem emit_cfg (o : Output) (d : Dev) : (emit o d).cfg = d.cfg := rfl
@[simp] theorem emit_sys (o : Output) (d : Dev) : (emit o d).sys = d.sys := rfl
@[simp] theorem emit_vault (o : Output) (d : Dev) : (emit o d).vault = d.vault := rfl
@[simp] theorem emit_prot (o : Output) (d : Dev) : (emit o d).prot = d.prot := rfl
@[simp] theorem emit_cls (o : Output) (d : Dev) : (emit o d).cls = d.cls := rfl
@[simp] theorem emit_fab (o : Output) (d : Dev) : (emit o d).fab = d.fab := rfl
@[simp] theorem emit_que (o : Output) (d : Dev) : (emit o d).que = d.que := rfl
@[simp] theorem emit_ts (o : Output) (d : Dev) : (emit o d).ts = d.ts := rfl
@[simp] theorem emit_act (o : Output) (d : Dev) : (emit o d).act = d.act := rfl
@[simp] theorem emit_mem (o : Output) (d : Dev) : (emit o d).mem = d.mem := rfl
@[simp] theorem emit_port (o : Output) (d : Dev) : (emit o d).port = d.port := rfl
@[simp] theorem emit_twin (o : Output) (d : Dev) : (emit o d).twin = d.twin := rfl
@[simp] theorem emit_obs (o : Output) (d : Dev) : (emit o d).obs = d.obs := rfl
@[simp] theorem emit_cnt (o : Output) (d : Dev) : (emit o d).cnt = d.cnt := rfl
@[simp] theorem emit_free (o : Output) (d : Dev) : (emit o d).free = d.free := rfl

/-! ### `bumpBy` -/

@[simp] theorem bumpBy_time (b : CntBlock) (i k n : Nat) (d : Dev) : (bumpBy b i k n d).time = d.time := rfl
@[simp] theorem bumpBy_host (b : CntBlock) (i k n : Nat) (d : Dev) : (bumpBy b i k n d).host = d.host := rfl
@[simp] theorem bumpBy_pkg (b : CntBlock) (i k n : Nat) (d : Dev) : (bumpBy b i k n d).pkg = d.pkg := rfl
@[simp] theorem bumpBy_cfg (b : CntBlock) (i k n : Nat) (d : Dev) : (bumpBy b i k n d).cfg = d.cfg := rfl
@[simp] theorem bumpBy_sys (b : CntBlock) (i k n : Nat) (d : Dev) : (bumpBy b i k n d).sys = d.sys := rfl
@[simp] theorem bumpBy_vault (b : CntBlock) (i k n : Nat) (d : Dev) : (bumpBy b i k n d).vault = d.vault := rfl
@[simp] theorem bumpBy_prot (b : CntBlock) (i k n : Nat) (d : Dev) : (bumpBy b i k n d).prot = d.prot := rfl
@[simp] theorem bumpBy_cls (b : CntBlock) (i k n : Nat) (d : Dev) : (bumpBy b i k n d).cls = d.cls := rfl
@[simp] theorem bumpBy_fab (b : CntBlock) (i k n : Nat) (d : Dev) : (bumpBy b i k n d).fab = d.fab := rfl
@[simp] theorem bumpBy_que (b : CntBlock) (i k n : Nat) (d : Dev) : (bumpBy b i k n d).que = d.que := rfl
@[simp] theorem bumpBy_ts (b : CntBlock) (i k n : Nat) (d : Dev) : (bumpBy b i k n d).ts = d.ts := rfl
@[simp] theorem bumpBy_act (b : CntBlock) (i k n : Nat) (d : Dev) : (bumpBy b i k n d).act = d.act := rfl
@[simp] theorem bumpBy_mem (b : CntBlock) (i k n : Nat) (d : Dev) : (bumpBy b i k n d).mem = d.mem := rfl
@[simp] theorem bumpBy_port (b : CntBlock) (i k n : Nat) (d : Dev) : (bumpBy b i k n d).port = d.port := rfl
@[simp] theorem bumpBy_twin (b : CntBlock) (i k n : Nat) (d : Dev) : (bumpBy b i k n d).twin = d.twin := rfl
@[simp] theorem bumpBy_obs (b : CntBlock) (i k n : Nat) (d : Dev) : (bumpBy b i k n d).obs = d.obs := rfl
@[simp] theorem bumpBy_free (b : CntBlock) (i k n : Nat) (d : Dev) : (bumpBy b i k n d).free = d.free := rfl
@[simp] theorem bumpBy_out (b : CntBlock) (i k n : Nat) (d : Dev) : (bumpBy b i k n d).out = d.out := rfl

/-! ### `bump` -/

@[simp] theorem bump_time (b : CntBlock) (i k : Nat) (d : Dev) : (bump b i k d).time = d.time := rfl
@[simp] theorem bump_host (b : CntBlock) (i k : Nat) (d : Dev) : (bump b i k d).host = d.host := rfl
@[simp] theorem bump_pkg (b : CntBlock) (i k : Nat) (d : Dev) : (bump b i k d).pkg = d.pkg := rfl
@[simp] theorem bump_cfg (b : CntBlock) (i k : Nat) (d : Dev) : (bump b i k d).cfg = d.cfg := rfl
@[simp] theorem bump_sys (b : CntBlock) (i k : Nat) (d : Dev) : (bump b i k d).sys = d.sys := rfl
@[simp] theorem bump_vault (b : CntBlock) (i k : Nat) (d : Dev) : (bump b i k d).vault = d.vault := rfl
@[simp] theorem bump_prot (b : CntBlock) (i k : Nat) (d : Dev) : (bump b i k d).prot = d.prot := rfl
@[simp] theorem bump_cls (b : CntBlock) (i k : Nat) (d : Dev) : (bump b i k d).cls = d.cls := rfl
@[simp] theorem bump_fab (b : CntBlock) (i k : Nat) (d : Dev) : (bump b i k d).fab = d.fab := rfl
@[simp] theorem bump_que (b : CntBlock) (i k : Nat) (d : Dev) : (bump b i k d).que = d.que := rfl
@[simp] theorem bump_ts (b : CntBlock) (i k : Nat) (d : Dev) : (bump b i k d).ts = d.ts := rfl
@[simp] theorem bump_act (b : CntBlock) (i k : Nat) (d : Dev) : (bump b i k d).act = d.act := rfl
@[simp] theorem bump_mem (b : CntBlock) (i k : Nat) (d : Dev) : (bump b i k d).mem = d.mem := rfl
@[simp] theorem bump_port (b : CntBlock) (i k : Nat) (d : Dev) : (bump b i k d).port = d.port := rfl
@[simp] theorem bump_twin (b : CntBlock) (i k : Nat) (d : Dev) : (bump b i k d).twin = d.twin := rfl
@[simp] theorem bump_obs (b : CntBlock) (i k : Nat) (d : Dev) : (bump b i k d).obs = d.obs := rfl
@[simp] theorem bump_free (b : CntBlock) (i k : Nat) (d : Dev) : (bump b i k d).free = d.free := rfl
@[simp] theorem bump_out (b : CntBlock) (i k : Nat) (d : Dev) : (bump b i k d).out = d.out := rfl

/-! ### `cntClear` -/

@[simp] theorem cntClear_time (b : CntBlock) (i : Nat) (d : Dev) : (cntClear b i d).time = d.time := rfl
@[simp] theorem cntClear_host (b : CntBlock) (i : Nat) (d : Dev) : (cntClear b i d).host = d.host := rfl
@[simp] theorem cntClear_pkg (b : CntBlock) (i : Nat) (d : Dev) : (cntClear b i d).pkg = d.pkg := rfl
@[simp] theorem cntClear_cfg (b : CntBlock) (i : Nat) (d : Dev) : (cntClear b i d).cfg = d.cfg := rfl
@[simp] theorem cntClear_sys (b : CntBlock) (i : Nat) (d : Dev) : (cntClear b i d).sys = d.sys := rfl
@[simp] theorem cntClear_vault (b : CntBlock) (i : Nat) (d : Dev) : (cntClear b i d).vault = d.vault := rfl
@[simp] theorem cntClear_prot (b : CntBlock) (i : Nat) (d : Dev) : (cntClear b i d).prot = d.prot := rfl
@[simp] theorem cntClear_cls (b : CntBlock) (i : Nat) (d : Dev) : (cntClear b i d).cls = d.cls := rfl
@[simp] theorem cntClear_fab (b : CntBlock) (i : Nat) (d : Dev) : (cntClear b i d).fab = d.fab := rfl
@[simp] theorem cntClear_que (b : CntBlock) (i : Nat) (d : Dev) : (cntClear b i d).que = d.que := rfl
@[simp] theorem cntClear_ts (b : CntBlock) (i : Nat) (d : Dev) : (cntClear b i d).ts = d.ts := rfl
@[simp] theorem cntClear_act (b : CntBlock) (i : Nat) (d : Dev) : (cntClear b i d).act = d.act := rfl
@[simp] theorem cntClear_mem (b : CntBlock) (i : Nat) (d : Dev) : (cntClear b i d).mem = d.mem := rfl
@[simp] theorem cntClear_port (b : CntBlock) (i : Nat) (d : Dev) : (cntClear b i d).port = d.port := rfl
@[simp] theorem cntClear_twin (b : CntBlock) (i : Nat) (d : Dev) : (cntClear b i d).twin = d.twin := rfl
@[simp] theorem cntClear_obs (b : CntBlock) (i : Nat) (d : Dev) : (cntClear b i d).obs = d.obs := rfl
@[simp] theorem cntClear_free (b : CntBlock) (i : Nat) (d : Dev) : (cntClear b i d).free = d.free := rfl
@[simp] theorem cntClear_out (b : CntBlock) (i : Nat) (d : Dev) : (cntClear b i d).out = d.out := rfl

/-! ### `perfEvent` -/

@[simp] theorem perfEvent_time (die ev n : Nat) (d : Dev) : (perfEvent die ev n d).time = d.time := rfl
@[simp] theorem perfEvent_host (die ev n : Nat) (d : Dev) : (perfEvent die ev n d).host = d.host := rfl
@[simp] theorem perfEvent_pkg (die ev n : Nat) (d : Dev) : (perfEvent die ev n d).pkg = d.pkg := rfl
@[simp] theorem perfEvent_cfg (die ev n : Nat) (d : Dev) : (perfEvent die ev n d).cfg = d.cfg := rfl
@[simp] theorem perfEvent_sys (die ev n : Nat) (d : Dev) : (perfEvent die ev n d).sys = d.sys := rfl
@[simp] theorem perfEvent_vault (die ev n : Nat) (d : Dev) : (perfEvent die ev n d).vault = d.vault := rfl
@[simp] theorem perfEvent_prot (die ev n : Nat) (d : Dev) : (perfEvent die ev n d).prot = d.prot := rfl
@[simp] theorem perfEvent_cls (die ev n : Nat) (d : Dev) : (perfEvent die ev n d).cls = d.cls := rfl
@[simp] theorem perfEvent_fab (die ev n : Nat) (d : Dev) : (perfEvent die ev n d).fab = d.fab := rfl
@[simp] theorem perfEvent_que (die ev n : Nat) (d : Dev) : (perfEvent die ev n d).que = d.que := rfl
@[simp] theorem perfEvent_ts (die ev n : Nat) (d : Dev) : (perfEvent die ev n d).ts = d.ts := rfl
@[simp] theorem perfEvent_act (die ev n : Nat) (d : Dev) : (perfEvent die ev n d).act = d.act := rfl
@[simp] theorem perfEvent_mem (die ev n : Nat) (d : Dev) : (perfEvent die ev n d).mem = d.mem := rfl
@[simp] theorem perfEvent_port (die ev n : Nat) (d : Dev) : (perfEvent die ev n d).port = d.port := rfl
@[simp] theorem perfEvent_twin (die ev n : Nat) (d : Dev) : (perfEvent die ev n d).twin = d.twin := rfl
@[simp] theorem perfEvent_cnt (die ev n : Nat) (d : Dev) : (perfEvent die ev n d).cnt = d.cnt := rfl
@[simp] theorem perfEvent_free (die ev n : Nat) (d : Dev) : (perfEvent die ev n d).free = d.free := rfl
@[simp] theorem perfEvent_out (die ev n : Nat) (d : Dev) : (perfEvent die ev n d).out = d.out := rfl

/-! ### `setMailbox` -/

@[simp] theorem setMailbox_time (m : Nat) (b : Mailbox) (d : Dev) : (setMailbox m b d).time = d.time := rfl
@[simp] theorem setMailbox_pkg (m : Nat) (b : Mailbox) (d : Dev) : (setMailbox m b d).pkg = d.pkg := rfl
@[simp] theorem setMailbox_cfg (m : Nat) (b : Mailbox) (d : Dev) : (setMailbox m b d).cfg = d.cfg := rfl
@[simp] theorem setMailbox_sys (m : Nat) (b : Mailbox) (d : Dev) : (setMailbox m b d).sys = d.sys := rfl
@[simp] theorem setMailbox_vault (m : Nat) (b : Mailbox) (d : Dev) : (setMailbox m b d).vault = d.vault := rfl
@[simp] theorem setMailbox_prot (m : Nat) (b : Mailbox) (d : Dev) : (setMailbox m b d).prot = d.prot := rfl
@[simp] theorem setMailbox_cls (m : Nat) (b : Mailbox) (d : Dev) : (setMailbox m b d).cls = d.cls := rfl
@[simp] theorem setMailbox_fab (m : Nat) (b : Mailbox) (d : Dev) : (setMailbox m b d).fab = d.fab := rfl
@[simp] theorem setMailbox_que (m : Nat) (b : Mailbox) (d : Dev) : (setMailbox m b d).que = d.que := rfl
@[simp] theorem setMailbox_ts (m : Nat) (b : Mailbox) (d : Dev) : (setMailbox m b d).ts = d.ts := rfl
@[simp] theorem setMailbox_act (m : Nat) (b : Mailbox) (d : Dev) : (setMailbox m b d).act = d.act := rfl
@[simp] theorem setMailbox_mem (m : Nat) (b : Mailbox) (d : Dev) : (setMailbox m b d).mem = d.mem := rfl
@[simp] theorem setMailbox_port (m : Nat) (b : Mailbox) (d : Dev) : (setMailbox m b d).port = d.port := rfl
@[simp] theorem setMailbox_twin (m : Nat) (b : Mailbox) (d : Dev) : (setMailbox m b d).twin = d.twin := rfl
@[simp] theorem setMailbox_obs (m : Nat) (b : Mailbox) (d : Dev) : (setMailbox m b d).obs = d.obs := rfl
@[simp] theorem setMailbox_cnt (m : Nat) (b : Mailbox) (d : Dev) : (setMailbox m b d).cnt = d.cnt := rfl
@[simp] theorem setMailbox_free (m : Nat) (b : Mailbox) (d : Dev) : (setMailbox m b d).free = d.free := rfl
@[simp] theorem setMailbox_out (m : Nat) (b : Mailbox) (d : Dev) : (setMailbox m b d).out = d.out := rfl

/-! ### `setPortSt` -/

@[simp] theorem setPortSt_time (p : Nat) (x : PortSt) (d : Dev) : (setPortSt p x d).time = d.time := rfl
@[simp] theorem setPortSt_host (p : Nat) (x : PortSt) (d : Dev) : (setPortSt p x d).host = d.host := rfl
@[simp] theorem setPortSt_pkg (p : Nat) (x : PortSt) (d : Dev) : (setPortSt p x d).pkg = d.pkg := rfl
@[simp] theorem setPortSt_cfg (p : Nat) (x : PortSt) (d : Dev) : (setPortSt p x d).cfg = d.cfg := rfl
@[simp] theorem setPortSt_sys (p : Nat) (x : PortSt) (d : Dev) : (setPortSt p x d).sys = d.sys := rfl
@[simp] theorem setPortSt_vault (p : Nat) (x : PortSt) (d : Dev) : (setPortSt p x d).vault = d.vault := rfl
@[simp] theorem setPortSt_prot (p : Nat) (x : PortSt) (d : Dev) : (setPortSt p x d).prot = d.prot := rfl
@[simp] theorem setPortSt_cls (p : Nat) (x : PortSt) (d : Dev) : (setPortSt p x d).cls = d.cls := rfl
@[simp] theorem setPortSt_fab (p : Nat) (x : PortSt) (d : Dev) : (setPortSt p x d).fab = d.fab := rfl
@[simp] theorem setPortSt_que (p : Nat) (x : PortSt) (d : Dev) : (setPortSt p x d).que = d.que := rfl
@[simp] theorem setPortSt_ts (p : Nat) (x : PortSt) (d : Dev) : (setPortSt p x d).ts = d.ts := rfl
@[simp] theorem setPortSt_act (p : Nat) (x : PortSt) (d : Dev) : (setPortSt p x d).act = d.act := rfl
@[simp] theorem setPortSt_mem (p : Nat) (x : PortSt) (d : Dev) : (setPortSt p x d).mem = d.mem := rfl
@[simp] theorem setPortSt_twin (p : Nat) (x : PortSt) (d : Dev) : (setPortSt p x d).twin = d.twin := rfl
@[simp] theorem setPortSt_obs (p : Nat) (x : PortSt) (d : Dev) : (setPortSt p x d).obs = d.obs := rfl
@[simp] theorem setPortSt_cnt (p : Nat) (x : PortSt) (d : Dev) : (setPortSt p x d).cnt = d.cnt := rfl
@[simp] theorem setPortSt_free (p : Nat) (x : PortSt) (d : Dev) : (setPortSt p x d).free = d.free := rfl
@[simp] theorem setPortSt_out (p : Nat) (x : PortSt) (d : Dev) : (setPortSt p x d).out = d.out := rfl

/-! ### `setLaneSt` -/

@[simp] theorem setLaneSt_time (l : Nat) (x : LaneSt) (d : Dev) : (setLaneSt l x d).time = d.time := rfl
@[simp] theorem setLaneSt_host (l : Nat) (x : LaneSt) (d : Dev) : (setLaneSt l x d).host = d.host := rfl
@[simp] theorem setLaneSt_pkg (l : Nat) (x : LaneSt) (d : Dev) : (setLaneSt l x d).pkg = d.pkg := rfl
@[simp] theorem setLaneSt_cfg (l : Nat) (x : LaneSt) (d : Dev) : (setLaneSt l x d).cfg = d.cfg := rfl
@[simp] theorem setLaneSt_sys (l : Nat) (x : LaneSt) (d : Dev) : (setLaneSt l x d).sys = d.sys := rfl
@[simp] theorem setLaneSt_vault (l : Nat) (x : LaneSt) (d : Dev) : (setLaneSt l x d).vault = d.vault := rfl
@[simp] theorem setLaneSt_prot (l : Nat) (x : LaneSt) (d : Dev) : (setLaneSt l x d).prot = d.prot := rfl
@[simp] theorem setLaneSt_cls (l : Nat) (x : LaneSt) (d : Dev) : (setLaneSt l x d).cls = d.cls := rfl
@[simp] theorem setLaneSt_fab (l : Nat) (x : LaneSt) (d : Dev) : (setLaneSt l x d).fab = d.fab := rfl
@[simp] theorem setLaneSt_que (l : Nat) (x : LaneSt) (d : Dev) : (setLaneSt l x d).que = d.que := rfl
@[simp] theorem setLaneSt_ts (l : Nat) (x : LaneSt) (d : Dev) : (setLaneSt l x d).ts = d.ts := rfl
@[simp] theorem setLaneSt_act (l : Nat) (x : LaneSt) (d : Dev) : (setLaneSt l x d).act = d.act := rfl
@[simp] theorem setLaneSt_mem (l : Nat) (x : LaneSt) (d : Dev) : (setLaneSt l x d).mem = d.mem := rfl
@[simp] theorem setLaneSt_twin (l : Nat) (x : LaneSt) (d : Dev) : (setLaneSt l x d).twin = d.twin := rfl
@[simp] theorem setLaneSt_obs (l : Nat) (x : LaneSt) (d : Dev) : (setLaneSt l x d).obs = d.obs := rfl
@[simp] theorem setLaneSt_cnt (l : Nat) (x : LaneSt) (d : Dev) : (setLaneSt l x d).cnt = d.cnt := rfl
@[simp] theorem setLaneSt_free (l : Nat) (x : LaneSt) (d : Dev) : (setLaneSt l x d).free = d.free := rfl
@[simp] theorem setLaneSt_out (l : Nat) (x : LaneSt) (d : Dev) : (setLaneSt l x d).out = d.out := rfl

/-! ### `setSa` -/

@[simp] theorem setSa_time (k : Nat) (x : SaSlot) (d : Dev) : (setSa k x d).time = d.time := rfl
@[simp] theorem setSa_host (k : Nat) (x : SaSlot) (d : Dev) : (setSa k x d).host = d.host := rfl
@[simp] theorem setSa_pkg (k : Nat) (x : SaSlot) (d : Dev) : (setSa k x d).pkg = d.pkg := rfl
@[simp] theorem setSa_cfg (k : Nat) (x : SaSlot) (d : Dev) : (setSa k x d).cfg = d.cfg := rfl
@[simp] theorem setSa_sys (k : Nat) (x : SaSlot) (d : Dev) : (setSa k x d).sys = d.sys := rfl
@[simp] theorem setSa_vault (k : Nat) (x : SaSlot) (d : Dev) : (setSa k x d).vault = d.vault := rfl
@[simp] theorem setSa_cls (k : Nat) (x : SaSlot) (d : Dev) : (setSa k x d).cls = d.cls := rfl
@[simp] theorem setSa_fab (k : Nat) (x : SaSlot) (d : Dev) : (setSa k x d).fab = d.fab := rfl
@[simp] theorem setSa_que (k : Nat) (x : SaSlot) (d : Dev) : (setSa k x d).que = d.que := rfl
@[simp] theorem setSa_ts (k : Nat) (x : SaSlot) (d : Dev) : (setSa k x d).ts = d.ts := rfl
@[simp] theorem setSa_act (k : Nat) (x : SaSlot) (d : Dev) : (setSa k x d).act = d.act := rfl
@[simp] theorem setSa_mem (k : Nat) (x : SaSlot) (d : Dev) : (setSa k x d).mem = d.mem := rfl
@[simp] theorem setSa_port (k : Nat) (x : SaSlot) (d : Dev) : (setSa k x d).port = d.port := rfl
@[simp] theorem setSa_twin (k : Nat) (x : SaSlot) (d : Dev) : (setSa k x d).twin = d.twin := rfl
@[simp] theorem setSa_obs (k : Nat) (x : SaSlot) (d : Dev) : (setSa k x d).obs = d.obs := rfl
@[simp] theorem setSa_cnt (k : Nat) (x : SaSlot) (d : Dev) : (setSa k x d).cnt = d.cnt := rfl
@[simp] theorem setSa_free (k : Nat) (x : SaSlot) (d : Dev) : (setSa k x d).free = d.free := rfl
@[simp] theorem setSa_out (k : Nat) (x : SaSlot) (d : Dev) : (setSa k x d).out = d.out := rfl

/-! ### `setQueue` -/

@[simp] theorem setQueue_time (q : Nat) (x : Queue) (d : Dev) : (setQueue q x d).time = d.time := rfl
@[simp] theorem setQueue_host (q : Nat) (x : Queue) (d : Dev) : (setQueue q x d).host = d.host := rfl
@[simp] theorem setQueue_pkg (q : Nat) (x : Queue) (d : Dev) : (setQueue q x d).pkg = d.pkg := rfl
@[simp] theorem setQueue_cfg (q : Nat) (x : Queue) (d : Dev) : (setQueue q x d).cfg = d.cfg := rfl
@[simp] theorem setQueue_sys (q : Nat) (x : Queue) (d : Dev) : (setQueue q x d).sys = d.sys := rfl
@[simp] theorem setQueue_vault (q : Nat) (x : Queue) (d : Dev) : (setQueue q x d).vault = d.vault := rfl
@[simp] theorem setQueue_prot (q : Nat) (x : Queue) (d : Dev) : (setQueue q x d).prot = d.prot := rfl
@[simp] theorem setQueue_cls (q : Nat) (x : Queue) (d : Dev) : (setQueue q x d).cls = d.cls := rfl
@[simp] theorem setQueue_fab (q : Nat) (x : Queue) (d : Dev) : (setQueue q x d).fab = d.fab := rfl
@[simp] theorem setQueue_ts (q : Nat) (x : Queue) (d : Dev) : (setQueue q x d).ts = d.ts := rfl
@[simp] theorem setQueue_act (q : Nat) (x : Queue) (d : Dev) : (setQueue q x d).act = d.act := rfl
@[simp] theorem setQueue_mem (q : Nat) (x : Queue) (d : Dev) : (setQueue q x d).mem = d.mem := rfl
@[simp] theorem setQueue_port (q : Nat) (x : Queue) (d : Dev) : (setQueue q x d).port = d.port := rfl
@[simp] theorem setQueue_twin (q : Nat) (x : Queue) (d : Dev) : (setQueue q x d).twin = d.twin := rfl
@[simp] theorem setQueue_obs (q : Nat) (x : Queue) (d : Dev) : (setQueue q x d).obs = d.obs := rfl
@[simp] theorem setQueue_cnt (q : Nat) (x : Queue) (d : Dev) : (setQueue q x d).cnt = d.cnt := rfl
@[simp] theorem setQueue_free (q : Nat) (x : Queue) (d : Dev) : (setQueue q x d).free = d.free := rfl
@[simp] theorem setQueue_out (q : Nat) (x : Queue) (d : Dev) : (setQueue q x d).out = d.out := rfl

/-! ### `setClassSt` -/

@[simp] theorem setClassSt_time (p c : Nat) (x : ClassSt) (d : Dev) : (setClassSt p c x d).time = d.time := rfl
@[simp] theorem setClassSt_host (p c : Nat) (x : ClassSt) (d : Dev) : (setClassSt p c x d).host = d.host := rfl
@[simp] theorem setClassSt_pkg (p c : Nat) (x : ClassSt) (d : Dev) : (setClassSt p c x d).pkg = d.pkg := rfl
@[simp] theorem setClassSt_cfg (p c : Nat) (x : ClassSt) (d : Dev) : (setClassSt p c x d).cfg = d.cfg := rfl
@[simp] theorem setClassSt_sys (p c : Nat) (x : ClassSt) (d : Dev) : (setClassSt p c x d).sys = d.sys := rfl
@[simp] theorem setClassSt_vault (p c : Nat) (x : ClassSt) (d : Dev) : (setClassSt p c x d).vault = d.vault := rfl
@[simp] theorem setClassSt_prot (p c : Nat) (x : ClassSt) (d : Dev) : (setClassSt p c x d).prot = d.prot := rfl
@[simp] theorem setClassSt_cls (p c : Nat) (x : ClassSt) (d : Dev) : (setClassSt p c x d).cls = d.cls := rfl
@[simp] theorem setClassSt_fab (p c : Nat) (x : ClassSt) (d : Dev) : (setClassSt p c x d).fab = d.fab := rfl
@[simp] theorem setClassSt_ts (p c : Nat) (x : ClassSt) (d : Dev) : (setClassSt p c x d).ts = d.ts := rfl
@[simp] theorem setClassSt_act (p c : Nat) (x : ClassSt) (d : Dev) : (setClassSt p c x d).act = d.act := rfl
@[simp] theorem setClassSt_mem (p c : Nat) (x : ClassSt) (d : Dev) : (setClassSt p c x d).mem = d.mem := rfl
@[simp] theorem setClassSt_port (p c : Nat) (x : ClassSt) (d : Dev) : (setClassSt p c x d).port = d.port := rfl
@[simp] theorem setClassSt_twin (p c : Nat) (x : ClassSt) (d : Dev) : (setClassSt p c x d).twin = d.twin := rfl
@[simp] theorem setClassSt_obs (p c : Nat) (x : ClassSt) (d : Dev) : (setClassSt p c x d).obs = d.obs := rfl
@[simp] theorem setClassSt_cnt (p c : Nat) (x : ClassSt) (d : Dev) : (setClassSt p c x d).cnt = d.cnt := rfl
@[simp] theorem setClassSt_free (p c : Nat) (x : ClassSt) (d : Dev) : (setClassSt p c x d).free = d.free := rfl
@[simp] theorem setClassSt_out (p c : Nat) (x : ClassSt) (d : Dev) : (setClassSt p c x d).out = d.out := rfl

/-! ### `setGate` -/

@[simp] theorem setGate_time (p : Nat) (g : GateSt) (d : Dev) : (setGate p g d).time = d.time := rfl
@[simp] theorem setGate_host (p : Nat) (g : GateSt) (d : Dev) : (setGate p g d).host = d.host := rfl
@[simp] theorem setGate_pkg (p : Nat) (g : GateSt) (d : Dev) : (setGate p g d).pkg = d.pkg := rfl
@[simp] theorem setGate_cfg (p : Nat) (g : GateSt) (d : Dev) : (setGate p g d).cfg = d.cfg := rfl
@[simp] theorem setGate_sys (p : Nat) (g : GateSt) (d : Dev) : (setGate p g d).sys = d.sys := rfl
@[simp] theorem setGate_vault (p : Nat) (g : GateSt) (d : Dev) : (setGate p g d).vault = d.vault := rfl
@[simp] theorem setGate_prot (p : Nat) (g : GateSt) (d : Dev) : (setGate p g d).prot = d.prot := rfl
@[simp] theorem setGate_cls (p : Nat) (g : GateSt) (d : Dev) : (setGate p g d).cls = d.cls := rfl
@[simp] theorem setGate_fab (p : Nat) (g : GateSt) (d : Dev) : (setGate p g d).fab = d.fab := rfl
@[simp] theorem setGate_que (p : Nat) (g : GateSt) (d : Dev) : (setGate p g d).que = d.que := rfl
@[simp] theorem setGate_ts (p : Nat) (g : GateSt) (d : Dev) : (setGate p g d).ts = d.ts := rfl
@[simp] theorem setGate_mem (p : Nat) (g : GateSt) (d : Dev) : (setGate p g d).mem = d.mem := rfl
@[simp] theorem setGate_port (p : Nat) (g : GateSt) (d : Dev) : (setGate p g d).port = d.port := rfl
@[simp] theorem setGate_twin (p : Nat) (g : GateSt) (d : Dev) : (setGate p g d).twin = d.twin := rfl
@[simp] theorem setGate_obs (p : Nat) (g : GateSt) (d : Dev) : (setGate p g d).obs = d.obs := rfl
@[simp] theorem setGate_cnt (p : Nat) (g : GateSt) (d : Dev) : (setGate p g d).cnt = d.cnt := rfl
@[simp] theorem setGate_free (p : Nat) (g : GateSt) (d : Dev) : (setGate p g d).free = d.free := rfl
@[simp] theorem setGate_out (p : Nat) (g : GateSt) (d : Dev) : (setGate p g d).out = d.out := rfl

/-! ### `setHeld` -/

@[simp] theorem setHeld_time (h : Held) (d : Dev) : (setHeld h d).time = d.time := rfl
@[simp] theorem setHeld_host (h : Held) (d : Dev) : (setHeld h d).host = d.host := rfl
@[simp] theorem setHeld_pkg (h : Held) (d : Dev) : (setHeld h d).pkg = d.pkg := rfl
@[simp] theorem setHeld_cfg (h : Held) (d : Dev) : (setHeld h d).cfg = d.cfg := rfl
@[simp] theorem setHeld_sys (h : Held) (d : Dev) : (setHeld h d).sys = d.sys := rfl
@[simp] theorem setHeld_vault (h : Held) (d : Dev) : (setHeld h d).vault = d.vault := rfl
@[simp] theorem setHeld_prot (h : Held) (d : Dev) : (setHeld h d).prot = d.prot := rfl
@[simp] theorem setHeld_cls (h : Held) (d : Dev) : (setHeld h d).cls = d.cls := rfl
@[simp] theorem setHeld_fab (h : Held) (d : Dev) : (setHeld h d).fab = d.fab := rfl
@[simp] theorem setHeld_que (h : Held) (d : Dev) : (setHeld h d).que = d.que := rfl
@[simp] theorem setHeld_ts (h : Held) (d : Dev) : (setHeld h d).ts = d.ts := rfl
@[simp] theorem setHeld_mem (h : Held) (d : Dev) : (setHeld h d).mem = d.mem := rfl
@[simp] theorem setHeld_port (h : Held) (d : Dev) : (setHeld h d).port = d.port := rfl
@[simp] theorem setHeld_twin (h : Held) (d : Dev) : (setHeld h d).twin = d.twin := rfl
@[simp] theorem setHeld_obs (h : Held) (d : Dev) : (setHeld h d).obs = d.obs := rfl
@[simp] theorem setHeld_cnt (h : Held) (d : Dev) : (setHeld h d).cnt = d.cnt := rfl
@[simp] theorem setHeld_free (h : Held) (d : Dev) : (setHeld h d).free = d.free := rfl
@[simp] theorem setHeld_out (h : Held) (d : Dev) : (setHeld h d).out = d.out := rfl

/-! ### `dropHeld` -/

@[simp] theorem dropHeld_time (h : Held) (d : Dev) : (dropHeld h d).time = d.time := rfl
@[simp] theorem dropHeld_host (h : Held) (d : Dev) : (dropHeld h d).host = d.host := rfl
@[simp] theorem dropHeld_pkg (h : Held) (d : Dev) : (dropHeld h d).pkg = d.pkg := rfl
@[simp] theorem dropHeld_cfg (h : Held) (d : Dev) : (dropHeld h d).cfg = d.cfg := rfl
@[simp] theorem dropHeld_sys (h : Held) (d : Dev) : (dropHeld h d).sys = d.sys := rfl
@[simp] theorem dropHeld_vault (h : Held) (d : Dev) : (dropHeld h d).vault = d.vault := rfl
@[simp] theorem dropHeld_prot (h : Held) (d : Dev) : (dropHeld h d).prot = d.prot := rfl
@[simp] theorem dropHeld_cls (h : Held) (d : Dev) : (dropHeld h d).cls = d.cls := rfl
@[simp] theorem dropHeld_fab (h : Held) (d : Dev) : (dropHeld h d).fab = d.fab := rfl
@[simp] theorem dropHeld_que (h : Held) (d : Dev) : (dropHeld h d).que = d.que := rfl
@[simp] theorem dropHeld_ts (h : Held) (d : Dev) : (dropHeld h d).ts = d.ts := rfl
@[simp] theorem dropHeld_mem (h : Held) (d : Dev) : (dropHeld h d).mem = d.mem := rfl
@[simp] theorem dropHeld_port (h : Held) (d : Dev) : (dropHeld h d).port = d.port := rfl
@[simp] theorem dropHeld_twin (h : Held) (d : Dev) : (dropHeld h d).twin = d.twin := rfl
@[simp] theorem dropHeld_obs (h : Held) (d : Dev) : (dropHeld h d).obs = d.obs := rfl
@[simp] theorem dropHeld_cnt (h : Held) (d : Dev) : (dropHeld h d).cnt = d.cnt := rfl
@[simp] theorem dropHeld_free (h : Held) (d : Dev) : (dropHeld h d).free = d.free := rfl
@[simp] theorem dropHeld_out (h : Held) (d : Dev) : (dropHeld h d).out = d.out := rfl

/-! ### `setRegion` -/

@[simp] theorem setRegion_time (r : Nat) (x : Region) (d : Dev) : (setRegion r x d).time = d.time := rfl
@[simp] theorem setRegion_host (r : Nat) (x : Region) (d : Dev) : (setRegion r x d).host = d.host := rfl
@[simp] theorem setRegion_pkg (r : Nat) (x : Region) (d : Dev) : (setRegion r x d).pkg = d.pkg := rfl
@[simp] theorem setRegion_cfg (r : Nat) (x : Region) (d : Dev) : (setRegion r x d).cfg = d.cfg := rfl
@[simp] theorem setRegion_sys (r : Nat) (x : Region) (d : Dev) : (setRegion r x d).sys = d.sys := rfl
@[simp] theorem setRegion_vault (r : Nat) (x : Region) (d : Dev) : (setRegion r x d).vault = d.vault := rfl
@[simp] theorem setRegion_prot (r : Nat) (x : Region) (d : Dev) : (setRegion r x d).prot = d.prot := rfl
@[simp] theorem setRegion_cls (r : Nat) (x : Region) (d : Dev) : (setRegion r x d).cls = d.cls := rfl
@[simp] theorem setRegion_fab (r : Nat) (x : Region) (d : Dev) : (setRegion r x d).fab = d.fab := rfl
@[simp] theorem setRegion_que (r : Nat) (x : Region) (d : Dev) : (setRegion r x d).que = d.que := rfl
@[simp] theorem setRegion_ts (r : Nat) (x : Region) (d : Dev) : (setRegion r x d).ts = d.ts := rfl
@[simp] theorem setRegion_act (r : Nat) (x : Region) (d : Dev) : (setRegion r x d).act = d.act := rfl
@[simp] theorem setRegion_port (r : Nat) (x : Region) (d : Dev) : (setRegion r x d).port = d.port := rfl
@[simp] theorem setRegion_twin (r : Nat) (x : Region) (d : Dev) : (setRegion r x d).twin = d.twin := rfl
@[simp] theorem setRegion_obs (r : Nat) (x : Region) (d : Dev) : (setRegion r x d).obs = d.obs := rfl
@[simp] theorem setRegion_cnt (r : Nat) (x : Region) (d : Dev) : (setRegion r x d).cnt = d.cnt := rfl
@[simp] theorem setRegion_free (r : Nat) (x : Region) (d : Dev) : (setRegion r x d).free = d.free := rfl
@[simp] theorem setRegion_out (r : Nat) (x : Region) (d : Dev) : (setRegion r x d).out = d.out := rfl

/-! ### `setNode` -/

@[simp] theorem setNode_time (l n : Nat) (x : Node) (d : Dev) : (setNode l n x d).time = d.time := rfl
@[simp] theorem setNode_host (l n : Nat) (x : Node) (d : Dev) : (setNode l n x d).host = d.host := rfl
@[simp] theorem setNode_pkg (l n : Nat) (x : Node) (d : Dev) : (setNode l n x d).pkg = d.pkg := rfl
@[simp] theorem setNode_cfg (l n : Nat) (x : Node) (d : Dev) : (setNode l n x d).cfg = d.cfg := rfl
@[simp] theorem setNode_sys (l n : Nat) (x : Node) (d : Dev) : (setNode l n x d).sys = d.sys := rfl
@[simp] theorem setNode_vault (l n : Nat) (x : Node) (d : Dev) : (setNode l n x d).vault = d.vault := rfl
@[simp] theorem setNode_prot (l n : Nat) (x : Node) (d : Dev) : (setNode l n x d).prot = d.prot := rfl
@[simp] theorem setNode_cls (l n : Nat) (x : Node) (d : Dev) : (setNode l n x d).cls = d.cls := rfl
@[simp] theorem setNode_fab (l n : Nat) (x : Node) (d : Dev) : (setNode l n x d).fab = d.fab := rfl
@[simp] theorem setNode_que (l n : Nat) (x : Node) (d : Dev) : (setNode l n x d).que = d.que := rfl
@[simp] theorem setNode_ts (l n : Nat) (x : Node) (d : Dev) : (setNode l n x d).ts = d.ts := rfl
@[simp] theorem setNode_act (l n : Nat) (x : Node) (d : Dev) : (setNode l n x d).act = d.act := rfl
@[simp] theorem setNode_port (l n : Nat) (x : Node) (d : Dev) : (setNode l n x d).port = d.port := rfl
@[simp] theorem setNode_twin (l n : Nat) (x : Node) (d : Dev) : (setNode l n x d).twin = d.twin := rfl
@[simp] theorem setNode_obs (l n : Nat) (x : Node) (d : Dev) : (setNode l n x d).obs = d.obs := rfl
@[simp] theorem setNode_cnt (l n : Nat) (x : Node) (d : Dev) : (setNode l n x d).cnt = d.cnt := rfl
@[simp] theorem setNode_free (l n : Nat) (x : Node) (d : Dev) : (setNode l n x d).free = d.free := rfl
@[simp] theorem setNode_out (l n : Nat) (x : Node) (d : Dev) : (setNode l n x d).out = d.out := rfl

/-! ### `setMacMap` -/

@[simp] theorem setMacMap_time (m : Map MacEntry) (d : Dev) : (setMacMap m d).time = d.time := rfl
@[simp] theorem setMacMap_host (m : Map MacEntry) (d : Dev) : (setMacMap m d).host = d.host := rfl
@[simp] theorem setMacMap_pkg (m : Map MacEntry) (d : Dev) : (setMacMap m d).pkg = d.pkg := rfl
@[simp] theorem setMacMap_cfg (m : Map MacEntry) (d : Dev) : (setMacMap m d).cfg = d.cfg := rfl
@[simp] theorem setMacMap_sys (m : Map MacEntry) (d : Dev) : (setMacMap m d).sys = d.sys := rfl
@[simp] theorem setMacMap_vault (m : Map MacEntry) (d : Dev) : (setMacMap m d).vault = d.vault := rfl
@[simp] theorem setMacMap_prot (m : Map MacEntry) (d : Dev) : (setMacMap m d).prot = d.prot := rfl
@[simp] theorem setMacMap_fab (m : Map MacEntry) (d : Dev) : (setMacMap m d).fab = d.fab := rfl
@[simp] theorem setMacMap_que (m : Map MacEntry) (d : Dev) : (setMacMap m d).que = d.que := rfl
@[simp] theorem setMacMap_ts (m : Map MacEntry) (d : Dev) : (setMacMap m d).ts = d.ts := rfl
@[simp] theorem setMacMap_act (m : Map MacEntry) (d : Dev) : (setMacMap m d).act = d.act := rfl
@[simp] theorem setMacMap_mem (m : Map MacEntry) (d : Dev) : (setMacMap m d).mem = d.mem := rfl
@[simp] theorem setMacMap_port (m : Map MacEntry) (d : Dev) : (setMacMap m d).port = d.port := rfl
@[simp] theorem setMacMap_twin (m : Map MacEntry) (d : Dev) : (setMacMap m d).twin = d.twin := rfl
@[simp] theorem setMacMap_obs (m : Map MacEntry) (d : Dev) : (setMacMap m d).obs = d.obs := rfl
@[simp] theorem setMacMap_cnt (m : Map MacEntry) (d : Dev) : (setMacMap m d).cnt = d.cnt := rfl
@[simp] theorem setMacMap_free (m : Map MacEntry) (d : Dev) : (setMacMap m d).free = d.free := rfl
@[simp] theorem setMacMap_out (m : Map MacEntry) (d : Dev) : (setMacMap m d).out = d.out := rfl

/-! ### `setInst` -/

@[simp] theorem setInst_time (i : Nat) (x : PtpSt) (d : Dev) : (setInst i x d).time = d.time := rfl
@[simp] theorem setInst_host (i : Nat) (x : PtpSt) (d : Dev) : (setInst i x d).host = d.host := rfl
@[simp] theorem setInst_pkg (i : Nat) (x : PtpSt) (d : Dev) : (setInst i x d).pkg = d.pkg := rfl
@[simp] theorem setInst_cfg (i : Nat) (x : PtpSt) (d : Dev) : (setInst i x d).cfg = d.cfg := rfl
@[simp] theorem setInst_sys (i : Nat) (x : PtpSt) (d : Dev) : (setInst i x d).sys = d.sys := rfl
@[simp] theorem setInst_vault (i : Nat) (x : PtpSt) (d : Dev) : (setInst i x d).vault = d.vault := rfl
@[simp] theorem setInst_prot (i : Nat) (x : PtpSt) (d : Dev) : (setInst i x d).prot = d.prot := rfl
@[simp] theorem setInst_cls (i : Nat) (x : PtpSt) (d : Dev) : (setInst i x d).cls = d.cls := rfl
@[simp] theorem setInst_fab (i : Nat) (x : PtpSt) (d : Dev) : (setInst i x d).fab = d.fab := rfl
@[simp] theorem setInst_que (i : Nat) (x : PtpSt) (d : Dev) : (setInst i x d).que = d.que := rfl
@[simp] theorem setInst_act (i : Nat) (x : PtpSt) (d : Dev) : (setInst i x d).act = d.act := rfl
@[simp] theorem setInst_mem (i : Nat) (x : PtpSt) (d : Dev) : (setInst i x d).mem = d.mem := rfl
@[simp] theorem setInst_port (i : Nat) (x : PtpSt) (d : Dev) : (setInst i x d).port = d.port := rfl
@[simp] theorem setInst_twin (i : Nat) (x : PtpSt) (d : Dev) : (setInst i x d).twin = d.twin := rfl
@[simp] theorem setInst_obs (i : Nat) (x : PtpSt) (d : Dev) : (setInst i x d).obs = d.obs := rfl
@[simp] theorem setInst_cnt (i : Nat) (x : PtpSt) (d : Dev) : (setInst i x d).cnt = d.cnt := rfl
@[simp] theorem setInst_free (i : Nat) (x : PtpSt) (d : Dev) : (setInst i x d).free = d.free := rfl
@[simp] theorem setInst_out (i : Nat) (x : PtpSt) (d : Dev) : (setInst i x d).out = d.out := rfl

/-! ### `setIsland` -/

@[simp] theorem setIsland_host (k : Nat) (i : IslandSt) (d : Dev) : (setIsland k i d).host = d.host := rfl
@[simp] theorem setIsland_pkg (k : Nat) (i : IslandSt) (d : Dev) : (setIsland k i d).pkg = d.pkg := rfl
@[simp] theorem setIsland_cfg (k : Nat) (i : IslandSt) (d : Dev) : (setIsland k i d).cfg = d.cfg := rfl
@[simp] theorem setIsland_sys (k : Nat) (i : IslandSt) (d : Dev) : (setIsland k i d).sys = d.sys := rfl
@[simp] theorem setIsland_vault (k : Nat) (i : IslandSt) (d : Dev) : (setIsland k i d).vault = d.vault := rfl
@[simp] theorem setIsland_prot (k : Nat) (i : IslandSt) (d : Dev) : (setIsland k i d).prot = d.prot := rfl
@[simp] theorem setIsland_cls (k : Nat) (i : IslandSt) (d : Dev) : (setIsland k i d).cls = d.cls := rfl
@[simp] theorem setIsland_fab (k : Nat) (i : IslandSt) (d : Dev) : (setIsland k i d).fab = d.fab := rfl
@[simp] theorem setIsland_que (k : Nat) (i : IslandSt) (d : Dev) : (setIsland k i d).que = d.que := rfl
@[simp] theorem setIsland_ts (k : Nat) (i : IslandSt) (d : Dev) : (setIsland k i d).ts = d.ts := rfl
@[simp] theorem setIsland_act (k : Nat) (i : IslandSt) (d : Dev) : (setIsland k i d).act = d.act := rfl
@[simp] theorem setIsland_mem (k : Nat) (i : IslandSt) (d : Dev) : (setIsland k i d).mem = d.mem := rfl
@[simp] theorem setIsland_port (k : Nat) (i : IslandSt) (d : Dev) : (setIsland k i d).port = d.port := rfl
@[simp] theorem setIsland_twin (k : Nat) (i : IslandSt) (d : Dev) : (setIsland k i d).twin = d.twin := rfl
@[simp] theorem setIsland_obs (k : Nat) (i : IslandSt) (d : Dev) : (setIsland k i d).obs = d.obs := rfl
@[simp] theorem setIsland_cnt (k : Nat) (i : IslandSt) (d : Dev) : (setIsland k i d).cnt = d.cnt := rfl
@[simp] theorem setIsland_free (k : Nat) (i : IslandSt) (d : Dev) : (setIsland k i d).free = d.free := rfl
@[simp] theorem setIsland_out (k : Nat) (i : IslandSt) (d : Dev) : (setIsland k i d).out = d.out := rfl

/-! ### `setMirrorQ` -/

@[simp] theorem setMirrorQ_time (k : Nat) (l : List Frame) (d : Dev) : (setMirrorQ k l d).time = d.time := rfl
@[simp] theorem setMirrorQ_host (k : Nat) (l : List Frame) (d : Dev) : (setMirrorQ k l d).host = d.host := rfl
@[simp] theorem setMirrorQ_pkg (k : Nat) (l : List Frame) (d : Dev) : (setMirrorQ k l d).pkg = d.pkg := rfl
@[simp] theorem setMirrorQ_cfg (k : Nat) (l : List Frame) (d : Dev) : (setMirrorQ k l d).cfg = d.cfg := rfl
@[simp] theorem setMirrorQ_sys (k : Nat) (l : List Frame) (d : Dev) : (setMirrorQ k l d).sys = d.sys := rfl
@[simp] theorem setMirrorQ_vault (k : Nat) (l : List Frame) (d : Dev) : (setMirrorQ k l d).vault = d.vault := rfl
@[simp] theorem setMirrorQ_prot (k : Nat) (l : List Frame) (d : Dev) : (setMirrorQ k l d).prot = d.prot := rfl
@[simp] theorem setMirrorQ_cls (k : Nat) (l : List Frame) (d : Dev) : (setMirrorQ k l d).cls = d.cls := rfl
@[simp] theorem setMirrorQ_que (k : Nat) (l : List Frame) (d : Dev) : (setMirrorQ k l d).que = d.que := rfl
@[simp] theorem setMirrorQ_ts (k : Nat) (l : List Frame) (d : Dev) : (setMirrorQ k l d).ts = d.ts := rfl
@[simp] theorem setMirrorQ_act (k : Nat) (l : List Frame) (d : Dev) : (setMirrorQ k l d).act = d.act := rfl
@[simp] theorem setMirrorQ_mem (k : Nat) (l : List Frame) (d : Dev) : (setMirrorQ k l d).mem = d.mem := rfl
@[simp] theorem setMirrorQ_port (k : Nat) (l : List Frame) (d : Dev) : (setMirrorQ k l d).port = d.port := rfl
@[simp] theorem setMirrorQ_twin (k : Nat) (l : List Frame) (d : Dev) : (setMirrorQ k l d).twin = d.twin := rfl
@[simp] theorem setMirrorQ_obs (k : Nat) (l : List Frame) (d : Dev) : (setMirrorQ k l d).obs = d.obs := rfl
@[simp] theorem setMirrorQ_cnt (k : Nat) (l : List Frame) (d : Dev) : (setMirrorQ k l d).cnt = d.cnt := rfl
@[simp] theorem setMirrorQ_free (k : Nat) (l : List Frame) (d : Dev) : (setMirrorQ k l d).free = d.free := rfl
@[simp] theorem setMirrorQ_out (k : Nat) (l : List Frame) (d : Dev) : (setMirrorQ k l d).out = d.out := rfl

/-! ### `setKeySlot` -/

@[simp] theorem setKeySlot_time (k : Nat) (x : KeySlot) (d : Dev) : (setKeySlot k x d).time = d.time := rfl
@[simp] theorem setKeySlot_host (k : Nat) (x : KeySlot) (d : Dev) : (setKeySlot k x d).host = d.host := rfl
@[simp] theorem setKeySlot_pkg (k : Nat) (x : KeySlot) (d : Dev) : (setKeySlot k x d).pkg = d.pkg := rfl
@[simp] theorem setKeySlot_cfg (k : Nat) (x : KeySlot) (d : Dev) : (setKeySlot k x d).cfg = d.cfg := rfl
@[simp] theorem setKeySlot_sys (k : Nat) (x : KeySlot) (d : Dev) : (setKeySlot k x d).sys = d.sys := rfl
@[simp] theorem setKeySlot_prot (k : Nat) (x : KeySlot) (d : Dev) : (setKeySlot k x d).prot = d.prot := rfl
@[simp] theorem setKeySlot_cls (k : Nat) (x : KeySlot) (d : Dev) : (setKeySlot k x d).cls = d.cls := rfl
@[simp] theorem setKeySlot_fab (k : Nat) (x : KeySlot) (d : Dev) : (setKeySlot k x d).fab = d.fab := rfl
@[simp] theorem setKeySlot_que (k : Nat) (x : KeySlot) (d : Dev) : (setKeySlot k x d).que = d.que := rfl
@[simp] theorem setKeySlot_ts (k : Nat) (x : KeySlot) (d : Dev) : (setKeySlot k x d).ts = d.ts := rfl
@[simp] theorem setKeySlot_act (k : Nat) (x : KeySlot) (d : Dev) : (setKeySlot k x d).act = d.act := rfl
@[simp] theorem setKeySlot_mem (k : Nat) (x : KeySlot) (d : Dev) : (setKeySlot k x d).mem = d.mem := rfl
@[simp] theorem setKeySlot_port (k : Nat) (x : KeySlot) (d : Dev) : (setKeySlot k x d).port = d.port := rfl
@[simp] theorem setKeySlot_twin (k : Nat) (x : KeySlot) (d : Dev) : (setKeySlot k x d).twin = d.twin := rfl
@[simp] theorem setKeySlot_obs (k : Nat) (x : KeySlot) (d : Dev) : (setKeySlot k x d).obs = d.obs := rfl
@[simp] theorem setKeySlot_cnt (k : Nat) (x : KeySlot) (d : Dev) : (setKeySlot k x d).cnt = d.cnt := rfl
@[simp] theorem setKeySlot_free (k : Nat) (x : KeySlot) (d : Dev) : (setKeySlot k x d).free = d.free := rfl
@[simp] theorem setKeySlot_out (k : Nat) (x : KeySlot) (d : Dev) : (setKeySlot k x d).out = d.out := rfl

/-! ### `setLink` -/

@[simp] theorem setLink_time (k : Nat) (l : PkgLink) (d : Dev) : (setLink k l d).time = d.time := rfl
@[simp] theorem setLink_host (k : Nat) (l : PkgLink) (d : Dev) : (setLink k l d).host = d.host := rfl
@[simp] theorem setLink_cfg (k : Nat) (l : PkgLink) (d : Dev) : (setLink k l d).cfg = d.cfg := rfl
@[simp] theorem setLink_sys (k : Nat) (l : PkgLink) (d : Dev) : (setLink k l d).sys = d.sys := rfl
@[simp] theorem setLink_vault (k : Nat) (l : PkgLink) (d : Dev) : (setLink k l d).vault = d.vault := rfl
@[simp] theorem setLink_prot (k : Nat) (l : PkgLink) (d : Dev) : (setLink k l d).prot = d.prot := rfl
@[simp] theorem setLink_cls (k : Nat) (l : PkgLink) (d : Dev) : (setLink k l d).cls = d.cls := rfl
@[simp] theorem setLink_fab (k : Nat) (l : PkgLink) (d : Dev) : (setLink k l d).fab = d.fab := rfl
@[simp] theorem setLink_que (k : Nat) (l : PkgLink) (d : Dev) : (setLink k l d).que = d.que := rfl
@[simp] theorem setLink_ts (k : Nat) (l : PkgLink) (d : Dev) : (setLink k l d).ts = d.ts := rfl
@[simp] theorem setLink_act (k : Nat) (l : PkgLink) (d : Dev) : (setLink k l d).act = d.act := rfl
@[simp] theorem setLink_mem (k : Nat) (l : PkgLink) (d : Dev) : (setLink k l d).mem = d.mem := rfl
@[simp] theorem setLink_port (k : Nat) (l : PkgLink) (d : Dev) : (setLink k l d).port = d.port := rfl
@[simp] theorem setLink_twin (k : Nat) (l : PkgLink) (d : Dev) : (setLink k l d).twin = d.twin := rfl
@[simp] theorem setLink_obs (k : Nat) (l : PkgLink) (d : Dev) : (setLink k l d).obs = d.obs := rfl
@[simp] theorem setLink_cnt (k : Nat) (l : PkgLink) (d : Dev) : (setLink k l d).cnt = d.cnt := rfl
@[simp] theorem setLink_free (k : Nat) (l : PkgLink) (d : Dev) : (setLink k l d).free = d.free := rfl
@[simp] theorem setLink_out (k : Nat) (l : PkgLink) (d : Dev) : (setLink k l d).out = d.out := rfl

/-! ### `twinEnter` -/

@[simp] theorem twinEnter_time (st : TwinSt) (d : Dev) : (twinEnter st d).time = d.time := rfl
@[simp] theorem twinEnter_host (st : TwinSt) (d : Dev) : (twinEnter st d).host = d.host := rfl
@[simp] theorem twinEnter_pkg (st : TwinSt) (d : Dev) : (twinEnter st d).pkg = d.pkg := rfl
@[simp] theorem twinEnter_cfg (st : TwinSt) (d : Dev) : (twinEnter st d).cfg = d.cfg := rfl
@[simp] theorem twinEnter_sys (st : TwinSt) (d : Dev) : (twinEnter st d).sys = d.sys := rfl
@[simp] theorem twinEnter_vault (st : TwinSt) (d : Dev) : (twinEnter st d).vault = d.vault := rfl
@[simp] theorem twinEnter_prot (st : TwinSt) (d : Dev) : (twinEnter st d).prot = d.prot := rfl
@[simp] theorem twinEnter_cls (st : TwinSt) (d : Dev) : (twinEnter st d).cls = d.cls := rfl
@[simp] theorem twinEnter_fab (st : TwinSt) (d : Dev) : (twinEnter st d).fab = d.fab := rfl
@[simp] theorem twinEnter_que (st : TwinSt) (d : Dev) : (twinEnter st d).que = d.que := rfl
@[simp] theorem twinEnter_ts (st : TwinSt) (d : Dev) : (twinEnter st d).ts = d.ts := rfl
@[simp] theorem twinEnter_act (st : TwinSt) (d : Dev) : (twinEnter st d).act = d.act := rfl
@[simp] theorem twinEnter_mem (st : TwinSt) (d : Dev) : (twinEnter st d).mem = d.mem := rfl
@[simp] theorem twinEnter_port (st : TwinSt) (d : Dev) : (twinEnter st d).port = d.port := rfl
@[simp] theorem twinEnter_obs (st : TwinSt) (d : Dev) : (twinEnter st d).obs = d.obs := rfl
@[simp] theorem twinEnter_cnt (st : TwinSt) (d : Dev) : (twinEnter st d).cnt = d.cnt := rfl
@[simp] theorem twinEnter_free (st : TwinSt) (d : Dev) : (twinEnter st d).free = d.free := rfl
@[simp] theorem twinEnter_out (st : TwinSt) (d : Dev) : (twinEnter st d).out = d.out := rfl

/-! ### What the updates set -/

@[simp] theorem emit_out (o : Output) (d : Dev) : (emit o d).out = d.out ++ [o] := rfl
@[simp] theorem portSt_setPortSt (p : Nat) (x : PortSt) (d : Dev) : portSt p (setPortSt p x d) = x := by
  simp [portSt, setPortSt, Map.get, Map.get?_put]
@[simp] theorem laneSt_setLaneSt (l : Nat) (x : LaneSt) (d : Dev) : laneSt l (setLaneSt l x d) = x := by
  simp [laneSt, setLaneSt, Map.get, Map.get?_put]
@[simp] theorem gateSt_setGate (p : Nat) (g : GateSt) (d : Dev) : gateSt p (setGate p g d) = g := by
  simp [gateSt, setGate, Map.get, Map.get?_put]
@[simp] theorem region_setRegion (r : Nat) (x : Region) (d : Dev) : region r (setRegion r x d) = x := by
  simp [region, setRegion, Map.get, Map.get?_put]
@[simp] theorem sa_setSa (k : Nat) (x : SaSlot) (d : Dev) : sa k (setSa k x d) = x := by
  simp [sa, setSa, Map.get, Map.get?_put]
@[simp] theorem inst_setInst (i : Nat) (x : PtpSt) (d : Dev) : inst i (setInst i x d) = x := by
  simp [inst, setInst, Map.get, Map.get?_put]
@[simp] theorem queueAt_setQueue (q : Nat) (x : Queue) (d : Dev) : queueAt q (setQueue q x d) = x := by
  simp [queueAt, setQueue, Map.get, Map.get?_put]
@[simp] theorem mailbox_setMailbox (m : Nat) (b : Mailbox) (d : Dev) : mailbox m (setMailbox m b d) = b := by
  simp [mailbox, setMailbox, Map.get, Map.get?_put]
@[simp] theorem island_setIsland (k : Nat) (i : IslandSt) (d : Dev) : island k (setIsland k i d) = i := by
  simp [island, setIsland, Map.get, Map.get?_put]
@[simp] theorem cntGet_bumpBy (b : CntBlock) (i k n : Nat) (d : Dev) :
    cntGet b i k (bumpBy b i k n d) = (cntGet b i k d + n) % 2 ^ 48 := by
  simp [cntGet, bumpBy, Map.get, Map.get?_put]
@[simp] theorem twinEnter_state (st : TwinSt) (d : Dev) : (twinEnter st d).twin.state = st := rfl

end Sys2Proof.Machine
end

