-- ==== Sys2Proof/Laws/Ops.lean ====
section
/-! SUPPORT. Sys2Proof/Laws/Ops.lean: for each shared operation the whole of what it may change, said once as an equation,
and from it the fields that it leaves alone. -/
namespace Sys2Proof.Machine

/-- All that `record` may change. -/
theorem record_frame (type source : Nat) (data : Bytes) (d : Dev) : ∃ b n, record type source data d =
    { d with obs := b, cnt := n } := by
  unfold record perfEvent bump bumpBy
  dsimp only
  split <;> exact ⟨_, _, rfl⟩
@[simp] theorem record_time (type source : Nat) (data : Bytes) (d : Dev) : (record type source data d).time = d.time := by
  obtain ⟨_, _, e⟩ := record_frame type source data d; rw [e]
@[simp] theorem record_host (type source : Nat) (data : Bytes) (d : Dev) : (record type source data d).host = d.host := by
  obtain ⟨_, _, e⟩ := record_frame type source data d; rw [e]
@[simp] theorem record_pkg (type source : Nat) (data : Bytes) (d : Dev) : (record type source data d).pkg = d.pkg := by
  obtain ⟨_, _, e⟩ := record_frame type source data d; rw [e]
@[simp] theorem record_cfg (type source : Nat) (data : Bytes) (d : Dev) : (record type source data d).cfg = d.cfg := by
  obtain ⟨_, _, e⟩ := record_frame type source data d; rw [e]
@[simp] theorem record_sys (type source : Nat) (data : Bytes) (d : Dev) : (record type source data d).sys = d.sys := by
  obtain ⟨_, _, e⟩ := record_frame type source data d; rw [e]
@[simp] theorem record_vault (type source : Nat) (data : Bytes) (d : Dev) : (record type source data d).vault = d.vault := by
  obtain ⟨_, _, e⟩ := record_frame type source data d; rw [e]
@[simp] theorem record_prot (type source : Nat) (data : Bytes) (d : Dev) : (record type source data d).prot = d.prot := by
  obtain ⟨_, _, e⟩ := record_frame type source data d; rw [e]
@[simp] theorem record_cls (type source : Nat) (data : Bytes) (d : Dev) : (record type source data d).cls = d.cls := by
  obtain ⟨_, _, e⟩ := record_frame type source data d; rw [e]
@[simp] theorem record_fab (type source : Nat) (data : Bytes) (d : Dev) : (record type source data d).fab = d.fab := by
  obtain ⟨_, _, e⟩ := record_frame type source data d; rw [e]
@[simp] theorem record_que (type source : Nat) (data : Bytes) (d : Dev) : (record type source data d).que = d.que := by
  obtain ⟨_, _, e⟩ := record_frame type source data d; rw [e]
@[simp] theorem record_ts (type source : Nat) (data : Bytes) (d : Dev) : (record type source data d).ts = d.ts := by
  obtain ⟨_, _, e⟩ := record_frame type source data d; rw [e]
@[simp] theorem record_act (type source : Nat) (data : Bytes) (d : Dev) : (record type source data d).act = d.act := by
  obtain ⟨_, _, e⟩ := record_frame type source data d; rw [e]
@[simp] theorem record_mem (type source : Nat) (data : Bytes) (d : Dev) : (record type source data d).mem = d.mem := by
  obtain ⟨_, _, e⟩ := record_frame type source data d; rw [e]
@[simp] theorem record_port (type source : Nat) (data : Bytes) (d : Dev) : (record type source data d).port = d.port := by
  obtain ⟨_, _, e⟩ := record_frame type source data d; rw [e]
@[simp] theorem record_twin (type source : Nat) (data : Bytes) (d : Dev) : (record type source data d).twin = d.twin := by
  obtain ⟨_, _, e⟩ := record_frame type source data d; rw [e]
@[simp] theorem record_free (type source : Nat) (data : Bytes) (d : Dev) : (record type source data d).free = d.free := by
  obtain ⟨_, _, e⟩ := record_frame type source data d; rw [e]
@[simp] theorem record_out (type source : Nat) (data : Bytes) (d : Dev) : (record type source data d).out = d.out := by
  obtain ⟨_, _, e⟩ := record_frame type source data d; rw [e]

/-- All that `signal` may change. -/
theorem signal_frame (v : Nat) (d : Dev) : ∃ h w, signal v d =
    { d with host := h, out := w } := by
  unfold signal emit
  split
  · exact ⟨_, _, rfl⟩
  · split <;> exact ⟨_, _, rfl⟩
@[simp] theorem signal_time (v : Nat) (d : Dev) : (signal v d).time = d.time := by
  obtain ⟨_, _, e⟩ := signal_frame v d; rw [e]
@[simp] theorem signal_pkg (v : Nat) (d : Dev) : (signal v d).pkg = d.pkg := by
  obtain ⟨_, _, e⟩ := signal_frame v d; rw [e]
@[simp] theorem signal_cfg (v : Nat) (d : Dev) : (signal v d).cfg = d.cfg := by
  obtain ⟨_, _, e⟩ := signal_frame v d; rw [e]
@[simp] theorem signal_sys (v : Nat) (d : Dev) : (signal v d).sys = d.sys := by
  obtain ⟨_, _, e⟩ := signal_frame v d; rw [e]
@[simp] theorem signal_vault (v : Nat) (d : Dev) : (signal v d).vault = d.vault := by
  obtain ⟨_, _, e⟩ := signal_frame v d; rw [e]
@[simp] theorem signal_prot (v : Nat) (d : Dev) : (signal v d).prot = d.prot := by
  obtain ⟨_, _, e⟩ := signal_frame v d; rw [e]
@[simp] theorem signal_cls (v : Nat) (d : Dev) : (signal v d).cls = d.cls := by
  obtain ⟨_, _, e⟩ := signal_frame v d; rw [e]
@[simp] theorem signal_fab (v : Nat) (d : Dev) : (signal v d).fab = d.fab := by
  obtain ⟨_, _, e⟩ := signal_frame v d; rw [e]
@[simp] theorem signal_que (v : Nat) (d : Dev) : (signal v d).que = d.que := by
  obtain ⟨_, _, e⟩ := signal_frame v d; rw [e]
@[simp] theorem signal_ts (v : Nat) (d : Dev) : (signal v d).ts = d.ts := by
  obtain ⟨_, _, e⟩ := signal_frame v d; rw [e]
@[simp] theorem signal_act (v : Nat) (d : Dev) : (signal v d).act = d.act := by
  obtain ⟨_, _, e⟩ := signal_frame v d; rw [e]
@[simp] theorem signal_mem (v : Nat) (d : Dev) : (signal v d).mem = d.mem := by
  obtain ⟨_, _, e⟩ := signal_frame v d; rw [e]
@[simp] theorem signal_port (v : Nat) (d : Dev) : (signal v d).port = d.port := by
  obtain ⟨_, _, e⟩ := signal_frame v d; rw [e]
@[simp] theorem signal_twin (v : Nat) (d : Dev) : (signal v d).twin = d.twin := by
  obtain ⟨_, _, e⟩ := signal_frame v d; rw [e]
@[simp] theorem signal_obs (v : Nat) (d : Dev) : (signal v d).obs = d.obs := by
  obtain ⟨_, _, e⟩ := signal_frame v d; rw [e]
@[simp] theorem signal_cnt (v : Nat) (d : Dev) : (signal v d).cnt = d.cnt := by
  obtain ⟨_, _, e⟩ := signal_frame v d; rw [e]
@[simp] theorem signal_free (v : Nat) (d : Dev) : (signal v d).free = d.free := by
  obtain ⟨_, _, e⟩ := signal_frame v d; rw [e]

/-- All that `setFault` may change. -/
theorem setFault_frame (k : Nat) (d : Dev) : ∃ h w, setFault k d =
    { d with host := h, out := w } := by
  obtain ⟨h, w, e⟩ := signal_frame 31 { d with host := { d.host with faultCause := d.host.faultCause ||| 2 ^ k } }
  exact ⟨h, w, e⟩
@[simp] theorem setFault_time (k : Nat) (d : Dev) : (setFault k d).time = d.time := by
  obtain ⟨_, _, e⟩ := setFault_frame k d; rw [e]
@[simp] theorem setFault_pkg (k : Nat) (d : Dev) : (setFault k d).pkg = d.pkg := by
  obtain ⟨_, _, e⟩ := setFault_frame k d; rw [e]
@[simp] theorem setFault_cfg (k : Nat) (d : Dev) : (setFault k d).cfg = d.cfg := by
  obtain ⟨_, _, e⟩ := setFault_frame k d; rw [e]
@[simp] theorem setFault_sys (k : Nat) (d : Dev) : (setFault k d).sys = d.sys := by
  obtain ⟨_, _, e⟩ := setFault_frame k d; rw [e]
@[simp] theorem setFault_vault (k : Nat) (d : Dev) : (setFault k d).vault = d.vault := by
  obtain ⟨_, _, e⟩ := setFault_frame k d; rw [e]
@[simp] theorem setFault_prot (k : Nat) (d : Dev) : (setFault k d).prot = d.prot := by
  obtain ⟨_, _, e⟩ := setFault_frame k d; rw [e]
@[simp] theorem setFault_cls (k : Nat) (d : Dev) : (setFault k d).cls = d.cls := by
  obtain ⟨_, _, e⟩ := setFault_frame k d; rw [e]
@[simp] theorem setFault_fab (k : Nat) (d : Dev) : (setFault k d).fab = d.fab := by
  obtain ⟨_, _, e⟩ := setFault_frame k d; rw [e]
@[simp] theorem setFault_que (k : Nat) (d : Dev) : (setFault k d).que = d.que := by
  obtain ⟨_, _, e⟩ := setFault_frame k d; rw [e]
@[simp] theorem setFault_ts (k : Nat) (d : Dev) : (setFault k d).ts = d.ts := by
  obtain ⟨_, _, e⟩ := setFault_frame k d; rw [e]
@[simp] theorem setFault_act (k : Nat) (d : Dev) : (setFault k d).act = d.act := by
  obtain ⟨_, _, e⟩ := setFault_frame k d; rw [e]
@[simp] theorem setFault_mem (k : Nat) (d : Dev) : (setFault k d).mem = d.mem := by
  obtain ⟨_, _, e⟩ := setFault_frame k d; rw [e]
@[simp] theorem setFault_port (k : Nat) (d : Dev) : (setFault k d).port = d.port := by
  obtain ⟨_, _, e⟩ := setFault_frame k d; rw [e]
@[simp] theorem setFault_twin (k : Nat) (d : Dev) : (setFault k d).twin = d.twin := by
  obtain ⟨_, _, e⟩ := setFault_frame k d; rw [e]
@[simp] theorem setFault_obs (k : Nat) (d : Dev) : (setFault k d).obs = d.obs := by
  obtain ⟨_, _, e⟩ := setFault_frame k d; rw [e]
@[simp] theorem setFault_cnt (k : Nat) (d : Dev) : (setFault k d).cnt = d.cnt := by
  obtain ⟨_, _, e⟩ := setFault_frame k d; rw [e]
@[simp] theorem setFault_free (k : Nat) (d : Dev) : (setFault k d).free = d.free := by
  obtain ⟨_, _, e⟩ := setFault_frame k d; rw [e]

/-- All that `ringWrite` may change. -/
theorem ringWrite_frame (x : Notif) (d : Dev) : ∃ h b n w, ringWrite x d =
    { d with host := h, obs := b, cnt := n, out := w } := by
  unfold ringWrite
  obtain ⟨h, w, e⟩ := signal_frame 16 (perfEvent 4 0x231 1 { (emit (.hostWrite (d.host.nrBaseHi * 2 ^ 32 + d.host.nrBaseLo
    + 64 * d.host.nrTail) (notifBytes x d.host.nrPhase)) d) with host := { d.host with
      nrTail := (d.host.nrTail + 1) % d.host.nrSize
      nrPhase := if (d.host.nrTail + 1) % d.host.nrSize = 0 then !d.host.nrPhase else d.host.nrPhase } })
  exact ⟨h, _, _, w, e⟩
@[simp] theorem ringWrite_time (x : Notif) (d : Dev) : (ringWrite x d).time = d.time := by
  obtain ⟨_, _, _, _, e⟩ := ringWrite_frame x d; rw [e]
@[simp] theorem ringWrite_pkg (x : Notif) (d : Dev) : (ringWrite x d).pkg = d.pkg := by
  obtain ⟨_, _, _, _, e⟩ := ringWrite_frame x d; rw [e]
@[simp] theorem ringWrite_cfg (x : Notif) (d : Dev) : (ringWrite x d).cfg = d.cfg := by
  obtain ⟨_, _, _, _, e⟩ := ringWrite_frame x d; rw [e]
@[simp] theorem ringWrite_sys (x : Notif) (d : Dev) : (ringWrite x d).sys = d.sys := by
  obtain ⟨_, _, _, _, e⟩ := ringWrite_frame x d; rw [e]
@[simp] theorem ringWrite_vault (x : Notif) (d : Dev) : (ringWrite x d).vault = d.vault := by
  obtain ⟨_, _, _, _, e⟩ := ringWrite_frame x d; rw [e]
@[simp] theorem ringWrite_prot (x : Notif) (d : Dev) : (ringWrite x d).prot = d.prot := by
  obtain ⟨_, _, _, _, e⟩ := ringWrite_frame x d; rw [e]
@[simp] theorem ringWrite_cls (x : Notif) (d : Dev) : (ringWrite x d).cls = d.cls := by
  obtain ⟨_, _, _, _, e⟩ := ringWrite_frame x d; rw [e]
@[simp] theorem ringWrite_fab (x : Notif) (d : Dev) : (ringWrite x d).fab = d.fab := by
  obtain ⟨_, _, _, _, e⟩ := ringWrite_frame x d; rw [e]
@[simp] theorem ringWrite_que (x : Notif) (d : Dev) : (ringWrite x d).que = d.que := by
  obtain ⟨_, _, _, _, e⟩ := ringWrite_frame x d; rw [e]
@[simp] theorem ringWrite_ts (x : Notif) (d : Dev) : (ringWrite x d).ts = d.ts := by
  obtain ⟨_, _, _, _, e⟩ := ringWrite_frame x d; rw [e]
@[simp] theorem ringWrite_act (x : Notif) (d : Dev) : (ringWrite x d).act = d.act := by
  obtain ⟨_, _, _, _, e⟩ := ringWrite_frame x d; rw [e]
@[simp] theorem ringWrite_mem (x : Notif) (d : Dev) : (ringWrite x d).mem = d.mem := by
  obtain ⟨_, _, _, _, e⟩ := ringWrite_frame x d; rw [e]
@[simp] theorem ringWrite_port (x : Notif) (d : Dev) : (ringWrite x d).port = d.port := by
  obtain ⟨_, _, _, _, e⟩ := ringWrite_frame x d; rw [e]
@[simp] theorem ringWrite_twin (x : Notif) (d : Dev) : (ringWrite x d).twin = d.twin := by
  obtain ⟨_, _, _, _, e⟩ := ringWrite_frame x d; rw [e]
@[simp] theorem ringWrite_free (x : Notif) (d : Dev) : (ringWrite x d).free = d.free := by
  obtain ⟨_, _, _, _, e⟩ := ringWrite_frame x d; rw [e]

/-- All that `ringOverflow` may change. -/
theorem ringOverflow_frame (d : Dev) : ∃ h b n w, ringOverflow d =
    { d with host := h, obs := b, cnt := n, out := w } := by
  unfold ringOverflow
  split
  · exact ⟨_, _, _, _, rfl⟩
  · split
    · obtain ⟨h, b, n, w, e⟩ := ringWrite_frame _ _
      exact ⟨h, b, n, w, e⟩
    · exact ⟨_, _, _, _, rfl⟩
@[simp] theorem ringOverflow_time (d : Dev) : (ringOverflow d).time = d.time := by
  obtain ⟨_, _, _, _, e⟩ := ringOverflow_frame d; rw [e]
@[simp] theorem ringOverflow_pkg (d : Dev) : (ringOverflow d).pkg = d.pkg := by
  obtain ⟨_, _, _, _, e⟩ := ringOverflow_frame d; rw [e]
@[simp] theorem ringOverflow_cfg (d : Dev) : (ringOverflow d).cfg = d.cfg := by
  obtain ⟨_, _, _, _, e⟩ := ringOverflow_frame d; rw [e]
@[simp] theorem ringOverflow_sys (d : Dev) : (ringOverflow d).sys = d.sys := by
  obtain ⟨_, _, _, _, e⟩ := ringOverflow_frame d; rw [e]
@[simp] theorem ringOverflow_vault (d : Dev) : (ringOverflow d).vault = d.vault := by
  obtain ⟨_, _, _, _, e⟩ := ringOverflow_frame d; rw [e]
@[simp] theorem ringOverflow_prot (d : Dev) : (ringOverflow d).prot = d.prot := by
  obtain ⟨_, _, _, _, e⟩ := ringOverflow_frame d; rw [e]
@[simp] theorem ringOverflow_cls (d : Dev) : (ringOverflow d).cls = d.cls := by
  obtain ⟨_, _, _, _, e⟩ := ringOverflow_frame d; rw [e]
@[simp] theorem ringOverflow_fab (d : Dev) : (ringOverflow d).fab = d.fab := by
  obtain ⟨_, _, _, _, e⟩ := ringOverflow_frame d; rw [e]
@[simp] theorem ringOverflow_que (d : Dev) : (ringOverflow d).que = d.que := by
  obtain ⟨_, _, _, _, e⟩ := ringOverflow_frame d; rw [e]
@[simp] theorem ringOverflow_ts (d : Dev) : (ringOverflow d).ts = d.ts := by
  obtain ⟨_, _, _, _, e⟩ := ringOverflow_frame d; rw [e]
@[simp] theorem ringOverflow_act (d : Dev) : (ringOverflow d).act = d.act := by
  obtain ⟨_, _, _, _, e⟩ := ringOverflow_frame d; rw [e]
@[simp] theorem ringOverflow_mem (d : Dev) : (ringOverflow d).mem = d.mem := by
  obtain ⟨_, _, _, _, e⟩ := ringOverflow_frame d; rw [e]
@[simp] theorem ringOverflow_port (d : Dev) : (ringOverflow d).port = d.port := by
  obtain ⟨_, _, _, _, e⟩ := ringOverflow_frame d; rw [e]
@[simp] theorem ringOverflow_twin (d : Dev) : (ringOverflow d).twin = d.twin := by
  obtain ⟨_, _, _, _, e⟩ := ringOverflow_frame d; rw [e]
@[simp] theorem ringOverflow_free (d : Dev) : (ringOverflow d).free = d.free := by
  obtain ⟨_, _, _, _, e⟩ := ringOverflow_frame d; rw [e]

/-- All that `place` may change. -/
theorem place_frame (x : Notif) (d : Dev) : ∃ h b n w, place x d =
    { d with host := h, obs := b, cnt := n, out := w } := by
  unfold place
  split
  · exact ringWrite_frame _ _
  · exact ⟨_, _, _, _, rfl⟩
@[simp] theorem place_time (x : Notif) (d : Dev) : (place x d).time = d.time := by
  obtain ⟨_, _, _, _, e⟩ := place_frame x d; rw [e]
@[simp] theorem place_pkg (x : Notif) (d : Dev) : (place x d).pkg = d.pkg := by
  obtain ⟨_, _, _, _, e⟩ := place_frame x d; rw [e]
@[simp] theorem place_cfg (x : Notif) (d : Dev) : (place x d).cfg = d.cfg := by
  obtain ⟨_, _, _, _, e⟩ := place_frame x d; rw [e]
@[simp] theorem place_sys (x : Notif) (d : Dev) : (place x d).sys = d.sys := by
  obtain ⟨_, _, _, _, e⟩ := place_frame x d; rw [e]
@[simp] theorem place_vault (x : Notif) (d : Dev) : (place x d).vault = d.vault := by
  obtain ⟨_, _, _, _, e⟩ := place_frame x d; rw [e]
@[simp] theorem place_prot (x : Notif) (d : Dev) : (place x d).prot = d.prot := by
  obtain ⟨_, _, _, _, e⟩ := place_frame x d; rw [e]
@[simp] theorem place_cls (x : Notif) (d : Dev) : (place x d).cls = d.cls := by
  obtain ⟨_, _, _, _, e⟩ := place_frame x d; rw [e]
@[simp] theorem place_fab (x : Notif) (d : Dev) : (place x d).fab = d.fab := by
  obtain ⟨_, _, _, _, e⟩ := place_frame x d; rw [e]
@[simp] theorem place_que (x : Notif) (d : Dev) : (place x d).que = d.que := by
  obtain ⟨_, _, _, _, e⟩ := place_frame x d; rw [e]
@[simp] theorem place_ts (x : Notif) (d : Dev) : (place x d).ts = d.ts := by
  obtain ⟨_, _, _, _, e⟩ := place_frame x d; rw [e]
@[simp] theorem place_act (x : Notif) (d : Dev) : (place x d).act = d.act := by
  obtain ⟨_, _, _, _, e⟩ := place_frame x d; rw [e]
@[simp] theorem place_mem (x : Notif) (d : Dev) : (place x d).mem = d.mem := by
  obtain ⟨_, _, _, _, e⟩ := place_frame x d; rw [e]
@[simp] theorem place_port (x : Notif) (d : Dev) : (place x d).port = d.port := by
  obtain ⟨_, _, _, _, e⟩ := place_frame x d; rw [e]
@[simp] theorem place_twin (x : Notif) (d : Dev) : (place x d).twin = d.twin := by
  obtain ⟨_, _, _, _, e⟩ := place_frame x d; rw [e]
@[simp] theorem place_free (x : Notif) (d : Dev) : (place x d).free = d.free := by
  obtain ⟨_, _, _, _, e⟩ := place_frame x d; rw [e]

/-- All that `notify` may change. -/
theorem notify_frame (type source : Nat) (data : Bytes) (d : Dev) : ∃ h b n w, notify type source data d =
    { d with host := h, obs := b, cnt := n, out := w } := by
  unfold notify
  split
  · exact ⟨_, _, _, _, rfl⟩
  · split
    · dsimp only [takeSeq]
      split <;> exact ⟨_, _, _, _, rfl⟩
    · obtain ⟨h1, b1, n1, w1, e1⟩ := ringOverflow_frame d
      rw [e1]
      obtain ⟨h2, b2, n2, w2, e2⟩ := place_frame ⟨type, h1.nrSeq, now d, source, data⟩
        { d with host := { h1 with nrSeq := (h1.nrSeq + 1) % 2 ^ 32 }, obs := b1, cnt := n1, out := w1 }
      exact ⟨h2, b2, n2, w2, e2⟩
@[simp] theorem notify_time (type source : Nat) (data : Bytes) (d : Dev) : (notify type source data d).time = d.time := by
  obtain ⟨_, _, _, _, e⟩ := notify_frame type source data d; rw [e]
@[simp] theorem notify_pkg (type source : Nat) (data : Bytes) (d : Dev) : (notify type source data d).pkg = d.pkg := by
  obtain ⟨_, _, _, _, e⟩ := notify_frame type source data d; rw [e]
@[simp] theorem notify_cfg (type source : Nat) (data : Bytes) (d : Dev) : (notify type source data d).cfg = d.cfg := by
  obtain ⟨_, _, _, _, e⟩ := notify_frame type source data d; rw [e]
@[simp] theorem notify_sys (type source : Nat) (data : Bytes) (d : Dev) : (notify type source data d).sys = d.sys := by
  obtain ⟨_, _, _, _, e⟩ := notify_frame type source data d; rw [e]
@[simp] theorem notify_vault (type source : Nat) (data : Bytes) (d : Dev) : (notify type source data d).vault = d.vault := by
  obtain ⟨_, _, _, _, e⟩ := notify_frame type source data d; rw [e]
@[simp] theorem notify_prot (type source : Nat) (data : Bytes) (d : Dev) : (notify type source data d).prot = d.prot := by
  obtain ⟨_, _, _, _, e⟩ := notify_frame type source data d; rw [e]
@[simp] theorem notify_cls (type source : Nat) (data : Bytes) (d : Dev) : (notify type source data d).cls = d.cls := by
  obtain ⟨_, _, _, _, e⟩ := notify_frame type source data d; rw [e]
@[simp] theorem notify_fab (type source : Nat) (data : Bytes) (d : Dev) : (notify type source data d).fab = d.fab := by
  obtain ⟨_, _, _, _, e⟩ := notify_frame type source data d; rw [e]
@[simp] theorem notify_que (type source : Nat) (data : Bytes) (d : Dev) : (notify type source data d).que = d.que := by
  obtain ⟨_, _, _, _, e⟩ := notify_frame type source data d; rw [e]
@[simp] theorem notify_ts (type source : Nat) (data : Bytes) (d : Dev) : (notify type source data d).ts = d.ts := by
  obtain ⟨_, _, _, _, e⟩ := notify_frame type source data d; rw [e]
@[simp] theorem notify_act (type source : Nat) (data : Bytes) (d : Dev) : (notify type source data d).act = d.act := by
  obtain ⟨_, _, _, _, e⟩ := notify_frame type source data d; rw [e]
@[simp] theorem notify_mem (type source : Nat) (data : Bytes) (d : Dev) : (notify type source data d).mem = d.mem := by
  obtain ⟨_, _, _, _, e⟩ := notify_frame type source data d; rw [e]
@[simp] theorem notify_port (type source : Nat) (data : Bytes) (d : Dev) : (notify type source data d).port = d.port := by
  obtain ⟨_, _, _, _, e⟩ := notify_frame type source data d; rw [e]
@[simp] theorem notify_twin (type source : Nat) (data : Bytes) (d : Dev) : (notify type source data d).twin = d.twin := by
  obtain ⟨_, _, _, _, e⟩ := notify_frame type source data d; rw [e]
@[simp] theorem notify_free (type source : Nat) (data : Bytes) (d : Dev) : (notify type source data d).free = d.free := by
  obtain ⟨_, _, _, _, e⟩ := notify_frame type source data d; rw [e]

/-- All that `notifyRecord` may change. -/
theorem notifyRecord_frame (type source : Nat) (data : Bytes) (d : Dev) : ∃ h b n w, notifyRecord type source data d =
    { d with host := h, obs := b, cnt := n, out := w } := by
  unfold notifyRecord
  obtain ⟨b1, n1, e1⟩ := record_frame type source (slice data 0 40 ++ zeros 8) d
  rw [e1]
  obtain ⟨h2, b2, n2, w2, e2⟩ := notify_frame type source data { d with obs := b1, cnt := n1 }
  exact ⟨h2, b2, n2, w2, e2⟩
@[simp] theorem notifyRecord_time (type source : Nat) (data : Bytes) (d : Dev) : (notifyRecord type source data d).time = d.time := by
  obtain ⟨_, _, _, _, e⟩ := notifyRecord_frame type source data d; rw [e]
@[simp] theorem notifyRecord_pkg (type source : Nat) (data : Bytes) (d : Dev) : (notifyRecord type source data d).pkg = d.pkg := by
  obtain ⟨_, _, _, _, e⟩ := notifyRecord_frame type source data d; rw [e]
@[simp] theorem notifyRecord_cfg (type source : Nat) (data : Bytes) (d : Dev) : (notifyRecord type source data d).cfg = d.cfg := by
  obtain ⟨_, _, _, _, e⟩ := notifyRecord_frame type source data d; rw [e]
@[simp] theorem notifyRecord_sys (type source : Nat) (data : Bytes) (d : Dev) : (notifyRecord type source data d).sys = d.sys := by
  obtain ⟨_, _, _, _, e⟩ := notifyRecord_frame type source data d; rw [e]
@[simp] theorem notifyRecord_vault (type source : Nat) (data : Bytes) (d : Dev) : (notifyRecord type source data d).vault = d.vault := by
  obtain ⟨_, _, _, _, e⟩ := notifyRecord_frame type source data d; rw [e]
@[simp] theorem notifyRecord_prot (type source : Nat) (data : Bytes) (d : Dev) : (notifyRecord type source data d).prot = d.prot := by
  obtain ⟨_, _, _, _, e⟩ := notifyRecord_frame type source data d; rw [e]
@[simp] theorem notifyRecord_cls (type source : Nat) (data : Bytes) (d : Dev) : (notifyRecord type source data d).cls = d.cls := by
  obtain ⟨_, _, _, _, e⟩ := notifyRecord_frame type source data d; rw [e]
@[simp] theorem notifyRecord_fab (type source : Nat) (data : Bytes) (d : Dev) : (notifyRecord type source data d).fab = d.fab := by
  obtain ⟨_, _, _, _, e⟩ := notifyRecord_frame type source data d; rw [e]
@[simp] theorem notifyRecord_que (type source : Nat) (data : Bytes) (d : Dev) : (notifyRecord type source data d).que = d.que := by
  obtain ⟨_, _, _, _, e⟩ := notifyRecord_frame type source data d; rw [e]
@[simp] theorem notifyRecord_ts (type source : Nat) (data : Bytes) (d : Dev) : (notifyRecord type source data d).ts = d.ts := by
  obtain ⟨_, _, _, _, e⟩ := notifyRecord_frame type source data d; rw [e]
@[simp] theorem notifyRecord_act (type source : Nat) (data : Bytes) (d : Dev) : (notifyRecord type source data d).act = d.act := by
  obtain ⟨_, _, _, _, e⟩ := notifyRecord_frame type source data d; rw [e]
@[simp] theorem notifyRecord_mem (type source : Nat) (data : Bytes) (d : Dev) : (notifyRecord type source data d).mem = d.mem := by
  obtain ⟨_, _, _, _, e⟩ := notifyRecord_frame type source data d; rw [e]
@[simp] theorem notifyRecord_port (type source : Nat) (data : Bytes) (d : Dev) : (notifyRecord type source data d).port = d.port := by
  obtain ⟨_, _, _, _, e⟩ := notifyRecord_frame type source data d; rw [e]
@[simp] theorem notifyRecord_twin (type source : Nat) (data : Bytes) (d : Dev) : (notifyRecord type source data d).twin = d.twin := by
  obtain ⟨_, _, _, _, e⟩ := notifyRecord_frame type source data d; rw [e]
@[simp] theorem notifyRecord_free (type source : Nat) (data : Bytes) (d : Dev) : (notifyRecord type source data d).free = d.free := by
  obtain ⟨_, _, _, _, e⟩ := notifyRecord_frame type source data d; rw [e]

/-- All that `respondWith` may change. -/
theorem respondWith_frame (keep : Bool) (a : Reply) (st : Status) (fl : Nat) (pl : Bytes) (d : Dev) : ∃ h b w, respondWith keep a st fl pl d =
    { d with host := h, obs := b, out := w } := by
  unfold respondWith setMailbox perfEvent
  dsimp only
  split
  · exact ⟨_, _, _, rfl⟩
  · obtain ⟨h, w, e⟩ := signal_frame a.mb (perfEvent 4 0x230 1 (setMailbox a.mb { mailbox a.mb d with
      resp := respBytes a st fl pl d, busy := false, done := true, running := none
      stored := if keep then some (a.sequence, a.digest, respBytes a st fl pl d) else (mailbox a.mb d).stored } d))
    exact ⟨h, _, w, e⟩
@[simp] theorem respondWith_time (keep : Bool) (a : Reply) (st : Status) (fl : Nat) (pl : Bytes) (d : Dev) : (respondWith keep a st fl pl d).time = d.time := by
  obtain ⟨_, _, _, e⟩ := respondWith_frame keep a st fl pl d; rw [e]
@[simp] theorem respondWith_pkg (keep : Bool) (a : Reply) (st : Status) (fl : Nat) (pl : Bytes) (d : Dev) : (respondWith keep a st fl pl d).pkg = d.pkg := by
  obtain ⟨_, _, _, e⟩ := respondWith_frame keep a st fl pl d; rw [e]
@[simp] theorem respondWith_cfg (keep : Bool) (a : Reply) (st : Status) (fl : Nat) (pl : Bytes) (d : Dev) : (respondWith keep a st fl pl d).cfg = d.cfg := by
  obtain ⟨_, _, _, e⟩ := respondWith_frame keep a st fl pl d; rw [e]
@[simp] theorem respondWith_sys (keep : Bool) (a : Reply) (st : Status) (fl : Nat) (pl : Bytes) (d : Dev) : (respondWith keep a st fl pl d).sys = d.sys := by
  obtain ⟨_, _, _, e⟩ := respondWith_frame keep a st fl pl d; rw [e]
@[simp] theorem respondWith_vault (keep : Bool) (a : Reply) (st : Status) (fl : Nat) (pl : Bytes) (d : Dev) : (respondWith keep a st fl pl d).vault = d.vault := by
  obtain ⟨_, _, _, e⟩ := respondWith_frame keep a st fl pl d; rw [e]
@[simp] theorem respondWith_prot (keep : Bool) (a : Reply) (st : Status) (fl : Nat) (pl : Bytes) (d : Dev) : (respondWith keep a st fl pl d).prot = d.prot := by
  obtain ⟨_, _, _, e⟩ := respondWith_frame keep a st fl pl d; rw [e]
@[simp] theorem respondWith_cls (keep : Bool) (a : Reply) (st : Status) (fl : Nat) (pl : Bytes) (d : Dev) : (respondWith keep a st fl pl d).cls = d.cls := by
  obtain ⟨_, _, _, e⟩ := respondWith_frame keep a st fl pl d; rw [e]
@[simp] theorem respondWith_fab (keep : Bool) (a : Reply) (st : Status) (fl : Nat) (pl : Bytes) (d : Dev) : (respondWith keep a st fl pl d).fab = d.fab := by
  obtain ⟨_, _, _, e⟩ := respondWith_frame keep a st fl pl d; rw [e]
@[simp] theorem respondWith_que (keep : Bool) (a : Reply) (st : Status) (fl : Nat) (pl : Bytes) (d : Dev) : (respondWith keep a st fl pl d).que = d.que := by
  obtain ⟨_, _, _, e⟩ := respondWith_frame keep a st fl pl d; rw [e]
@[simp] theorem respondWith_ts (keep : Bool) (a : Reply) (st : Status) (fl : Nat) (pl : Bytes) (d : Dev) : (respondWith keep a st fl pl d).ts = d.ts := by
  obtain ⟨_, _, _, e⟩ := respondWith_frame keep a st fl pl d; rw [e]
@[simp] theorem respondWith_act (keep : Bool) (a : Reply) (st : Status) (fl : Nat) (pl : Bytes) (d : Dev) : (respondWith keep a st fl pl d).act = d.act := by
  obtain ⟨_, _, _, e⟩ := respondWith_frame keep a st fl pl d; rw [e]
@[simp] theorem respondWith_mem (keep : Bool) (a : Reply) (st : Status) (fl : Nat) (pl : Bytes) (d : Dev) : (respondWith keep a st fl pl d).mem = d.mem := by
  obtain ⟨_, _, _, e⟩ := respondWith_frame keep a st fl pl d; rw [e]
@[simp] theorem respondWith_port (keep : Bool) (a : Reply) (st : Status) (fl : Nat) (pl : Bytes) (d : Dev) : (respondWith keep a st fl pl d).port = d.port := by
  obtain ⟨_, _, _, e⟩ := respondWith_frame keep a st fl pl d; rw [e]
@[simp] theorem respondWith_twin (keep : Bool) (a : Reply) (st : Status) (fl : Nat) (pl : Bytes) (d : Dev) : (respondWith keep a st fl pl d).twin = d.twin := by
  obtain ⟨_, _, _, e⟩ := respondWith_frame keep a st fl pl d; rw [e]
@[simp] theorem respondWith_cnt (keep : Bool) (a : Reply) (st : Status) (fl : Nat) (pl : Bytes) (d : Dev) : (respondWith keep a st fl pl d).cnt = d.cnt := by
  obtain ⟨_, _, _, e⟩ := respondWith_frame keep a st fl pl d; rw [e]
@[simp] theorem respondWith_free (keep : Bool) (a : Reply) (st : Status) (fl : Nat) (pl : Bytes) (d : Dev) : (respondWith keep a st fl pl d).free = d.free := by
  obtain ⟨_, _, _, e⟩ := respondWith_frame keep a st fl pl d; rw [e]

/-- All that `respond` may change. -/
theorem respond_frame (a : Reply) (st : Status) (pl : Bytes) (d : Dev) : ∃ h b w, respond a st pl d =
    { d with host := h, obs := b, out := w } := by
  exact respondWith_frame true a st 0 pl d
@[simp] theorem respond_time (a : Reply) (st : Status) (pl : Bytes) (d : Dev) : (respond a st pl d).time = d.time := by
  obtain ⟨_, _, _, e⟩ := respond_frame a st pl d; rw [e]
@[simp] theorem respond_pkg (a : Reply) (st : Status) (pl : Bytes) (d : Dev) : (respond a st pl d).pkg = d.pkg := by
  obtain ⟨_, _, _, e⟩ := respond_frame a st pl d; rw [e]
@[simp] theorem respond_cfg (a : Reply) (st : Status) (pl : Bytes) (d : Dev) : (respond a st pl d).cfg = d.cfg := by
  obtain ⟨_, _, _, e⟩ := respond_frame a st pl d; rw [e]
@[simp] theorem respond_sys (a : Reply) (st : Status) (pl : Bytes) (d : Dev) : (respond a st pl d).sys = d.sys := by
  obtain ⟨_, _, _, e⟩ := respond_frame a st pl d; rw [e]
@[simp] theorem respond_vault (a : Reply) (st : Status) (pl : Bytes) (d : Dev) : (respond a st pl d).vault = d.vault := by
  obtain ⟨_, _, _, e⟩ := respond_frame a st pl d; rw [e]
@[simp] theorem respond_prot (a : Reply) (st : Status) (pl : Bytes) (d : Dev) : (respond a st pl d).prot = d.prot := by
  obtain ⟨_, _, _, e⟩ := respond_frame a st pl d; rw [e]
@[simp] theorem respond_cls (a : Reply) (st : Status) (pl : Bytes) (d : Dev) : (respond a st pl d).cls = d.cls := by
  obtain ⟨_, _, _, e⟩ := respond_frame a st pl d; rw [e]
@[simp] theorem respond_fab (a : Reply) (st : Status) (pl : Bytes) (d : Dev) : (respond a st pl d).fab = d.fab := by
  obtain ⟨_, _, _, e⟩ := respond_frame a st pl d; rw [e]
@[simp] theorem respond_que (a : Reply) (st : Status) (pl : Bytes) (d : Dev) : (respond a st pl d).que = d.que := by
  obtain ⟨_, _, _, e⟩ := respond_frame a st pl d; rw [e]
@[simp] theorem respond_ts (a : Reply) (st : Status) (pl : Bytes) (d : Dev) : (respond a st pl d).ts = d.ts := by
  obtain ⟨_, _, _, e⟩ := respond_frame a st pl d; rw [e]
@[simp] theorem respond_act (a : Reply) (st : Status) (pl : Bytes) (d : Dev) : (respond a st pl d).act = d.act := by
  obtain ⟨_, _, _, e⟩ := respond_frame a st pl d; rw [e]
@[simp] theorem respond_mem (a : Reply) (st : Status) (pl : Bytes) (d : Dev) : (respond a st pl d).mem = d.mem := by
  obtain ⟨_, _, _, e⟩ := respond_frame a st pl d; rw [e]
@[simp] theorem respond_port (a : Reply) (st : Status) (pl : Bytes) (d : Dev) : (respond a st pl d).port = d.port := by
  obtain ⟨_, _, _, e⟩ := respond_frame a st pl d; rw [e]
@[simp] theorem respond_twin (a : Reply) (st : Status) (pl : Bytes) (d : Dev) : (respond a st pl d).twin = d.twin := by
  obtain ⟨_, _, _, e⟩ := respond_frame a st pl d; rw [e]
@[simp] theorem respond_cnt (a : Reply) (st : Status) (pl : Bytes) (d : Dev) : (respond a st pl d).cnt = d.cnt := by
  obtain ⟨_, _, _, e⟩ := respond_frame a st pl d; rw [e]
@[simp] theorem respond_free (a : Reply) (st : Status) (pl : Bytes) (d : Dev) : (respond a st pl d).free = d.free := by
  obtain ⟨_, _, _, e⟩ := respond_frame a st pl d; rw [e]

/-- All that `complete` may change. -/
theorem complete_frame (handle : Nat) (st : Status) (res : Bytes) (d : Dev) : ∃ h b n w, complete handle st res d =
    { d with host := h, obs := b, cnt := n, out := w } := by
  unfold complete
  split
  · exact ⟨_, _, _, _, rfl⟩
  · obtain ⟨h, b, n, w, e⟩ := notify_frame _ _ _ _
    exact ⟨h, b, n, w, e⟩
@[simp] theorem complete_time (handle : Nat) (st : Status) (res : Bytes) (d : Dev) : (complete handle st res d).time = d.time := by
  obtain ⟨_, _, _, _, e⟩ := complete_frame handle st res d; rw [e]
@[simp] theorem complete_pkg (handle : Nat) (st : Status) (res : Bytes) (d : Dev) : (complete handle st res d).pkg = d.pkg := by
  obtain ⟨_, _, _, _, e⟩ := complete_frame handle st res d; rw [e]
@[simp] theorem complete_cfg (handle : Nat) (st : Status) (res : Bytes) (d : Dev) : (complete handle st res d).cfg = d.cfg := by
  obtain ⟨_, _, _, _, e⟩ := complete_frame handle st res d; rw [e]
@[simp] theorem complete_sys (handle : Nat) (st : Status) (res : Bytes) (d : Dev) : (complete handle st res d).sys = d.sys := by
  obtain ⟨_, _, _, _, e⟩ := complete_frame handle st res d; rw [e]
@[simp] theorem complete_vault (handle : Nat) (st : Status) (res : Bytes) (d : Dev) : (complete handle st res d).vault = d.vault := by
  obtain ⟨_, _, _, _, e⟩ := complete_frame handle st res d; rw [e]
@[simp] theorem complete_prot (handle : Nat) (st : Status) (res : Bytes) (d : Dev) : (complete handle st res d).prot = d.prot := by
  obtain ⟨_, _, _, _, e⟩ := complete_frame handle st res d; rw [e]
@[simp] theorem complete_cls (handle : Nat) (st : Status) (res : Bytes) (d : Dev) : (complete handle st res d).cls = d.cls := by
  obtain ⟨_, _, _, _, e⟩ := complete_frame handle st res d; rw [e]
@[simp] theorem complete_fab (handle : Nat) (st : Status) (res : Bytes) (d : Dev) : (complete handle st res d).fab = d.fab := by
  obtain ⟨_, _, _, _, e⟩ := complete_frame handle st res d; rw [e]
@[simp] theorem complete_que (handle : Nat) (st : Status) (res : Bytes) (d : Dev) : (complete handle st res d).que = d.que := by
  obtain ⟨_, _, _, _, e⟩ := complete_frame handle st res d; rw [e]
@[simp] theorem complete_ts (handle : Nat) (st : Status) (res : Bytes) (d : Dev) : (complete handle st res d).ts = d.ts := by
  obtain ⟨_, _, _, _, e⟩ := complete_frame handle st res d; rw [e]
@[simp] theorem complete_act (handle : Nat) (st : Status) (res : Bytes) (d : Dev) : (complete handle st res d).act = d.act := by
  obtain ⟨_, _, _, _, e⟩ := complete_frame handle st res d; rw [e]
@[simp] theorem complete_mem (handle : Nat) (st : Status) (res : Bytes) (d : Dev) : (complete handle st res d).mem = d.mem := by
  obtain ⟨_, _, _, _, e⟩ := complete_frame handle st res d; rw [e]
@[simp] theorem complete_port (handle : Nat) (st : Status) (res : Bytes) (d : Dev) : (complete handle st res d).port = d.port := by
  obtain ⟨_, _, _, _, e⟩ := complete_frame handle st res d; rw [e]
@[simp] theorem complete_twin (handle : Nat) (st : Status) (res : Bytes) (d : Dev) : (complete handle st res d).twin = d.twin := by
  obtain ⟨_, _, _, _, e⟩ := complete_frame handle st res d; rw [e]
@[simp] theorem complete_free (handle : Nat) (st : Status) (res : Bytes) (d : Dev) : (complete handle st res d).free = d.free := by
  obtain ⟨_, _, _, _, e⟩ := complete_frame handle st res d; rw [e]

/-- All that `finish` may change. -/
theorem finish_frame (m : Nat) (st : Status) (pl : Bytes) (d : Dev) : ∃ h b w, finish m st pl d =
    { d with host := h, obs := b, out := w } := by
  unfold finish
  split
  · exact ⟨_, _, _, rfl⟩
  · split
    · exact ⟨_, _, _, rfl⟩
    · exact respond_frame _ _ _ _
@[simp] theorem finish_time (m : Nat) (st : Status) (pl : Bytes) (d : Dev) : (finish m st pl d).time = d.time := by
  obtain ⟨_, _, _, e⟩ := finish_frame m st pl d; rw [e]
@[simp] theorem finish_pkg (m : Nat) (st : Status) (pl : Bytes) (d : Dev) : (finish m st pl d).pkg = d.pkg := by
  obtain ⟨_, _, _, e⟩ := finish_frame m st pl d; rw [e]
@[simp] theorem finish_cfg (m : Nat) (st : Status) (pl : Bytes) (d : Dev) : (finish m st pl d).cfg = d.cfg := by
  obtain ⟨_, _, _, e⟩ := finish_frame m st pl d; rw [e]
@[simp] theorem finish_sys (m : Nat) (st : Status) (pl : Bytes) (d : Dev) : (finish m st pl d).sys = d.sys := by
  obtain ⟨_, _, _, e⟩ := finish_frame m st pl d; rw [e]
@[simp] theorem finish_vault (m : Nat) (st : Status) (pl : Bytes) (d : Dev) : (finish m st pl d).vault = d.vault := by
  obtain ⟨_, _, _, e⟩ := finish_frame m st pl d; rw [e]
@[simp] theorem finish_prot (m : Nat) (st : Status) (pl : Bytes) (d : Dev) : (finish m st pl d).prot = d.prot := by
  obtain ⟨_, _, _, e⟩ := finish_frame m st pl d; rw [e]
@[simp] theorem finish_cls (m : Nat) (st : Status) (pl : Bytes) (d : Dev) : (finish m st pl d).cls = d.cls := by
  obtain ⟨_, _, _, e⟩ := finish_frame m st pl d; rw [e]
@[simp] theorem finish_fab (m : Nat) (st : Status) (pl : Bytes) (d : Dev) : (finish m st pl d).fab = d.fab := by
  obtain ⟨_, _, _, e⟩ := finish_frame m st pl d; rw [e]
@[simp] theorem finish_que (m : Nat) (st : Status) (pl : Bytes) (d : Dev) : (finish m st pl d).que = d.que := by
  obtain ⟨_, _, _, e⟩ := finish_frame m st pl d; rw [e]
@[simp] theorem finish_ts (m : Nat) (st : Status) (pl : Bytes) (d : Dev) : (finish m st pl d).ts = d.ts := by
  obtain ⟨_, _, _, e⟩ := finish_frame m st pl d; rw [e]
@[simp] theorem finish_act (m : Nat) (st : Status) (pl : Bytes) (d : Dev) : (finish m st pl d).act = d.act := by
  obtain ⟨_, _, _, e⟩ := finish_frame m st pl d; rw [e]
@[simp] theorem finish_mem (m : Nat) (st : Status) (pl : Bytes) (d : Dev) : (finish m st pl d).mem = d.mem := by
  obtain ⟨_, _, _, e⟩ := finish_frame m st pl d; rw [e]
@[simp] theorem finish_port (m : Nat) (st : Status) (pl : Bytes) (d : Dev) : (finish m st pl d).port = d.port := by
  obtain ⟨_, _, _, e⟩ := finish_frame m st pl d; rw [e]
@[simp] theorem finish_twin (m : Nat) (st : Status) (pl : Bytes) (d : Dev) : (finish m st pl d).twin = d.twin := by
  obtain ⟨_, _, _, e⟩ := finish_frame m st pl d; rw [e]
@[simp] theorem finish_cnt (m : Nat) (st : Status) (pl : Bytes) (d : Dev) : (finish m st pl d).cnt = d.cnt := by
  obtain ⟨_, _, _, e⟩ := finish_frame m st pl d; rw [e]
@[simp] theorem finish_free (m : Nat) (st : Status) (pl : Bytes) (d : Dev) : (finish m st pl d).free = d.free := by
  obtain ⟨_, _, _, e⟩ := finish_frame m st pl d; rw [e]

/-- All that `settle` may change. -/
theorem settle_frame (handle mb : Option Nat) (st : Status) (res : Bytes) (d : Dev) : ∃ h b n w, settle handle mb st res d =
    { d with host := h, obs := b, cnt := n, out := w } := by
  unfold settle
  cases handle with
  | none => cases mb with
    | none => exact ⟨_, _, _, _, rfl⟩
    | some m => obtain ⟨h, b, w, e⟩ := finish_frame m st res d; exact ⟨h, b, _, w, e⟩
  | some k =>
    obtain ⟨h1, b1, n1, w1, e1⟩ := complete_frame k st res d
    cases mb with
    | none => exact ⟨h1, b1, n1, w1, e1⟩
    | some m =>
      dsimp only
      rw [e1]
      obtain ⟨h, b, w, e⟩ := finish_frame m st res { d with host := h1, obs := b1, cnt := n1, out := w1 }
      exact ⟨h, b, _, w, e⟩
@[simp] theorem settle_time (handle mb : Option Nat) (st : Status) (res : Bytes) (d : Dev) : (settle handle mb st res d).time = d.time := by
  obtain ⟨_, _, _, _, e⟩ := settle_frame handle mb st res d; rw [e]
@[simp] theorem settle_pkg (handle mb : Option Nat) (st : Status) (res : Bytes) (d : Dev) : (settle handle mb st res d).pkg = d.pkg := by
  obtain ⟨_, _, _, _, e⟩ := settle_frame handle mb st res d; rw [e]
@[simp] theorem settle_cfg (handle mb : Option Nat) (st : Status) (res : Bytes) (d : Dev) : (settle handle mb st res d).cfg = d.cfg := by
  obtain ⟨_, _, _, _, e⟩ := settle_frame handle mb st res d; rw [e]
@[simp] theorem settle_sys (handle mb : Option Nat) (st : Status) (res : Bytes) (d : Dev) : (settle handle mb st res d).sys = d.sys := by
  obtain ⟨_, _, _, _, e⟩ := settle_frame handle mb st res d; rw [e]
@[simp] theorem settle_vault (handle mb : Option Nat) (st : Status) (res : Bytes) (d : Dev) : (settle handle mb st res d).vault = d.vault := by
  obtain ⟨_, _, _, _, e⟩ := settle_frame handle mb st res d; rw [e]
@[simp] theorem settle_prot (handle mb : Option Nat) (st : Status) (res : Bytes) (d : Dev) : (settle handle mb st res d).prot = d.prot := by
  obtain ⟨_, _, _, _, e⟩ := settle_frame handle mb st res d; rw [e]
@[simp] theorem settle_cls (handle mb : Option Nat) (st : Status) (res : Bytes) (d : Dev) : (settle handle mb st res d).cls = d.cls := by
  obtain ⟨_, _, _, _, e⟩ := settle_frame handle mb st res d; rw [e]
@[simp] theorem settle_fab (handle mb : Option Nat) (st : Status) (res : Bytes) (d : Dev) : (settle handle mb st res d).fab = d.fab := by
  obtain ⟨_, _, _, _, e⟩ := settle_frame handle mb st res d; rw [e]
@[simp] theorem settle_que (handle mb : Option Nat) (st : Status) (res : Bytes) (d : Dev) : (settle handle mb st res d).que = d.que := by
  obtain ⟨_, _, _, _, e⟩ := settle_frame handle mb st res d; rw [e]
@[simp] theorem settle_ts (handle mb : Option Nat) (st : Status) (res : Bytes) (d : Dev) : (settle handle mb st res d).ts = d.ts := by
  obtain ⟨_, _, _, _, e⟩ := settle_frame handle mb st res d; rw [e]
@[simp] theorem settle_act (handle mb : Option Nat) (st : Status) (res : Bytes) (d : Dev) : (settle handle mb st res d).act = d.act := by
  obtain ⟨_, _, _, _, e⟩ := settle_frame handle mb st res d; rw [e]
@[simp] theorem settle_mem (handle mb : Option Nat) (st : Status) (res : Bytes) (d : Dev) : (settle handle mb st res d).mem = d.mem := by
  obtain ⟨_, _, _, _, e⟩ := settle_frame handle mb st res d; rw [e]
@[simp] theorem settle_port (handle mb : Option Nat) (st : Status) (res : Bytes) (d : Dev) : (settle handle mb st res d).port = d.port := by
  obtain ⟨_, _, _, _, e⟩ := settle_frame handle mb st res d; rw [e]
@[simp] theorem settle_twin (handle mb : Option Nat) (st : Status) (res : Bytes) (d : Dev) : (settle handle mb st res d).twin = d.twin := by
  obtain ⟨_, _, _, _, e⟩ := settle_frame handle mb st res d; rw [e]
@[simp] theorem settle_free (handle mb : Option Nat) (st : Status) (res : Bytes) (d : Dev) : (settle handle mb st res d).free = d.free := by
  obtain ⟨_, _, _, _, e⟩ := settle_frame handle mb st res d; rw [e]

/-- All that `elapse` may change. -/
theorem elapse_frame (k : Nat) (d : Dev) : ∃ t b, elapse k d =
    { d with time := t, obs := b } := by
  exact ⟨_, _, rfl⟩
@[simp] theorem elapse_host (k : Nat) (d : Dev) : (elapse k d).host = d.host := by
  obtain ⟨_, _, e⟩ := elapse_frame k d; rw [e]
@[simp] theorem elapse_pkg (k : Nat) (d : Dev) : (elapse k d).pkg = d.pkg := by
  obtain ⟨_, _, e⟩ := elapse_frame k d; rw [e]
@[simp] theorem elapse_cfg (k : Nat) (d : Dev) : (elapse k d).cfg = d.cfg := by
  obtain ⟨_, _, e⟩ := elapse_frame k d; rw [e]
@[simp] theorem elapse_sys (k : Nat) (d : Dev) : (elapse k d).sys = d.sys := by
  obtain ⟨_, _, e⟩ := elapse_frame k d; rw [e]
@[simp] theorem elapse_vault (k : Nat) (d : Dev) : (elapse k d).vault = d.vault := by
  obtain ⟨_, _, e⟩ := elapse_frame k d; rw [e]
@[simp] theorem elapse_prot (k : Nat) (d : Dev) : (elapse k d).prot = d.prot := by
  obtain ⟨_, _, e⟩ := elapse_frame k d; rw [e]
@[simp] theorem elapse_cls (k : Nat) (d : Dev) : (elapse k d).cls = d.cls := by
  obtain ⟨_, _, e⟩ := elapse_frame k d; rw [e]
@[simp] theorem elapse_fab (k : Nat) (d : Dev) : (elapse k d).fab = d.fab := by
  obtain ⟨_, _, e⟩ := elapse_frame k d; rw [e]
@[simp] theorem elapse_que (k : Nat) (d : Dev) : (elapse k d).que = d.que := by
  obtain ⟨_, _, e⟩ := elapse_frame k d; rw [e]
@[simp] theorem elapse_ts (k : Nat) (d : Dev) : (elapse k d).ts = d.ts := by
  obtain ⟨_, _, e⟩ := elapse_frame k d; rw [e]
@[simp] theorem elapse_act (k : Nat) (d : Dev) : (elapse k d).act = d.act := by
  obtain ⟨_, _, e⟩ := elapse_frame k d; rw [e]
@[simp] theorem elapse_mem (k : Nat) (d : Dev) : (elapse k d).mem = d.mem := by
  obtain ⟨_, _, e⟩ := elapse_frame k d; rw [e]
@[simp] theorem elapse_port (k : Nat) (d : Dev) : (elapse k d).port = d.port := by
  obtain ⟨_, _, e⟩ := elapse_frame k d; rw [e]
@[simp] theorem elapse_twin (k : Nat) (d : Dev) : (elapse k d).twin = d.twin := by
  obtain ⟨_, _, e⟩ := elapse_frame k d; rw [e]
@[simp] theorem elapse_cnt (k : Nat) (d : Dev) : (elapse k d).cnt = d.cnt := by
  obtain ⟨_, _, e⟩ := elapse_frame k d; rw [e]
@[simp] theorem elapse_free (k : Nat) (d : Dev) : (elapse k d).free = d.free := by
  obtain ⟨_, _, e⟩ := elapse_frame k d; rw [e]
@[simp] theorem elapse_out (k : Nat) (d : Dev) : (elapse k d).out = d.out := by
  obtain ⟨_, _, e⟩ := elapse_frame k d; rw [e]

/-- All that `waitUntil` may change. -/
theorem waitUntil_frame (g : Nat) (d : Dev) : ∃ t b, waitUntil g d =
    { d with time := t, obs := b } := by
  unfold waitUntil
  split
  · exact elapse_frame _ d
  · exact ⟨_, _, rfl⟩
@[simp] theorem waitUntil_host (g : Nat) (d : Dev) : (waitUntil g d).host = d.host := by
  obtain ⟨_, _, e⟩ := waitUntil_frame g d; rw [e]
@[simp] theorem waitUntil_pkg (g : Nat) (d : Dev) : (waitUntil g d).pkg = d.pkg := by
  obtain ⟨_, _, e⟩ := waitUntil_frame g d; rw [e]
@[simp] theorem waitUntil_cfg (g : Nat) (d : Dev) : (waitUntil g d).cfg = d.cfg := by
  obtain ⟨_, _, e⟩ := waitUntil_frame g d; rw [e]
@[simp] theorem waitUntil_sys (g : Nat) (d : Dev) : (waitUntil g d).sys = d.sys := by
  obtain ⟨_, _, e⟩ := waitUntil_frame g d; rw [e]
@[simp] theorem waitUntil_vault (g : Nat) (d : Dev) : (waitUntil g d).vault = d.vault := by
  obtain ⟨_, _, e⟩ := waitUntil_frame g d; rw [e]
@[simp] theorem waitUntil_prot (g : Nat) (d : Dev) : (waitUntil g d).prot = d.prot := by
  obtain ⟨_, _, e⟩ := waitUntil_frame g d; rw [e]
@[simp] theorem waitUntil_cls (g : Nat) (d : Dev) : (waitUntil g d).cls = d.cls := by
  obtain ⟨_, _, e⟩ := waitUntil_frame g d; rw [e]
@[simp] theorem waitUntil_fab (g : Nat) (d : Dev) : (waitUntil g d).fab = d.fab := by
  obtain ⟨_, _, e⟩ := waitUntil_frame g d; rw [e]
@[simp] theorem waitUntil_que (g : Nat) (d : Dev) : (waitUntil g d).que = d.que := by
  obtain ⟨_, _, e⟩ := waitUntil_frame g d; rw [e]
@[simp] theorem waitUntil_ts (g : Nat) (d : Dev) : (waitUntil g d).ts = d.ts := by
  obtain ⟨_, _, e⟩ := waitUntil_frame g d; rw [e]
@[simp] theorem waitUntil_act (g : Nat) (d : Dev) : (waitUntil g d).act = d.act := by
  obtain ⟨_, _, e⟩ := waitUntil_frame g d; rw [e]
@[simp] theorem waitUntil_mem (g : Nat) (d : Dev) : (waitUntil g d).mem = d.mem := by
  obtain ⟨_, _, e⟩ := waitUntil_frame g d; rw [e]
@[simp] theorem waitUntil_port (g : Nat) (d : Dev) : (waitUntil g d).port = d.port := by
  obtain ⟨_, _, e⟩ := waitUntil_frame g d; rw [e]
@[simp] theorem waitUntil_twin (g : Nat) (d : Dev) : (waitUntil g d).twin = d.twin := by
  obtain ⟨_, _, e⟩ := waitUntil_frame g d; rw [e]
@[simp] theorem waitUntil_cnt (g : Nat) (d : Dev) : (waitUntil g d).cnt = d.cnt := by
  obtain ⟨_, _, e⟩ := waitUntil_frame g d; rw [e]
@[simp] theorem waitUntil_free (g : Nat) (d : Dev) : (waitUntil g d).free = d.free := by
  obtain ⟨_, _, e⟩ := waitUntil_frame g d; rw [e]
@[simp] theorem waitUntil_out (g : Nat) (d : Dev) : (waitUntil g d).out = d.out := by
  obtain ⟨_, _, e⟩ := waitUntil_frame g d; rw [e]

/-- All that `waitTicks` may change. -/
theorem waitTicks_frame (e : Nat) (d : Dev) : ∃ t b, waitTicks e d =
    { d with time := t, obs := b } := by
  exact elapse_frame _ d
@[simp] theorem waitTicks_host (e : Nat) (d : Dev) : (waitTicks e d).host = d.host := by
  obtain ⟨_, _, e⟩ := waitTicks_frame e d; rw [e]
@[simp] theorem waitTicks_pkg (e : Nat) (d : Dev) : (waitTicks e d).pkg = d.pkg := by
  obtain ⟨_, _, e⟩ := waitTicks_frame e d; rw [e]
@[simp] theorem waitTicks_cfg (e : Nat) (d : Dev) : (waitTicks e d).cfg = d.cfg := by
  obtain ⟨_, _, e⟩ := waitTicks_frame e d; rw [e]
@[simp] theorem waitTicks_sys (e : Nat) (d : Dev) : (waitTicks e d).sys = d.sys := by
  obtain ⟨_, _, e⟩ := waitTicks_frame e d; rw [e]
@[simp] theorem waitTicks_vault (e : Nat) (d : Dev) : (waitTicks e d).vault = d.vault := by
  obtain ⟨_, _, e⟩ := waitTicks_frame e d; rw [e]
@[simp] theorem waitTicks_prot (e : Nat) (d : Dev) : (waitTicks e d).prot = d.prot := by
  obtain ⟨_, _, e⟩ := waitTicks_frame e d; rw [e]
@[simp] theorem waitTicks_cls (e : Nat) (d : Dev) : (waitTicks e d).cls = d.cls := by
  obtain ⟨_, _, e⟩ := waitTicks_frame e d; rw [e]
@[simp] theorem waitTicks_fab (e : Nat) (d : Dev) : (waitTicks e d).fab = d.fab := by
  obtain ⟨_, _, e⟩ := waitTicks_frame e d; rw [e]
@[simp] theorem waitTicks_que (e : Nat) (d : Dev) : (waitTicks e d).que = d.que := by
  obtain ⟨_, _, e⟩ := waitTicks_frame e d; rw [e]
@[simp] theorem waitTicks_ts (e : Nat) (d : Dev) : (waitTicks e d).ts = d.ts := by
  obtain ⟨_, _, e⟩ := waitTicks_frame e d; rw [e]
@[simp] theorem waitTicks_act (e : Nat) (d : Dev) : (waitTicks e d).act = d.act := by
  obtain ⟨_, _, e⟩ := waitTicks_frame e d; rw [e]
@[simp] theorem waitTicks_mem (e : Nat) (d : Dev) : (waitTicks e d).mem = d.mem := by
  obtain ⟨_, _, e⟩ := waitTicks_frame e d; rw [e]
@[simp] theorem waitTicks_port (e : Nat) (d : Dev) : (waitTicks e d).port = d.port := by
  obtain ⟨_, _, e⟩ := waitTicks_frame e d; rw [e]
@[simp] theorem waitTicks_twin (e : Nat) (d : Dev) : (waitTicks e d).twin = d.twin := by
  obtain ⟨_, _, e⟩ := waitTicks_frame e d; rw [e]
@[simp] theorem waitTicks_cnt (e : Nat) (d : Dev) : (waitTicks e d).cnt = d.cnt := by
  obtain ⟨_, _, e⟩ := waitTicks_frame e d; rw [e]
@[simp] theorem waitTicks_free (e : Nat) (d : Dev) : (waitTicks e d).free = d.free := by
  obtain ⟨_, _, e⟩ := waitTicks_frame e d; rw [e]
@[simp] theorem waitTicks_out (e : Nat) (d : Dev) : (waitTicks e d).out = d.out := by
  obtain ⟨_, _, e⟩ := waitTicks_frame e d; rw [e]

/-- All that `waitLine` may change. -/
theorem waitLine_frame (e : Nat) (d : Dev) : ∃ t b, waitLine e d =
    { d with time := t, obs := b } := by
  unfold waitLine
  split
  · exact ⟨_, _, rfl⟩
  · exact elapse_frame _ d
@[simp] theorem waitLine_host (e : Nat) (d : Dev) : (waitLine e d).host = d.host := by
  obtain ⟨_, _, e⟩ := waitLine_frame e d; rw [e]
@[simp] theorem waitLine_pkg (e : Nat) (d : Dev) : (waitLine e d).pkg = d.pkg := by
  obtain ⟨_, _, e⟩ := waitLine_frame e d; rw [e]
@[simp] theorem waitLine_cfg (e : Nat) (d : Dev) : (waitLine e d).cfg = d.cfg := by
  obtain ⟨_, _, e⟩ := waitLine_frame e d; rw [e]
@[simp] theorem waitLine_sys (e : Nat) (d : Dev) : (waitLine e d).sys = d.sys := by
  obtain ⟨_, _, e⟩ := waitLine_frame e d; rw [e]
@[simp] theorem waitLine_vault (e : Nat) (d : Dev) : (waitLine e d).vault = d.vault := by
  obtain ⟨_, _, e⟩ := waitLine_frame e d; rw [e]
@[simp] theorem waitLine_prot (e : Nat) (d : Dev) : (waitLine e d).prot = d.prot := by
  obtain ⟨_, _, e⟩ := waitLine_frame e d; rw [e]
@[simp] theorem waitLine_cls (e : Nat) (d : Dev) : (waitLine e d).cls = d.cls := by
  obtain ⟨_, _, e⟩ := waitLine_frame e d; rw [e]
@[simp] theorem waitLine_fab (e : Nat) (d : Dev) : (waitLine e d).fab = d.fab := by
  obtain ⟨_, _, e⟩ := waitLine_frame e d; rw [e]
@[simp] theorem waitLine_que (e : Nat) (d : Dev) : (waitLine e d).que = d.que := by
  obtain ⟨_, _, e⟩ := waitLine_frame e d; rw [e]
@[simp] theorem waitLine_ts (e : Nat) (d : Dev) : (waitLine e d).ts = d.ts := by
  obtain ⟨_, _, e⟩ := waitLine_frame e d; rw [e]
@[simp] theorem waitLine_act (e : Nat) (d : Dev) : (waitLine e d).act = d.act := by
  obtain ⟨_, _, e⟩ := waitLine_frame e d; rw [e]
@[simp] theorem waitLine_mem (e : Nat) (d : Dev) : (waitLine e d).mem = d.mem := by
  obtain ⟨_, _, e⟩ := waitLine_frame e d; rw [e]
@[simp] theorem waitLine_port (e : Nat) (d : Dev) : (waitLine e d).port = d.port := by
  obtain ⟨_, _, e⟩ := waitLine_frame e d; rw [e]
@[simp] theorem waitLine_twin (e : Nat) (d : Dev) : (waitLine e d).twin = d.twin := by
  obtain ⟨_, _, e⟩ := waitLine_frame e d; rw [e]
@[simp] theorem waitLine_cnt (e : Nat) (d : Dev) : (waitLine e d).cnt = d.cnt := by
  obtain ⟨_, _, e⟩ := waitLine_frame e d; rw [e]
@[simp] theorem waitLine_free (e : Nat) (d : Dev) : (waitLine e d).free = d.free := by
  obtain ⟨_, _, e⟩ := waitLine_frame e d; rw [e]
@[simp] theorem waitLine_out (e : Nat) (d : Dev) : (waitLine e d).out = d.out := by
  obtain ⟨_, _, e⟩ := waitLine_frame e d; rw [e]

/-- All that `waitIsland` may change. -/
theorem waitIsland_frame (k g : Nat) (d : Dev) : ∃ t b, waitIsland k g d =
    { d with time := t, obs := b } := by
  unfold waitIsland
  dsimp only
  split
  · exact ⟨_, _, rfl⟩
  · exact elapse_frame _ d
@[simp] theorem waitIsland_host (k g : Nat) (d : Dev) : (waitIsland k g d).host = d.host := by
  obtain ⟨_, _, e⟩ := waitIsland_frame k g d; rw [e]
@[simp] theorem waitIsland_pkg (k g : Nat) (d : Dev) : (waitIsland k g d).pkg = d.pkg := by
  obtain ⟨_, _, e⟩ := waitIsland_frame k g d; rw [e]
@[simp] theorem waitIsland_cfg (k g : Nat) (d : Dev) : (waitIsland k g d).cfg = d.cfg := by
  obtain ⟨_, _, e⟩ := waitIsland_frame k g d; rw [e]
@[simp] theorem waitIsland_sys (k g : Nat) (d : Dev) : (waitIsland k g d).sys = d.sys := by
  obtain ⟨_, _, e⟩ := waitIsland_frame k g d; rw [e]
@[simp] theorem waitIsland_vault (k g : Nat) (d : Dev) : (waitIsland k g d).vault = d.vault := by
  obtain ⟨_, _, e⟩ := waitIsland_frame k g d; rw [e]
@[simp] theorem waitIsland_prot (k g : Nat) (d : Dev) : (waitIsland k g d).prot = d.prot := by
  obtain ⟨_, _, e⟩ := waitIsland_frame k g d; rw [e]
@[simp] theorem waitIsland_cls (k g : Nat) (d : Dev) : (waitIsland k g d).cls = d.cls := by
  obtain ⟨_, _, e⟩ := waitIsland_frame k g d; rw [e]
@[simp] theorem waitIsland_fab (k g : Nat) (d : Dev) : (waitIsland k g d).fab = d.fab := by
  obtain ⟨_, _, e⟩ := waitIsland_frame k g d; rw [e]
@[simp] theorem waitIsland_que (k g : Nat) (d : Dev) : (waitIsland k g d).que = d.que := by
  obtain ⟨_, _, e⟩ := waitIsland_frame k g d; rw [e]
@[simp] theorem waitIsland_ts (k g : Nat) (d : Dev) : (waitIsland k g d).ts = d.ts := by
  obtain ⟨_, _, e⟩ := waitIsland_frame k g d; rw [e]
@[simp] theorem waitIsland_act (k g : Nat) (d : Dev) : (waitIsland k g d).act = d.act := by
  obtain ⟨_, _, e⟩ := waitIsland_frame k g d; rw [e]
@[simp] theorem waitIsland_mem (k g : Nat) (d : Dev) : (waitIsland k g d).mem = d.mem := by
  obtain ⟨_, _, e⟩ := waitIsland_frame k g d; rw [e]
@[simp] theorem waitIsland_port (k g : Nat) (d : Dev) : (waitIsland k g d).port = d.port := by
  obtain ⟨_, _, e⟩ := waitIsland_frame k g d; rw [e]
@[simp] theorem waitIsland_twin (k g : Nat) (d : Dev) : (waitIsland k g d).twin = d.twin := by
  obtain ⟨_, _, e⟩ := waitIsland_frame k g d; rw [e]
@[simp] theorem waitIsland_cnt (k g : Nat) (d : Dev) : (waitIsland k g d).cnt = d.cnt := by
  obtain ⟨_, _, e⟩ := waitIsland_frame k g d; rw [e]
@[simp] theorem waitIsland_free (k g : Nat) (d : Dev) : (waitIsland k g d).free = d.free := by
  obtain ⟨_, _, e⟩ := waitIsland_frame k g d; rw [e]
@[simp] theorem waitIsland_out (k g : Nat) (d : Dev) : (waitIsland k g d).out = d.out := by
  obtain ⟨_, _, e⟩ := waitIsland_frame k g d; rw [e]

/-- All that `waitLane` may change. -/
theorem waitLane_frame (k g : Nat) (d : Dev) : ∃ t b, waitLane k g d =
    { d with time := t, obs := b } := by
  unfold waitLane
  split
  · exact waitIsland_frame _ g d
  · exact waitUntil_frame _ d
@[simp] theorem waitLane_host (k g : Nat) (d : Dev) : (waitLane k g d).host = d.host := by
  obtain ⟨_, _, e⟩ := waitLane_frame k g d; rw [e]
@[simp] theorem waitLane_pkg (k g : Nat) (d : Dev) : (waitLane k g d).pkg = d.pkg := by
  obtain ⟨_, _, e⟩ := waitLane_frame k g d; rw [e]
@[simp] theorem waitLane_cfg (k g : Nat) (d : Dev) : (waitLane k g d).cfg = d.cfg := by
  obtain ⟨_, _, e⟩ := waitLane_frame k g d; rw [e]
@[simp] theorem waitLane_sys (k g : Nat) (d : Dev) : (waitLane k g d).sys = d.sys := by
  obtain ⟨_, _, e⟩ := waitLane_frame k g d; rw [e]
@[simp] theorem waitLane_vault (k g : Nat) (d : Dev) : (waitLane k g d).vault = d.vault := by
  obtain ⟨_, _, e⟩ := waitLane_frame k g d; rw [e]
@[simp] theorem waitLane_prot (k g : Nat) (d : Dev) : (waitLane k g d).prot = d.prot := by
  obtain ⟨_, _, e⟩ := waitLane_frame k g d; rw [e]
@[simp] theorem waitLane_cls (k g : Nat) (d : Dev) : (waitLane k g d).cls = d.cls := by
  obtain ⟨_, _, e⟩ := waitLane_frame k g d; rw [e]
@[simp] theorem waitLane_fab (k g : Nat) (d : Dev) : (waitLane k g d).fab = d.fab := by
  obtain ⟨_, _, e⟩ := waitLane_frame k g d; rw [e]
@[simp] theorem waitLane_que (k g : Nat) (d : Dev) : (waitLane k g d).que = d.que := by
  obtain ⟨_, _, e⟩ := waitLane_frame k g d; rw [e]
@[simp] theorem waitLane_ts (k g : Nat) (d : Dev) : (waitLane k g d).ts = d.ts := by
  obtain ⟨_, _, e⟩ := waitLane_frame k g d; rw [e]
@[simp] theorem waitLane_act (k g : Nat) (d : Dev) : (waitLane k g d).act = d.act := by
  obtain ⟨_, _, e⟩ := waitLane_frame k g d; rw [e]
@[simp] theorem waitLane_mem (k g : Nat) (d : Dev) : (waitLane k g d).mem = d.mem := by
  obtain ⟨_, _, e⟩ := waitLane_frame k g d; rw [e]
@[simp] theorem waitLane_port (k g : Nat) (d : Dev) : (waitLane k g d).port = d.port := by
  obtain ⟨_, _, e⟩ := waitLane_frame k g d; rw [e]
@[simp] theorem waitLane_twin (k g : Nat) (d : Dev) : (waitLane k g d).twin = d.twin := by
  obtain ⟨_, _, e⟩ := waitLane_frame k g d; rw [e]
@[simp] theorem waitLane_cnt (k g : Nat) (d : Dev) : (waitLane k g d).cnt = d.cnt := by
  obtain ⟨_, _, e⟩ := waitLane_frame k g d; rw [e]
@[simp] theorem waitLane_free (k g : Nat) (d : Dev) : (waitLane k g d).free = d.free := by
  obtain ⟨_, _, e⟩ := waitLane_frame k g d; rw [e]
@[simp] theorem waitLane_out (k g : Nat) (d : Dev) : (waitLane k g d).out = d.out := by
  obtain ⟨_, _, e⟩ := waitLane_frame k g d; rw [e]

/-- All that `waitPort` may change. -/
theorem waitPort_frame (p t16 : Nat) (d : Dev) : ∃ t b, waitPort p t16 d =
    { d with time := t, obs := b } := by
  exact waitLane_frame p _ d
@[simp] theorem waitPort_host (p t16 : Nat) (d : Dev) : (waitPort p t16 d).host = d.host := by
  obtain ⟨_, _, e⟩ := waitPort_frame p t16 d; rw [e]
@[simp] theorem waitPort_pkg (p t16 : Nat) (d : Dev) : (waitPort p t16 d).pkg = d.pkg := by
  obtain ⟨_, _, e⟩ := waitPort_frame p t16 d; rw [e]
@[simp] theorem waitPort_cfg (p t16 : Nat) (d : Dev) : (waitPort p t16 d).cfg = d.cfg := by
  obtain ⟨_, _, e⟩ := waitPort_frame p t16 d; rw [e]
@[simp] theorem waitPort_sys (p t16 : Nat) (d : Dev) : (waitPort p t16 d).sys = d.sys := by
  obtain ⟨_, _, e⟩ := waitPort_frame p t16 d; rw [e]
@[simp] theorem waitPort_vault (p t16 : Nat) (d : Dev) : (waitPort p t16 d).vault = d.vault := by
  obtain ⟨_, _, e⟩ := waitPort_frame p t16 d; rw [e]
@[simp] theorem waitPort_prot (p t16 : Nat) (d : Dev) : (waitPort p t16 d).prot = d.prot := by
  obtain ⟨_, _, e⟩ := waitPort_frame p t16 d; rw [e]
@[simp] theorem waitPort_cls (p t16 : Nat) (d : Dev) : (waitPort p t16 d).cls = d.cls := by
  obtain ⟨_, _, e⟩ := waitPort_frame p t16 d; rw [e]
@[simp] theorem waitPort_fab (p t16 : Nat) (d : Dev) : (waitPort p t16 d).fab = d.fab := by
  obtain ⟨_, _, e⟩ := waitPort_frame p t16 d; rw [e]
@[simp] theorem waitPort_que (p t16 : Nat) (d : Dev) : (waitPort p t16 d).que = d.que := by
  obtain ⟨_, _, e⟩ := waitPort_frame p t16 d; rw [e]
@[simp] theorem waitPort_ts (p t16 : Nat) (d : Dev) : (waitPort p t16 d).ts = d.ts := by
  obtain ⟨_, _, e⟩ := waitPort_frame p t16 d; rw [e]
@[simp] theorem waitPort_act (p t16 : Nat) (d : Dev) : (waitPort p t16 d).act = d.act := by
  obtain ⟨_, _, e⟩ := waitPort_frame p t16 d; rw [e]
@[simp] theorem waitPort_mem (p t16 : Nat) (d : Dev) : (waitPort p t16 d).mem = d.mem := by
  obtain ⟨_, _, e⟩ := waitPort_frame p t16 d; rw [e]
@[simp] theorem waitPort_port (p t16 : Nat) (d : Dev) : (waitPort p t16 d).port = d.port := by
  obtain ⟨_, _, e⟩ := waitPort_frame p t16 d; rw [e]
@[simp] theorem waitPort_twin (p t16 : Nat) (d : Dev) : (waitPort p t16 d).twin = d.twin := by
  obtain ⟨_, _, e⟩ := waitPort_frame p t16 d; rw [e]
@[simp] theorem waitPort_cnt (p t16 : Nat) (d : Dev) : (waitPort p t16 d).cnt = d.cnt := by
  obtain ⟨_, _, e⟩ := waitPort_frame p t16 d; rw [e]
@[simp] theorem waitPort_free (p t16 : Nat) (d : Dev) : (waitPort p t16 d).free = d.free := by
  obtain ⟨_, _, e⟩ := waitPort_frame p t16 d; rw [e]
@[simp] theorem waitPort_out (p t16 : Nat) (d : Dev) : (waitPort p t16 d).out = d.out := by
  obtain ⟨_, _, e⟩ := waitPort_frame p t16 d; rw [e]

/-- All that `twinPost` may change. -/
theorem twinPost_frame (x : TwinBody) (d : Dev) : ∃ y, twinPost x d =
    { d with twin := y } := by
  unfold twinPost
  split <;> exact ⟨_, rfl⟩
@[simp] theorem twinPost_time (x : TwinBody) (d : Dev) : (twinPost x d).time = d.time := by
  obtain ⟨_, e⟩ := twinPost_frame x d; rw [e]
@[simp] theorem twinPost_host (x : TwinBody) (d : Dev) : (twinPost x d).host = d.host := by
  obtain ⟨_, e⟩ := twinPost_frame x d; rw [e]
@[simp] theorem twinPost_pkg (x : TwinBody) (d : Dev) : (twinPost x d).pkg = d.pkg := by
  obtain ⟨_, e⟩ := twinPost_frame x d; rw [e]
@[simp] theorem twinPost_cfg (x : TwinBody) (d : Dev) : (twinPost x d).cfg = d.cfg := by
  obtain ⟨_, e⟩ := twinPost_frame x d; rw [e]
@[simp] theorem twinPost_sys (x : TwinBody) (d : Dev) : (twinPost x d).sys = d.sys := by
  obtain ⟨_, e⟩ := twinPost_frame x d; rw [e]
@[simp] theorem twinPost_vault (x : TwinBody) (d : Dev) : (twinPost x d).vault = d.vault := by
  obtain ⟨_, e⟩ := twinPost_frame x d; rw [e]
@[simp] theorem twinPost_prot (x : TwinBody) (d : Dev) : (twinPost x d).prot = d.prot := by
  obtain ⟨_, e⟩ := twinPost_frame x d; rw [e]
@[simp] theorem twinPost_cls (x : TwinBody) (d : Dev) : (twinPost x d).cls = d.cls := by
  obtain ⟨_, e⟩ := twinPost_frame x d; rw [e]
@[simp] theorem twinPost_fab (x : TwinBody) (d : Dev) : (twinPost x d).fab = d.fab := by
  obtain ⟨_, e⟩ := twinPost_frame x d; rw [e]
@[simp] theorem twinPost_que (x : TwinBody) (d : Dev) : (twinPost x d).que = d.que := by
  obtain ⟨_, e⟩ := twinPost_frame x d; rw [e]
@[simp] theorem twinPost_ts (x : TwinBody) (d : Dev) : (twinPost x d).ts = d.ts := by
  obtain ⟨_, e⟩ := twinPost_frame x d; rw [e]
@[simp] theorem twinPost_act (x : TwinBody) (d : Dev) : (twinPost x d).act = d.act := by
  obtain ⟨_, e⟩ := twinPost_frame x d; rw [e]
@[simp] theorem twinPost_mem (x : TwinBody) (d : Dev) : (twinPost x d).mem = d.mem := by
  obtain ⟨_, e⟩ := twinPost_frame x d; rw [e]
@[simp] theorem twinPost_port (x : TwinBody) (d : Dev) : (twinPost x d).port = d.port := by
  obtain ⟨_, e⟩ := twinPost_frame x d; rw [e]
@[simp] theorem twinPost_obs (x : TwinBody) (d : Dev) : (twinPost x d).obs = d.obs := by
  obtain ⟨_, e⟩ := twinPost_frame x d; rw [e]
@[simp] theorem twinPost_cnt (x : TwinBody) (d : Dev) : (twinPost x d).cnt = d.cnt := by
  obtain ⟨_, e⟩ := twinPost_frame x d; rw [e]
@[simp] theorem twinPost_free (x : TwinBody) (d : Dev) : (twinPost x d).free = d.free := by
  obtain ⟨_, e⟩ := twinPost_frame x d; rw [e]
@[simp] theorem twinPost_out (x : TwinBody) (d : Dev) : (twinPost x d).out = d.out := by
  obtain ⟨_, e⟩ := twinPost_frame x d; rw [e]

/-! ### How far time runs -/

@[simp] theorem elapse_elapsed (k : Nat) (d : Dev) : (elapse k d).time.elapsed = d.time.elapsed + k := rfl

/-- After a wait the instant has come. -/
theorem waitTicks_elapsed (e : Nat) (d : Dev) : e ≤ (waitTicks e d).time.elapsed := by
  unfold waitTicks
  rw [elapse_elapsed]
  omega

end Sys2Proof.Machine
end

