-- ==== Sys2Proof/Laws/Otp.lean ====
section
/-! SUPPORT. Sys2Proof/Laws/Otp.lean: programming one-time memory keeps every programmed bit. -/
namespace Sys2Proof.Machine

theorem Otp.kept_refl (o : Otp) : Otp.kept o o := fun _ _ h => h

theorem Otp.kept_trans {o p q : Otp} (h : Otp.kept o p) (g : Otp.kept p q) : Otp.kept o q := fun a i x => g a i (h a i x)

theorem bit_or (v w i : Nat) : bit (v ||| w) i = (bit v i || bit w i) := by
  simp only [bit, Nat.testBit_or]

/-- Every programmed bit of a byte stays programmed when bits are burned. -/
theorem burn_kept (a mask : Nat) (o : Otp) : Otp.kept o (burn a mask o) := by
  intro b i h
  unfold burn
  split
  · exact h
  · unfold otpByte at h ⊢
    simp only [bit_or, Bool.or_eq_true] at h ⊢
    rcases h with h | h
    · exact .inl h
    · by_cases e : b = a
      · subst e; right
        simp only [Map.get, Map.get?_put, Option.getD_some, bit_or, Bool.or_eq_true]
        exact .inl h
      · right
        simpa only [Map.get, Map.get?_put_ne _ _ _ _ e] using h

theorem burnBytes_kept (a : Nat) (bs : Bytes) (o : Otp) : Otp.kept o (burnBytes a bs o) := by
  induction bs generalizing a o with
  | nil => exact Otp.kept_refl o
  | cons b bs ih => exact Otp.kept_trans (burn_kept a b.toNat o) (ih (a + 1) _)

theorem burnNext_kept (a n : Nat) (o : Otp) : Otp.kept o (burnNext a n o) := by
  unfold burnNext
  dsimp only
  split
  · exact burn_kept _ _ _
  · exact Otp.kept_refl o

end Sys2Proof.Machine
end

