-- ==== Sys2Proof/WellFormed.lean ====
section
/-! DEFINITION. Sys2Proof/WellFormed.lean: which commands can be given at all: operands of the sizes that their carriers
have. A command whose operands break a rule of the spec is well formed: the device answers it. -/
namespace Sys2Proof

/-- R45: the request half holds 4,096 bytes, 32 of them the header. -/
def Request.wf (r : Request) : Bool := decide (r.body.length ≤ 4064)

/-- A frame on a wire has addresses, an EtherType and its FCS. -/
def RxFrame.wf (f : RxFrame) : Bool := decide (18 ≤ f.bytes.length)

/-- A wrapped SAK is 24 or 40 bytes long, a member identifier 12 (R127). -/
def DistSak.wf (k : DistSak) : Bool := decide ((k.wrapped.length = 24 ∨ k.wrapped.length = 40) ∧ k.mi.length = 12)

/-- R405: nonces and MACs are 16 bytes long. -/
def TwinHello.wf (m : TwinHello) : Bool :=
  decide (m.nonce.length = 16) && (match m.mac with | some b => decide (b.length = 16) | none => true)

/-- R407: taps are five, and a SAK has its length. -/
def TwinBody.wf : TwinBody → Bool
  | .portTaps _ taps => decide (taps.length = 5)
  | .mkaSession _ _ _ _ _ _ sak => match sak with | some k => k.wf | none => true
  | .configSet _ _ => true
  | .keyBlob _ _ _ => true
  | .saBlob _ _ => true
  | .pnReservation _ _ => true
  | .rxState _ _ => true
  | .timedActions _ => true
  | .gateList _ _ _ _ => true
  | .learned _ _ _ _ => true
  | .control _ _ _ _ => true

/-- A record that is known has a well-formed body. -/
def TwinRecord.wf (r : TwinRecord) : Bool := match r.body with | some b => b.wf | none => true

/-- Can the command be given? -/
def Instr.wf : Instr → Bool
  | .porstNAssert => true
  | .porstNRelease _ _ _ => true
  | .srstNAssert => true
  | .srstNRelease _ => true
  | .powerLoss _ => true
  | .vstbyPowerOn => true
  | .pciePerst => true
  | .pcieLinkDown => true
  | .functionLevelReset => true
  | .memoryBistComplete _ => true
  | .hubRomBoot => true
  | .stockpotTrainingComplete _ _ => true
  | .firmwareStart => true
  | .portEnableGraceExpiry _ => true
  | .registerWrite p _ => (match p with | .bar0 _ size => size == 1 || size == 2 || size == 4 || size == 8 | .config _ => true)
  | .mailboxRequestWrite off data => decide (0 < data.length ∧ off.toNat + data.length ≤ 0x40000)
  | .mbDoneClear _ => true
  | .faultCauseClear _ => true
  | .fwRestartRequest _ => true
  | .tsnapTrigger _ => true
  | .nrEnable _ => true
  | .nrHeadWrite _ => true
  | .ringOverflow => true
  | .hostifCntLowRead _ => true
  | .windowDataWrite _ _ _ off data => decide (0 < data.length ∧ off.val + data.length ≤ 64)
  | .windowCommit _ _ _ _ => true
  | .windowControlWrite _ _ _ _ => true
  | .windowReadSnapshot _ _ _ _ => true
  | .dmaEnable _ _ => true
  | .dmaReset _ _ => true
  | .dmaRingPost _ _ => true
  | .dmaDescriptorStart _ desc => decide (desc.length = 32)
  | .dmaDescriptorDone _ _ _ => true
  | .fwAliveTick => true
  | .watchdogExpiry => true
  | .fwRestartComplete => true
  | .authLockoutEnd => true
  | .systemIdentity r => r.wf
  | .systemPower r => r.wf
  | .sleepEntryComplete => true
  | .wakeComplete => true
  | .systemReset r => r.wf
  | .systemResetFire _ => true
  | .startupSetSave r => r.wf
  | .startupSetSaveComplete => true
  | .systemStartupQuery r => r.wf
  | .debugEnable r => r.wf
  | .pkgCntRead r => r.wf
  | .authChallenge r => r.wf
  | .flitSend _ _ _ _ p => decide (p.length ≤ 256)
  | .flitReceive _ _ _ _ w _ => decide (w.length = 80)
  | .linkRetrainComplete _ => true
  | .linkRetrainFail _ => true
  | .beaconSend => true
  | .beaconReceive _ => true
  | .beaconReplyReceive _ => true
  | .islandUnlock _ => true
  | .islandHubLoad _ => true
  | .configLoadShadow r => r.wf
  | .configLoadComplete => true
  | .configQuery r => r.wf
  | .swapSet r => r.wf
  | .configSwapCancel r => r.wf
  | .configSwapInstant => true
  | .swapDrainEnd => true
  | .swapDrainTimeout => true
  | .configWrite r => r.wf
  | .calRead r => r.wf
  | .cfgCntRead r => r.wf
  | .frameReceive rx => rx.wf
  | .frameInject inj => decide (14 ≤ inj.bytes.length)
  | .whiskMatch => true
  | .fabricFrameArrival _ => true
  | .residueEnqueue _ => true
  | .residueLifetimeExpiry _ => true
  | .portTransmitSelect _ => true
  | .frameTxEnd _ _ => true
  | .spillReadback _ queue => decide (queue < 9 * 2 ^ 18)
  | .stockpotBlockWrite => true
  | .stockpotVerifyComplete _ _ => true
  | .regionRebuild _ => true
  | .regionRebuildComplete _ _ => true
  | .rekeyTrigger _ => true
  | .rekeyStart => true
  | .rekeyComplete => true
  | .memStatus r => r.wf
  | .memRegionRekey r => r.wf
  | .memRegionReturn r => r.wf
  | .memCntRead r => r.wf
  | .secyQuery r => r.wf
  | .secyCntRead r => r.wf
  | .secyPortEnable r => r.wf
  | .rxscCreate r => r.wf
  | .rxscDelete r => r.wf
  | .rxscQuery r => r.wf
  | .cportCntRead r => r.wf
  | .mkaFrameProcess => true
  | .mkaHelloSend _ _ => true
  | .mkaPeerTimeout _ _ => true
  | .saInstall r => r.wf
  | .saInstallBulk r => r.wf
  | .saKeyLoad _ => true
  | .saTxSwitch r => r.wf
  | .saTxSwitchInstant _ _ => true
  | .saBatchSwitch r => r.wf
  | .saBatchInstant _ => true
  | .saBatchCancel r => r.wf
  | .saRetire r => r.wf
  | .saQuery r => r.wf
  | .saCntRead r => r.wf
  | .keyCntRead r => r.wf
  | .mkaCaSet r => r.wf
  | .mkaCaLoad => true
  | .mkaCaQuery r => r.wf
  | .rxRetireTimerExpiry _ => true
  | .saDrained _ => true
  | .saDrainLimitExpiry _ => true
  | .switchGraceExpiry _ _ => true
  | .tamperLoopSample _ _ _ => true
  | .supplyMonitorEvent _ _ => true
  | .clockMonitorEvent _ => true
  | .tempSensorReading raw => decide (raw.length = 15)
  | .trngHealthFail => true
  | .trngRetest _ => true
  | .drbgReseed => true
  | .vaultStatus r => r.wf
  | .lcChange r => r.wf
  | .lcTakeOwnership r => r.wf
  | .ownerRootRotate r => r.wf
  | .tamperClear r => r.wf
  | .vaultKeyInstall r => r.wf
  | .vaultKeyLoad => true
  | .vaultKeyActivate r => r.wf
  | .vaultKeyDelete r => r.wf
  | .vaultKeyQuery r => r.wf
  | .keyActivationInstant _ => true
  | .laJobStart r => r.wf
  | .laJobAbort r => r.wf
  | .laJobComplete _ => true
  | .laJobIdleTimeout _ => true
  | .nonceCeilingCommit => true
  | .vaultRandom r => r.wf
  | .otpRead r => r.wf
  | .vaultCntRead r => r.wf
  | .learnInsert _ => true
  | .stashDrain _ => true
  | .prefixWriteApply _ => true
  | .agingSweep _ => true
  | .sweeperClamp _ => true
  | .pinExpiry _ => true
  | .learnTimeRebase => true
  | .unifyPropagate _ => true
  | .unifyResync => true
  | .tableAdd r => r.wf
  | .tableDelete r => r.wf
  | .tableLookup r => r.wf
  | .tableFlush r => r.wf
  | .tableFlushComplete _ => true
  | .tableInfo r => r.wf
  | .tableUnpin r => r.wf
  | .clsCntRead r => r.wf
  | .fabricGroupSet r => r.wf
  | .fabricGroupQuery r => r.wf
  | .fabricPortQuery r => r.wf
  | .mirrorPlainEnable r => r.wf
  | .mirrorQuery r => r.wf
  | .fabCntRead r => r.wf
  | .bufStatus r => r.wf
  | .bucketRefill _ => true
  | .sfqIdleSweep _ => true
  | .queueQuery r => r.wf
  | .shaperQuery r => r.wf
  | .meterQuery r => r.wf
  | .portSchedQuery r => r.wf
  | .queCntRead r => r.wf
  | .queueFlush r => r.wf
  | .queueFlushComplete _ => true
  | .ppsinEdge => true
  | .todMessage msg => decide (msg.length = 16)
  | .todOutput => true
  | .ppsMissing => true
  | .tref10Loss => true
  | .tref10RateWindow _ => true
  | .acquireEntry => true
  | .acquireTimeout => true
  | .timeStepInstant => true
  | .sourceLossTimeout => true
  | .pulseEdge _ => true
  | .tciEdge _ _ => true
  | .timeQuery r => r.wf
  | .timeUnlock r => r.wf
  | .timeStep r => r.wf
  | .timeRate r => r.wf
  | .timeSlew r => r.wf
  | .timePulseSet r => r.wf
  | .timeCaptureSet r => r.wf
  | .timeCaptureRead r => r.wf
  | .timePtmRead r => r.wf
  | .timeCntRead r => r.wf
  | .ptpMessageProcess => true
  | .ptpSyncSend _ _ => true
  | .ptpAnnounceSend _ _ => true
  | .ptpPdelayReqSend _ => true
  | .announceReceiptTimeout _ => true
  | .ptpTsRead r => r.wf
  | .ptpPortQuery r => r.wf
  | .ptpLinkDelaySet r => r.wf
  | .ptpInstanceQuery r => r.wf
  | .tsCntRead r => r.wf
  | .gateListInstall r => r.wf
  | .gateConfigChangeInstant _ => true
  | .gateEvent _ => true
  | .gateListRestart _ => true
  | .gateListCancel r => r.wf
  | .gateListRead r => r.wf
  | .gateStatus r => r.wf
  | .eggReadback _ => true
  | .eggRelease _ => true
  | .cdPeerSet r => r.wf
  | .cdQuery r => r.wf
  | .actionList r => r.wf
  | .eggCntRead r => r.wf
  | .trainingFrameReceive _ req _ => decide (req.taps.length = 5)
  | .portAnComplete _ _ _ => true
  | .portTrainingComplete _ => true
  | .portTrainingTimeout _ => true
  | .portAligned _ => true
  | .portAlignTimeout _ => true
  | .remoteFaultReceived _ => true
  | .remoteFaultCleared _ => true
  | .linkSignalLoss _ _ => true
  | .linkSignalRestored _ => true
  | .linkDownHoldExpiry _ => true
  | .partnerAnRestart _ => true
  | .adaptWindow _ _ => true
  | .twinTrainingSetReceive _ set => decide (set.length = 16)
  | .twinLaneTrainTimeout _ => true
  | .eyeScanPoint _ _ => true
  | .portQuery r => r.wf
  | .portAdmin r => r.wf
  | .portCntRead r => r.wf
  | .laneQuery r => r.wf
  | .laneEyeScan r => r.wf
  | .laneEyeAbort r => r.wf
  | .twinAutoAttach => true
  | .twinHello msg => msg.wf
  | .twinHandshakeMac mac => decide (mac.length = 16)
  | .twinHandshakeTimeout => true
  | .twinRecordSend => true
  | .twinRecordReceive rec => rec.wf
  | .twinRecordAck _ => true
  | .twinRxStateSend => true
  | .yoyoSend => true
  | .yoyoReceive _ => true
  | .heartbeatMiss => true
  | .twinLostTimeout => true
  | .twinTimeExchange _ _ => true
  | .twfailITakeover => true
  | .twinQuery r => r.wf
  | .twinPairkeyInstall r => r.wf
  | .twinAttach r => r.wf
  | .twinDetach r => r.wf
  | .twinTakeover r => r.wf
  | .twinCntRead r => r.wf
  | .recordWrite => true
  | .recordsSuppressed => true
  | .hoursCommit => true
  | .perfConfig r => r.wf
  | .perfRead r => r.wf
  | .perfLatch r => r.wf
  | .recordRange r => r.wf
  | .recordRead r => r.wf
  | .tempRead r => r.wf
  | .diagLoopback r => r.wf
  | .diagPrbs r => r.wf
  | .obsCntRead r => r.wf
  | .fwQuery r => r.wf
  | .fwImageWrite r => r.wf
  | .fwImageWriteComplete => true
  | .fwImageVerify r => r.wf
  | .fwImageVerifyComplete => true
  | .fwActivate r => r.wf
  | .fwCommit r => r.wf
  | .fwRollbackAdvance r => r.wf
  | .firmwareFault => true
  | .doorbellDiscard _ => true
  | .reservedOpcode _ r => r.wf
  | .ptpDelayReqSend _ _ => true
  | .tref10Return => true
  | .prbsLock _ => true
  | .prbsLockLoss _ _ => true

end Sys2Proof
end

