-- ==== Sys2Proof/Tests/Slice0.lean ====
section
/-! SUPPORT. The model's own tests: ill-formed commands are refused, the spec's worked numbers come out, and each
statement's hypotheses are met by operands written out here. -/
namespace Sys2Proof.Machine.Tests

set_option Elab.async false

/-! ### Witnesses: a device that is up, and requests to it -/

/-- The set in force: P0 a plain trunk with PTP, C0 a cipher trunk (port 16) with the untagged SecY 0 of die L0, host
keying, and F0 a feeder (port 32). -/
def set : SetParams where
  ports := [(0, { form := 1, side := 0, ptpMode := 1 }), (16, { form := 3, side := 1, vlanSecy := [(5, 1)] }),
    (32, { form := 4, side := 0 }), (96, { form := 7, side := 2 }), (97, { form := 4, side := 2 })]
  secys := [(0, { die := 0, port := 16, index := 0, vid := 0, txSci := 1, implicitSci := 2 }),
    (1, { die := 0, port := 16, index := 1, vid := 5, hostKeying := false, txSci := 3, implicitSci := 4,
          cd := { mode := 1 } })]
  queues := [(0, { port := 0, cls := 0 }), (262143, { port := 16, cls := 7, secy := some 0 })]
  shapers := [(0, { role := 2, cls := 0, port := 0, cir := 1000, pir := 2000, cbs := 1600, pbs := 3200 })]
  meters := [(0, { mode := 0, colour := 0, cir := 1000, rate2 := 1000, cbs := 1600, burst2 := 1600 })]
  mirrors := [(0, { enabled := true, point := 0, source := some 0, dest := 32, sampleN := 2 })]
  ptp := [(0, { role := 1, ports := [0], timeSource := true })]

/-- A frame of 60 bytes that entered by P0, bound for P0 under the set in force. -/
def frm : Frame where
  id := 1
  data := zeros 12 ++ [0x08, 0x00] ++ zeros 46
  gen := 1
  inPort := 32
  source := 0
  classTime := 0
  tIn := 0
  epoch := 0
  cls := 0
  dest := 0x10000000
  queue := 0
  treat := .plain
  slot := none
  adm := 64
  yellow := false
  whole := true
  early := false
  head := false
  stomp := none
  copy := false
  mirror := none
  stampFor := none
  late := none
  plainView := false
  stored := 1
  linkDelay := 0
  timeFlags := 0
  stamp := none
  blocks := []
  readBack := false
  unverified := []
  waited := false
  pnWaited := false
  verifyWaited := false
  pn := 0
  group := none

/-- The active set's image. -/
def img : SetImg := ⟨7, 0, [], set, 1⟩

/-- A package link in the UP state, keyed. -/
def upLink : PkgLink := ⟨.up, [], 0, [], ⟨zeros 32, 0, 0, []⟩, ⟨zeros 32, 0, 0, []⟩, zeros 32, zeros 32, 0, 0⟩

/-- A device that has started with the set in force: out of reset, firmware ready, every package link UP. -/
def up : Dev := { Dev.reset with
  sys := { Sys.reset with porst := true, srst := true, romDone := true, vaultDone := true, bistDone := true,
                          stockpotDone := true, fwRunning := true, keysLoaded := true }
  host := { HostIf.reset with fwReady := true, trafficReady := true }
  time := { TimeBase.reset with running := true, elapsed := 1000, lineElapsed := 1000 }
  pkg := { Dev.reset.pkg with present := 0xFF, links := (List.range 5).map (fun k => (k, upLink)) }
  cfg := { Cfg.reset with active := some img } }

/-- The device `d` with unused one-time memory and no command waiting. -/
def st (d : Dev) : State := ⟨[], ⟨[]⟩, d⟩

/-- A request on mailbox 0 with a payload. -/
def ask (pl : Bytes) (target : BitVec 32 := 0xF0000000) : Request :=
  { mb := 0, length := BitVec.ofNat 32 pl.length, sequence := 1, target := target, body := pl }

/-- Everything `Taken` asks, as a test. -/
def takes (c : CmdInfo) (r : Request) (t : Target) (s : State) : Bool :=
  s.dev.sys.porst && s.dev.sys.srst && s.dev.sys.romDone && !s.dev.host.pci.d3hot && s.dev.host.fwReady && !(mailbox r.mb.val s.dev).busy
    && (mailbox r.mb.val s.dev).stored.all (fun x => decide (x.1 ≠ r.sequence.toNat))
    && decide (r.length.toNat = c.len) && decide (r.flags.toNat < 4) && decide (r.reserved.toNat = 0)
    && (!c.held || decide (s.dev.vault.lc ≠ 3 ∧ s.dev.vault.lc ≠ 4))
    && decide (readTarget c.scopes r.target.toNat s.dev = .ok t) && (!(t.needsAwake || c.awake) || awake s.dev)
    && (!c.vault || vaultUp s.dev) && !c.shared t (payload r) s.dev && c.resv (payload r)

theorem asked_of_takes {c : CmdInfo} {r : Request} {t : Target} {s : State} (h : takes c r t s = true) : Asked c r t s := by
  simp only [takes, Bool.and_eq_true, decide_eq_true_eq, Bool.not_eq_true'] at h
  obtain ⟨⟨⟨⟨⟨⟨⟨⟨⟨⟨⟨⟨⟨⟨⟨h1, h2⟩, h3⟩, h0⟩, h4⟩, h5⟩, h6⟩, h7⟩, h8⟩, h9⟩, h10⟩, h12⟩, h13⟩, h14⟩, h15⟩, h16⟩ := h
  exact ⟨h1, h2, h3, h0, h4, h5, h6, h7, h8, h9, fun e => by simpa [e] using h10, h12, fun e => by simpa [e] using h13,
    fun e => by simpa [e] using h14, h15, h16⟩

theorem tk {c : CmdInfo} {r : Request} {t : Target} {s : State}
    (h : (takes c r t s && !needsAuth c r) = true) : Taken c r t s := by
  simp only [Bool.and_eq_true, Bool.not_eq_true'] at h
  exact ⟨asked_of_takes h.1, h.2⟩

/-- The command runs: it answers a next state. -/
abbrev Runs (c : Instr) (s : State) : Prop := ∃ t, exec c s = .next t

/-- The bytes of an instant given in ns (R15). -/
def inst (ns : Nat) : Bytes := (⟨ns / 1000000000, ns % 1000000000, 0⟩ : TS96).bytes

/-- The device under a changed set. -/
def withSet (f : SetParams → SetParams) (d : Dev) : Dev :=
  { d with cfg := { d.cfg with active := d.cfg.active.map (fun a => { a with params := f a.params }) } }

/-- The device with its time base changed. -/
def withTime (f : TimeBase → TimeBase) (d : Dev) : Dev := { d with time := f d.time }

theorem runs {c : Instr} {s : State} {P : State → Prop} (h : ∃ t, exec c s = .next t ∧ P t) : Runs c s :=
  h.elim (fun t e => ⟨t, e.1⟩)

/-! An authorized request: the token under the token key of the state, which is the zero key here, and a challenge of
zeros; the serial number of the device is not known (R57, R58). -/

theorem aesEncRounds_length (ks : List (List Nat)) (s : List Nat) (h : (ks.getLast?.map List.length) = some 16) :
    (aesEncRounds ks s).length = 16 := by
  induction ks generalizing s with
  | nil => simp at h
  | cons k ks ih =>
    cases ks with
    | nil =>
      have : k.length = 16 := by simpa using h
      simp [aesEncRounds, xorL, aesShift, this]
    | cons k2 ks => exact ih _ (by simpa using h)

theorem aesBlock_zero_length (b : Bytes) : (aesBlock (aesRoundKeys (zeros 32)) b).length = 16 := by
  have e : ∃ k ks, aesRoundKeys (zeros 32) = k :: ks ∧ ks.getLast?.map List.length = some 16 := by
    refine ⟨(aesRoundKeys (zeros 32)).head!, (aesRoundKeys (zeros 32)).tail, ?_, ?_⟩ <;> decide +kernel
  obtain ⟨k, ks, e, hk⟩ := e
  rw [e]
  simp [aesBlock, aesEncRounds_length _ _ hk]

theorem cmacChain_zero_length (bs : List Bytes) (c : Bytes) (h : bs ≠ []) :
    (cmacChain (aesRoundKeys (zeros 32)) bs c).length = 16 := by
  induction bs generalizing c with
  | nil => exact absurd rfl h
  | cons b bs ih =>
    cases bs with
    | nil => exact aesBlock_zero_length _
    | cons b2 bs => exact ih _ (by simp)

theorem aesCmac_zero_length (m : Bytes) : (aesCmac (zeros 32) m).length = 16 := by
  unfold aesCmac; exact cmacChain_zero_length _ _ (by simp)

/-- The token of a request to a target. -/
def token (op : Nat) (pl : Bytes) (t : BitVec 32) : Bytes :=
  aesCmac (zeros 32) (zeros 16 ++ le 8 Config.serial
    ++ headerBytes op { mb := 0, flags := 1, length := BitVec.ofNat 32 pl.length, sequence := 1, target := t } ++ pl)

/-- A request on mailbox 0 with a payload and its trailer. -/
def signed (op : Nat) (pl : Bytes) (t : BitVec 32 := 0xF0000000) : Request :=
  { mb := 0, flags := 1, length := BitVec.ofNat 32 pl.length, sequence := 1, target := t, body := pl ++ token op pl t }

/-- A device in a life-cycle state, with its token key and a challenge on mailbox 0. -/
def keyed (lc : Nat) (d : Dev) : Dev :=
  { d with
    vault := { d.vault with lc := lc, derived := Map.put d.vault.derived (tokenPurpose lc) ⟨3, 0, zeros 32⟩ }
    host := { d.host with mbs := Map.put d.host.mbs 0 { emptyMailbox with challenge := some (zeros 16, 1000) } } }

theorem slice_mid (a b : Bytes) (n : Nat) (h : a.length + b.length ≤ 4064) (hn : n = a.length) (hb : b.length = 16) :
    slice ((a ++ b).take 4064) n 16 = b := by
  subst hn
  have e : (a ++ b).take 4064 = a ++ b := List.take_of_length_le (by simpa using h)
  simp [slice, e, zeros, List.take_of_length_le, hb]

theorem slice_front (a b : Bytes) (n : Nat) (h : a.length + b.length ≤ 4064) (hn : n = a.length) :
    slice ((a ++ b).take 4064) 0 n = a := by
  subst hn
  have e : (a ++ b).take 4064 = a ++ b := List.take_of_length_le (by simpa using h)
  simp [slice, e, zeros]

theorem gr {c : CmdInfo} {pl : Bytes} {x : BitVec 32} {t : Target} {s : State}
    (h : (takes c (signed c.op pl x) t s && decide (pl.length ≤ 4000) && needsAuth c (signed c.op pl x) && !lockedOut s.dev
      && authAllowed s.dev.vault.lc c.op (payload (signed c.op pl x))
      && decide (liveChallenge 0 s.dev = some (zeros 16)) && decide ((tokenKey s.dev).map Key.bytes = some (zeros 32))) = true) :
    Granted c (signed c.op pl x) t s := by
  simp only [Bool.and_eq_true, decide_eq_true_eq, Bool.not_eq_true'] at h
  obtain ⟨⟨⟨⟨⟨⟨h1, h2⟩, h3⟩, h4⟩, h5⟩, h6⟩, h7⟩ := h
  refine ⟨asked_of_takes h1, h3, (by change bit (1 : BitVec 16).toNat 0 = true; decide), h4, h5, ?_⟩
  have hm : (signed c.op pl x).mb.val = 0 := rfl
  rw [hm, h6]
  simp only [Option.any_some]
  cases hk : tokenKey s.dev with
  | none => rw [hk] at h7; simp at h7
  | some k =>
    rw [hk] at h7
    have hkb : k.bytes = zeros 32 := by simpa using h7
    have hl : (BitVec.ofNat 32 pl.length).toNat = pl.length := by
      rw [BitVec.toNat_ofNat]; exact Nat.mod_eq_of_lt (by omega)
    have ht : (token c.op pl x).length = 16 := aesCmac_zero_length _
    have e1 : trailer (signed c.op pl x) = token c.op pl x :=
      slice_mid pl (token c.op pl x) _ (by omega) hl ht
    have e2 : payload (signed c.op pl x) = pl := slice_front pl (token c.op pl x) _ (by omega) hl
    simp only [tokenOk, hk, hkb, e1, e2, decide_eq_true_eq]
    rfl


/-- Asleep. -/
def asleep (p : Power) (d : Dev) : Dev := { d with sys := { d.sys with power := p } }

theorem met_SystemCommands (h : Obligations.SystemAndFirmwareCommandsAnswer) :
    Runs (.systemIdentity (ask [])) (st up) ∧ Runs (.systemReset (ask (zeros 4))) (st up) ∧
    Runs (.startupSetSave (ask [])) (st up) ∧ Runs (.startupSetSave (ask [])) (st { up with cfg := Cfg.reset }) ∧
    Runs (.systemStartupQuery (ask [])) (st up) ∧ Runs (.debugEnable (ask (zeros 4))) (st up) ∧
    Runs (.debugEnable (signed 0x0106 [1, 0, 0, 0])) (st (keyed 2 up)) ∧
    Runs (.pkgCntRead (ask [4, 1, 0, 0])) (st up) ∧ Runs (.authChallenge (ask [])) (st up) :=
  ⟨⟨_, (h.1 _ _).1 (tk (by decide +kernel)) _ rfl⟩,
   ⟨_, (h.1 _ _).2.1 (tk (by decide +kernel)) _ rfl⟩,
   ⟨_, (h.1 _ _).2.2.1 (tk (by decide +kernel)) img rfl rfl _ rfl⟩,
   ⟨_, (h.1 _ _).2.2.2.1 (tk (by decide +kernel)) rfl⟩,
   ⟨_, (h.1 _ _).2.2.2.2.1 (tk (by decide +kernel)) _ rfl⟩,
   ⟨_, (h.1 _ _).2.2.2.2.2.1 (tk (by decide +kernel)) _ rfl⟩,
   ⟨_, (h.1 _ _).2.2.2.2.2.2.1 (gr (by decide +kernel)) _ rfl⟩,
   ⟨_, (h.1 _ _).2.2.2.2.2.2.2.1 (tk (by decide +kernel)) _ rfl _ rfl⟩,
   ⟨_, (h.1 _ _).2.2.2.2.2.2.2.2 (tk (by decide +kernel)) rfl _ _ rfl rfl⟩⟩

theorem met_SystemPower (h : Obligations.SystemAndFirmwareCommandsAnswer) :
    Runs (.systemPower (ask [0, 0, 0, 0])) (st up) ∧
    Runs (.systemPower (ask [1, 0, 0, 0])) (st (asleep .sleep up)) ∧
    Runs (.systemPower (ask [0, 0, 0, 0])) (st (asleep .sleep up)) ∧
    Runs (.systemPower (ask [0, 0, 0, 0])) (st (asleep .entering up)) ∧
    Runs (.systemPower (ask [1, 0, 0, 0])) (st up) ∧
    Runs (.systemPower (ask [1, 0, 0, 0])) (st { up with twin := { up.twin with state := .paired } }) ∧
    Runs (.systemPower (ask [1, 0, 0, 0])) (st (asleep .waking up)) :=
  ⟨⟨_, (h.2.1 _ _ (tk (by decide +kernel)) (by decide) _ _ rfl rfl).1 (by decide +kernel) rfl⟩,
   ⟨_, (h.2.1 _ _ (tk (by decide +kernel)) (by decide) _ _ rfl rfl).2.1 (by decide +kernel) rfl⟩,
   ⟨_, (h.2.1 _ _ (tk (by decide +kernel)) (by decide) _ _ rfl rfl).2.2.1 (by decide +kernel) rfl⟩,
   ⟨_, (h.2.1 _ _ (tk (by decide +kernel)) (by decide) _ _ rfl rfl).2.2.2.1 (by decide +kernel) rfl rfl⟩,
   ⟨_, (h.2.1 _ _ (tk (by decide +kernel)) (by decide) _ _ rfl rfl).2.2.2.2.1 (by decide +kernel) rfl (by decide +kernel)⟩,
   ⟨_, (h.2.1 _ _ (tk (by decide +kernel)) (by decide) _ _ rfl rfl).2.2.2.2.2.1 (by decide +kernel) rfl (by decide +kernel)⟩,
   ⟨_, (h.2.1 _ _ (tk (by decide +kernel)) (by decide) _ _ rfl rfl).2.2.2.2.2.2 rfl⟩⟩

/-- A device whose slot 1 has verified and runs on trial, or not. -/
def trial (t : Bool) (slot : Nat) (d : Dev) : Dev :=
  bootWrite ⟨0, 0, if t then slot else 0xFF, 0⟩
    { d with sys := { d.sys with runningSlot := slot, runningTrial := t, verdicts := [(1, (0, 3, 0))] } }

theorem met_Firmware (h : Obligations.SystemAndFirmwareCommandsAnswer) :
    Runs (.fwQuery (ask [])) (st up) ∧
    Runs (.fwImageWrite (ask ([1, 1, 0, 0] ++ le 4 0x100 ++ le 4 0x100 ++ le 4 0x100))) (st up) ∧
    Runs (.fwImageVerify (ask [1, 0, 0, 0])) (st up) ∧
    Runs (.fwActivate (ask [1, 0, 0, 0])) (st (trial false 0 up)) ∧
    Runs (.fwActivate (ask [1, 1, 0, 0])) (st (trial false 0 up)) ∧
    Runs (.fwCommit (ask [])) (st (trial true 1 up)) ∧
    Runs (.fwRollbackAdvance (signed 0x0F06 [3, 0, 0, 0])) (st (keyed 2 (trial false 1 up))) :=
  ⟨⟨_, (h.2.2 _ _).1 (tk (by decide +kernel)) _ _ rfl rfl⟩,
   ⟨_, by
      refine (h.2.2 _ _).2.1 (tk ?_) _ _ _ _ rfl rfl rfl rfl ?_ ?_ ?_ ?_ ?_ ?_ ?_ ?_ ?_ ?_ rfl _ rfl
      all_goals decide +kernel⟩,
   ⟨_, (h.2.2 _ _).2.2.1 (tk (by decide +kernel)) _ rfl (by decide +kernel) rfl _ rfl⟩,
   ⟨_, ((h.2.2 _ _).2.2.2.1 (tk (by decide +kernel)) _ rfl (by decide +kernel) (by decide +kernel) rfl rfl _ rfl).1
      (by decide +kernel)⟩,
   ⟨_, ((h.2.2 _ _).2.2.2.1 (tk (by decide +kernel)) _ rfl (by decide +kernel) (by decide +kernel) rfl rfl _ rfl).2
      (by decide +kernel) (by decide +kernel)⟩,
   ⟨_, (h.2.2 _ _).2.2.2.2.1 (tk (by decide +kernel)) rfl _ rfl (by decide +kernel) _ rfl⟩,
   ⟨_, (h.2.2 _ _).2.2.2.2.2 (gr (by decide +kernel)) _ rfl rfl (by decide +kernel) (by decide +kernel)⟩⟩


theorem met_Observability (h : Obligations.ObservabilityCommandsAnswer) :
    Runs (.perfConfig (ask [63, 0, 0xFF, 0x03] 0x80000000)) (st up) ∧
    Runs (.perfRead (ask [1, 0, 0, 0] 0x30000000)) (st up) ∧
    Runs (.perfRead (ask [3, 0, 0, 0] 0x80000000)) (st { up with obs := { up.obs with latch := some (⟨1, 2, 3⟩, []) } }) ∧
    Runs (.perfLatch (ask [])) (st up) ∧ Runs (.recordRange (ask [])) (st up) ∧
    Runs (.recordRead (ask (le 4 2093088 ++ le 4 4064))) (st up) ∧
    Runs (.tempRead (ask [])) (st up) ∧ Runs (.obsCntRead (ask [1, 0, 0, 0])) (st up) :=
  ⟨⟨_, (h.1 _ _).1 8 _ _ _ rfl rfl rfl (by decide +kernel) (by decide +kernel) (tk (by decide +kernel)) _ rfl⟩,
   ⟨_, (h.1 _ _).2.1 3 _ rfl (by decide +kernel) (tk (by decide +kernel)) _ rfl⟩,
   ⟨_, (h.1 _ _).2.2.1 8 _ _ _ rfl (by decide +kernel) (tk (by decide +kernel)) _ rfl rfl⟩,
   ⟨_, (h.1 _ _).2.2.2.1 (tk (by decide +kernel)) _ _ rfl rfl⟩,
   ⟨_, (h.1 _ _).2.2.2.2.1 (tk (by decide +kernel)) _ rfl _ _ rfl⟩,
   ⟨_, (h.1 _ _).2.2.2.2.2.1 (tk (by decide +kernel)) _ _ rfl rfl (by decide +kernel) (by decide +kernel)
      (by decide +kernel) (by decide +kernel) (by decide +kernel)⟩,
   ⟨_, (h.1 _ _).2.2.2.2.2.2.1 (tk (by decide +kernel)) _ rfl⟩,
   ⟨_, (h.1 _ _).2.2.2.2.2.2.2 (tk (by decide +kernel)) _ rfl⟩⟩

/-- A port in a state, held or not. -/
def withPort (p : Nat) (f : PortSt → PortSt) (d : Dev) : Dev := setPortSt p (f (portSt p d)) d

theorem met_Diagnostics (h : Obligations.ObservabilityCommandsAnswer) :
    Runs (.diagLoopback (ask [0, 0, 0, 0] 0xF1000000)) (st up) ∧
    Runs (.diagLoopback (ask [2, 0, 0, 0] 0xF1000000)) (st (withPort 0 (fun x => { x with state := .up }) up)) ∧
    Runs (.diagLoopback (ask [1, 0, 0, 0] 0xF1000000)) (st up) ∧
    Runs (.diagPrbs (ask [3, 0, 0, 0] 0xF2000000)) (st (withPort 16 (fun x => { x with hold := true }) up)) ∧
    Runs (.diagPrbs (ask [0, 1, 0, 0] 0xF2000000)) (st (withPort 16 (fun x => { x with hold := true }) up)) ∧
    Runs (.diagPrbs (ask [0, 2, 0, 0] 0xF2000000)) (st (withPort 16 (fun x => { x with hold := true }) up)) ∧
    Runs (.diagPrbs (ask [0, 3, 0, 0] 0xF2000000)) (st (withPort 16 (fun x => { x with hold := true }) up)) :=
  ⟨⟨_, ((h.2 _ 0 _).1 (tk (by decide +kernel)) _ rfl _ rfl).1 (by decide +kernel)⟩,
   ⟨_, ((h.2 _ 0 _).1 (tk (by decide +kernel)) _ rfl _ rfl).2.1 (by decide +kernel) (by decide +kernel) (by decide +kernel)⟩,
   ⟨_, ((h.2 _ 0 _).1 (tk (by decide +kernel)) _ rfl _ rfl).2.2 (by decide +kernel) (by decide +kernel)⟩,
   ⟨_, ((h.2 _ 16 _).2 (tk (by decide +kernel)) _ rfl _ 0 { prbsRun (laneOfPort 16 3) _ with state := 0 } rfl (by decide +kernel)
      (by decide +kernel) (by decide +kernel) (fun _ => rfl) (by decide +kernel) (by decide +kernel)).1 (by decide +kernel)⟩,
   ⟨_, ((h.2 _ 16 _).2 (tk (by decide +kernel)) _ rfl _ 1 ⟨1, 0, 0, 0, _⟩ rfl (by decide +kernel)
      (by decide +kernel) (by decide +kernel) (by decide +kernel) (fun _ => rfl) (by decide +kernel)).1 (by decide +kernel)⟩,
   ⟨_, ((h.2 _ 16 _).2 (tk (by decide +kernel)) _ rfl _ 2 (prbsRun (laneOfPort 16 0) _) rfl (by decide +kernel)
      (by decide +kernel) (by decide +kernel) (by decide +kernel) (by decide +kernel) (fun _ => rfl)).1 (by decide +kernel)⟩,
   ⟨_, ((h.2 _ 16 _).2 (tk (by decide +kernel)) _ rfl _ 3 ⟨0, 0, 0, 0, 0⟩ rfl (by decide +kernel)
      (by decide +kernel) (by decide +kernel) (by decide +kernel) (by decide +kernel) (by decide +kernel)).2 (by decide +kernel)
      _ rfl⟩⟩

/-- A device with a set in shadow, ready. -/
def shadowed (d : Dev) : Dev := { d with cfg := { d.cfg with shadow := some { img with id := 9 }, shadowState := .ready } }

theorem met_Config (h : Obligations.ConfigCommandsAnswer) :
    Runs (.configLoadShadow (ask (le 4 4194240 ++ zeros 4))) (st up) ∧ Runs (.configQuery (ask [])) (st up) ∧
    Runs (.swapSet (ask (le 4 9 ++ zeros 12))) (st (shadowed up)) ∧
    Runs (.swapSet (ask (le 4 9 ++ inst 50000))) (st (shadowed up)) ∧
    Runs (.configSwapCancel (ask []))
      (st { shadowed up with cfg := { (shadowed up).cfg with swap := some ⟨20000 * 2 ^ 32, some 5, none⟩ } }) ∧
    Runs (.configWrite (ask ([1, 0, 0, 0] ++ le 4 3 ++ le 4 0 ++ le 4 64 ++ zeros 64))) (st up) ∧
    Runs (.configWrite (ask ([0, 0, 0, 0] ++ le 4 3 ++ le 4 0 ++ le 4 1 ++ zeros 64) 0xF2000000)) (st (shadowed up)) ∧
    Runs (.calRead (ask (le 2 1 ++ le 2 0) 0xF1000000)) (st up) ∧
    Runs (.cfgCntRead (ask [1, 0, 0, 0])) (st up) :=
  ⟨⟨_, (h _ .device _).1 (tk (by decide +kernel)) _ rfl (by decide +kernel) (by decide +kernel) (by decide +kernel)
      (by decide +kernel) rfl _ _ rfl rfl _ rfl⟩,
   ⟨_, (h _ .device _).2.1 (tk (by decide +kernel)) _ rfl⟩,
   ⟨_, (h _ .device _).2.2.1 (tk (by decide +kernel)) _ rfl _ _ rfl rfl rfl (by decide +kernel) (by decide +kernel)
      (by decide +kernel) (by decide +kernel) (by decide +kernel) rfl⟩,
   ⟨_, (h _ .device _).2.2.2.1 (tk (by decide +kernel)) _ rfl _ _ rfl rfl rfl (by decide +kernel) (by decide +kernel)
      (by decide +kernel) (by decide +kernel) (by decide +kernel) rfl (by decide +kernel) (by decide +kernel)
      (by decide +kernel)⟩,
   ⟨_, (h _ .device _).2.2.2.2.1 (tk (by decide +kernel)) _ rfl _ _ rfl rfl (by decide +kernel)⟩,
   (let ⟨_, _, e, _⟩ := ((h _ .device _).2.2.2.2.2.1 (tk (by decide +kernel)) _ rfl (by decide +kernel) _ _ _ rfl rfl rfl).1 (by decide +kernel) rfl
      _ rfl (by decide +kernel) (by decide +kernel) (by decide +kernel)
    ⟨_, e⟩),
   (let ⟨_, _, e, _⟩ := ((h _ (.port 16) _).2.2.2.2.2.1 (tk (by decide +kernel)) _ rfl (by decide +kernel) _ _ _ rfl rfl rfl).2
      (by decide +kernel) rfl _ rfl rfl
    ⟨_, e⟩),
   ⟨_, (h _ (.port 0) _).2.2.2.2.2.2.1 (tk (by decide +kernel)) _ rfl _ _ rfl⟩,
   ⟨_, (h _ .device _).2.2.2.2.2.2.2 (tk (by decide +kernel)) _ rfl⟩⟩


/-- A device with a slot in a state. -/
def withSa (k : Nat) (f : SaSlot → SaSlot) (d : Dev) : Dev := setSa k (f (sa k d)) d

/-- RX SC 3 of die L0 on C0, of SecY 0. -/
def withRxSc (d : Dev) : Dev := { d with prot := { d.prot with rxscs := [(3, ⟨16, 0, 77, 0⟩)] } }

theorem met_SecyCommands (h : Obligations.SecySaAndMkaCommandsAnswer) :
    Runs (.secyQuery (ask [1, 0, 0, 0] 0xF2000000)) (st up) ∧ Runs (.secyQuery (ask [0xFF, 0xFF, 0, 0] 0xF2000000)) (st up) ∧
    Runs (.secyCntRead (ask [0, 0, 1, 0] 0xF2000000)) (st up) ∧
    Runs (.secyPortEnable (ask [0, 0, 0, 0] 0xF2000000)) (st { up with prot := { up.prot with enabled := [0] } }) ∧
    Runs (.secyPortEnable (ask [0, 0, 1, 0] 0xF2000000)) (st (withSa 0 (fun x => { x with state := .installed }) up)) ∧
    Runs (.secyPortEnable (ask [0, 0, 1, 0] 0xF2000000)) (st up) ∧
    Runs (.rxscCreate (ask (le 2 0 ++ [50, 0] ++ zeros 4 ++ le 8 88) 0xF2000000)) (st (withRxSc up)) ∧
    Runs (.rxscDelete (ask [3, 0, 0, 0] 0xF2000000)) (st (withRxSc up)) ∧
    Runs (.rxscQuery (ask [3, 0, 1, 0] 0xF2000000)) (st (withRxSc up)) ∧
    Runs (.cportCntRead (ask [1, 0, 0, 0] 0xF3000000)) (st up) :=
  ⟨⟨_, (h.1 _ 16 _ _ _ rfl rfl).1 (tk (by decide +kernel)) _ rfl _ rfl⟩,
   ⟨_, (h.1 _ 16 _ _ _ rfl rfl).2.1 (tk (by decide +kernel)) (by decide +kernel)⟩,
   ⟨_, (h.1 _ 16 _ _ _ rfl rfl).2.2.1 (tk (by decide +kernel)) _ rfl _ rfl⟩,
   ⟨_, ((h.1 _ 16 _ _ _ rfl rfl).2.2.2.1 (tk (by decide +kernel)) _ rfl _ rfl rfl).1 (by decide +kernel)⟩,
   ⟨_, ((h.1 _ 16 _ _ _ rfl rfl).2.2.2.1 (tk (by decide +kernel)) _ rfl _ rfl rfl).2.1 (by decide +kernel)
      (by decide +kernel) (by decide +kernel)⟩,
   ⟨_, ((h.1 _ 16 _ _ _ rfl rfl).2.2.2.1 (tk (by decide +kernel)) _ rfl _ rfl rfl).2.2 (by decide +kernel)
      (by decide +kernel) (by decide +kernel) (by decide +kernel)⟩,
   ⟨_, (h.1 _ 16 _ _ _ rfl rfl).2.2.2.2.1 (tk (by decide +kernel)) _ rfl _ _ rfl rfl rfl (by decide +kernel) 0 _
      (by decide +kernel) rfl⟩,
   ⟨_, (h.1 _ 16 _ _ _ rfl rfl).2.2.2.2.2.1 (tk (by decide +kernel)) _ rfl _ _ rfl rfl rfl rfl (by decide +kernel)⟩,
   ⟨_, (h.1 _ 16 _ _ _ rfl rfl).2.2.2.2.2.2.1 (tk (by decide +kernel)) _ rfl _ rfl rfl⟩,
   ⟨_, (h.1 _ 32 _ _ _ rfl rfl).2.2.2.2.2.2.2 (tk (by decide +kernel)) _ rfl⟩⟩

/-- The payload of SA_INSTALL for AN 3 of SC `sc`: the highest PN of the suite, a 64-byte blob. -/
def saLoadOf (rx : Bool) (sc : Nat) (pn : Nat) : Bytes :=
  [if rx then 1 else 0, 3] ++ le 2 sc ++ zeros 20 ++ le 8 pn ++ le 2 64 ++ zeros 2 ++ le 4 9 ++ zeros 64

/-- Another installation waits at the vault. -/
def withLoad (d : Dev) : Dev :=
  { d with prot := { d.prot with loads := [⟨.mailbox 4, 1, false, 0, 0, 0, 0, 1, 0, zeros 16, false⟩] } }

theorem met_SaInstall (h : Obligations.SecySaAndMkaCommandsAnswer) :
    Runs (.saInstall (ask (saLoadOf true 3 1) 0xF2000000)) (st (withRxSc up)) ∧
    Runs (.saInstall (ask (saLoadOf false 0 (2 ^ 64 - 1)) 0xF2000000)) (st (withLoad up)) ∧
    Runs (.saQuery (ask [1, 3, 3, 0] 0xF2000000)) (st (withRxSc up)) ∧
    Runs (.saRetire (ask [0, 3, 0, 0] 0xF2000000)) (st (withSa 3 (fun x => { x with state := .installed }) up)) ∧
    Runs (.saRetire (ask [1, 3, 3, 0] 0xF2000000)) (st (withSa 16399 (fun x => { x with state := .inUse }) (withRxSc up))) ∧
    Runs (.saRetire (ask [0, 3, 0, 0] 0xF2000000)) (st up) ∧
    Runs (.saCntRead (ask [0, 3, 0, 0, 1, 0, 0, 0] 0xF2000000)) (st up) :=
  ⟨⟨_, (((h.2.1 _ 16 _ _ rfl).1 true _ _ (by decide +kernel) rfl rfl _ rfl _ rfl).1 (tk (by decide +kernel)) _ rfl _ rfl
      (by decide +kernel) rfl (by decide +kernel) (by decide +kernel) (by decide +kernel) (by decide +kernel) _ _ rfl rfl).1 rfl⟩,
   ⟨_, (((h.2.1 _ 16 _ _ rfl).1 false _ _ (by decide +kernel) rfl rfl _ rfl _ rfl).1 (tk (by decide +kernel)) _ rfl _ rfl
      (by decide +kernel) rfl (by decide +kernel) (by decide +kernel) (by decide +kernel) (by decide +kernel) _ _ rfl rfl).2
      (by decide +kernel)⟩,
   ⟨_, ((h.2.1 _ 16 _ _ rfl).1 true _ _ (by decide +kernel) rfl rfl _ rfl _ rfl).2.1 (tk (by decide +kernel)) _ rfl _ _
      rfl rfl⟩,
   ⟨_, (((h.2.1 _ 16 _ _ rfl).1 false _ _ (by decide +kernel) rfl rfl _ rfl _ rfl).2.2.1 (tk (by decide +kernel)) _ rfl
      rfl (by decide +kernel) (by decide +kernel)).1 rfl (by decide +kernel)⟩,
   ⟨_, (((h.2.1 _ 16 _ _ rfl).1 true _ _ (by decide +kernel) rfl rfl _ rfl _ rfl).2.2.1 (tk (by decide +kernel)) _ rfl
      rfl (by decide +kernel) (by decide +kernel)).2.1 rfl (by decide +kernel)⟩,
   ⟨_, (((h.2.1 _ 16 _ _ rfl).1 false _ _ (by decide +kernel) rfl rfl _ rfl _ rfl).2.2.1 (tk (by decide +kernel)) _ rfl
      rfl (by decide +kernel) (by decide +kernel)).2.2 (by decide +kernel) (by decide +kernel)
      (by decide +kernel)⟩,
   ⟨_, ((h.2.1 _ 16 _ _ rfl).1 false _ _ (by decide +kernel) rfl rfl _ rfl _ rfl).2.2.2 (tk (by decide +kernel)) _ rfl⟩⟩

/-- AN 1 of SecY 0 is INSTALLED, and an entry that switches to it lies at the end of the staging area. -/
def batchReady : Dev :=
  withSa 1 (fun x => { x with state := .installed })
    { up with host := { up.host with staging := memWrite 0 [] 4194296 ([0, 2, 0, 1, 0, 0, 0, 0]) } }

/-- A batch pends under handle 9. -/
def batched (d : Dev) : Dev := { d with prot := { d.prot with batches := [(9, ⟨20000 * 2 ^ 32, []⟩)] } }

theorem met_SaSwitches (h : Obligations.SecySaAndMkaCommandsAnswer) :
    Runs (.saTxSwitch (ask ([0, 0, 1, 0] ++ zeros 12) 0xF2000000)) (st batchReady) ∧
    Runs (.saTxSwitch (ask ([0, 0, 1, 0] ++ inst 86400000000000) 0xF2000000)) (st batchReady) ∧
    Runs (.saBatchSwitch (ask (le 4 4194296 ++ le 4 1 ++ inst 1000000 ++ zeros 4))) (st batchReady) ∧
    Runs (.saBatchSwitch (ask (le 4 4194296 ++ le 4 1 ++ inst 1000000 ++ zeros 4))) (st up) ∧
    Runs (.saBatchCancel (ask (le 4 9))) (st (batched up)) ∧
    Runs (.saInstallBulk (ask (le 4 4194176 ++ le 4 1))) (st up) ∧
    Runs (.keyCntRead (ask [1, 0, 0, 0] 0x30000000)) (st up) :=
  ⟨⟨_, ((h.2.1 _ 16 _ _ rfl).2.1 (tk (by decide +kernel)) _ rfl _ _ _ _ rfl rfl rfl rfl rfl (by decide +kernel)
      (by decide +kernel) (by decide +kernel) (by decide +kernel)).1 (by decide +kernel)⟩,
   ⟨_, ((h.2.1 _ 16 _ _ rfl).2.1 (tk (by decide +kernel)) _ rfl _ _ _ _ rfl rfl rfl rfl rfl (by decide +kernel)
      (by decide +kernel) (by decide +kernel) (by decide +kernel)).2 _ (by decide +kernel) (by decide +kernel) rfl
      (by decide +kernel) (by decide +kernel)⟩,
   ⟨_, ((h.2.1 _ 16 _ _ rfl).2.2.1 (tk (by decide +kernel)) _ rfl (by decide +kernel) _ _ _ rfl rfl rfl (by decide +kernel)
      (by decide) (by decide) (by decide +kernel) (by decide +kernel) (by decide) (by decide +kernel)
      (by decide +kernel)).1 [(0, 0, 1)] (by decide) (by decide +kernel)⟩,
   ⟨_, ((h.2.1 _ 16 _ _ rfl).2.2.1 (tk (by decide +kernel)) _ rfl (by decide +kernel) _ _ _ rfl rfl rfl (by decide +kernel)
      (by decide) (by decide) (by decide +kernel) (by decide +kernel) (by decide) (by decide +kernel)
      (by decide +kernel)).2 .badField 0 (by decide +kernel)⟩,
   ⟨_, (h.2.1 _ 16 _ _ rfl).2.2.2.1 (tk (by decide +kernel)) _ rfl _ ⟨20000 * 2 ^ 32, []⟩ rfl (by decide +kernel)
      (by decide +kernel)⟩,
   ⟨_, (h.2.1 _ 16 _ _ rfl).2.2.2.2.1 (tk (by decide +kernel)) _ rfl _ _ _ rfl rfl rfl (by decide +kernel)
      (by decide +kernel) (by decide +kernel) (by decide +kernel) (by decide +kernel)⟩,
   ⟨_, (h.2.1 _ 16 _ _ rfl).2.2.2.2.2 3 (tk (by decide +kernel)) _ rfl⟩⟩

/-- The payload of MKA_CA_SET: a CKN of 32 bytes and a blob of 64. -/
def caOf (del : Bool) : Bytes :=
  [1, 0, if del then 1 else 0, 7, if del then 0 else 32, 0] ++ le 2 (if del then 0 else 64) ++ le 4 (if del then 0 else 5)
    ++ zeros 100

/-- A session on SecY 1. -/
def withMka (d : Dev) : Dev :=
  { d with prot := { d.prot with
      mka := [(1, ⟨[1], zeros 16, zeros 16, 7, true, [], [], none, 0, 0, ⟨0, 0, 0⟩, none, zeros 12, 1, false, zeros 64, none⟩)] } }

/-- A CAK waits at the vault. -/
def withCaLoad (d : Dev) : Dev := { d with prot := { d.prot with caLoads := [⟨none, 3, 1, 0, 0, [1], 0, zeros 16⟩] } }

theorem met_Mka (h : Obligations.SecySaAndMkaCommandsAnswer) :
    Runs (.mkaCaSet (ask (caOf true) 0xF2000000)) (st (withMka up)) ∧
    Runs (.mkaCaSet (ask (caOf false) 0xF2000000)) (st up) ∧
    Runs (.mkaCaSet (ask (caOf false) 0xF2000000)) (st (withCaLoad up)) ∧
    Runs (.mkaCaQuery (ask [1, 0, 0, 0] 0xF2000000)) (st up) ∧
    Runs (.mkaCaQuery (ask [1, 0, 0, 0] 0xF2000000)) (st (withMka up)) :=
  ⟨⟨_, ((h.2.2 _ 16 _ _ _ _ rfl rfl rfl).1 (tk (by decide +kernel)) _ rfl (by decide +kernel) (by decide +kernel) rfl).1
      (by decide +kernel) (by decide +kernel)⟩,
   ⟨_, (((h.2.2 _ 16 _ _ _ _ rfl rfl rfl).1 (tk (by decide +kernel)) _ rfl (by decide +kernel) (by decide +kernel) rfl).2
      (by decide +kernel) (by decide +kernel) _ rfl).1 rfl⟩,
   ⟨_, (((h.2.2 _ 16 _ _ _ _ rfl rfl rfl).1 (tk (by decide +kernel)) _ rfl (by decide +kernel) (by decide +kernel) rfl).2
      (by decide +kernel) (by decide +kernel) _ rfl).2 (by decide +kernel)⟩,
   ⟨_, ((h.2.2 _ 16 _ _ _ _ rfl rfl rfl).2 (tk (by decide +kernel)) _ rfl).1 (by decide +kernel)⟩,
   ⟨_, ((h.2.2 _ 16 _ _ _ _ rfl rfl rfl).2 (tk (by decide +kernel)) _ rfl).2 _ rfl⟩⟩


/-- Slot 32 of the key store: an active key of a class, and a pending key. -/
def withKey (cls : Nat) (p : Option PendingKey) (d : Dev) : Dev :=
  { d with vault := { d.vault with store := [(32, ⟨some ⟨cls, 7, zeros 32⟩, p, ⟨0, 0, 0⟩⟩)] } }

/-- A pending key, whose activation is scheduled under a handle or not. -/
def pendKey (h : Option Nat) : PendingKey := ⟨⟨2, 8, zeros 32⟩, if h.isSome then 2 else 1, none, h⟩

/-- The pending key of slot 32 is the active key of slot 40 too. -/
def twoHalves (d : Dev) : Dev :=
  { d with vault := { d.vault with store := [(32, ⟨none, some (pendKey none), ⟨0, 0, 0⟩⟩),
      (40, ⟨some ⟨2, 8, zeros 32⟩, none, ⟨0, 0, 0⟩⟩)] } }

/-- The payload of VAULT_KEY_INSTALL: a mode, an instant, and a blob of 64 bytes of class 2. -/
def keyLoadOf (slot mode : Nat) (at_ : Nat) : Bytes :=
  le 2 slot ++ [BitVec.ofNat 8 mode, 0] ++ le 2 64 ++ zeros 2 ++ le 4 9 ++ inst at_ ++ [1, 2, 4, 32] ++ zeros 60

/-- A key waits at the vault. -/
def withQueue (d : Dev) : Dev := { d with vault := { d.vault with queue := [⟨none, 3, 40, 0, 0, 5, zeros 64⟩] } }

/-- The payload of LA_JOB_START on job 15 and slot 32. -/
def jobOf (mode hold aad data : Nat) : Bytes :=
  [15, BitVec.ofNat 8 mode, BitVec.ofNat 8 hold, 0] ++ le 2 32 ++ zeros 2 ++ le 4 aad ++ le 4 data ++ zeros 32

theorem met_VaultCommands (h : Obligations.VaultCommandsAnswer) :
    Runs (.vaultStatus (ask [])) (st up) ∧
    Runs (.vaultKeyInstall (ask (keyLoadOf 32 0 0))) (st up) ∧
    Runs (.vaultKeyInstall (ask (keyLoadOf 1022 1 0))) (st (withQueue up)) ∧
    Runs (.vaultKeyInstall (ask (keyLoadOf 32 2 50000))) (st up) ∧
    Runs (.vaultKeyActivate (ask [32, 0, 0, 0])) (st (withKey 2 (some (pendKey none)) up)) ∧
    Runs (.vaultKeyActivate (ask [32, 0, 0, 0])) (st (withKey 2 (some (pendKey (some 9))) up)) ∧
    Runs (.vaultKeyActivate (ask [32, 0, 0, 0])) (st (twoHalves up)) ∧
    Runs (.vaultKeyDelete (ask [32, 0, 0, 0])) (st (withKey 2 none up)) ∧
    Runs (.vaultKeyDelete (ask [32, 0, 1, 0])) (st (withKey 2 (some (pendKey none)) up)) ∧
    Runs (.vaultKeyQuery (ask [255, 3, 0, 0])) (st up) :=
  ⟨⟨_, (h.1 _ _).1 (tk (by decide +kernel)) _ _ _ rfl rfl rfl⟩,
   ⟨_, ((h.1 _ _).2.1 (tk (by decide +kernel)) _ rfl _ _ _ _ rfl rfl rfl (by decide +kernel) (by decide +kernel)
      (by decide +kernel) (by decide +kernel) (by decide +kernel) (by decide +kernel) (by decide +kernel) rfl).1
      (by decide +kernel) (by decide +kernel) rfl⟩,
   ⟨_, ((h.1 _ _).2.1 (tk (by decide +kernel)) _ rfl _ _ _ _ rfl rfl rfl (by decide +kernel) (by decide +kernel)
      (by decide +kernel) (by decide +kernel) (by decide +kernel) (by decide +kernel) (by decide +kernel) rfl).2.1
      (by decide +kernel) (by decide +kernel) (by decide +kernel)⟩,
   ⟨_, ((h.1 _ _).2.1 (tk (by decide +kernel)) _ rfl _ _ _ _ rfl rfl rfl (by decide +kernel) (by decide +kernel)
      (by decide +kernel) (by decide +kernel) (by decide +kernel) (by decide +kernel) (by decide +kernel) rfl).2.2 _
      (by decide +kernel) (by decide +kernel) rfl (by decide +kernel) (by decide +kernel) (by decide +kernel)⟩,
   ⟨_, (((h.1 _ _).2.2.1 (tk (by decide +kernel)) _ rfl _ _ rfl (by decide +kernel) (by decide +kernel)
      rfl).2 (by decide +kernel)).1 rfl⟩,
   ⟨_, (((h.1 _ _).2.2.1 (tk (by decide +kernel)) _ rfl _ _ rfl (by decide +kernel) (by decide +kernel)
      rfl).2 (by decide +kernel)).2 _ rfl⟩,
   ⟨_, ((h.1 _ _).2.2.1 (tk (by decide +kernel)) _ rfl _ _ rfl (by decide +kernel) (by decide +kernel)
      rfl).1 (by decide +kernel)⟩,
   ⟨_, ((h.1 _ _).2.2.2.1 (tk (by decide +kernel)) _ rfl _ _ _ rfl (by decide +kernel) (by decide +kernel)
      (by decide +kernel) (by decide +kernel) rfl rfl).1 (by decide +kernel) (by decide +kernel)⟩,
   ⟨_, ((h.1 _ _).2.2.2.1 (tk (by decide +kernel)) _ rfl _ _ _ rfl (by decide +kernel) (by decide +kernel)
      (by decide +kernel) (by decide +kernel) rfl rfl).2 (by decide +kernel) (by decide +kernel)⟩,
   ⟨_, (h.1 _ _).2.2.2.2.1 (tk (by decide +kernel)) _ rfl _ _ _ _ _ rfl (by decide +kernel) (by decide +kernel) rfl rfl
      rfl rfl⟩⟩

theorem met_VaultService (h : Obligations.VaultCommandsAnswer) :
    Runs (.vaultKeyQuery (ask [31, 0, 0, 0])) (st up) ∧
    Runs (.laJobStart (ask (jobOf 1 0 0 16))) (st (withKey 0x12 none up)) ∧
    Runs (.laJobStart (ask (jobOf 2 1 16777216 65536))) (st (withKey 0x13 none up)) ∧
    Runs (.laJobStart (ask (jobOf 5 0 0 16777216))) (st (withKey 1 none up)) ∧
    Runs (.vaultRandom (ask (le 4 256))) (st up) ∧
    Runs (.otpRead (ask (le 2 0 ++ le 2 4))) (st up) ∧ Runs (.otpRead (ask (le 2 0x40 ++ le 2 32))) (st up) ∧
    Runs (.vaultCntRead (ask [1, 0, 0, 0])) (st up) ∧
    Runs (.laJobAbort (ask [15, 0, 0, 0])) (st { up with vault := { up.vault with jobs := [(15,
      ⟨4, 5, false, 32, ⟨1, 7, zeros 32⟩, 0, 16, zeros 16, zeros 16, [], 0, [], false, none, 0, 0, 0, []⟩)] } }) :=
  ⟨⟨_, (h.1 _ _).2.2.2.2.2.1 (tk (by decide +kernel)) _ rfl _ _ rfl (by decide +kernel) rfl⟩,
   ⟨_, (h.1 _ _).2.2.2.2.2.2.1 (tk (by decide +kernel)) _ rfl _ _ _ _ _ _ _ _ _ _ rfl rfl rfl rfl rfl rfl rfl rfl
      (by decide +kernel) (by decide +kernel) (by decide +kernel) (by decide +kernel) rfl (by decide +kernel)
      (by decide +kernel) (by decide +kernel) (fun _ => rfl) (by decide +kernel) (by decide +kernel) _ rfl⟩,
   ⟨_, (h.1 _ _).2.2.2.2.2.2.1 (tk (by decide +kernel)) _ rfl _ _ _ _ _ _ _ _ _ (_, _) rfl rfl rfl rfl rfl rfl rfl rfl
      (by decide +kernel) (by decide +kernel) (by decide +kernel) (by decide +kernel) rfl (by decide +kernel)
      (by decide +kernel) (by decide +kernel) (by decide +kernel) (fun _ => rfl) (by decide +kernel) _ rfl⟩,
   ⟨_, (h.1 _ _).2.2.2.2.2.2.1 (tk (by decide +kernel)) _ rfl _ _ _ _ _ _ _ _ _ (_, _) rfl rfl rfl rfl rfl rfl rfl rfl
      (by decide +kernel) (by decide +kernel) (by decide +kernel) (by decide +kernel) rfl (by decide +kernel)
      (by decide +kernel) (by decide +kernel) (by decide +kernel) (by decide +kernel) (fun _ _ => rfl) _ rfl⟩,
   ⟨_, (h.1 _ _).2.2.2.2.2.2.2.1 (tk (by decide +kernel)) _ _ rfl rfl (by decide +kernel) (by decide +kernel)
      (by decide +kernel) rfl⟩,
   ⟨_, ((h.1 _ _).2.2.2.2.2.2.2.2.1 (tk (by decide +kernel)) _ _ rfl rfl (by decide +kernel) (by decide +kernel)
      (by decide +kernel) (by decide +kernel)).1 (by decide +kernel)⟩,
   ⟨_, ((h.1 _ _).2.2.2.2.2.2.2.2.1 (tk (by decide +kernel)) _ _ rfl rfl (by decide +kernel) (by decide +kernel)
      (by decide +kernel) (by decide +kernel)).2 (by decide +kernel)⟩,
   ⟨_, (h.1 _ _).2.2.2.2.2.2.2.2.2.1 (tk (by decide +kernel)) _ rfl⟩,
   ⟨_, (h.1 _ _).2.2.2.2.2.2.2.2.2.2 (tk (by decide +kernel)) _ _ rfl rfl (by decide +kernel) (by decide +kernel)⟩⟩

/-- An owner transport KEK wrapped under a key of zeros with a key_id. -/
def otkOf (te under : Nat) : Bytes :=
  [BitVec.ofNat 8 te, 0, 64, 0] ++ zeros 4 ++ sealBlob ⟨1, 5, zeros 32⟩ ⟨1, under, zeros 32⟩

/-- The device holds the wrapping key of a purpose. -/
def withWrap (purpose id : Nat) (d : Dev) : Dev :=
  { d with vault := { d.vault with derived := Map.put d.vault.derived purpose ⟨1, id, zeros 32⟩ } }

theorem met_LifeCycle (h : Obligations.VaultCommandsAnswer) :
    Runs (.lcChange (signed 0x0602 [1, 0, 0, 0])) (st (keyed 0 up)) ∧
    Runs (.lcChange (signed 0x0602 [3, 0, 0, 0])) (st (keyed 2 up)) ∧
    Runs (.lcChange (signed 0x0602 [4, 0, 0, 0])) (st (keyed 3 up)) ∧
    Runs (.tamperClear (signed 0x0605 [0, 0, 0, 0])) (st (keyed 3 up)) ∧
    Runs (.tamperClear (signed 0x0605 [0, 0, 0, 0]))
      (st { keyed 1 up with vault := { (keyed 1 up).vault with latch := 1 } }) ∧
    Runs (.lcTakeOwnership (signed 0x0603 (otkOf 7 0xFFFF0005))) (st (keyed 1 (withWrap 5 0xFFFF0005 up))) ∧
    Runs (.ownerRootRotate (signed 0x0604 (otkOf 0 0xFFFF0001))) (st (keyed 2 (withWrap 1 0xFFFF0001 up))) :=
  ⟨⟨_, ((h.2 _ _ _ rfl).1 (gr (by decide +kernel)) _ rfl).1 rfl (by decide +kernel) _ rfl⟩,
   ⟨_, ((h.2 _ _ _ rfl).1 (gr (by decide +kernel)) _ rfl).2.1 rfl (by decide +kernel) _ rfl⟩,
   ⟨_, ((h.2 _ _ _ rfl).1 (gr (by decide +kernel)) _ rfl).2.2 (by decide +kernel) (by decide +kernel) (by decide +kernel) _
      rfl⟩,
   ⟨_, ((h.2 _ _ _ rfl).2.1 (gr (by decide +kernel)) _ rfl (by decide +kernel) rfl).1 rfl _ rfl⟩,
   ⟨_, ((h.2 _ _ _ rfl).2.1 (gr (by decide +kernel)) _ rfl (by decide +kernel) rfl).2 (by decide +kernel)
      (by decide +kernel)⟩,
   ⟨_, (h.2 _ _ _ rfl).2.2.1 (gr (by decide +kernel)) _ 7 _ ⟨1, 5, zeros 32⟩ _ rfl (by decide +kernel) (by decide +kernel)
      (by decide +kernel) rfl rfl rfl (by decide +kernel) rfl rfl⟩,
   ⟨_, (h.2 _ _ _ rfl).2.2.2 (gr (by decide +kernel)) _ 0 ⟨1, 5, zeros 32⟩ _ rfl (by decide +kernel) (by decide +kernel)
      rfl rfl (by decide +kernel) (by decide +kernel) (by decide +kernel) rfl⟩⟩


/-! Tables: the hash is not known, so an entry is put where the first probe of its key looks. -/

theorem get_first {α : Type} (k : Nat) (a : α) : Map.get? [(k, a)] k = some a := by simp [Map.get?]

theorem find_first {α : Type} (g : Engine α) (e : α) :
    g.find [(tblPos g.die (4 * g.bucket (g.key e) 0), e)] (g.key e) = some (4 * g.bucket (g.key e) 0) := by
  simp [Engine.find, Engine.probe, ways, get_first]

/-- A learned entry of VID 5. -/
def macEnt (pinned lock : Bool) : MacEntry := ⟨5, 0x1122, 0x10000000, 0xFF, false, 0, 0, 0, 0, 60000, lock, false, pinned, false, 0⟩

/-- Its position on die L0. -/
def macAt : Nat := 4 * (macEngine 0 up).bucket (macKey 5 0x1122) 0

/-- The device with that entry. -/
def withMac (pinned lock : Bool) : Dev := { up with cls := { up.cls with mac := [(tblPos 0 macAt, macEnt pinned lock)] } }

theorem mac_found (pinned lock : Bool) : macFind 0 5 0x1122 (withMac pinned lock) = some macAt :=
  find_first (macEngine 0 up) (macEnt pinned lock)

/-- A prefix of VID 5. -/
def pfxEnt : PfxEntry := ⟨5, 24, 0x0A000000, 0x10000000, 0xFF, false, none⟩

/-- Its position on die L0. -/
def pfxAt : Nat := 4 * (pfxEngine false 0 up).bucket (pfxKey 5 24 0x0A000000) 0

/-- The device with that prefix. -/
def withPfx : Dev := { up with cls := { up.cls with pfx4 := [(tblPos 0 pfxAt, pfxEnt)] } }

theorem pfx_found : pfxFind false 0 5 24 0x0A000000 withPfx = some (pfxAt, pfxEnt) := by
  have h : (pfxEngine false 0 withPfx).find (pfxMap false withPfx) (pfxKey 5 24 0x0A000000) = some pfxAt :=
    find_first (pfxEngine false 0 up) pfxEnt
  unfold pfxFind
  rw [h]
  change (match Map.get? [(tblPos 0 pfxAt, pfxEnt)] (tblPos 0 pfxAt) with
    | some e => some (pfxAt, e) | none => none) = _
  rw [get_first]

/-- The key part of a MAC entry, or of a prefix entry. -/
def macKeyB : Bytes := le 2 5 ++ be 6 0x1122
def pfxKeyB : Bytes := le 2 5 ++ [24, 4] ++ be 4 0x0A000000

/-- The payload of a TABLE command on a MAC or prefix entry. -/
def macReq (rep : Bool) (rest : Bytes) : Bytes := [3, if rep then 1 else 0, 0, 0] ++ slice (macKeyB ++ rest) 0 64
def pfxReq (rest : Bytes) : Bytes := [7, 0, 0, 0] ++ slice (pfxKeyB ++ zeros 12 ++ rest) 0 64

/-- Destination P0, no override, valid. -/
def macRest : Bytes := le 4 0x10000000 ++ [0xFF, 0] ++ zeros 46 ++ [1, 0, 0, 0]
def pfxRest : Bytes := le 4 0x10000000 ++ [0xFF] ++ zeros 35 ++ [1, 0, 0, 0]

set_option maxRecDepth 20000 in
theorem met_TableCommands (h : Obligations.TableFabricAndQueueCommandsAnswer) :
    Runs (.tableAdd (ask (macReq false macRest) 0x30000000)) (st up) ∧ Runs (.tableAdd (ask (pfxReq pfxRest) 0x00000000)) (st up) ∧
    Runs (.tableAdd (ask (macReq true macRest) 0x00000000)) (st (withMac false false)) ∧
    Runs (.tableAdd (ask (macReq false macRest) 0x00000000)) (st (withMac false false)) ∧
    Runs (.tableDelete (ask (macReq false []) 0x00000000)) (st (withMac false true)) ∧
    Runs (.tableLookup (ask (macReq false []) 0x00000000)) (st (withMac true true)) ∧
    Runs (.tableLookup (ask (macReq false []) 0x00000000)) (st up) ∧
    Runs (.tableLookup (ask (pfxReq []) 0x00000000)) (st withPfx) :=
  ⟨⟨_, ((h.1 _ (.die 3) _ _ _ rfl rfl).1 (tk (by decide +kernel)) _ rfl _ _ _ _ (by decide +kernel) rfl rfl).1 5 0x1122
      rfl rfl⟩,
   ⟨_, ((h.1 _ (.die 0) _ _ _ rfl rfl).1 (tk (by decide +kernel)) _ rfl _ _ _ _ (by decide +kernel) rfl rfl).2.1 false 5 24
      0x0A000000 rfl rfl⟩,
   ⟨_, (((h.1 _ (.die 0) _ _ _ rfl rfl).1 (tk (by decide +kernel)) _ rfl _ [] up _ (by decide +kernel) rfl rfl).2.2 0 5 0x1122
      macAt (macEnt false false) _ rfl rfl rfl rfl (by exact mac_found false false) (by exact get_first _ _) rfl (by decide +kernel)
      (by decide +kernel)).1 (by decide +kernel)⟩,
   ⟨_, (((h.1 _ (.die 0) _ _ _ rfl rfl).1 (tk (by decide +kernel)) _ rfl _ [] up _ (by decide +kernel) rfl rfl).2.2 0 5 0x1122
      macAt (macEnt false false) _ rfl rfl rfl rfl (by exact mac_found false false) (by exact get_first _ _) rfl (by decide +kernel)
      (by decide +kernel)).2 (by decide +kernel)⟩,
   ⟨_, (h.1 _ (.die 0) _ _ _ rfl rfl).2.1 (tk (by decide +kernel)) _ rfl _ (.mac 5 0x1122) [(0, macAt)]
      (macRemove 0 macAt (taken 0x0702 _ _)) (by decide +kernel) rfl rfl (by
        simp only [onDies, deleteOn]
        rw [show macFind 0 5 0x1122 (taken 0x0702 (ask (macReq false []) 0x00000000) (st (withMac false true))) = some macAt from
          mac_found false true]
        rfl)⟩,
   ⟨_, ((h.1 _ (.die 0) _ _ _ rfl rfl).2.2.1 (tk (by decide +kernel)) _ rfl (by decide +kernel)).1 5 0x1122 macAt
      (macEnt true true) rfl (mac_found true true) (get_first _ _)⟩,
   ⟨_, ((h.1 _ (.die 0) _ _ _ rfl rfl).2.2.1 (tk (by decide +kernel)) _ rfl (by decide +kernel)).2.1 5 0x1122 rfl rfl⟩,
   ⟨_, ((h.1 _ (.die 0) _ _ _ rfl rfl).2.2.1 (tk (by decide +kernel)) _ rfl (by decide +kernel)).2.2 false 5 24 0x0A000000
      pfxAt pfxEnt rfl pfx_found (by decide +kernel)⟩⟩

theorem met_TableState (h : Obligations.TableFabricAndQueueCommandsAnswer) :
    Runs (.tableFlush (ask ([3, 6] ++ le 2 4095 ++ le 4 0x10000000 ++ zeros 8))) (st up) ∧
    Runs (.tableInfo (ask [3, 0, 0, 0] 0x00000000)) (st (withMac true true)) ∧
    Runs (.tableInfo (ask [2, 0, 0, 0] 0x30000000)) (st up) ∧ Runs (.tableInfo (ask [4, 0, 0, 0] 0x30000000)) (st up) ∧
    Runs (.tableUnpin (ask macKeyB 0x00000000)) (st (withMac true false)) ∧
    Runs (.tableUnpin (ask macKeyB 0x00000000)) (st (withMac false false)) ∧
    Runs (.clsCntRead (ask [1, 0, 0, 0] 0x30000000)) (st up) :=
  ⟨⟨_, (h.1 _ .device _ _ _ rfl rfl).2.2.2.1 (tk (by decide +kernel)) _ rfl _ _ _ _ rfl rfl rfl rfl (by decide +kernel)
      (by decide +kernel) (by decide +kernel)⟩,
   ⟨_, ((h.1 _ (.die 0) _ _ _ rfl rfl).2.2.2.2.1 (tk (by decide +kernel)) _ rfl).1 .mac _ _ _ _ rfl rfl⟩,
   ⟨_, ((h.1 _ (.die 3) _ _ _ rfl rfl).2.2.2.2.1 (tk (by decide +kernel)) _ rfl).2.2 _ _ rfl rfl⟩,
   ⟨_, ((h.1 _ (.die 3) _ _ _ rfl rfl).2.2.2.2.1 (tk (by decide +kernel)) _ rfl).2.1 .mac _ _ _ _ rfl rfl⟩,
   ⟨_, ((h.1 _ (.die 0) _ _ _ rfl rfl).2.2.2.2.2.1 (tk (by decide +kernel)) _ rfl 5 0x1122 0 macAt (macEnt true false)
      (by decide +kernel) (by decide +kernel) (by decide) rfl (mac_found true false) (get_first _ _)).1 rfl⟩,
   ⟨_, ((h.1 _ (.die 0) _ _ _ rfl rfl).2.2.2.2.2.1 (tk (by decide +kernel)) _ rfl 5 0x1122 0 macAt (macEnt false false)
      (by decide +kernel) (by decide +kernel) (by decide) rfl (mac_found false false) (get_first _ _)).2 rfl⟩,
   ⟨_, (h.1 _ (.die 3) _ _ _ rfl rfl).2.2.2.2.2.2 (tk (by decide +kernel)) _ rfl⟩⟩


/-- Group 8191 has the members P0 and F0 (codes of R181); the codes of P0 and C0 lie at the start of the staging area. -/
def withGroup (d : Dev) : Dev :=
  { d with fab := { d.fab with groups := [(8191, ⟨[0x10000000], 4⟩)] }
           host := { d.host with staging := memWrite 0 [] 0 (le 4 0x10000000 ++ le 4 0x10100000) } }

/-- The payload of FABRIC_GROUP_SET. -/
def groupReq (op n off : Nat) : Bytes := le 2 8191 ++ [BitVec.ofNat 8 op, 0] ++ le 4 n ++ le 4 off

theorem met_FabricCommands (h : Obligations.TableFabricAndQueueCommandsAnswer) :
    Runs (.fabricGroupSet (ask (groupReq 0 2 0))) (st (withGroup up)) ∧
    Runs (.fabricGroupSet (ask (groupReq 1 1 4))) (st (withGroup up)) ∧
    Runs (.fabricGroupSet (ask (groupReq 2 1 0))) (st (withGroup up)) ∧
    Runs (.fabricGroupSet (ask (groupReq 3 0 0))) (st (withGroup up)) ∧
    Runs (.fabricGroupSet (ask (groupReq 0 2 0))) (st { withGroup up with pkg := { up.pkg with links := [] } }) ∧
    Runs (.fabricGroupQuery (ask (le 2 8191 ++ zeros 2 ++ le 4 4194300))) (st (withGroup up)) ∧
    Runs (.mirrorPlainEnable (ask [0, 0, 0, 0] 0xF1000000)) (st up) :=
  ⟨⟨_, ((h.2.1 _ 0 _).1 (tk (by decide +kernel)) _ rfl _ _ _ _ _ rfl rfl rfl rfl rfl (by decide +kernel) (by decide +kernel)
      (by decide) (by decide +kernel) (by decide +kernel) (by decide +kernel) (by decide +kernel)).2
      (by decide +kernel) _ _ rfl (fun _ => rfl) (by decide +kernel) (by decide +kernel) (by decide +kernel) (by decide +kernel) (by decide +kernel)
      (by decide +kernel)⟩,
   ⟨_, ((h.2.1 _ 0 _).1 (tk (by decide +kernel)) _ rfl _ _ _ _ _ rfl rfl rfl rfl rfl (by decide +kernel) (by decide +kernel)
      (by decide) (by decide +kernel) (by decide +kernel) (by decide +kernel) (by decide +kernel)).2
      (by decide +kernel) [0x10000000, 0x10100000] _ rfl (by decide +kernel) (by decide +kernel) (by decide +kernel) (by decide +kernel) (by decide +kernel) (by decide +kernel)
      (by decide +kernel)⟩,
   ⟨_, ((h.2.1 _ 0 _).1 (tk (by decide +kernel)) _ rfl _ _ _ _ _ rfl rfl rfl rfl rfl (by decide +kernel) (by decide +kernel)
      (by decide) (by decide +kernel) (by decide +kernel) (by decide +kernel) (by decide +kernel)).2
      (by decide +kernel) [] _ rfl (by decide +kernel) (by decide +kernel) (by decide +kernel) (by decide +kernel) (by decide +kernel) (by decide +kernel)
      (by decide +kernel)⟩,
   ⟨_, ((h.2.1 _ 0 _).1 (tk (by decide +kernel)) _ rfl _ _ _ _ _ rfl rfl rfl rfl rfl (by decide +kernel) (by decide +kernel)
      (by decide) (by decide +kernel) (by decide +kernel) (by decide +kernel) (by decide +kernel)).2
      (by decide +kernel) [] _ rfl (by decide +kernel) (by decide +kernel) (by decide +kernel) (by decide +kernel) (by decide +kernel) (by decide +kernel)
      (by decide +kernel)⟩,
   ⟨_, ((h.2.1 _ 0 _).1 (tk (by decide +kernel)) _ rfl _ _ _ _ _ rfl rfl rfl rfl rfl (by decide +kernel) (by decide +kernel)
      (by decide) (by decide +kernel) (by decide +kernel) (by decide +kernel) (by decide +kernel)).1
      (by decide +kernel)⟩,
   ⟨_, (h.2.1 _ 0 _).2.1 (tk (by decide +kernel)) _ rfl _ _ _ rfl rfl rfl (by decide +kernel) (by decide +kernel)
      (by decide +kernel)⟩,
   ⟨_, (h.2.1 _ 0 _).2.2.1 (tk (by decide +kernel)) (by decide +kernel) _ rfl⟩⟩

theorem met_FabricState (h : Obligations.TableFabricAndQueueCommandsAnswer) :
    Runs (.mirrorPlainEnable (signed 0x0903 [1, 0, 0, 0] 0xF1000000)) (st (keyed 2 up)) ∧
    Runs (.mirrorPlainEnable (signed 0x0903 [1, 0, 0, 0] 0xF1000000))
      (st { keyed 2 up with fab := { up.fab with analysis := [0] } }) ∧
    Runs (.mirrorPlainEnable (signed 0x0903 [1, 0, 0, 0] 0xF1000000))
      (st { keyed 2 up with pkg := { up.pkg with links := up.pkg.links.take 4 } }) ∧
    Runs (.mirrorQuery (ask [7, 1, 0, 0])) (st up) ∧ Runs (.mirrorQuery (ask [0, 1, 0, 0])) (st up) ∧
    Runs (.fabricPortQuery (ask [1, 0, 0, 0] 0xF1000000)) (st up) ∧
    Runs (.fabCntRead (ask [1, 0, 0, 0] 0x30000000)) (st up) ∧ Runs (.bufStatus (ask [] 0x00000000)) (st up) :=
  ⟨⟨_, ((h.2.1 _ 0 _).2.2.2.1 (gr (by decide +kernel)) (by decide +kernel) _ rfl).2.2 (by decide +kernel) (by decide +kernel)⟩,
   ⟨_, ((h.2.1 _ 0 _).2.2.2.1 (gr (by decide +kernel)) (by decide +kernel) _ rfl).2.1 (by decide +kernel) (by decide +kernel)⟩,
   ⟨_, ((h.2.1 _ 0 _).2.2.2.1 (gr (by decide +kernel)) (by decide +kernel) _ rfl).1 (by decide +kernel)⟩,
   ⟨_, ((h.2.1 _ 0 _).2.2.2.2.1 (tk (by decide +kernel)) _ rfl _ rfl).1 (by decide +kernel)⟩,
   ⟨_, ((h.2.1 _ 0 _).2.2.2.2.1 (tk (by decide +kernel)) _ rfl _ rfl).2 _ rfl⟩,
   ⟨_, (h.2.1 _ 0 _).2.2.2.2.2.1 (tk (by decide +kernel)) _ rfl⟩,
   ⟨_, (h.2.1 _ 0 _).2.2.2.2.2.2.1 3 (tk (by decide +kernel)) _ rfl⟩,
   ⟨_, (h.2.1 _ 0 _).2.2.2.2.2.2.2 0 (tk (by decide +kernel)) _ rfl _ _ _ _ rfl rfl rfl rfl⟩⟩

/-- A queue of a frame, in the stockpot or not. -/
def withQueued (spilled : Bool) (d : Dev) : Dev :=
  setQueue 0 ⟨[{ frm with blocks := if spilled then [5] else [] }], 7, none⟩ d

theorem met_QueueCommands (h : Obligations.TableFabricAndQueueCommandsAnswer) :
    Runs (.queueQuery (ask (le 4 262143 ++ [1, 0, 0, 0]) 0x00000000)) (st up) ∧
    Runs (.shaperQuery (ask (le 4 65535) 0x00000000)) (st up) ∧ Runs (.shaperQuery (ask (le 4 0) 0x00000000)) (st up) ∧
    Runs (.meterQuery (ask (le 4 65535 ++ zeros 4) 0x00000000)) (st up) ∧
    Runs (.meterQuery (ask (le 4 0 ++ [1, 0, 0, 0]) 0x00000000)) (st up) ∧
    Runs (.portSchedQuery (ask [] 0xF1000000)) (st (withQueued true up)) ∧
    Runs (.queCntRead (ask [1, 0, 0, 0] 0x80000000)) (st up) ∧
    Runs (.queueFlush (ask (le 4 0 ++ zeros 4) 0x00000000)) (st (withQueued false up)) ∧
    Runs (.queueFlush (ask (le 4 0 ++ zeros 4) 0x00000000)) (st (withQueued true up)) :=
  ⟨⟨_, (h.2.2 _ 0 0 _ _ rfl).1 (tk (by decide +kernel)) (by decide +kernel) _ rfl _ _ _ _ rfl rfl rfl rfl⟩,
   ⟨_, ((h.2.2 _ 0 0 _ _ rfl).2.1 (tk (by decide +kernel)) (by decide +kernel) _ rfl _ rfl).1 (by decide +kernel)⟩,
   ⟨_, ((h.2.2 _ 0 0 _ _ rfl).2.1 (tk (by decide +kernel)) (by decide +kernel) _ rfl _ rfl).2 _ _ _ rfl rfl rfl⟩,
   ⟨_, ((h.2.2 _ 0 0 _ _ rfl).2.2.1 (tk (by decide +kernel)) (by decide +kernel) _ rfl _ rfl).1 (by decide +kernel)⟩,
   ⟨_, ((h.2.2 _ 0 0 _ _ rfl).2.2.1 (tk (by decide +kernel)) (by decide +kernel) _ rfl _ rfl).2 _ _ rfl rfl⟩,
   ⟨_, (h.2.2 _ 0 0 _ _ rfl).2.2.2.1 (tk (by decide +kernel)) _ rfl _ rfl⟩,
   ⟨_, (h.2.2 _ 8 0 _ _ rfl).2.2.2.2.1 (tk (by decide +kernel)) _ rfl⟩,
   ⟨_, ((h.2.2 _ 0 0 _ _ rfl).2.2.2.2.2 (tk (by decide +kernel)) (by decide +kernel) _ rfl _ _ _ _ rfl (by decide +kernel)
      rfl rfl rfl).1 (by decide +kernel)⟩,
   ⟨_, ((h.2.2 _ 0 0 _ _ rfl).2.2.2.2.2 (tk (by decide +kernel)) (by decide +kernel) _ rfl _ _ _ _ rfl (by decide +kernel)
      rfl rfl rfl).2 (by decide +kernel)⟩⟩


/-- The host gives time, and device time is in a state. -/
def hostTime (x : TimeState) : Dev := withTime (fun t => { t with state := x }) (withSet (fun p => { p with timeSource := 3 }) up)

/-- The payload of TIME_PULSE_SET on TPO7. -/
def pulseReq (mode width start period : Nat) : Bytes :=
  [7, BitVec.ofNat 8 mode, 1, 0] ++ le 4 width ++ inst start ++ le 8 period ++ zeros 4

theorem met_TimeCommands (h : Obligations.TimeAndPtpCommandsAnswer) :
    Runs (.timeQuery (ask [])) (st up) ∧ Runs (.timeUnlock (ask [])) (st (hostTime .acquire)) ∧
    Runs (.timeUnlock (ask [])) (st up) ∧
    Runs (.timeStep (ask (zeros 32))) (st (hostTime .acquire)) ∧
    Runs (.timeStep (ask (inst 50000 ++ zeros 20))) (st (hostTime .acquire)) ∧
    Runs (.timeRate (ask (le 4 1024000000 ++ zeros 4))) (st (hostTime .acquire)) ∧
    Runs (.timeSlew (ask (le 8 (1000000000 * 65536) ++ zeros 8))) (st (hostTime .track)) ∧
    Runs (.timePulseSet (ask (pulseReq 0 0 0 0))) (st up) ∧
    Runs (.timePulseSet (ask (pulseReq 1 1000000000 50000 0))) (st up) ∧
    Runs (.timePulseSet (ask (pulseReq 2 8 0 65536000))) (st up) ∧
    Runs (.timeCaptureSet (ask [3, 0, 0, 0])) (st up) ∧ Runs (.timeCaptureSet (ask [3, 3, 0, 0])) (st up) ∧
    Runs (.timeCaptureRead (ask [3, 32, 0, 0])) (st up) ∧
    Runs (.timeCntRead (ask [1, 0, 0, 0])) (st up) :=
  ⟨⟨_, (h.1 _ .device _).1 (tk (by decide +kernel)) _ rfl _ _ rfl rfl⟩,
   ⟨_, ((h.1 _ .device _).2.1 (tk (by decide +kernel)) _ rfl).1 (.inl rfl)⟩,
   ⟨_, ((h.1 _ .device _).2.1 (tk (by decide +kernel)) _ rfl).2 (by decide +kernel) rfl⟩,
   ⟨_, ((h.1 _ .device _).2.2.1 (tk (by decide +kernel)) _ rfl _ _ rfl rfl (by decide +kernel) (by decide +kernel)
      (by decide +kernel) rfl rfl _ rfl).1 (by decide +kernel)⟩,
   ⟨_, ((h.1 _ .device _).2.2.1 (tk (by decide +kernel)) _ rfl _ _ rfl rfl (by decide +kernel) (by decide +kernel)
      (by decide +kernel) rfl rfl _ rfl).2 (by decide +kernel) (by decide +kernel) (by decide +kernel)⟩,
   ⟨_, (h.1 _ .device _).2.2.2.1 (tk (by decide +kernel)) _ rfl _ rfl (by decide +kernel) (by decide +kernel)
      (by decide +kernel) (by decide +kernel)⟩,
   ⟨_, (h.1 _ .device _).2.2.2.2.1 (tk (by decide +kernel)) _ rfl _ rfl (by decide +kernel) (by decide +kernel) (.inl rfl)
      (by decide +kernel)⟩,
   ⟨_, ((h.1 _ .device _).2.2.2.2.2.1 (tk (by decide +kernel)) _ rfl _ _ _ _ _ _ rfl rfl rfl rfl rfl rfl
      (by decide +kernel) (by decide +kernel) _ (fun _ _ => rfl) (by decide +kernel)).1 (by decide +kernel) (by decide +kernel)⟩,
   ⟨_, ((h.1 _ .device _).2.2.2.2.2.1 (tk (by decide +kernel)) _ rfl _ _ _ _ _ _ rfl rfl rfl rfl rfl rfl
      (by decide +kernel) (by decide +kernel) _ (fun _ _ => rfl) (by decide +kernel)).2.1 (by decide +kernel) (by decide +kernel) (by decide +kernel)
      (by decide +kernel) (by decide +kernel)⟩,
   ⟨_, ((h.1 _ .device _).2.2.2.2.2.1 (tk (by decide +kernel)) _ rfl _ _ _ _ _ _ rfl rfl rfl rfl rfl rfl
      (by decide +kernel) (by decide +kernel) _ (fun _ _ => rfl) (by decide +kernel)).2.2 (by decide +kernel) (by decide +kernel) (by decide +kernel)
      (by decide +kernel) (by decide +kernel) (by decide +kernel) _ rfl⟩,
   ⟨_, ((h.1 _ .device _).2.2.2.2.2.2.1 (tk (by decide +kernel)) _ rfl _ _ rfl rfl).1 (by decide +kernel)⟩,
   ⟨_, ((h.1 _ .device _).2.2.2.2.2.2.1 (tk (by decide +kernel)) _ rfl _ _ rfl rfl).2 (by decide +kernel)⟩,
   ⟨_, (h.1 _ .device _).2.2.2.2.2.2.2.1 (tk (by decide +kernel)) _ rfl _ _ _ rfl rfl rfl (by decide +kernel)
      (by decide +kernel)⟩,
   ⟨_, (h.1 _ .device _).2.2.2.2.2.2.2.2.2 (tk (by decide +kernel)) _ rfl⟩⟩

theorem met_TimePtmRead (h : Obligations.TimeAndPtpCommandsAnswer) :
    Runs (.timePtmRead (ask [])) (st (withTime (fun t => { t with ptmEnabled := true, linkL0 := true }) up)) :=
  let ⟨_, _, e⟩ := (h.1 _ .device _).2.2.2.2.2.2.2.2.1 (tk (by decide +kernel)) _ rfl rfl rfl
  e.elim (fun e => ⟨_, e⟩) (fun e => ⟨_, e⟩)

theorem met_PtpCommands (h : Obligations.TimeAndPtpCommandsAnswer) :
    Runs (.ptpTsRead (ask [64, 0, 0, 0] 0xF5000000)) (st up) ∧
    Runs (.ptpPortQuery (ask [1, 0, 0, 0] 0xF1000000)) (st up) ∧
    Runs (.ptpLinkDelaySet (ask (le 8 65536000000 ++ zeros 8) 0xF1000000)) (st (withSet (fun p => { p with
      ports := [(0, { form := 1, side := 0, ptpMode := 2, pdelayHost := true })] }) up)) ∧
    Runs (.ptpInstanceQuery (ask [3, 0, 0, 0])) (st up) ∧
    Runs (.tsCntRead (ask [1, 0, 0, 0] 0x80000000)) (st up) :=
  ⟨⟨_, (h.2 _ 97 .device _).1 (tk (by decide +kernel)) _ rfl _ _ rfl (by decide +kernel) (by decide +kernel) rfl⟩,
   ⟨_, (h.2 _ 0 .device _).2.1 (tk (by decide +kernel)) _ rfl _ _ rfl rfl⟩,
   ⟨_, (h.2 _ 0 .device _).2.2.1 (tk (by decide +kernel)) _ rfl _ _ rfl rfl rfl rfl (by decide +kernel)
      (by decide +kernel)⟩,
   ⟨_, (h.2 _ 0 .device _).2.2.2.1 (tk (by decide +kernel)) _ rfl _ _ _ _ rfl rfl rfl rfl _ rfl⟩,
   ⟨_, (h.2 _ 0 (.die 8) _).2.2.2.2 (tk (by decide +kernel)) _ rfl⟩⟩


/-- The payload of GATE_LIST_INSTALL: two entries at the end of the staging area, a cycle of 1 ms. -/
def gateReq : Bytes :=
  [1, 0xFF, 0x0F, 0] ++ le 2 2 ++ zeros 2 ++ le 4 4194288 ++ le 4 1000 ++ inst 0 ++ zeros 4 ++ le 8 65536000000
    ++ (List.range 8).flatMap (fun _ => le 2 1522) ++ zeros 8

/-- Its entries, staged. -/
def gateStaged (d : Dev) : Dev :=
  { d with host := { d.host with staging := memWrite 0 [] 4194288 ([1, 0, 0, 0] ++ le 4 500000 ++ [2, 0, 0, 0] ++ le 4 500000) } }

/-- A gate list. -/
def gateL : GateList := ⟨true, 0xFF, 0x0F, [(1, 500000), (2, 500000)], 1000, ⟨0, 0, 0⟩, 65536000000, List.replicate 8 1522⟩

/-- P0 has that list as its admin list, taking effect after 20 µs. -/
def gatePend (d : Dev) : Dev := setGate 0 { gateSt 0 d with admin := some gateL, change := some (20000 * 65536) } d

theorem met_GateCommands (h : Obligations.GateAndTimedActionCommandsAnswer) :
    Runs (.gateListInstall (ask gateReq 0xF1000000)) (st (gatePend (gateStaged up))) ∧
    Runs (.gateListCancel (ask [] 0xF1000000)) (st (gatePend up)) ∧
    Runs (.gateListRead (ask (zeros 4 ++ le 4 4194288) 0xF1000000)) (st (gatePend up)) ∧
    Runs (.gateStatus (ask [1, 0, 0, 0] 0xF1000000)) (st (gatePend up)) :=
  ⟨⟨_, (h.1 _ 0 _).1 (tk (by decide +kernel)) _ rfl _ _ _ _ _ _ rfl rfl rfl rfl rfl rfl (by decide +kernel)
      (by decide +kernel) (by decide +kernel) (by intro t e; cases e; decide +kernel)⟩,
   ⟨_, (h.1 _ 0 _).2.1 (tk (by decide +kernel)) _ rfl _ rfl (by decide +kernel)⟩,
   ⟨_, (h.1 _ 0 _).2.2.1 (tk (by decide +kernel)) _ rfl gateL _ rfl (by decide +kernel) (by decide +kernel)
      (by decide +kernel)⟩,
   ⟨_, (h.1 _ 0 _).2.2.2 (tk (by decide +kernel)) _ rfl _ _ _ rfl rfl rfl⟩⟩

theorem met_TimedActions (h : Obligations.GateAndTimedActionCommandsAnswer) :
    Runs (.cdPeerSet (ask ([0, 0, 1, 0] ++ le 4 2000) 0xF2000000)) (st up) ∧
    Runs (.cdQuery (ask [1, 0, 1, 0] 0xF2000000)) (st up) ∧
    Runs (.actionList (ask (le 4 4194272 ++ le 4 1))) (st (gatePend up)) ∧
    Runs (.eggCntRead (ask [1, 0, 0, 0] 0x30000000)) (st up) :=
  ⟨⟨_, (h.2 _ 16 .device _).1 (tk (by decide +kernel)) _ rfl _ _ _ _ rfl rfl rfl (by decide +kernel) (by decide +kernel)
      rfl rfl rfl⟩,
   ⟨_, (h.2 _ 16 .device _).2.1 (tk (by decide +kernel)) _ rfl _ _ _ _ _ _ rfl rfl (by decide +kernel) rfl rfl rfl rfl rfl⟩,
   ⟨_, (h.2 _ 16 .device _).2.2.1 (tk (by decide +kernel)) _ rfl _ _ _ rfl rfl rfl (by decide +kernel) (by decide +kernel)
      (by decide +kernel) (by decide +kernel)⟩,
   ⟨_, (h.2 _ 16 (.die 3) _).2.2.2 (tk (by decide +kernel)) _ rfl⟩⟩

/-- Region 127 in a state. -/
def withRegion (x : RegionState) (d : Dev) : Dev := setRegion 127 { region 127 d with state := x } d

/-- Region 127 held out, its return waiting. -/
def returning (d : Dev) : Dev := setRegion 127 { region 127 d with state := .heldOut, handle := some 1 } d

theorem met_MemoryCommands (h : Obligations.MemoryCommandsAnswer) :
    Runs (.memStatus (ask [])) (st up) ∧ Runs (.memRegionRekey (ask (le 4 127))) (st (withRegion .inService up)) ∧
    Runs (.memRegionReturn (ask (le 4 127)))
      (st { withRegion .heldOut up with vault := { up.vault with trng := 2 } }) ∧
    Runs (.memRegionReturn (ask (le 4 127))) (st (withRegion .heldOut up)) ∧
    Runs (.memRegionReturn (ask (le 4 127))) (st (returning up)) ∧
    Runs (.memCntRead (ask [1, 0, 0, 0] 0x80000000)) (st up) :=
  ⟨⟨_, (h _ .device _ _ rfl).1 (tk (by decide +kernel)) _ rfl _ rfl⟩,
   ⟨_, (h _ .device _ _ rfl).2.1 (tk (by decide +kernel)) _ rfl (by decide +kernel) (by decide +kernel)⟩,
   ⟨_, ((h _ .device _ _ rfl).2.2.1 (tk (by decide +kernel)) _ rfl (by decide +kernel) (by decide +kernel)
      (by decide +kernel) _ rfl).1 (by decide +kernel)⟩,
   ⟨_, ((h _ .device _ _ rfl).2.2.1 (tk (by decide +kernel)) _ rfl (by decide +kernel) (by decide +kernel)
      (by decide +kernel) _ rfl).2
      (by decide +kernel)⟩,
   ⟨_, (h _ .device _ _ rfl).2.2.2.1 (tk (by decide +kernel)) _ rfl (by decide +kernel) (by decide +kernel) (by decide +kernel)⟩,
   ⟨_, (h _ (.die 8) _ _ rfl).2.2.2.2 (tk (by decide +kernel)) _ rfl⟩⟩

theorem met_PortCommands (h : Obligations.PortAndLaneCommandsAnswer) :
    Runs (.portQuery (ask [] 0xF5000000)) (st up) ∧
    Runs (.portAdmin (ask [0, 0, 0, 0] 0xF1000000)) (st (withPort 0 (fun x => { x with state := .up }) up)) ∧
    Runs (.portAdmin (ask [1, 0, 0, 0] 0xF1000000)) (st up) ∧
    Runs (.portAdmin (ask [2, 0, 0, 0] 0xF1000000)) (st (withPort 0 (fun x => { x with state := .up }) up)) ∧
    Runs (.portAdmin (ask [2, 0, 0, 0] 0xF4000000)) (st (withPort 96 (fun x => { x with state := .up }) up)) ∧
    Runs (.portAdmin (ask [3, 0, 0, 0] 0xF1000000)) (st (withPort 0 (fun x => { x with state := .up }) up)) ∧
    Runs (.portCntRead (ask [1, 0, 0, 0] 0xF4000000)) (st up) :=
  ⟨⟨_, (h.1 _ 97 _ _).1 (tk (by decide +kernel)) _ rfl rfl _ _ rfl rfl⟩,
   ⟨_, ((h.1 _ 0 _ _).2.1 (tk (by decide +kernel)) _ rfl _ rfl rfl (by decide +kernel)).1 (by decide +kernel)⟩,
   ⟨_, ((h.1 _ 0 _ _).2.1 (tk (by decide +kernel)) _ rfl _ rfl rfl (by decide +kernel)).2.1 (by decide +kernel)
      (by decide +kernel)⟩,
   ⟨_, ((h.1 _ 0 _ _).2.1 (tk (by decide +kernel)) _ rfl _ rfl rfl (by decide +kernel)).2.2.1 (by decide +kernel)
      (by decide +kernel) (by decide +kernel)⟩,
   ⟨_, ((h.1 _ 96 _ _).2.1 (tk (by decide +kernel)) _ rfl _ rfl rfl (by decide +kernel)).2.2.2.1 (by decide +kernel)
      (by decide +kernel) (by decide +kernel)⟩,
   ⟨_, ((h.1 _ 0 _ _).2.1 (tk (by decide +kernel)) _ rfl _ rfl rfl (by decide +kernel)).2.2.2.2 (by decide +kernel)
      (by decide +kernel) (by decide +kernel)⟩,
   ⟨_, (h.1 _ 96 _ { form := 1, side := 0 }).2.2 (tk (by decide +kernel)) _ rfl⟩⟩

/-- A device whose MGT port is up, with a scan of its lane running or not. -/
def mgtUp (scan : Bool) : Dev :=
  let d := withPort 97 (fun x => { x with state := .up }) up
  setLaneSt 100 { laneSt 100 d with scan := if scan then some ⟨5, 0, 0, 1, 1, 0, 1, 1, 10000, 0, 0, 0⟩ else none } d

theorem met_LaneCommands (h : Obligations.PortAndLaneCommandsAnswer) :
    Runs (.laneQuery (ask [3, 1, 0, 0] 0xF2000000)) (st up) ∧
    Runs (.laneEyeScan (ask ([0, 0, 1, 1, 0xE0, 0x20, 0xC0, 0x3F] ++ le 8 10000 ++ le 4 0 ++ zeros 4) 0xF5000000))
      (st (mgtUp false)) ∧
    Runs (.laneEyeAbort (ask [0, 0, 0, 0] 0xF5000000)) (st (mgtUp true)) :=
  ⟨⟨_, (h.2 _ 16 _ _ _ rfl rfl).1 (tk (by decide +kernel)) _ rfl _ _ _ (by decide +kernel) rfl rfl rfl⟩,
   ⟨_, (h.2 _ 97 _ _ _ rfl rfl).2.1 (tk (by decide +kernel)) _ rfl _ _ _ _ _ _ _ _ _ rfl rfl rfl rfl rfl rfl rfl rfl rfl
      (by decide +kernel) (by decide +kernel) (by decide +kernel) (by decide +kernel) (by decide +kernel)
      (by decide +kernel) _ rfl⟩,
   ⟨_, (h.2 _ 97 _ _ _ rfl rfl).2.2 (tk (by decide +kernel)) _ rfl _ (by decide +kernel) rfl _ rfl⟩⟩


/-- A device in a twin state, under a role. -/
def twinned (x : TwinSt) (role : Nat) (d : Dev) : Dev :=
  { d with twin := { d.twin with state := x, role := role, serving := decide (role = 1), failOut := false } }

/-- An owned device with a pair key whose twin link is up. -/
def pairReady : Dev :=
  let d := withPort 96 (fun x => { x with state := .up }) up
  { d with vault := { d.vault with lc := 2, store := [(1023, ⟨some ⟨5, 9, zeros 32⟩, none, ⟨0, 0, 0⟩⟩)] } }

theorem met_TwinCommands (h : Obligations.TwinCommandsAnswer) :
    Runs (.twinQuery (ask [])) (st up) ∧
    Runs (.twinPairkeyInstall (signed 0x0D02 ([64, 0, 0, 0] ++ le 4 9 ++ [1, 5, 4, 32] ++ zeros 60))) (st (keyed 2 up)) ∧
    Runs (.twinAttach (ask [1, 0, 0, 0])) (st pairReady) ∧
    Runs (.twinDetach (ask [])) (st (twinned .paired 1 up)) ∧
    Runs (.twinTakeover (ask [0, 0, 0, 0])) (st (twinned .lost 2 up)) ∧
    Runs (.twinTakeover (ask [1, 0, 0, 0])) (st (twinned .paired 1 up)) ∧
    Runs (.twinTakeover (ask [2, 0, 0, 0])) (st up) ∧
    Runs (.twinCntRead (ask [1, 0, 0, 0])) (st up) :=
  ⟨⟨_, (h _ .device _).1 (tk (by decide +kernel)) _ rfl _ _ rfl rfl⟩,
   runs ((h _ .device _).2.1 (gr (by decide +kernel)) _ rfl _ _ rfl rfl (by decide +kernel) (by decide +kernel)
      (by decide +kernel) (by decide +kernel) (by decide +kernel) rfl),
   ⟨_, (h _ .device _).2.2.1 (tk (by decide +kernel)) _ rfl (by decide +kernel) (by decide +kernel)⟩,
   ⟨_, (h _ .device _).2.2.2.1 (tk (by decide +kernel)) _ rfl rfl⟩,
   ⟨_, ((h _ .device _).2.2.2.2.1 (tk (by decide +kernel)) _ rfl _ rfl).1 (by decide +kernel) rfl (by decide +kernel)⟩,
   ⟨_, ((h _ .device _).2.2.2.2.1 (tk (by decide +kernel)) _ rfl _ rfl).2.1 (by decide +kernel) rfl rfl⟩,
   ⟨_, ((h _ .device _).2.2.2.2.1 (tk (by decide +kernel)) _ rfl _ rfl).2.2 (by decide +kernel)⟩,
   ⟨_, (h _ .device _).2.2.2.2.2 (tk (by decide +kernel)) _ rfl⟩⟩

/-! The time base: the factory calibration of a pin is not known, and lies within 32,768 ns. -/

theorem pinCal_bound (o : Otp) (point pin : Nat) (d : Dev) :
    -2147483648 ≤ pinCal o point pin d ∧ pinCal o point pin d ≤ 2147483647 := by
  unfold pinCal
  split
  · unfold calSum
    dsimp only
    repeat' split
    all_goals (dsimp only; omega)
  · omega

/-- Ten seconds. -/
def tenS : Nat := 10 * unitsPerS

/-- The device at ten seconds, its source a pulse per second; the last edge, and the second named for the next. -/
def ppsDev (last : Option (Nat × Nat)) (named : Option Nat) : Dev :=
  withTime (fun t => { t with grand := tenS, ppsLast := last, todNext := named }) (withSet (fun p => { p with timeSource := 2 }) up)

/-- When an edge now counts as. -/
def edgeAt : Nat := calibrated tenS (-(pinCal ⟨[]⟩ 0x20 0 (ppsDev none none)))

theorem edgeAt_bound : tenS - 32768 * unitsPerNs ≤ edgeAt ∧ edgeAt ≤ tenS + 32768 * unitsPerNs := by
  have h := pinCal_bound ⟨[]⟩ 0x20 0 (ppsDev none none)
  unfold edgeAt calibrated
  generalize pinCal ⟨[]⟩ 0x20 0 (ppsDev none none) = c at h
  have e1 : (counterMod : Int) = 281474976710656 * 1000000000 * 4294967296 := by decide
  have e2 : tenS = 42949672960000000000 := by decide
  have e3 : unitsPerNs = 4294967296 := by decide
  rw [e1, e2, e3]
  omega

theorem met_TimeInputs (h : Obligations.TimeInputsAndOutputs) :
    Runs .ppsinEdge (st (ppsDev none none)) ∧
    Runs .ppsinEdge (st (ppsDev (some (edgeAt + unitsPerS, 0)) none)) ∧
    Runs .ppsinEdge (st (ppsDev (some (edgeAt - unitsPerS, 0)) (some 10))) ∧
    Runs .ppsMissing (st (ppsDev (some (0, 0)) none)) ∧
    Runs .tref10Loss (st (withTime (fun t => { t with trefPresent := true }) up)) ∧
    Runs .tref10Return (st up) ∧
    Runs (.tref10RateWindow 100000000) (st (withTime (fun t => { t with trefPresent := true })
      (withSet (fun p => { p with tref10Use := true }) up))) :=
  ⟨⟨_, ((h.1 _ _ rfl rfl).1 _ _ rfl rfl).1 rfl⟩,
   ⟨_, ((h.1 _ _ rfl rfl).1 edgeAt _ rfl rfl).2.1 (edgeAt + unitsPerS) 0 rfl (by
      have e3 : unitsPerNs = 4294967296 := by decide
      have e4 : unitsPerS = 4294967296000000000 := by decide
      rw [e3, e4]; omega)⟩,
   ⟨_, ((h.1 _ _ rfl rfl).1 edgeAt _ rfl rfl).2.2 (edgeAt - unitsPerS) 0 10 rfl (by
      have h := edgeAt_bound
      have e2 : tenS = 42949672960000000000 := by decide
      have e3 : unitsPerNs = 4294967296 := by decide
      have e4 : unitsPerS = 4294967296000000000 := by decide
      rw [e2, e3] at h
      rw [e3, e4]; omega) rfl rfl rfl⟩,
   ⟨_, (h.1 _ _ rfl rfl).2.1 _ _ _ rfl rfl⟩,
   ⟨_, (h.1 _ _ rfl rfl).2.2.2.2.1 rfl⟩,
   ⟨_, (h.1 _ _ rfl rfl).2.2.2.2.2.1 rfl⟩,
   ⟨_, (h.1 _ _ rfl rfl).2.2.2.2.2.2 _ _ _ rfl rfl rfl rfl⟩⟩

/-- A message of TODI that names second 11, and its CRC. -/
def todMsg : Bytes :=
  let b := [1, 1] ++ be 6 11 ++ be 2 37 ++ zeros 2
  [0xC3, 0x3C] ++ b ++ be 2 (crc16 b)

theorem met_Todi (h : Obligations.TimeInputsAndOutputs) :
    Runs (.todMessage todMsg) (st (ppsDev (some (tenS - 100000000 * unitsPerNs, 0)) none)) ∧
    Runs (.todMessage (todMsg.set 15 0xEE)) (st (ppsDev (some (tenS, 0)) none)) :=
  ⟨⟨_, (h.1 _ _ rfl rfl).2.2.1 todMsg _ _ (by decide +kernel) (by decide +kernel) (by decide +kernel) rfl (by decide +kernel)
      (by decide +kernel) (by decide +kernel) (by decide +kernel) (by decide +kernel) (by decide +kernel)⟩,
   ⟨_, (h.1 _ _ rfl rfl).2.2.2.1 _ (by decide +kernel)⟩⟩

/-- An active pulse pin, or one with its next edge at 1 ms. -/
def pulseDev (x : Tpo) : Dev := setTpo 7 x up

theorem met_PulsesAndCaptures (h : Obligations.TimeInputsAndOutputs) :
    Runs (.pulseEdge 7) (st (pulseDev ⟨2, 1, 8, ⟨0, 0, 0⟩, 65536000, none, some 100⟩)) ∧
    Runs (.pulseEdge 7) (st (pulseDev ⟨1, 1, 8, ⟨0, 0, 0⟩, 0, some (2 ^ 52), none⟩)) ∧
    Runs (.pulseEdge 7) (st (pulseDev ⟨2, 1, 8, ⟨0, 0, 0⟩, 65536000, some (2 ^ 52), none⟩)) ∧
    Runs (.tciEdge 3 true) (st (setTci 3 ⟨3, [], 0, some 0⟩ (withTime (fun t => { t with elapsed := 1250 }) up))) ∧
    Runs (.tciEdge 3 true) (st (setTci 3 ⟨1, List.replicate 64 ⟨⟨0, 0, 0⟩, 0⟩, 0, none⟩ up)) :=
  ⟨⟨_, ((h.2 _ _ rfl).2.1 7 _ rfl).1 _ _ rfl rfl⟩,
   ⟨_, ((h.2 _ _ rfl).2.1 7 _ rfl).2.1 _ _ rfl rfl rfl rfl⟩,
   ⟨_, ((h.2 _ _ rfl).2.1 7 _ rfl).2.2 _ _ rfl rfl rfl rfl⟩,
   ⟨_, ((h.2 _ _ rfl).2.2 3 true _ _ _ rfl rfl rfl (by intro l e; cases e; decide +kernel) rfl rfl).1 (by decide +kernel)⟩,
   ⟨_, ((h.2 _ _ rfl).2.2 3 true _ _ _ rfl rfl rfl (by intro l e; cases e) rfl rfl).2 (by decide +kernel)⟩⟩

theorem met_TodOutput (h : Obligations.TimeInputsAndOutputs) : Runs .todOutput (st up) :=
  let ⟨_, _, _, _, e⟩ := (h.2 _ _ rfl).1 rfl _ _ rfl rfl
  ⟨_, e⟩

/-- Device time in a state, with counts of good and bad measurements. -/
def timed (x : TimeState) (good bad : Nat) : Dev := withTime (fun t => { t with state := x, lockRun := good, unlockRun := bad }) up

theorem met_Measurement (h : Obligations.MeasurementFollowsState) :
    (measure 5 9 (timed .freerun 0 0)).time.acquireAt.isSome = true ∧
    (measure 5 9 (timed .acquire 0 0)).time.step = none ∧
    (∃ x, (measure 5 9 (withTime (fun t => { t with samples := [⟨1, 1⟩] }) (timed .acquire 0 0))).time.step = some x) ∧
    (measure 5 9 (timed .holdover 0 0)).time.slew = 4 ∧ (measure 5 9 (timed .holdover 0 0)).time.state = .track ∧
    (measure 0 (100 * unitsPerNs) (timed .track 15 0)).time.state = .locked ∧
    (measure (100 * unitsPerNs + 1) 0 (timed .track 15 0)).time.lockRun = 0 ∧
    (measure 0 (1000 * unitsPerNs + 1) (timed .locked 0 3)).time.state = .track ∧
    (measure (1000 * unitsPerNs) 0 (timed .locked 0 3)).time.unlockRun = 0 :=
  ⟨((h _ _ _ _ rfl).1 rfl).2.2,
   ((h _ _ _ _ rfl).2.1 rfl rfl (by decide +kernel)).2,
   (let ⟨x, e, _⟩ := (h _ _ _ _ rfl).2.2.1 rfl rfl (by decide +kernel)
    ⟨x, e⟩),
   ((h _ _ _ _ rfl).2.2.2.1 (.inr (.inr rfl))).1,
   (h _ _ _ _ rfl).2.2.2.2.1 rfl,
   (h _ _ _ _ rfl).2.2.2.2.2.1 rfl (by decide +kernel) (by decide +kernel),
   ((h _ _ _ _ rfl).2.2.2.2.2.2.1 rfl (by decide +kernel) (by decide +kernel)).2,
   (h _ _ _ _ rfl).2.2.2.2.2.2.2.1 rfl (by decide +kernel) (by decide +kernel),
   ((h _ _ _ _ rfl).2.2.2.2.2.2.2.2 rfl (by decide +kernel)).2⟩

/-- A step to 1 s is decided for 0. -/
def stepSoon : Dev := withTime (fun t => { t with step := some ⟨0, ⟨1, 0, 0⟩, none, none, some 5, [], 0⟩ }) (timed .acquire 0 0)

theorem met_TimeStates (h : Obligations.TimeStatesChange) :
    Runs .acquireEntry (st (withTime (fun t => { t with acquireAt := some 0 }) up)) ∧
    Runs .acquireTimeout (st (timed .acquire 0 0)) ∧
    Runs .acquireTimeout (st (withTime (fun t => { t with stepped := true }) (timed .acquire 0 0))) ∧
    Runs .timeStepInstant (st stepSoon) ∧
    Runs .sourceLossTimeout (st (timed .locked 0 0)) :=
  ⟨⟨_, (h _ _ rfl).1 _ _ rfl rfl⟩,
   ⟨_, ((h _ _ rfl).2.1 _ _ rfl rfl rfl _ (fun _ => rfl) (by intro x e; cases e)).1 rfl⟩,
   ⟨_, ((h _ _ rfl).2.1 _ _ rfl rfl rfl _ (fun _ => rfl) (by intro x e; cases e)).2 rfl⟩,
   runs ((h _ _ rfl).2.2.1 _ rfl),
   ⟨_, (h _ _ rfl).2.2.2 _ _ (.inr rfl) rfl rfl⟩⟩


theorem met_Resets (h : Obligations.ResetsTakeEffect) :
    Runs .porstNAssert (st up) ∧ Runs (.powerLoss false) (st up) ∧ Runs .vstbyPowerOn (st up) ∧ Runs .srstNAssert (st up) ∧
    Runs (.systemResetFire false) (st { up with sys := { up.sys with resetAt := some 5 } }) ∧
    Runs (.systemResetFire true) (st { up with sys := { up.sys with resetAt := some 5 } }) :=
  ⟨⟨_, (h _ _ rfl).1 rfl⟩, ⟨_, (h _ _ rfl).2.1 false⟩, ⟨_, (h _ _ rfl).2.2.1⟩, ⟨_, (h _ _ rfl).2.2.2.1 rfl rfl⟩,
   ⟨_, (h _ _ rfl).2.2.2.2.1 _ _ rfl rfl rfl rfl⟩, runs ((h _ _ rfl).2.2.2.2.2 _ rfl rfl rfl)⟩

/-- SRST_N held low, before or after the vault's start. -/
def srstLow (v : Bool) : Dev := { up with sys := { up.sys with srst := false, vaultDone := v } }

theorem met_Releases (h : Obligations.ReleasesAndEndpointResets) :
    Runs (.porstNRelease .high true true) State.reset ∧ Runs (.porstNRelease .low false true) State.reset ∧
    Runs (.srstNRelease true) (st (srstLow true)) ∧ Runs (.srstNRelease false) (st (srstLow true)) ∧
    Runs (.srstNRelease true) (st (srstLow false)) ∧
    Runs .functionLevelReset (st up) ∧ Runs .pcieLinkDown (st up) ∧ Runs .pciePerst (st up) :=
  ⟨runs ((h.1 _ _ rfl).1 .high rfl rfl rfl), ⟨_, (h.1 _ _ rfl).2.1 .low false true rfl (.inl rfl)⟩,
   runs ((h.1 _ _ rfl).2.2.1 rfl rfl rfl), ⟨_, (h.1 _ _ rfl).2.2.2.1 rfl rfl rfl⟩,
   ⟨_, (h.1 _ _ rfl).2.2.2.2 true rfl rfl rfl⟩,
   ⟨_, (h.2 _ _ _ rfl rfl rfl).1⟩, ⟨_, (h.2 _ _ _ rfl rfl rfl).2.1⟩, ⟨_, (h.2 _ _ _ rfl rfl rfl).2.2.1⟩⟩

/-- A device in start-up, after its self-test and its hub ROM or not. -/
def rising (bist rom : Bool) : Dev :=
  { up with sys := { up.sys with starting := true, bistDone := bist, romDone := rom, stockpotDone := false, fwRunning := false } }

theorem met_Startup (h : Obligations.StartupSteps) :
    Runs (.memoryBistComplete 15) (st (rising false false)) ∧ Runs .hubRomBoot (st (rising false false)) ∧
    Runs (.stockpotTrainingComplete true false) (st (rising true true)) ∧ Runs .firmwareStart (st (rising true true)) ∧
    Runs (.portEnableGraceExpiry (.p 0)) (st (withPort 0 (fun x => { x with enabledAt := some 0 }) up)) ∧
    Runs .startupSetSaveComplete (st { up with sys := { up.sys with save := some (3, zeros 64) } }) :=
  ⟨⟨_, (h _ _ rfl).1 15 rfl rfl⟩, runs ((h _ _ rfl).2.1 rfl rfl),
   runs ((h _ _ rfl).2.2.1 true false rfl rfl rfl rfl), runs ((h _ _ rfl).2.2.2.1 rfl rfl rfl),
   ⟨_, (h _ _ rfl).2.2.2.2.1 (.p 0) _ _ rfl rfl⟩, ⟨_, (h _ _ rfl).2.2.2.2.2 _ _ _ rfl rfl⟩⟩

theorem met_Sleep (h : Obligations.SleepAndWake) :
    Runs .sleepEntryComplete (st { up with sys := { up.sys with power := .entering, sleepOp := some (3, 0) } }) ∧
    Runs .wakeComplete (st { up with sys := { up.sys with power := .waking, wakeOp := some 3 } }) :=
  ⟨runs ((h _ _ rfl).1 _ _ rfl rfl rfl), ⟨_, (h _ _ rfl).2 _ rfl rfl⟩⟩


/-- The device with its host attachment changed. -/
def withHost (f : HostIf → HostIf) (d : Dev) : Dev := { d with host := f d.host }

theorem met_HostRegisters (h : Obligations.HostRegistersAndRings) :
    Runs (.mbDoneClear 0xFFFF) (st up) ∧ Runs (.faultCauseClear 0xFF) (st up) ∧ Runs (.fwRestartRequest 1) (st up) ∧
    Runs (.tsnapTrigger 1) (st up) ∧ Runs (.nrEnable 0) (st up) ∧
    Runs (.nrEnable 1) (st (withHost (fun h => { h with nrSize := 64 }) up)) ∧ Runs (.nrEnable 1) (st up) ∧
    Runs (.nrHeadWrite 7) (st up) ∧ Runs (.hostifCntLowRead 7) (st up) ∧ Runs (.doorbellDiscard 16) (st up) ∧
    Runs (.mailboxRequestWrite 0x3E004 [1, 2]) (st (setMailbox 15 { emptyMailbox with busy := true } up)) ∧
    Runs (.mailboxRequestWrite 0x3EFFC [1, 2, 3, 4]) (st up) ∧
    Runs (.registerWrite (.bar0 0x080 4) 5) (st up) ∧ Runs (.registerWrite (.bar0 0x088 4) 5) (st up) ∧
    Runs (.registerWrite (.bar0 0x000 4) 5) (st up) ∧ Runs (.registerWrite (.bar0 0x080 2) 5) (st up) ∧
    exec (.doorbellDiscard 15) (st up) = runOpcode (fld (mailbox 15 up).req 0 2) (storedRequest 15 (st up).dev) (st up) ∧
    exec (.registerWrite (.bar0 0x040 4) 9) (st up) = exec (.doorbellDiscard 9) (st up) :=
  ⟨⟨_, (h.1 _ _ rfl rfl).1 _⟩, ⟨_, (h.1 _ _ rfl rfl).2.1 _⟩, runs ((h.1 _ _ rfl rfl).2.2.1 1 rfl rfl rfl),
   ⟨_, (h.1 _ _ rfl rfl).2.2.2.1 1 rfl⟩, ⟨_, ((h.1 _ _ rfl rfl).2.2.2.2.1 0).1 rfl⟩,
   ⟨_, ((h.1 _ _ rfl rfl).2.2.2.2.1 1).2.1 rfl rfl (by decide +kernel) rfl⟩,
   ⟨_, ((h.1 _ _ rfl rfl).2.2.2.2.1 1).2.2 rfl rfl (by decide +kernel)⟩, ⟨_, (h.1 _ _ rfl rfl).2.2.2.2.2.1 7 rfl⟩,
   ⟨_, (h.1 _ _ rfl rfl).2.2.2.2.2.2.1 7⟩, ⟨_, (h.1 _ _ rfl rfl).2.2.2.2.2.2.2.1 16 (.inl (by decide))⟩,
   ⟨_, ((h.1 _ _ rfl rfl).2.2.2.2.2.2.2.2.2.2.1 0x3E004 _ 15 4 (by decide) (by decide) (by decide)).1 (by decide +kernel)⟩,
   ⟨_, ((h.1 _ _ rfl rfl).2.2.2.2.2.2.2.2.2.2.1 0x3EFFC _ 15 0xFFC (by decide) (by decide) (by decide)).2 (by decide +kernel)⟩,
   ⟨_, (h.1 _ _ rfl rfl).2.2.2.2.2.2.2.2.2.2.2.1 5⟩, ⟨_, (h.1 _ _ rfl rfl).2.2.2.2.2.2.2.2.2.2.2.2.1 5⟩,
   ⟨_, (h.1 _ _ rfl rfl).2.2.2.2.2.2.2.2.2.2.2.2.2.1 5⟩, ⟨_, (h.1 _ _ rfl rfl).2.2.2.2.2.2.2.2.2.2.2.2.2.2 5⟩, (h.1 _ _ rfl rfl).2.2.2.2.2.2.2.2.1 15 15 rfl rfl rfl, (h.1 _ _ rfl rfl).2.2.2.2.2.2.2.2.2.1 9⟩

/-- The host gives configuration space a field. -/
abbrev Cfg (f : CfgField) (v : BitVec 64) (d : Dev) : Prop := Runs (.registerWrite (.config f) v) (st d)

theorem met_ConfigurationSpace (h : Obligations.HostRegistersAndRings) :
    Cfg .msixEnable 0 up ∧ Cfg .msixEnable 1 up ∧ Cfg .msixMask 1 up ∧ Cfg .powerState 3 up ∧ Cfg .ptmEnable 1 up ∧
    Cfg .maxPayload 512 up ∧ Cfg .maxRead 4096 up ∧ Cfg .aspm 2 up ∧ Cfg .aerStatus 0x10 up ∧
    Runs (.registerWrite (.bar0 0x080 4) 5) (st (withHost (fun x => { x with pci := { x.pci with d3hot := true } }) up)) :=
  ⟨⟨_, (h.2.2.1 _ _ _ _ rfl rfl rfl).1 rfl⟩, ⟨_, ((h.2.2.1 _ _ _ _ rfl rfl rfl).2.1 rfl).1⟩,
   ⟨_, ((h.2.2.1 _ _ _ _ rfl rfl rfl).2.1 rfl).2.1⟩, ⟨_, ((h.2.2.1 _ _ _ _ rfl rfl rfl).2.1 rfl).2.2 (.inr rfl)⟩,
   ⟨_, (h.2.2.1 _ _ _ _ rfl rfl rfl).2.2.1⟩, ⟨_, (h.2.2.1 _ _ _ _ rfl rfl rfl).2.2.2.1 (.inr (.inr rfl))⟩,
   ⟨_, (h.2.2.1 _ _ _ _ rfl rfl rfl).2.2.2.2.1 (by decide)⟩, ⟨_, (h.2.2.1 _ _ _ _ rfl rfl rfl).2.2.2.2.2.1⟩,
   ⟨_, (h.2.2.1 _ _ _ _ rfl rfl rfl).2.2.2.2.2.2.1⟩, ⟨_, (h.2.2.1 _ _ _ _ rfl rfl rfl).2.2.2.2.2.2.2 0x080 4 rfl⟩⟩

theorem met_RegistersRead (h : Obligations.HostRegistersAndRings) :
    registerRead 0x1FFE 4 up = 0 ∧ registerRead 0x2FFC 4 up = 0 ∧ registerRead 0x3008 4 up = 0 ∧
    registerRead 0x83C 4 (withHost (fun x => { x with cntLatch := [(7, 9)] }) up) = 9 ∧
    registerRead 0x1F18 4 (setChan 15 { dmaChan 15 up with cons := 6 } up) = 6 :=
  ⟨(h.2.2.2 _ _).2.2.2.2.2.2.2.1 0x1FFE (by decide) (.inr (by decide)),
   (h.2.2.2 _ 4).2.2.2.2.2.2.2.2.1 0x2FFC (by decide) (.inl (by decide)),
   (h.2.2.2 _ 4).2.2.2.2.2.2.2.2.1 0x3008 (by decide) (.inr (by decide)),
   ((h.2.2.2 _ 4).2.2.2.2.2.2.2.2.2.1 7 (by decide)).2 9 rfl,
   ((h.2.2.2 _ 4).2.2.2.2.2.2.2.2.2.2 15 _ (by decide) rfl).2⟩

theorem met_RingOverflow (h : Obligations.HostRegistersAndRings) :
    Runs .ringOverflow (st (withHost (fun h => { h with nrEnable := true, nrSize := 64, nrTail := 63, nrHead := 5, lost := some (3, 9) }) up)) :=
  runs (h.2.1 _ _ _ _ rfl rfl rfl (by decide +kernel))

theorem met_ReservedOpcodes (h : Obligations.ReservedOpcodesAreRefused) : Runs (.reservedOpcode 0x1001 (ask [])) (st up) :=
  ⟨_, (h.2 0x1001 _ _ (by decide +kernel) (by decide +kernel) rfl (by decide +kernel) (by decide +kernel)).1⟩

/-- Aperture 15 of die L3 shows a page of a table, with a staged entry or none. -/
def window (sel : Nat) (stage snap : Option (Nat × Bytes)) : Dev := setAperture 63 ⟨sel, stage, snap⟩ up

theorem shown_entry {x : Shown} {t k : Nat}
    (h : (match x with | .entry a b => decide (a = t ∧ b = k) | _ => false) = true) : x = .entry t k := by
  cases x <;> simp_all

theorem shown_nothing {x : Shown} (h : (match x with | .nothing => true | _ => false) = true) : x = .nothing := by
  cases x <;> simp_all

theorem met_Windows (h : Obligations.WindowsAndDmaReachTables) :
    Runs (.windowDataWrite 3 15 16383 55 [1, 2, 3, 4]) (st (window 0x80000003 (some (entryKey 3 16383, zeros 64)) none)) ∧
    Runs (.windowDataWrite 3 15 0 56 (zeros 8)) (st (window 0x80000003 (some (entryKey 3 0, zeros 64)) none)) ∧
    Runs (.windowDataWrite 3 15 0 0 [1]) (st up) ∧ Runs (.windowDataWrite 3 15 0 0 [1]) (st (window 0x80000000 none none)) ∧
    Runs (.windowCommit 3 15 0 1) (st (window 0x80000003 (some (entryKey 3 0, zeros 64)) none)) ∧
    Runs (.windowControlWrite 3 15 0 1) (st (window 0x80000003 (some (entryKey 3 0, zeros 64)) none)) :=
  ⟨⟨_, ((h.1 _ _ 3 15 16383 _ rfl rfl rfl).1 55 _ 3 16383 (zeros 64) _ _ (shown_entry (by decide +kernel)) (by decide)
      (.inl ⟨rfl, rfl⟩) rfl).1 (by decide)⟩,
   ⟨_, ((h.1 _ _ 3 15 0 _ rfl rfl rfl).1 56 _ 3 0 (zeros 64) _ _ (shown_entry (by decide +kernel)) (by decide)
      (.inl ⟨rfl, rfl⟩) rfl).2 (by decide)⟩,
   ⟨_, (h.1 _ _ 3 15 0 _ rfl rfl rfl).2.1 0 _ rfl⟩, ⟨_, (h.1 _ _ 3 15 0 _ rfl rfl rfl).2.2.1 0 _ (shown_nothing (by decide +kernel))⟩,
   ⟨_, ((h.1 _ _ 3 15 0 _ rfl rfl rfl).2.2.2.1 1 3 0 (zeros 64) (shown_entry (by decide +kernel)) (by decide) rfl _ rfl).1⟩,
   ⟨_, ((h.1 _ _ 3 15 0 _ rfl rfl rfl).2.2.2.1 1 3 0 (zeros 64) (shown_entry (by decide +kernel)) (by decide) rfl _ rfl).2⟩⟩

theorem met_WindowsBare (h : Obligations.WindowsAndDmaReachTables) :
    Runs (.windowControlWrite 3 15 0 3) (st (window 0x80000003 none none)) ∧
    Runs (.windowCommit 3 15 0 3) (st (window 0x80000003 none none)) ∧
    Runs (.windowDataWrite 3 15 0 0 [1]) (st (window 0x80000002 none none)) ∧
    Runs (.windowCommit 3 15 0 3) (st (window 0x80000002 none none)) ∧
    Runs (.windowReadSnapshot 3 15 0 0) (st (window 0x80000003 none none)) ∧
    Runs (.windowReadSnapshot 3 15 0 63) (st (window 0x80000003 none (some (entryKey 3 0, zeros 64)))) ∧
    Runs (.windowReadSnapshot 3 15 0 4) (st up) ∧
    Runs (.windowReadSnapshot 3 15 0 4) (st { window 0x80000003 none none with pkg := { up.pkg with present := 7 } }) ∧
    Runs (.windowReadSnapshot 3 15 0 4) (st (window 0x80000000 none none)) :=
  ⟨⟨_, ((h.1 _ _ 3 15 0 _ rfl rfl rfl).2.2.2.2.1 3 3 0 _ _ _ (shown_entry (by decide +kernel)) (by decide)
      (by intro x e; cases e) rfl rfl rfl).1⟩,
   ⟨_, ((h.1 _ _ 3 15 0 _ rfl rfl rfl).2.2.2.2.1 3 3 0 _ _ _ (shown_entry (by decide +kernel)) (by decide)
      (by intro x e; cases e) rfl rfl rfl).2⟩,
   ⟨_, ((h.1 _ _ 3 15 0 _ rfl rfl rfl).2.2.2.2.2.1 2 0 (shown_entry (by decide +kernel)) (by decide)).1 0 _⟩,
   ⟨_, ((h.1 _ _ 3 15 0 _ rfl rfl rfl).2.2.2.2.2.1 2 0 (shown_entry (by decide +kernel)) (by decide)).2 3⟩,
   ⟨_, (h.1 _ _ 3 15 0 _ rfl rfl rfl).2.2.2.2.2.2.1 0 3 0 _ (shown_entry (by decide +kernel)) (.inl (by decide)) rfl _ rfl⟩,
   ⟨_, (h.1 _ _ 3 15 0 _ rfl rfl rfl).2.2.2.2.2.2.2.1 63 3 0 (zeros 64) (shown_entry (by decide +kernel)) (by decide) rfl⟩,
   ⟨_, (h.1 _ _ 3 15 0 _ rfl rfl rfl).2.2.2.2.2.2.2.2.1 4 rfl⟩,
   ⟨_, ((h.1 _ _ 3 15 0 _ rfl rfl rfl).2.2.2.2.2.2.2.2.2 4 _ (shown_nothing (by decide +kernel)) rfl).1 rfl⟩,
   ⟨_, ((h.1 _ _ 3 15 0 _ rfl rfl rfl).2.2.2.2.2.2.2.2.2 4 _ (shown_nothing (by decide +kernel)) rfl).2 rfl⟩⟩

/-- Channel 13 is enabled, its ring posted, with a descriptor in flight or none. -/
def dmaReady (x : Option DmaDesc) : Dev := setChan 13 { dmaChan 13 up with enable := true, size := 16, prod := 3, cons := 15, inFlight := x } up

/-- A descriptor between host memory and the end of the staging area. -/
def dmaDesc (toHost : Bool) : Bytes :=
  [if toHost then 1 else 0, 0, 0, 0] ++ le 4 4 ++ le 8 0x1000 ++ le 8 0x20003FFFFC ++ zeros 8

/-- A transfer of four bytes with an address of the device is in flight on channel 13. -/
def dmaAt (toHost : Bool) (a : Nat) : Dev := dmaReady (some ⟨15, b2n toHost, 4, 0x1000, a, 0⟩)

theorem notLa {a : Region60} (h : (match a with | .laIn _ _ => false | .laOut _ _ => false | _ => true) = true) :
    ∀ j o, a ≠ .laIn j o ∧ a ≠ .laOut j o := by
  intro j o; constructor <;> rintro rfl <;> cases h

theorem met_Dma (h : Obligations.WindowsAndDmaReachTables) :
    Runs (.dmaEnable 13 5) (st up) ∧ Runs (.dmaReset 13 2) (st up) ∧ Runs (.dmaRingPost 13 9) (st up) ∧
    Runs (.dmaEnable 14 5) (st up) ∧ Runs (.dmaDescriptorStart 13 (dmaDesc true)) (st (dmaReady none)) ∧
    Runs (.dmaDescriptorStart 13 (zeros 32)) (st (dmaReady none)) ∧ Runs (.dmaDescriptorStart 14 (dmaDesc true)) (st up) ∧
    Runs (.dmaDescriptorDone 13 [] none) (st (dmaAt true 0x20003FFFFC)) ∧
    Runs (.dmaDescriptorDone 13 [1, 2, 3, 4] none) (st (dmaAt false 0x20003FFFFC)) ∧
    Runs (.dmaDescriptorDone 13 [] (some .timeout)) (st (dmaAt true 0x20003FFFFC)) ∧
    Runs (.dmaDescriptorDone 13 [] none) (st (asleep .sleep (dmaAt true 0x1000000000))) ∧
    Runs (.dmaDescriptorDone 13 [] none) (st (dmaAt true 0x4000000000)) ∧
    Runs (.dmaDescriptorDone 13 [1, 2, 3, 4] none) (st (dmaAt false 0x1003000000)) ∧
    Runs (.dmaDescriptorDone 14 [] none) (st (setChan 14 { dmaChan 14 up with inFlight := some ⟨15, 1, 4, 0x1000, 0, 0⟩ }
      { up with mem := { up.mem with blocks := [(0, ⟨zeros 512, [zeros 16]⟩)], nodes := [(0, ⟨[(0, 1)], true, false, []⟩)] } })) :=
  ⟨⟨_, ((h.2 _ _ _ 13 _ rfl rfl rfl).1 5 rfl (by decide)).1⟩,
   runs (((h.2 _ _ _ 13 _ rfl rfl rfl).1 2 rfl (by decide)).2.1 rfl),
   ⟨_, ((h.2 _ _ _ 13 _ rfl rfl rfl).1 9 rfl (by decide)).2.2⟩,
   ⟨_, ((h.2 _ _ _ 14 _ rfl rfl rfl).2.1 5 rfl (by decide)).1⟩,
   ⟨_, ((h.2 _ _ _ 13 _ rfl rfl rfl).2.2.1 _ _ rfl (by decide) rfl rfl rfl _ rfl).1 (by decide +kernel)⟩,
   ⟨_, ((h.2 _ _ _ 13 _ rfl rfl rfl).2.2.1 _ _ rfl (by decide) rfl rfl rfl _ rfl).2 (by decide +kernel)⟩,
   ⟨_, ((h.2 _ _ _ 14 _ rfl rfl rfl).2.2.1 _ _ rfl (by decide) rfl rfl rfl _ rfl).1 (by decide +kernel)⟩,
   ⟨_, ((h.2 _ _ _ 13 _ rfl rfl rfl).2.2.2.1 _ _ 0x3FFFFC rfl (by decide +kernel) (by decide) rfl).1 (by decide +kernel)⟩,
   ⟨_, ((h.2 _ _ _ 13 _ rfl rfl rfl).2.2.2.1 _ _ 0x3FFFFC rfl (by decide +kernel) (by decide) rfl).2.1 (by decide +kernel)⟩,
   ⟨_, ((h.2 _ _ _ 13 _ rfl rfl rfl).2.2.2.1 _ _ 0x3FFFFC rfl (by decide +kernel) (by decide) rfl).2.2 .timeout⟩,
   ⟨_, ((h.2 _ _ _ 13 _ rfl rfl rfl).2.2.2.2 _ _ _ rfl rfl rfl (notLa rfl)).1 (by decide +kernel)⟩,
   ⟨_, ((h.2 _ _ _ 13 _ rfl rfl rfl).2.2.2.2 _ _ _ rfl rfl rfl (notLa rfl)).2.1 _ _ (by decide +kernel)
      (by decide +kernel) (by decide +kernel) rfl⟩,
   ⟨_, ((h.2 _ _ _ 13 _ rfl rfl rfl).2.2.2.2 _ _ _ rfl rfl rfl (notLa rfl)).2.2.1 (by decide +kernel)
      (by decide +kernel) (by decide +kernel)⟩,
   ⟨_, ((h.2 _ _ _ 14 _ rfl rfl rfl).2.2.2.2 _ _ _ rfl rfl rfl (notLa rfl)).2.2.2 0 (by decide +kernel) (by decide +kernel)⟩⟩


theorem met_Firmware_lives (h : Obligations.FirmwareLives) :
    Runs .fwAliveTick (st up) ∧ Runs .watchdogExpiry (st up) ∧ Runs .firmwareFault (st up) ∧
    Runs .fwRestartComplete (st (withHost (fun h => { h with fwRestarting := true, fwReady := false }) up)) ∧
    Runs .authLockoutEnd (st (withHost (fun h => { h with lockout := some 0 }) up)) ∧
    Runs .fwImageWriteComplete (st { up with sys := { up.sys with imgWrite := some ⟨3, 1, true, 0xFFFF00, zeros 256⟩ } }) ∧
    Runs .fwImageVerifyComplete (st { up with sys := { up.sys with imgVerify := some (3, 1) } }) :=
  ⟨⟨_, ((h _ _ rfl).1 rfl rfl).1⟩, runs ((h _ _ rfl).1 rfl rfl).2.1, runs ((h _ _ rfl).1 rfl rfl).2.2,
   runs ((h _ _ rfl).2.1 rfl), ⟨_, (h _ _ rfl).2.2.1 _ _ rfl rfl⟩, ⟨_, (h _ _ rfl).2.2.2.1 _ rfl⟩,
   ⟨_, (h _ _ rfl).2.2.2.2 _ _ _ rfl rfl⟩⟩

/-- Link `k` with a change. -/
def withLinkSt (k : Nat) (f : PkgLink → PkgLink) : Dev := setLink k (f upLink) up

/-- Channel 3 of the link toward H, changed. -/
def chan3 (f : FlitChan → FlitChan) (l : PkgLink) : PkgLink :=
  { l with toHub := { l.toHub with chans := [(3, f FlitChan.full)] } }

/-- A sound flit of zeros, the flits of a block under the key of zeros, and its first three taken. -/
def soundFlit : Bytes := flitWire (zeros 64) (flitControl .cell 3 5 0) (zeros 4)
def zeroBlock : List Bytes := blockFlits (zeros 32) 0 .cell 3 0 (zeros 256)
def openBlock (f : List Bytes) (l : PkgLink) : PkgLink := chan3 (fun c => { c with taken := f.take 3, ivs := [0] }) l

theorem met_FlitsSent (h : Obligations.PackageLinksCarryFlits) :
    Runs (.flitSend 3 true 3 .cell []) (st (withLinkSt 3 (chan3 (fun c => { c with credits := 0 })))) ∧
    Runs (.flitSend 3 true 3 .cell []) (st (withLinkSt 3 (chan3 (fun c => { c with inBlock := 3, block := [[], [], [], [7]] })))) ∧
    Runs (.flitSend 4 false 0 .tunnel []) (st up) :=
  ⟨⟨_, ((h.1 _ _ 3 _ true 3 _ _ rfl rfl rfl rfl rfl rfl).1 .cell []).1 rfl⟩,
   runs (((h.1 _ _ 3 _ true 3 _ _ rfl rfl rfl rfl rfl rfl).1 .cell []).2.1 [7] (by decide) (by decide) rfl),
   (let ⟨_, _, _, _, _, _, _, _, _, e, _⟩ := ((h.1 _ _ 4 _ false 0 _ _ rfl rfl rfl rfl rfl rfl).1 .tunnel []).2.2 (by decide) rfl
    ⟨_, e⟩)⟩

theorem met_FlitsReceived (h : Obligations.PackageLinksCarryFlits) :
    Runs (.flitReceive 3 true 3 64 [] 0) (st up) ∧
    Runs (.flitReceive 3 true 3 0 soundFlit 0) (st up) ∧
    Runs (.flitReceive 3 true 3 0 (zeroBlock.getD 3 []) 0) (st (withLinkSt 3 (openBlock zeroBlock))) ∧
    Runs (.flitReceive 3 true 3 0 soundFlit 0) (st (withLinkSt 3 (openBlock [soundFlit, soundFlit, soundFlit]))) ∧
    Runs (.flitReceive 3 true 3 63 soundFlit 0) (st (withLinkSt 3 (fun l => { l with replays := [(replayKey true 3 0, 1)] }))) ∧
    Runs (.flitReceive 3 true 3 63 soundFlit 0) (st up) ∧
    Runs (.flitReceive 3 true 3 9 [] 0) (st up) ∧
    Runs (.flitReceive 3 true 3 9 [] 0) (st (withLinkSt 3 (fun l => { l with replays := [(replayKey true 3 9, 14)] }))) ∧
    Runs (.flitReceive 3 true 3 9 [] 2) (st (withLinkSt 3 (fun l => { l with replays := [(replayKey true 3 9, 15)] }))) :=
  ⟨⟨_, (h.1 _ _ 3 _ true 3 _ _ rfl rfl rfl rfl rfl rfl).2.1 64 _ 0 (.inl (by decide))⟩,
   runs (((h.1 _ _ 3 _ true 3 _ _ rfl rfl rfl rfl rfl rfl).2.2.1 0 _ 0 0 (by decide) (by decide) rfl (by decide +kernel)).1 rfl (by decide) rfl),
   runs (((h.1 _ _ 3 _ true 3 _ _ rfl rfl rfl rfl rfl rfl).2.2.1 0 _ 0 0 (by decide) (by decide) rfl (by decide +kernel)).2.1 rfl rfl rfl
      (by decide +kernel)),
   runs (((h.1 _ _ 3 _ true 3 _ _ rfl rfl rfl rfl rfl rfl).2.2.1 0 _ 0 0 (by decide) (by decide) rfl (by decide +kernel)).2.2.1 rfl rfl
      (by decide +kernel)),
   ⟨_, ((h.1 _ _ 3 _ true 3 _ _ rfl rfl rfl rfl rfl rfl).2.2.1 63 _ 0 63 (by decide) (by decide) rfl (by decide +kernel)).2.2.2.1
      (by decide) (by decide +kernel)⟩,
   ⟨_, ((h.1 _ _ 3 _ true 3 _ _ rfl rfl rfl rfl rfl rfl).2.2.1 63 _ 0 63 (by decide) (by decide) rfl (by decide +kernel)).2.2.2.2
      (by decide) (by decide +kernel)⟩,
   ⟨_, ((h.1 _ _ 3 _ true 3 _ _ rfl rfl rfl rfl rfl rfl).2.2.2 9 _ 0 _ (by decide) rfl rfl rfl).1 rfl⟩,
   ⟨_, ((h.1 _ _ 3 _ true 3 _ _ rfl rfl rfl rfl rfl rfl).2.2.2 9 _ 0 _ (by decide) rfl rfl rfl).2.1 14 (by decide +kernel) (by decide)⟩,
   runs (((h.1 _ _ 3 _ true 3 _ _ rfl rfl rfl rfl rfl rfl).2.2.2 9 _ 2 _ (by decide) rfl rfl rfl).2.2 (by decide +kernel))⟩

/-- A link that trains, after some failures, with the random source in a state. -/
def training (k n trng : Nat) : Dev :=
  let d := withLinkSt k (fun l => { l with state := .retrain, retrainFails := n })
  { d with vault := { d.vault with trng := trng } }

theorem met_LinksRetrain (h : Obligations.PackageLinksCarryFlits) :
    Runs (.linkRetrainComplete 3) (st (training 3 0 0)) ∧ Runs (.linkRetrainComplete 4) (st (training 4 0 0)) ∧
    Runs (.linkRetrainComplete 3) (st (training 3 0 1)) ∧ Runs (.linkRetrainFail 3) (st (training 3 0 1)) ∧
    exec (.linkRetrainComplete 3) (st (training 3 0 2)) = exec (.linkRetrainFail 3) (st (training 3 0 2)) ∧
    Runs (.linkRetrainFail 3) (st (training 3 1 0)) ∧ Runs (.linkRetrainFail 4) (st (training 4 2 0)) :=
  ⟨(let ⟨_, _, _, _, _, e, _⟩ := (h.2 _ _ 3 _ rfl rfl rfl).1 rfl
    ⟨_, e⟩),
   (let ⟨_, _, _, _, _, e, _⟩ := (h.2 _ _ 4 _ rfl rfl rfl).1 rfl
    ⟨_, e⟩),
   ⟨_, ((h.2 _ _ 3 _ rfl rfl rfl).2.1 rfl).1⟩, ⟨_, ((h.2 _ _ 3 _ rfl rfl rfl).2.1 rfl).2⟩,
   (h.2 _ _ 3 _ rfl rfl rfl).2.2.1 rfl,
   ⟨_, (h.2 _ _ 3 _ rfl rfl rfl).2.2.2.1 (by decide) (by decide)⟩,
   runs ((h.2 _ _ 4 _ rfl rfl rfl).2.2.2.2 (by decide) (by decide))⟩

/-! The factory calibration of a reply path is not known; with every bit of its entry programmed it is -1. -/

theorem or_255 (x : Nat) : x % 256 ||| 255 = 255 := by
  have h : ∀ y, y < 256 → y ||| 255 = 255 := by decide +kernel
  exact h _ (Nat.mod_lt _ (by decide))

/-- OTP with the entries of the islands' reply paths programmed to ones. -/
def otpOnes : Otp := ⟨(List.range 72).map (fun k => (0x400 + 4 * 66 + k, 255))⟩

theorem ones_byte (k : Nat) (hk : k < 4) : otpByte otpOnes (1288 + k) = 255 := by
  have e1 : otpFactory (1288 + k) = Config.otpFactory (1288 + k) % 256 := by
    unfold otpFactory
    rw [if_neg (by omega), if_neg (by omega), if_neg (by omega), if_pos (by omega)]
  have e2 : ∀ j, j < 4 → Map.get otpOnes.burned (1288 + j) 0 = 255 := by decide
  unfold otpByte
  rw [e1, e2 k hk]
  exact or_255 _

theorem path_ones : factoryCal otpOnes 66 = -1 := by
  unfold factoryCal otpFld otpBytes
  simp only [List.range, List.range.loop, List.map]
  rw [show 0x400 + 4 * 66 + 0 = 1288 + 0 from rfl, show 0x400 + 4 * 66 + 1 = 1288 + 1 from rfl,
    show 0x400 + 4 * 66 + 2 = 1288 + 2 from rfl, show 0x400 + 4 * 66 + 3 = 1288 + 3 from rfl,
    ones_byte 0 (by decide), ones_byte 1 (by decide), ones_byte 2 (by decide), ones_byte 3 (by decide)]
  decide

/-- The plain-lane island of die L0 with an exchange under way. -/
def beaconing (t1 t2 : Nat) (locked : Bool) : Dev :=
  setIsland 0 { island 0 up with t1 := some t1, t2 := some t2, locked := locked } (withTime (fun t => { t with grand := 2 ^ 50 }) up)

theorem met_Beacons (h : Obligations.BeaconsDisciplineIslands) :
    Runs .beaconSend (st up) ∧ Runs (.beaconReceive (.line 0 0)) (st (beaconing 0 0 true)) ∧
    Runs (.beaconReplyReceive (.line 0 0)) ⟨[], otpOnes, beaconing (2 ^ 50 - 262143 * 65536) (2 ^ 50) true⟩ ∧
    Runs (.beaconReplyReceive (.line 0 0)) ⟨[], otpOnes, beaconing (2 ^ 50 - 262143 * 65536 - 1) (2 ^ 50) true⟩ ∧
    Runs (.islandUnlock (.line 0 0)) (st (beaconing 0 0 true)) ∧
    Runs (.islandHubLoad (.line 0 0)) (st (setIsland 0 { island 0 up with loadAt := some 5 } up)) :=
  ⟨runs (h _ _ (.line 0 0) _ _ rfl rfl rfl).1, ⟨_, (h _ _ (.line 0 0) _ _ rfl rfl rfl).2.1 (by decide +kernel) rfl⟩,
   (let ⟨_, _, e, _⟩ := ((h _ _ (.line 0 0) _ 0 rfl rfl rfl).2.2.1 (2 ^ 50 - 262143 * 65536) (2 ^ 50) (-1) _ rfl rfl (by decide +kernel)
      (by change (calSum (factoryCal otpOnes 66) 0).1 = -1; rw [path_ones]; decide) rfl).1 (by decide +kernel) (.inl rfl)
    ⟨_, e⟩),
   ⟨_, ((h _ _ (.line 0 0) _ 0 rfl rfl rfl).2.2.1 (2 ^ 50 - 262143 * 65536 - 1) (2 ^ 50) (-1) _ rfl rfl (by decide +kernel)
      (by change (calSum (factoryCal otpOnes 66) 0).1 = -1; rw [path_ones]; decide) rfl).2.2.2 (by decide +kernel) (by decide)⟩,
   runs ((h _ _ (.line 0 0) _ _ rfl rfl rfl).2.2.2.1 rfl),
   ⟨_, (h _ _ (.line 0 0) _ _ rfl rfl rfl).2.2.2.2 _ _ rfl rfl⟩⟩

/-- A set is loading whose header is wrong. -/
def loadingSet : Dev := { up with cfg := { up.cfg with shadowState := .loading, load := some ⟨4, 0, zeros 64⟩ } }

/-- A swap is due at 5. -/
def dueSwap (m : Option Nat) (d : Dev) : Dev :=
  { shadowed d with cfg := { (shadowed d).cfg with swap := some ⟨5, if m.isNone then some 4 else none, m⟩ } }

/-- SecY 0 has a slot in use, and the shadow set gives it another suite. -/
def conflicting : Dev :=
  let d := dueSwap none (withSa 0 (fun x => { x with state := .inUse }) up)
  { d with cfg := { d.cfg with shadow := d.cfg.shadow.map (fun x => { x with params := { x.params with secys := [] } }) } }

/-- The old set drains. -/
def drainingSet (d : Dev) : Dev :=
  { d with cfg := { d.cfg with shadow := some { img with gen := 0 }, shadowState := .draining, drainUntil := 5 } }

theorem met_ConfigSets (h : Obligations.ConfigurationSetsExchange) :
    Runs .configLoadComplete (st loadingSet) ∧ Runs .configSwapInstant (st (dueSwap none up)) ∧
    Runs .configSwapInstant (st (dueSwap (some 3) up)) ∧ Runs .configSwapInstant (st conflicting) ∧
    Runs .swapDrainEnd (st (drainingSet up)) ∧
    Runs .swapDrainTimeout (st (drainingSet (setQueue 0 ⟨[{ frm with gen := 0 }], 7, none⟩ up))) :=
  ⟨runs ((h _ _ rfl).1 _ rfl), runs ((h _ _ rfl).2.1 _ _ rfl rfl (.inr (by decide +kernel))),
   runs ((h _ _ rfl).2.1 _ _ rfl rfl (.inl rfl)),
   ⟨_, (h _ _ rfl).2.2.1 _ _ _ rfl rfl rfl rfl (by decide +kernel)⟩,
   ⟨_, (h _ _ rfl).2.2.2.1 _ rfl rfl (by decide +kernel)⟩, runs ((h _ _ rfl).2.2.2.2 _ _ rfl rfl rfl)⟩


theorem met_Switch (h : Obligations.SwitchMovesTransmit) :
    (sa 1 (doSwitch 0 0 1 (withSa 1 (fun x => { x with state := .installed }) (withSa 0 (fun x => { x with state := .inUse }) up)))).state
      = .inUse ∧
    (sa 0 (doSwitch 0 0 1 (withSa 1 (fun x => { x with state := .installed }) (withSa 0 (fun x => { x with state := .inUse }) up)))).state
      = .retiring :=
  ⟨(h 0 0 1 _ (by decide) (by decide) (by decide +kernel)).1,
   (h 0 0 1 _ (by decide) (by decide) (by decide +kernel)).2.2.2.1 0 (by decide +kernel)⟩

/-- An installation into AN 1 of SecY 0 waits at the vault; its blob is sealed, or is zeros. -/
def loadDue (good : Bool) : Dev :=
  let d := withWrap 8 0xFFFF0008 up
  { d with prot := { d.prot with
      loads := [⟨.mailbox 0, 0, false, 0, 1, 0, 0, 1, 9,
        if good then sealBlob ⟨0x10, 9, zeros 32⟩ ⟨1, 0xFFFF0008, zeros 32⟩ else zeros 64, false⟩]
      slots := [(1, { emptySa with state := .loading })] } }

/-- A switch, or a batch, of AN 1 is due. -/
def switchDue : Dev :=
  let d := withSa 1 (fun x => { x with state := .installed }) up
  { d with prot := { d.prot with switches := [(0, ⟨1, 5, none, some 0⟩)], batches := [(7, ⟨5, [(0, 0, 1)]⟩)] } }

/-- The same with link V-H in another state. -/
def vhIn (x : LinkState) (d : Dev) : Dev := setLink 4 { pkgLink 4 d with state := x } d

theorem met_SaEvents (h : Obligations.SaEventsTakeEffect) :
    Runs (.saKeyLoad true) (st (loadDue true)) ∧ Runs (.saKeyLoad true) (st (loadDue false)) ∧
    Runs (.saKeyLoad true) (st (vhIn .retrain (loadDue true))) ∧ Runs (.saKeyLoad true) (st (vhIn .down (loadDue true))) ∧
    Runs (.saKeyLoad false) (st (loadDue true)) ∧ Runs (.saTxSwitchInstant 0 0) (st switchDue) ∧
    Runs (.saBatchInstant 7) (st switchDue) :=
  ⟨runs ((h _ _ rfl).1 _ _ 1 _ rfl rfl (by decide +kernel) (by decide +kernel) rfl),
   runs ((h _ _ rfl).1 _ _ 1 _ rfl rfl (by decide +kernel) (by decide +kernel) rfl),
   ⟨_, (h _ _ rfl).2.1 (by decide +kernel) (by decide +kernel) true⟩,
   runs ((h _ _ rfl).2.2.1 _ _ true rfl (by decide +kernel) (.inl (by decide +kernel))),
   runs ((h _ _ rfl).2.2.2.1 _ _ rfl (by decide +kernel) (by decide +kernel)),
   ⟨_, (h _ _ rfl).2.2.2.2.1 0 0 0 _ _ rfl rfl rfl⟩, ⟨_, (h _ _ rfl).2.2.2.2.2 7 _ _ _ rfl rfl rfl⟩⟩

/-- Slot 0 (TX, AN 0 of SecY 0) in a state, a frame bound to it waiting. -/
def slotIn (x : SaState) (bound : Bool) : Dev :=
  let d := withSa 0 (fun y => { y with state := x, retireAt := some 5 }) up
  if bound then setQueue 0 ⟨[{ frm with slot := some 0 }], 7, none⟩ d else d

theorem met_SaTimers (h : Obligations.SaTimersExpire) :
    Runs (.rxRetireTimerExpiry ⟨0, false, 0, 0⟩) (st (withSa 0 (fun y => { y with retireAt := some 1001 }) (asleep .sleep up))) ∧
    Runs (.rxRetireTimerExpiry ⟨0, false, 0, 0⟩) (st (slotIn .inUse false)) ∧
    Runs (.saDrained ⟨0, false, 0, 0⟩) (st (slotIn .retiring false)) ∧
    Runs (.saDrainLimitExpiry ⟨0, false, 0, 0⟩) (st (slotIn .retiring true)) ∧
    Runs (.switchGraceExpiry 0 0) (st (slotIn .exhausted true)) :=
  ⟨⟨_, (h _ _ rfl).1 ⟨0, false, 0, 0⟩ 1001 rfl rfl (by decide +kernel)⟩,
   ⟨_, (h _ _ rfl).2.1 ⟨0, false, 0, 0⟩ _ _ rfl rfl (by decide +kernel) (by decide +kernel) rfl⟩,
   runs ((h _ _ rfl).2.2.1 ⟨0, false, 0, 0⟩ rfl (by decide +kernel)),
   runs ((h _ _ rfl).2.2.2.1 ⟨0, false, 0, 0⟩ _ rfl (by decide +kernel) (by decide +kernel) rfl),
   runs ((h _ _ rfl).2.2.2.2 0 0 0 _ 0 _ (by decide +kernel) rfl (by decide +kernel) rfl rfl (by decide +kernel) (by decide +kernel) rfl)⟩

/-- An MKPDU of CKN 1 from the SCI 0, with an algorithm agility and a check value. -/
def mkpduOf (agility : Nat) (icv : Bytes → Bytes) : Bytes :=
  let b := zeros 12 ++ [0x88, 0x8E, 3, 5] ++ be 2 52 ++ [3, 5] ++ be 2 29 ++ zeros 20 ++ be 4 1 ++ be 4 agility ++ [1, 0, 0, 0]
  b ++ icv b

/-- A frame of a SecY of C0 waits for the firmware. -/
def mkaF (secy : Nat) (b : Bytes) : FwFrame := ⟨16, some secy, b, 5, 0, 1⟩
def mkaWaits (secy : Nat) (b : Bytes) (d : Dev) : Dev := { d with prot := { d.prot with fwBuf := [mkaF secy b] } }

/-- A frame that is not an MKPDU, one of another agility, one with a wrong and one with the right check value. -/
def mkaNone : Bytes := zeros 12 ++ [0x88, 0x8E] ++ zeros 46
def mkaOther : Bytes := mkpduOf 5 (fun _ => zeros 16)
def mkaBad : Bytes := mkpduOf 0x0080C201 (fun _ => zeros 16)
def mkaGood : Bytes := mkpduOf 0x0080C201 (aesCmac (zeros 16))

/-- The session of SecY 1 changed. -/
def withSession (f : MkaSession → MkaSession) (d : Dev) : Dev :=
  { withMka d with prot := { (withMka d).prot with mka := (withMka d).prot.mka.map (fun e => (e.1, f e.2)) } }

/-- The session has a live peer. -/
def withPeer (d : Dev) : Dev := withSession (fun m => { m with peers := [⟨9, [1], 1, 5, 1000, false, false, none⟩] }) d

theorem met_MkaEvents (h : Obligations.MkaEventsTakeEffect) :
    Runs .mkaFrameProcess (st (mkaWaits 0 mkaNone up)) ∧ Runs .mkaFrameProcess (st (mkaWaits 1 mkaNone (withMka up))) ∧
    Runs .mkaFrameProcess (st (mkaWaits 1 mkaOther (withMka up))) ∧
    Runs .mkaFrameProcess (st (mkaWaits 1 mkaBad (withMka up))) ∧ Runs .mkaFrameProcess (st (mkaWaits 1 mkaGood (withMka up))) :=
  ⟨⟨_, ((h _ _ rfl).1 (mkaF 0 mkaNone) 0 _ (by decide +kernel) rfl rfl rfl _ rfl).1 rfl⟩,
   ⟨_, (((h _ _ rfl).1 (mkaF 1 mkaNone) 1 _ (by decide +kernel) rfl rfl rfl _ rfl).2 _ rfl rfl).1 (by decide +kernel)⟩,
   ⟨_, ((((h _ _ rfl).1 (mkaF 1 mkaOther) 1 _ (by decide +kernel) rfl rfl rfl _ rfl).2 _ rfl rfl).2 _ rfl).1 (.inr (by decide +kernel))⟩,
   ⟨_, (((((h _ _ rfl).1 (mkaF 1 mkaBad) 1 _ (by decide +kernel) rfl rfl rfl _ rfl).2 _ rfl rfl).2 _ rfl).2 (by decide +kernel)
      (by decide +kernel)).1 (by decide +kernel)⟩,
   ⟨_, (((((h _ _ rfl).1 (mkaF 1 mkaGood) 1 _ (by decide +kernel) rfl rfl rfl _ rfl).2 _ rfl rfl).2 _ rfl).2 (by decide +kernel)
      (by decide +kernel)).2 (by decide +kernel)⟩⟩

theorem met_MkaSends (h : Obligations.MkaEventsTakeEffect) :
    Runs (.mkaHelloSend 0 1) (st (withHost (fun x => { x with fwRestarting := true }) (withMka up))) ∧
    Runs (.mkaHelloSend 0 1) (st (withMka up)) ∧
    Runs (.mkaHelloSend 0 1) (st (withSession (fun m => { m with server := true, rekey := true, helloAt := some 5 }) up)) ∧
    Runs (.mkaPeerTimeout 0 1) (st (withPeer up)) ∧ Runs .mkaCaLoad (st (withCaLoad up)) :=
  ⟨⟨_, ((h _ _ rfl).2.1 0 1 1 _ _ rfl rfl rfl).1 (.inl rfl)⟩,
   ⟨_, ((((h _ _ rfl).2.1 0 1 1 _ _ rfl rfl rfl).2.1 rfl rfl _ rfl).1 (.inr rfl)).1⟩,
   (let ⟨_, _, _, _, _, e⟩ := (((h _ _ rfl).2.1 0 1 1 _ _ rfl rfl rfl).2.1 rfl rfl _ rfl).2 rfl rfl rfl
    ⟨_, e⟩),
   runs (((h _ _ rfl).2.1 0 1 1 _ _ rfl rfl rfl).2.2 _ rfl), runs ((h _ _ rfl).2.2 _ _ 2048 rfl rfl)⟩

theorem met_Tamper (h : Obligations.TamperLeavesNoKeys) :
    (tamper 1 ⟨[]⟩ (keyed 2 up)).2.vault.latch = 1 ∧ (tamper 1 ⟨[]⟩ (keyed 2 up)).1 = burnHeld ⟨[]⟩ ∧
    (tamper 1 ⟨[]⟩ (keyed 1 up)).1 = ⟨[]⟩ :=
  ⟨(h 1 ⟨[]⟩ (keyed 2 up) rfl _ rfl).2.2.2.2.2.2.2.2.2.2.2.1,
   ((h 1 ⟨[]⟩ (keyed 2 up) rfl _ rfl).2.2.2.2.2.2.2.2.2.2.2.2.2 rfl).1,
   ((h 1 ⟨[]⟩ (keyed 1 up) rfl _ rfl).2.2.2.2.2.2.2.2.2.2.2.2.1 (by decide)).1⟩

/-- OTP of a device whose two tamper loops are enabled, and whose first sensor offset is programmed to ones. -/
def otpLoops : Otp := ⟨[(0x253, 1), (0x600, 255), (0x601, 255)]⟩

theorem sensor_offset : toSigned 16 (otpFld otpLoops 0x600 2) = -1 := by
  have e : ∀ k, k < 2 → otpByte otpLoops (1536 + k) = 255 := by
    intro k hk
    have e1 : otpFactory (1536 + k) = Config.otpFactory (1536 + k) % 256 := by
      unfold otpFactory
      rw [if_neg (by omega), if_neg (by omega), if_neg (by omega), if_pos (by omega)]
    have e2 : ∀ j, j < 2 → Map.get otpLoops.burned (1536 + j) 0 = 255 := by decide
    unfold otpByte
    rw [e1, e2 k hk]
    exact or_255 _
  unfold otpFld otpBytes
  simp only [List.range, List.range.loop, List.map]
  rw [show 0x600 + 0 = 1536 + 0 from rfl, show 0x600 + 1 = 1536 + 1 from rfl, e 0 (by decide), e 1 (by decide)]
  decide

/-- Loop 0 has been wrong once. -/
def loopDev : Dev := { up with vault := { up.vault with loopBad := [(0, 1)] } }

theorem met_Sensors (h : Obligations.SensorsDetectTamper) :
    (tamper 4 ⟨[]⟩ { Dev.reset with out := [] }).1 = ⟨[]⟩ ∧ Runs (.clockMonitorEvent .h) (st up) ∧
    Runs (.supplyMonitorEvent false 10000) (st up) ∧ Runs (.supplyMonitorEvent false 10001) (st up) ∧
    Runs (.supplyMonitorEvent true 5) State.reset ∧
    Runs (.tamperLoopSample true true true) (st { Dev.reset with vault := { Dev.reset.vault with vstby := false } }) ∧
    Runs (.tamperLoopSample (!loopOut 0 loopDev) (loopOut 1 loopDev) false) ⟨[], otpLoops, loopDev⟩ ∧
    Runs (.tamperLoopSample (loopOut 0 up) (loopOut 1 up) false) (st up) ∧ Runs (.tempSensorReading []) (st up) ∧
    Runs (.tempSensorReading [12501]) ⟨[], otpLoops, up⟩ :=
  ⟨congrArg Prod.fst ((h State.reset _ rfl).1 4 rfl), ⟨_, (h _ _ rfl).2.1 rfl⟩, ⟨_, (h _ _ rfl).2.2.1 _ _ rfl (.inr (by decide))⟩,
   ⟨_, (h _ _ rfl).2.2.2.1 _ rfl (by decide)⟩, ⟨_, (h _ _ rfl).2.2.2.2.1 rfl true 5⟩,
   ⟨_, (h _ _ rfl).2.2.2.2.2.1 true true true rfl⟩,
   ⟨_, (h _ loopDev rfl).2.2.2.2.2.2.1 _ rfl (by decide +kernel) rfl rfl rfl⟩,
   runs ((h _ up rfl).2.2.2.2.2.2.2.1 rfl), runs (h _ _ rfl).2.2.2.2.2.2.2.2.1,
   runs ((h _ _ rfl).2.2.2.2.2.2.2.2.2 12501 (by decide +kernel) rfl rfl
     (by change (-5500 : Int) ≤ max (-32768) (min 32767 ((12501 : BitVec 16).toInt + toSigned 16 (otpFld otpLoops 0x600 2)))
         rw [sensor_offset]; decide)
     (by change max (-32768) (min 32767 ((12501 : BitVec 16).toInt + toSigned 16 (otpFld otpLoops 0x600 2))) ≤ (12500 : Int)
         rw [sensor_offset]; decide))⟩

/-- The vault changed. -/
def withVault (f : Vault → Vault) (d : Dev) : Dev := { d with vault := f d.vault }

theorem met_Random (h : Obligations.RandomAndNonces) :
    Runs .trngHealthFail (st up) ∧ Runs (.trngRetest true) (st (withVault (fun v => { v with trng := 1 }) up)) ∧
    Runs (.trngRetest false) (st (withVault (fun v => { v with trng := 1, trngFails := 2 }) up)) ∧ Runs .drbgReseed (st up) ∧
    Runs .nonceCeilingCommit (st (withVault (fun v => { v with nonce := 0, ceiling := 32768 }) up)) ∧
    Runs .nonceCeilingCommit (st (withVault (fun v => { v with nonce := 0, ceiling := 32769 }) up)) :=
  ⟨⟨_, (h _ _ rfl).1 rfl⟩, runs ((h _ _ rfl).2.1 rfl), runs ((h _ _ rfl).2.2.1 rfl), runs ((h _ _ rfl).2.2.2.1 rfl),
   runs ((h _ _ rfl).2.2.2.2.1 rfl (by decide)), ⟨_, (h _ _ rfl).2.2.2.2.2 (.inr (by decide))⟩⟩

/-- A look-aside job of a mode: its input taken, its output drained or not, with a tag and an IV. -/
def jobDone (mode : Nat) (hold : Bool) (tag iv : Bytes) (out : Nat) : Dev :=
  withVault (fun v => { v with ceiling := 65536, jobs := [(15, ⟨4, mode, hold, 32, ⟨2, 7, zeros 32⟩, 0, 16, iv, tag, zeros 16, out, [],
    false, none, 0, 0, 0, []⟩)] }) up

theorem met_VaultLoads (h : Obligations.VaultEventsTakeEffect) :
    Runs .vaultKeyLoad (st (withVault (fun v => { v with queue := [⟨none, 3, 40, 0, 0, 5, zeros 64⟩] }) up)) ∧
    Runs (.keyActivationInstant 32) (st (withKey 2 (some { pendKey none with at_ := some 5 }) up)) :=
  ⟨runs ((h _ _ rfl).1 _ _ rfl), runs ((h _ _ rfl).2.1 32 _ _ rfl rfl)⟩

theorem met_LookAside (h : Obligations.VaultEventsTakeEffect) :
    Runs (.laJobComplete 15) (st (jobDone 1 false [] [] 0)) ∧
    Runs (.laJobComplete 15) (st (withVault (fun v => { v with jobs := v.jobs.map (fun e => (e.1, { e.2 with input := [] })) })
      (jobDone 5 false (zeros 16) (zeros 16) 0))) ∧
    Runs (.laJobComplete 15) (st (jobDone 7 true (zeros 16) (zeros 16) 0)) ∧
    Runs (.laJobComplete 15) (st (jobDone 5 false (zeros 16) (zeros 16) 32)) ∧
    Runs (.laJobComplete 15) (st (jobDone 7 false (zeros 16) (zeros 16) 32)) ∧
    Runs (.laJobIdleTimeout 15) (st (jobDone 5 false (zeros 16) (zeros 16) 32)) :=
  ⟨runs (((h _ _ rfl).2.2.1 15 _ rfl).1 rfl rfl (by decide)),
   ⟨_, (((h _ _ rfl).2.2.1 15 _ rfl).2 (by decide)).1 (by decide +kernel)⟩,
   ⟨_, (((h _ _ rfl).2.2.1 15 _ rfl).2 (by decide)).2.1 (by decide +kernel) rfl rfl⟩,
   ⟨_, ((((h _ _ rfl).2.2.1 15 _ rfl).2 (by decide)).2.2 (by decide +kernel) (.inl rfl) (by decide +kernel)).1 (by decide +kernel) rfl⟩,
   ⟨_, ((((h _ _ rfl).2.2.1 15 _ rfl).2 (by decide)).2.2 (by decide +kernel) (.inl rfl) (by decide +kernel)).2 (by decide +kernel)⟩,
   ⟨_, (h _ _ rfl).2.2.2 15 _ _ rfl rfl⟩⟩


/-- A submission waits at the recorder, with that budget left. -/
def submitted (type budget : Nat) : Dev :=
  { up with obs := { up.obs with subs := [⟨type, 5, 2, zeros 8⟩], budget := budget, budgetAt := 1000 } }

/-- The checker of lane 3 (C0's) in a state. -/
def checking (x : Nat) : Dev := setPrbs (laneNum (.c 3)) ⟨x, 4, 5, 6, 0⟩ up

theorem met_Recorder (h : Obligations.RecorderAndPrbs) :
    Runs .recordWrite (st (submitted 0x80 0)) ∧ Runs .recordWrite (st (submitted 0x81 24)) ∧
    Runs .recordWrite (st (submitted 0x81 23)) ∧
    Runs .recordsSuppressed (st { up with obs := { up.obs with suppressed := 3, firstSuppressed := 9 } }) ∧
    Runs .hoursCommit (st up) ∧ Runs (.prbsLock (.c 3)) (st (checking 1)) ∧ Runs (.prbsLockLoss (.c 3) 7) (st (checking 2)) :=
  ⟨⟨_, ((h _ _ rfl).1 _ _ 24 rfl (by decide +kernel) rfl _ rfl).1 rfl⟩,
   ⟨_, ((h _ _ rfl).1 _ _ 24 rfl (by decide +kernel) rfl _ rfl).2.1 rfl (by decide +kernel)⟩,
   runs (((h _ _ rfl).1 _ _ 24 rfl (by decide +kernel) rfl _ rfl).2.2 rfl (by decide +kernel)),
   runs ((h _ _ rfl).2.1 (by decide)), runs ((h _ _ rfl).2.2.1 _ rfl rfl),
   ⟨_, ((h _ _ rfl).2.2.2 (.c 3) _ rfl).1 (by decide +kernel)⟩, ⟨_, ((h _ _ rfl).2.2.2 (.c 3) _ rfl).2 7 (by decide +kernel)⟩⟩

theorem met_Record (h : Obligations.RecordStandsInMemory) :
    (writeRecord ⟨0x81, 5, 2, zeros 8⟩ up).obs.nextOffset = 24 ∧
    (writeRecord ⟨0x81, 5, 2, zeros 8⟩ up).obs.nextSeq = nextRecSeq 1 :=
  ⟨(h _ up 24 rfl (by decide)).2.2.1, (h _ up 24 rfl (by decide)).2.1⟩

/-- The gate list of P0 in force, in its entry `e`; restarting when `r`; its change at `c`. -/
def gated (e : Nat) (r c : Option Nat) : Dev :=
  setGate 0 { gateSt 0 up with oper := some gateL, admin := some gateL, change := c, entry := e, restart := r } up

theorem met_GateLists (h : Obligations.GatesFollowTheirLists) :
    Runs (.gateConfigChangeInstant (.p 0)) (st (gatePend up)) ∧ Runs (.gateEvent (.p 0)) (st (gated 0 none none)) ∧
    Runs (.gateEvent (.p 0)) (st (gated 1 none none)) ∧
    Runs (.gateEvent (.p 0)) (st (gated 1 none (some (65536000000 + 65535999)))) ∧
    Runs (.gateListRestart (.p 0)) (st (gated 0 (some 5) none)) :=
  ⟨runs ((h _ _ (.p 0) 0 _ rfl rfl rfl).1 _ _ _ rfl rfl rfl),
   ⟨_, ((h _ _ (.p 0) 0 _ rfl rfl rfl).2.1 _ rfl rfl rfl).1 _ _ _ rfl rfl rfl⟩,
   ⟨_, (((h _ _ (.p 0) 0 _ rfl rfl rfl).2.1 _ rfl rfl rfl).2 _ _ _ _ rfl rfl rfl).1 rfl⟩,
   ⟨_, (((h _ _ (.p 0) 0 _ rfl rfl rfl).2.1 _ rfl rfl rfl).2 _ _ _ _ rfl rfl rfl).2 _ _ (by decide) rfl rfl
     (by decide) (by decide)⟩,
   ⟨_, (h _ _ (.p 0) 0 _ rfl rfl rfl).2.2 _ _ _ rfl rfl rfl⟩⟩

/-- A frame for C0, held by the egg timer of die L0. -/
def egg (spilled : Bool) : Held := ⟨0, frm, 16, 0, 40000 * unitsPerNs, false, false, spilled, false, false, false⟩

/-- It is held; C0 is UP, or sending. -/
def eggs (spilled upC sending : Bool) : Dev :=
  let d := withPort 16 (fun x => if upC then { x with state := .up } else x)
    { up with act := { up.act with egg := [egg spilled] } }
  if sending then { d with que := { d.que with sending := [(16, ⟨frm, [], 500, false, 0, 0, true, false⟩)] } } else d

theorem met_Eggs (h : Obligations.EggTimerReleases) :
    Runs (.eggReadback 0) (st (eggs true false false)) ∧ Runs (.eggRelease 0) (st (eggs false false false)) ∧
    Runs (.eggRelease 0) (st (eggs false true true)) ∧ Runs (.eggRelease 0) (st (eggs false true false)) ∧
    egg false ∈ [egg false] :=
  ⟨runs ((h _ _ 0 rfl).1 (egg true) _ (by decide +kernel) rfl),
   ⟨_, ((h _ _ 0 rfl).2.1 (egg false) _ (by decide +kernel) rfl).1 (by decide +kernel)⟩,
   ⟨_, ((h _ _ 0 rfl).2.1 (egg false) _ (by decide +kernel) rfl).2.1 (by decide +kernel) (by decide +kernel) (by decide +kernel)⟩,
   (let ⟨u, _, e, _⟩ := ((h _ _ 0 rfl).2.1 (egg false) _ (by decide +kernel) rfl).2.2 (by decide +kernel) (by decide +kernel)
      (by decide +kernel) (by decide +kernel)
    ⟨u, e⟩),
   ((h (st up) _ 0 rfl).2.2 [egg false] _ rfl).1⟩


/-- A frame that arrives whole with its FCS, or with another. -/
def rxOf (p : Port) (etype : Bytes) (ok : Bool := true) : RxFrame :=
  let data : Bytes := zeros 12 ++ etype ++ zeros 46
  { port := p, bytes := data ++ (if ok then fcsOf data else zeros 4) }

/-- The ports named are UP. -/
def portsUp (l : List Nat) : Dev := l.foldl (fun d p => withPort p (fun x => { x with state := .up }) d) up

/-- Nothing is mirrored, and ports 0 (a trunk), 16 (a cipher trunk) and 97 are UP. -/
def quiet : Dev := withSet (fun p => { p with mirrors := [] }) (portsUp [0, 16, 97])

/-- An injection for MGT, and one longer than its queue's room. -/
def inj : Injection := { byHost := true, dest := none, cls := 3, bytes := zeros 60, stamp := some 7 }
def mgtFull : Dev := setQueue (2 ^ 18 * 8 + 3) ⟨[{ frm with adm := 131072 }, { frm with adm := 131072 }], 0, none⟩ up

/-- P0 is UP and has a frame waiting, which it may start; and P0 is sending it. -/
def ready0 : Dev := withQueued false quiet
def sending0 : Dev := { quiet with que := { quiet.que with sending := [(0, ⟨frm, frm.data, 5000, true, 7, 0, false, true⟩)] } }

/-- The SecYs of C0 let LLDP by. -/
def lldpBy : Dev := withSet (fun p => { p with secys := p.secys.map (fun e => (e.1, { e.2 with lldpTreatment := 1 })) }) quiet

theorem met_FramesReceived (h : Obligations.FramesEnterAndLeave) :
    Runs (.frameReceive (rxOf (.p 0) [8, 0])) (st up) ∧ Runs (.frameReceive (rxOf (.p 0) [8, 0] false)) (st quiet) ∧
    Runs (.frameReceive (rxOf .mgt [8, 0])) (st quiet) ∧ Runs (.frameReceive (rxOf (.p 0) [8, 0])) (st quiet) ∧
    Runs (.frameReceive (rxOf (.p 0) [0x88, 0x8E])) (st quiet) ∧ Runs (.frameReceive (rxOf (.c 0) [0x81, 0, 0, 9])) (st quiet) ∧
    Runs (.frameReceive (rxOf (.c 0) [0x81, 0, 0, 5, 0x88, 0xCC])) (st lldpBy) :=
  ⟨⟨_, (h _ _ rfl).1 _ 0 rfl (.inl (by decide +kernel))⟩,
   ⟨_, ((h _ _ rfl).2.1 _ _ 0 _ _ _ rfl (by decide +kernel) rfl rfl rfl rfl rfl).1 4 true (by decide +kernel)
      (.inr (.inl ⟨rfl, rfl⟩))⟩,
   (let ⟨_, _, e, _⟩ := ((h _ _ rfl).2.1 _ _ 97 _ _ _ rfl (by decide +kernel) rfl rfl rfl rfl rfl).2.1 rfl (by decide +kernel)
      (by decide +kernel) (by decide +kernel) rfl (by decide +kernel) (by decide +kernel) (by decide +kernel)
    ⟨_, e⟩),
   ⟨_, (((h _ _ rfl).2.1 _ _ 0 _ _ _ rfl (by decide +kernel) rfl rfl rfl rfl rfl).2.2 (by decide +kernel) (by decide)
     (by decide +kernel) _ rfl _ _ rfl).1 (by decide) (by decide +kernel)⟩,
   ⟨_, (((h _ _ rfl).2.1 _ _ 0 _ _ _ rfl (by decide +kernel) rfl rfl rfl rfl rfl).2.2 (by decide +kernel) (by decide)
     (by decide +kernel) _ rfl _ _ rfl).2.1 (by decide) (by decide +kernel)⟩,
   ⟨_, (((h _ _ rfl).2.1 _ _ 16 _ _ _ rfl (by decide +kernel) rfl rfl rfl rfl rfl).2.2 (by decide +kernel) (by decide)
     (by decide +kernel) _ rfl _ _ rfl).2.2.1 rfl ⟨9, by decide +kernel, .inr (by decide +kernel)⟩⟩,
   ⟨_, (((h _ _ rfl).2.1 _ _ 16 _ _ _ rfl (by decide +kernel) rfl rfl rfl rfl rfl).2.2 (by decide +kernel) (by decide)
     (by decide +kernel) _ rfl _ _ rfl).2.2.2 _ _ rfl rfl (by decide +kernel)⟩⟩

theorem met_FramesSent (h : Obligations.FramesEnterAndLeave) :
    Runs (.frameInject inj) (st (asleep .sleep up)) ∧ Runs (.frameInject inj) (st up) ∧
    Runs (.frameInject inj) (st mgtFull) ∧ Runs (.portTransmitSelect (.p 0)) (st up) ∧
    Runs (.portTransmitSelect (.p 0)) (st quiet) ∧ Runs (.frameTxEnd (.p 0) true) (st sending0) :=
  ⟨⟨_, (h _ _ rfl).2.2.1 inj (.inl (by decide +kernel))⟩,
   (let ⟨_, _, e, _⟩ := ((h _ _ rfl).2.2.2.1 inj _ rfl (by decide) rfl rfl).1 (by decide +kernel)
    ⟨_, e⟩),
   runs (((h _ _ rfl).2.2.2.1 inj _ rfl (by decide) rfl rfl).2 (by decide +kernel)),
   ⟨_, ((h _ _ rfl).2.2.2.2.1 (.p 0) 0 rfl rfl (by decide) (by decide +kernel) rfl).1 (.inl (by decide +kernel))⟩,
   ⟨_, (((h _ _ rfl).2.2.2.2.1 (.p 0) 0 rfl rfl (by decide) (by decide +kernel) rfl).2 _ (by decide +kernel)
     (by decide +kernel) (by decide +kernel) rfl (by decide +kernel) (by decide) rfl).1 (by decide +kernel)
     (by decide +kernel)⟩,
   runs ((h _ _ rfl).2.2.2.2.2 (.p 0) 0 ⟨frm, frm.data, 5000, true, 7, 0, false, true⟩ _ true rfl rfl
      (by decide +kernel) (by decide +kernel) rfl)⟩

/-- P0 as it is when it chooses, and what it chooses. -/
def choosing : Dev := noteWaits 0 (cleanPort 0 { ready0 with out := [] })
theorem some_chosen : (choose 0 choosing).isSome = true := by decide +kernel

theorem met_FrameChosen (h : Obligations.FramesEnterAndLeave) : Runs (.portTransmitSelect (.p 0)) (st ready0) :=
  (let ⟨_, _, e, _⟩ := (((h (st ready0) { ready0 with out := [] } rfl).2.2.2.2.1 (.p 0) 0 rfl rfl (by decide)
      (by decide +kernel) (by decide +kernel)).2 choosing (by decide +kernel) (by decide +kernel) (by decide +kernel)
      rfl (by decide +kernel) (by decide) rfl).2 ((choose 0 choosing).get some_chosen)
      (Option.some_get some_chosen).symm
   ⟨_, e⟩)

theorem met_Selection (h : Obligations.SelectionServesByClassAndColour) :
    ∃ c ∈ candidates 0 ready0, eligible 0 ready0 c = true :=
  (let x := h 0 ready0 ((choose 0 ready0).get (by decide +kernel)) (Option.some_get _).symm
   ⟨_, x.1, x.2.1⟩)


/-- A frame for MGT waits at the fabric's input of die L0; it has reached the hub; a copy waits for queue 0. -/
def voqOf (left : Nat) (started : Bool) : VoqEnt := ⟨0, [8], 0, 0, left, started, false, 0, 0, 97, [97], [frm], 1⟩
def inFabric (f : Fab → Fab) : Dev := { up with fab := f up.fab }
/-- Every channel 0 of a link with some credits. -/
def chan0 (n : Nat) (l : PkgLink) : PkgLink :=
  { l with toHub := { l.toHub with chans := [(0, { FlitChan.full with credits := n })] } }
def residue (adm : Nat) : Residue := ⟨0, { frm with adm := adm }, 20000⟩

theorem met_Fabric (h : Obligations.QueuesAndFabricMove) :
    Runs .whiskMatch (st (asleep .sleep up)) ∧
    Runs .whiskMatch (st { inFabric (fun x => { x with voq := [voqOf 240 false] }) with pkg := { up.pkg with
      links := (List.range 5).map (fun k => (k, chan0 0 upLink)) } }) ∧
    Runs .whiskMatch (st (inFabric (fun x => { x with voq := [voqOf 240 false] }))) ∧
    Runs .whiskMatch (st (inFabric (fun x => { x with voq := [voqOf 241 true] }))) ∧
    Runs (.fabricFrameArrival 4) (st (inFabric (fun x => { x with arrived := [(8, frm)] }))) ∧
    Runs (.residueEnqueue 0) (st (inFabric (fun x => { x with residues := [residue 64] }))) ∧
    Runs (.residueEnqueue 0) (st (inFabric (fun x => { x with residues := [residue 1048577] }))) ∧
    Runs (.residueLifetimeExpiry 0) (st (inFabric (fun x => { x with residues := [residue 64] }))) :=
  ⟨⟨_, (h _ _ rfl).1 rfl⟩, runs ((h _ _ rfl).2.1 (voqOf 240 false) rfl rfl (by decide +kernel)),
   runs ((h _ _ rfl).2.2.1 (voqOf 240 false) rfl (by decide +kernel) rfl (by decide +kernel) (by decide +kernel) (by decide)),
   runs ((h _ _ rfl).2.2.1 (voqOf 241 true) rfl (by decide +kernel) rfl (by decide +kernel) (by decide +kernel) (by decide)),
   ⟨_, (h _ _ rfl).2.2.2.1 4 8 frm rfl (by decide +kernel)⟩,
   runs (((h _ _ rfl).2.2.2.2.1 0 (residue 64) _ _ rfl rfl rfl).1 rfl),
   ⟨_, ((h _ _ rfl).2.2.2.2.1 0 (residue 1048577) _ up rfl rfl rfl).2
     (fun _ e => by cases (show (Admission.refused _ _ _) = .admitted _ from e))⟩,
   (let ⟨_, _, e, _⟩ := (h _ _ rfl).2.2.2.2.2.1 0 (by decide +kernel)
    ⟨_, e⟩)⟩

/-- Buckets that are not full, and queue 0 idle with a finish tag. -/
def drainedBuckets : Dev :=
  { up with que := { up.que with shapers := [(0, ⟨0, 0, 5, 6⟩)], meters := [(0, ⟨1, 2, 3, 4⟩)], queues := [(0, ⟨[], 7, some 9⟩)],
                                 flushes := [⟨5, 1, 64⟩] } }

/-- A frame of queue 0 lies in block 5 of the stockpot. -/
def spilled0 : Dev := setQueue 0 ⟨[{ frm with blocks := [5] }], 7, none⟩ up

/-- The same with the gates of P0 shut. -/
def shut0 : Dev := setGate 0 { gateSt 0 spilled0 with gates := 0 } spilled0

theorem met_Buckets (h : Obligations.QueuesAndFabricMove) :
    (∃ u, exec (.bucketRefill 0) (st drainedBuckets) = .next u ∧ Map.get? u.dev.que.shapers 0 =
      some ⟨(refill 1000 1600 0 5).1, (refill 2000 3200 0 6).1, (refill 1000 1600 0 5).2, (refill 2000 3200 0 6).2⟩) ∧
    Runs (.bucketRefill 1) (st drainedBuckets) :=
  ⟨(let ⟨u, e, _, _, _, _, x, _⟩ := (h _ _ rfl).2.2.2.2.2.2.1 0
    ⟨u, e, x 0 { role := 2, cls := 0, port := 0, cir := 1000, pir := 2000, cbs := 1600, pbs := 3200 } ⟨0, 0, 5, 6⟩ rfl rfl rfl⟩),
   runs ((h _ _ rfl).2.2.2.2.2.2.1 1)⟩

theorem met_Sweep (h : Obligations.QueuesAndFabricMove) :
    ∃ u, exec (.sfqIdleSweep 0) (st drainedBuckets) = .next u ∧ (Map.get? u.dev.que.queues 0).isSome :=
  (let ⟨u, e, _, _, x, _⟩ := (h _ _ rfl).2.2.2.2.2.2.2.1 0
   ⟨u, e, by rw [x 0 _ _ _ (by decide) rfl rfl rfl rfl]; rfl⟩)

theorem met_Queues (h : Obligations.QueuesAndFabricMove) :
    Runs (.sfqIdleSweep 0) (st drainedBuckets) ∧ Runs (.queueFlushComplete 5) (st drainedBuckets) ∧
    Runs (.spillReadback 0 0) (st spilled0) ∧ Runs (.spillReadback 0 0) (st shut0) :=
  ⟨runs ((h _ _ rfl).2.2.2.2.2.2.2.1 0), ⟨_, (h _ _ rfl).2.2.2.2.2.2.2.2.1 5 _ rfl⟩,
   runs ((h _ _ rfl).2.2.2.2.2.2.2.2.2.1 0 0 0 { frm with blocks := [5] } _ (by decide) (by decide +kernel) rfl rfl (by decide)
     (by decide +kernel) (by decide +kernel) rfl),
   ⟨_, (h _ _ rfl).2.2.2.2.2.2.2.2.2.2 0 0 0 (by decide) (by decide +kernel)⟩⟩


/-- The stockpot changed; a block of region 127, and the node with its write counter. -/
def withMem (f : Mem → Mem) (d : Dev) : Dev := { d with mem := f d.mem }
def blk : Nat := 127 * 131072
def counted (w : Nat) (d : Dev) : Dev := setNode 0 (blk / 16) ⟨[(0, w)], true, false, []⟩ d

/-- Frame 1 waits in queue 0 with data in that block, not yet verified. -/
def heldInBlk (d : Dev) : Dev := setQueue 0 ⟨[{ frm with blocks := [blk], unverified := [blk] }], 7, none⟩ d

/-- Region 127 has been quarantined n times in the last day. -/
def quarantined (n : Nat) (trng : Nat) : Dev :=
  { setRegion 127 { region 127 up with state := .quarantined, quarantines := List.replicate n 900 } up with
    vault := { up.vault with trng := trng } }

/-- Region 127 is being re-keyed. -/
def rekeyed (d : Dev) : Dev := setRegion 127 { region 127 d with state := .rekeying, next := some (zeros 32, zeros 32) } d

theorem met_Verify (h : Obligations.StockpotEventsTakeEffect) :
    Runs (.stockpotVerifyComplete 5 .passed) (st up) ∧ Runs (.stockpotVerifyComplete blk .passed) (st (heldInBlk up)) ∧
    Runs (.stockpotVerifyComplete blk .corrected) (st (heldInBlk up)) ∧
    Runs (.stockpotVerifyComplete blk .eccData) (st (heldInBlk up)) ∧
    Runs (.stockpotVerifyComplete blk (.eccNode 1)) (st (heldInBlk up)) ∧
    Runs (.stockpotVerifyComplete blk .macGranule) (st (heldInBlk up)) ∧
    Runs (.stockpotVerifyComplete blk (.macNode 2)) (st (heldInBlk up)) :=
  ⟨⟨_, (h _ _ rfl).2.1 5 .passed (by decide +kernel)⟩, ⟨_, ((h _ _ rfl).2.2.1 blk (by decide +kernel)).1⟩,
   ⟨_, ((h _ _ rfl).2.2.1 blk (by decide +kernel)).2.2.1⟩, runs ((h _ _ rfl).2.2.1 blk (by decide +kernel)).2.2.2.1,
   runs (((h _ _ rfl).2.2.1 blk (by decide +kernel)).2.2.2.2.1 1),
   ⟨_, ((h _ _ rfl).2.2.1 blk (by decide +kernel)).2.2.2.2.2.1⟩, ⟨_, ((h _ _ rfl).2.2.1 blk (by decide +kernel)).2.2.2.2.2.2 2⟩⟩

theorem met_Regions (h : Obligations.StockpotEventsTakeEffect) :
    Runs .stockpotBlockWrite (st (withMem (fun m => { m with writes := [(blk, zeros 512)] }) up)) ∧
    Runs (.regionRebuild 127) (st (quarantined 3 0)) ∧ Runs (.regionRebuild 127) (st (quarantined 2 2)) ∧
    Runs (.regionRebuild 127) (st (quarantined 2 0)) ∧ Runs (.regionRebuild 127) (st (returning up)) ∧
    Runs (.regionRebuildComplete 127 true) (st (withRegion .rebuilding up)) ∧
    Runs (.regionRebuildComplete 127 false) (st (withRegion .rebuilding up)) ∧
    Runs (.rekeyTrigger 127) (st (counted 268369920 (withRegion .inService up))) :=
  ⟨(let ⟨u, _, _, e, _⟩ := (h _ _ rfl).1 blk _ _ _ rfl rfl
    ⟨u, e⟩),
   runs (((h _ _ rfl).2.2.2.1 127 _ rfl rfl (by decide +kernel)).1 (by decide +kernel)),
   runs (((h _ _ rfl).2.2.2.1 127 _ rfl rfl (by decide +kernel)).2.1 (by decide +kernel) (by decide +kernel)),
   runs (((h _ _ rfl).2.2.2.1 127 _ rfl rfl (by decide +kernel)).2.2 (by decide +kernel) rfl),
   ⟨_, (h _ _ rfl).2.2.2.2.1 127 _ rfl rfl rfl rfl⟩,
   runs ((h _ _ rfl).2.2.2.2.2.1 127 _ rfl rfl).1, runs ((h _ _ rfl).2.2.2.2.2.1 127 _ rfl rfl).2,
   runs ((h _ _ rfl).2.2.2.2.2.2.1 127 rfl (by decide +kernel))⟩

theorem met_Rekey (h : Obligations.StockpotEventsTakeEffect) :
    Runs .rekeyStart (st (withMem (fun m => { m with queue := [127] }) (withRegion .waiting up))) ∧
    Runs .rekeyComplete (st (rekeyed (heldInBlk up))) ∧ Runs .rekeyComplete (st (counted 4 (rekeyed (heldInBlk up)))) :=
  ⟨runs ((h _ _ rfl).2.2.2.2.2.2.2.1 127 _ rfl (by decide +kernel) (by decide +kernel)),
   runs ((h _ _ rfl).2.2.2.2.2.2.2.2.1 127 (zeros 32, zeros 32) (by decide +kernel) (by decide +kernel) (by decide +kernel)),
   ⟨_, (h _ _ rfl).2.2.2.2.2.2.2.2.2 127 (by decide +kernel) (by decide +kernel)⟩⟩

theorem met_Quarantine (h : Obligations.QuarantineTakesARegionOut) :
    quarantine 127 1 (withRegion .heldOut up) = withRegion .heldOut up ∧
    (region 127 (quarantine 127 1 (heldInBlk (withRegion .inService up)))).state = .quarantined :=
  ⟨(h 127 1 _).1 (.inr (.inl rfl)), ((h 127 1 _).2 (by decide +kernel) (by decide +kernel) (by decide +kernel)).1⟩


/-- The classification state changed. -/
def withCls (f : Cls → Cls) (d : Dev) : Dev := { d with cls := f d.cls }

/-- A MAC entry of die 0 pinned until 5 ms, and the plain one; prefix entries whose writes are held back. -/
def macs (pinned : Bool) : Dev := withCls (fun c => { c with mac := [(3, { macEnt pinned false with pinUntil := 5 })] }) up
def held4 : Dev := withCls (fun c => { c with pfx4 := [(3, { pfxEnt with held := some .deleted })], pfx6 := [(9, pfxEnt)] }) up
def aged : Dev := withSet (fun p => { p with agingTime := 300 }) (macs false)

/-- Die 0 has logged a learned address; a log has overflowed; unification is on. -/
def logged : Dev :=
  withCls (fun c => { c with logs := [(0, [⟨5, 0x1122, some 0x10000000⟩])], logLost := [1] })
    (withSet (fun p => { p with learnUnify := true }) up)

theorem met_Engines (h : Obligations.TableEnginesTakeEffect) :
    Runs (.learnInsert 0) (st (withCls (fun c => { c with learnQ := [(0, [.learn 5 0x1122 0x10000000 7])] }) up)) ∧
    Runs (.stashDrain 0) (st up) ∧ Runs (.prefixWriteApply 0) (st held4) ∧ Runs (.agingSweep 0) (st aged) ∧
    Runs (.sweeperClamp 0) (st aged) ∧ Runs (.pinExpiry 0) (st (macs true)) ∧ Runs .learnTimeRebase (st (macs true)) ∧
    Runs (.unifyPropagate 0) (st logged) ∧ Runs .unifyResync (st logged) ∧
    Runs (.tableFlushComplete 5) (st (withCls (fun c => { c with flushes := [⟨5, [0], 3, 0, 5, 0⟩] }) up)) :=
  ⟨⟨_, (h _ _ rfl).1 0 _ _ _ rfl rfl⟩, runs ((h _ _ rfl).2.1 0 rfl),
   runs ((h _ _ rfl).2.2.1 0 (by decide +kernel) (by decide +kernel)),
   runs ((h _ _ rfl).2.2.2.1 0 (by decide +kernel) (by decide +kernel) (by decide +kernel)),
   runs ((h _ _ rfl).2.2.2.2.1 0 (by decide +kernel)),
   runs ((h _ _ rfl).2.2.2.2.2.1 0 5 _ (by decide +kernel) (by decide +kernel) rfl), runs (h _ _ rfl).2.2.2.2.2.2.1,
   runs ((h _ _ rfl).2.2.2.2.2.2.2.1 0 _ rfl (by decide +kernel) rfl rfl),
   runs ((h _ _ rfl).2.2.2.2.2.2.2.2.1 rfl (by decide) rfl), ⟨_, (h _ _ rfl).2.2.2.2.2.2.2.2.2 5 _ _ rfl rfl⟩⟩

/-- The entry is static. -/
def staticEnt : MacEntry := { macEnt false false with static := true }
def withStatic : Dev := withCls (fun c => { c with mac := [(tblPos 0 macAt, staticEnt)] }) up

theorem static_found : macFind 0 5 0x1122 withStatic = some macAt := find_first (macEngine 0 up) staticEnt

theorem met_StateTable (h : Obligations.LearningFollowsItsStateTable) :
    Map.get? (learnApply 0 (.learn 5 0x1122 0x20000000 7) (withMac false true)).cls.mac (tblPos 0 macAt) =
      some (macEnt false true) ∧
    cntGet .cls 0 12 (learnApply 0 (.learn 5 0x1122 0x20000000 7) (withMac false true)) = 1 ∧
    cntGet .cls 0 21 (learnApply 0 (.learn 5 0x1122 0x20000000 7) withStatic) = 1 :=
  ⟨(h 0 5 0x1122 0x20000000 7 macAt _ _ (mac_found false true) (get_first _ _)).1,
   (h 0 5 0x1122 0x20000000 7 macAt _ _ (mac_found false true) (get_first _ _)).2.2.2 rfl rfl,
   (h 0 5 0x1122 0x20000000 7 macAt withStatic staticEnt static_found (get_first _ _)).2.2.1 rfl (by decide)⟩


/-- P0 in a state, its lane trained or not; F0 (port 32) in a state. -/
def inState (n : Nat) (x : LinkSt) (trained : Bool) : Dev :=
  let d := withPort n (fun y => { y with state := x, lossAt := none, sinceTick := 500 }) up
  setLaneSt n { laneSt n d with trained := trained } d

/-- P0 UP within a loss of signal. -/
def losing : Dev := withPort 0 (fun y => { y with state := .up, lossAt := some 900 }) up

theorem met_Ports (h : Obligations.PortStatesMove) :
    Runs (.portAnComplete (.p 0) 0 false) (st (inState 0 .an false)) ∧
    Runs (.portAnComplete (.p 0) 0 true) (st (inState 0 .an false)) ∧
    Runs (.portTrainingComplete (.p 0)) (st (inState 0 .training true)) ∧
    Runs (.portTrainingTimeout (.p 0)) (st (inState 0 .training false)) ∧
    Runs (.portAligned (.p 0)) (st (inState 0 .aligning true)) ∧
    Runs (.portAlignTimeout (.p 0)) (st (inState 0 .aligning true)) ∧
    Runs (.remoteFaultReceived (.p 0)) (st (inState 0 .up true)) ∧
    Runs (.remoteFaultCleared (.p 0)) (st (inState 0 .fault true)) ∧
    Runs (.linkSignalLoss (.p 0) 1) (st (inState 0 .up true)) ∧ Runs (.linkSignalRestored (.p 0)) (st losing) ∧
    Runs (.linkDownHoldExpiry (.p 0)) (st losing) ∧ Runs (.partnerAnRestart (.p 0)) (st (inState 0 .up true)) :=
  ⟨⟨_, ((h _ _ (.p 0) 0 _ rfl rfl rfl).1 0 false (by decide +kernel) (by decide)).1 rfl⟩,
   runs (((h _ _ (.p 0) 0 _ rfl rfl rfl).1 0 true (by decide +kernel) (by decide)).2 (by decide +kernel)),
   runs ((h _ _ (.p 0) 0 _ rfl rfl rfl).2.1 (by decide +kernel) (by decide +kernel)),
   runs ((h _ _ (.p 0) 0 _ rfl rfl rfl).2.2.1 _ (by decide +kernel) rfl),
   runs ((h _ _ (.p 0) 0 _ rfl rfl rfl).2.2.2.1 (by decide +kernel)),
   runs ((h _ _ (.p 0) 0 _ rfl rfl rfl).2.2.2.2.1 _ (by decide +kernel) rfl),
   runs ((h _ _ (.p 0) 0 _ rfl rfl rfl).2.2.2.2.2.1 (by decide +kernel)),
   runs ((h _ _ (.p 0) 0 _ rfl rfl rfl).2.2.2.2.2.2.1 (by decide +kernel)),
   runs ((h _ _ (.p 0) 0 _ rfl rfl rfl).2.2.2.2.2.2.2.1 1 (by decide +kernel) (by decide +kernel)),
   runs ((h _ _ (.p 0) 0 _ rfl rfl rfl).2.2.2.2.2.2.2.2.1 900 (by decide +kernel) (by decide +kernel)),
   runs ((h _ _ (.p 0) 0 _ rfl rfl rfl).2.2.2.2.2.2.2.2.2.1 900 _ (by decide +kernel) (by decide +kernel) rfl),
   runs ((h _ _ (.p 0) 0 _ rfl rfl rfl).2.2.2.2.2.2.2.2.2.2 (by decide +kernel) (by decide +kernel))⟩

/-- A good training ordered set, whose receiver is ready; a lane of W in training; a scan of one point, or of two. -/
def tos : Bytes := [0xBC, 0, 1, 0, 0x40, 0, 0, 0] ++ zeros 8
def scanned (n : Nat) : Dev :=
  setLaneSt 0 { laneSt 0 up with scan := some ⟨9, 0, 0, 1, n, 0, 1, 1, 10, 0, 0, 900⟩ } up

/-- A window with a slip, one code error of each kind, and on W no skip set. -/
def windowOf (idle codes : Nat) (drift : Int) : LaneWindow := ⟨idle, codes, drift, 1, 1, true⟩

theorem met_Lanes (h : Obligations.LanesFollowTheirInputs) :
    Runs (.trainingFrameReceive (.p 0) ⟨[1, 2, 0, 1, 2], none⟩ true) (st (inState 0 .training false)) ∧
    Runs (.trainingFrameReceive (.p 0) ⟨[0, 0, 0, 0, 0], some 3⟩ false) (st (inState 0 .training false)) ∧
    (tapStep 1 (-8, 0) 0).1 ≤ 0 ∧ Runs (.twinTrainingSetReceive 0 []) (st up) ∧
    Runs (.twinTrainingSetReceive 0 tos) (st (inState 96 .an false)) ∧
    Runs (.twinLaneTrainTimeout 0) (st (inState 96 .aligning false)) ∧ Runs (.adaptWindow (.p 0) (windowOf 7 8 0)) (st up) ∧
    Runs (.adaptWindow (.f 0) (windowOf 7 8 17)) (st up) ∧ Runs (.adaptWindow (.w 0) (windowOf 4 8 (-3))) (st up) ∧ Runs (.eyeScanPoint (.p 0) 3) (st (scanned 2)) ∧
    Runs (.eyeScanPoint (.p 0) 3) (st (scanned 1)) :=
  ⟨runs ((h _ _ rfl).1 (.p 0) 0 _ true _ rfl (by decide) (by decide +kernel) rfl rfl),
   (let ⟨u, _, e, _⟩ := (h _ _ rfl).2.1 (.p 0) 0 ⟨[0, 0, 0, 0, 0], some 3⟩ false rfl (by decide) (by decide +kernel) rfl
    ⟨u, e⟩),
   ((h (st up) _ rfl).2.2.1 1 (-8, 0) 0 (by decide) (by decide)).2, ⟨_, (h _ _ rfl).2.2.2.1 0 [] (by decide +kernel)⟩,
   runs ((h _ _ rfl).2.2.2.2.1 0 tos _ (by decide +kernel) (by decide +kernel) rfl),
   runs ((h _ _ rfl).2.2.2.2.2.1 0 _ (by decide +kernel) (.inl (by decide +kernel)) rfl),
   ⟨_, (h _ _ rfl).2.2.2.2.2.2.1 (.p 0) _ (by decide)⟩,
   (let ⟨u, _, e, _⟩ := (h _ _ rfl).2.2.2.2.2.2.2.1 (.f 0) 32 _ _ _ rfl (by decide) rfl rfl
    ⟨u, e⟩),
   (let ⟨u, _, e, _⟩ := (h _ _ rfl).2.2.2.2.2.2.2.1 (.w 0) 96 _ _ _ rfl (by decide) rfl rfl
    ⟨u, e⟩),
   runs (((h _ _ rfl).2.2.2.2.2.2.2.2 (.p 0) 0 3 _ _ rfl rfl rfl).1 (by decide)),
   runs (((h _ _ rfl).2.2.2.2.2.2.2.2 (.p 0) 0 3 _ _ rfl rfl rfl).2 (by decide))⟩

theorem met_Ber (h : Obligations.BerCodeIsTheRoundedLogarithm) :
    (1000 : Nat) ^ 512 < 10 ^ (2 * berCode 0 1000 + 1) * 3 ^ 512 ∨ 65535 ≤ berCode 0 1000 :=
  (Nat.lt_or_ge (berCode 0 1000) 65535).imp ((h 0 1000 3 _ rfl rfl).2) id


/-- The parent of a PTP clock; the instance 0 with a slave port and a parent; a P2P instance. -/
def parent : PtpParent := ⟨5, 1, 128, 6, 0x20, 0x4E5D, 128, 5, 0⟩
def slaved (d : Dev) : Dev := setInst 0 { Machine.inst 0 d with slavePort := some 0, parent := some parent } d
def p2p0 : Dev := withSet (fun p => { p with ptp := [(0, { role := 1, ports := [0], p2p := true })] }) up

/-- A PTP frame on P0 waits for the firmware: of a type, with a version. -/
def ptpFrame (type version : Nat) : FwFrame :=
  ⟨0, none, zeros 12 ++ [0x88, 0xF7] ++ be 1 type ++ be 1 version ++ be 2 64 ++ zeros 60, 5, 0, 0⟩
def ptpWaits (type version : Nat) (d : Dev) : Dev := { d with prot := { d.prot with fwBuf := [ptpFrame type version] } }

theorem met_PtpSends (h : Obligations.PtpClocksSpeak) :
    Runs (.ptpSyncSend 0 (.p 0)) (st up) ∧ Runs (.ptpAnnounceSend 0 (.p 0)) (st up) ∧
    Runs (.ptpSyncSend 0 (.p 0)) (st (timed .acquire 0 0)) ∧ Runs (.ptpDelayReqSend 0 (.p 0)) (st (slaved up)) ∧
    Runs (.ptpPdelayReqSend (.p 0)) (st p2p0) ∧ Runs (.announceReceiptTimeout 0) (st (slaved up)) :=
  ⟨⟨_, ((h _ _ rfl).1 0 (.p 0) 0 _ _ _ _ rfl rfl rfl rfl rfl (by decide +kernel)).1 _ (by decide +kernel) rfl⟩,
   ⟨_, (((h _ _ rfl).1 0 (.p 0) 0 _ _ _ _ rfl rfl rfl rfl rfl (by decide +kernel)).2.1 _ _ _ rfl rfl).2⟩,
   ⟨_, ((h _ _ rfl).1 0 (.p 0) 0 _ _ _ _ rfl rfl rfl rfl rfl (by decide +kernel)).2.2 rfl⟩,
   (let ⟨u, _, e, _⟩ := (h _ _ rfl).2.1 0 (.p 0) 0 _ _ rfl rfl rfl (by decide +kernel) (by decide +kernel) rfl rfl
    ⟨u, e⟩),
   ⟨_, (h _ _ rfl).2.2.1 (.p 0) 0 _ _ rfl rfl (by decide +kernel) rfl⟩,
   runs ((h _ _ rfl).2.2.2.2 0 _ _ rfl rfl (by decide +kernel))⟩

/-- Where the message lies, and the device when it has read its timestamps. -/
def ptpAt : PtpRef := ⟨14, 0, false, 64⟩
def ptpRead (type version : Nat) (d : Dev) : Dev := readStamps { ptpWaits type version d with out := [] }

theorem met_PtpReceives (h : Obligations.PtpClocksSpeak) :
    Runs .ptpMessageProcess (st (ptpWaits 11 1 up)) ∧ Runs .ptpMessageProcess (st (ptpWaits 2 2 p2p0)) ∧
    Runs .ptpMessageProcess (st (ptpWaits 11 2 up)) :=
  ⟨⟨_, ((h (st (ptpWaits 11 1 up)) _ rfl).2.2.2.1 (ptpFrame 11 1) ptpAt (ptpRead 11 1 up) (by decide +kernel) rfl
      (by decide +kernel) (by decide +kernel)).1 (by decide +kernel)⟩,
   ⟨_, ((h (st (ptpWaits 2 2 p2p0)) _ rfl).2.2.2.1 (ptpFrame 2 2) ptpAt (ptpRead 2 2 p2p0) (by decide +kernel) rfl
      (by decide +kernel) (by decide +kernel)).2.1 (by decide +kernel) (by decide +kernel) (by decide +kernel)⟩,
   ⟨_, ((h (st (ptpWaits 11 2 up)) _ rfl).2.2.2.1 (ptpFrame 11 2) ptpAt (ptpRead 11 2 up) (by decide +kernel) rfl
      (by decide +kernel) (by decide +kernel)).2.2 0 { role := 1, ports := [0], timeSource := true } (by decide +kernel)
      (by decide +kernel) (by decide +kernel) (by decide +kernel) (by decide +kernel) (by decide +kernel)⟩⟩

theorem met_SyncOffset (h : Obligations.SyncMeasuresTheOffset) :
    (syncComplete 0 0 { timeSource := true } 5 0 7 up).time = up.time ∧
    ∃ d2 : Dev, (Machine.inst 0 d2).sync = none ∧ d2.time = up.time :=
  ⟨((h 0 0 5 7 { timeSource := true } 0 up).1 rfl).2,
   (let ⟨d2, _, _, _, e, f, _⟩ := (h 0 0 5 7 {} 0 (setInst 0 { Machine.inst 0 up with meanPathDelay := some 4 } up)).2 4 rfl
    ⟨d2, e, f⟩)⟩


/-- A serial number that is not this device's, which is not known. -/
def otherSerial : BitVec 64 := if Config.serial = 1 then 2 else 1
theorem other_serial : otherSerial.toNat ≠ Config.serial := by
  unfold otherSerial
  split
  · next h => rw [h]; decide
  · next h => exact fun e => h e.symm

/-- The device with its set asking for twins to attach; a HELLO; a handshake in progress. -/
def autoReady : Dev := withSet (fun p => { p with twinAuto := true }) pairReady
def hello (mac : Option Bytes) : TwinHello := ⟨otherSerial, 0, 1, true, false, zeros 16, mac⟩
def hand (ini : Bool) (fails : Nat) : Handshake :=
  ⟨ini, zeros 16, if ini then [] else zeros 16, if ini then Config.serial else otherSerial.toNat,
    if ini then 0 else Config.serial, 500, fails, false, !ini, 0, if ini then 0 else 1⟩
def shaking (ini : Bool) (fails : Nat) : Dev :=
  { pairReady with twin := { pairReady.twin with state := .attaching, hs := some (hand ini fails) } }
/-- The initiator's handshake when the HELLO has answered it. -/
def handed : Handshake :=
  { hand true 0 with nonceR := zeros 16, serialR := otherSerial.toNat, stepAt := 1000, peerServing := false, peerStrap := true,
                     peerVersion := 0, peerRecords := 1 }

theorem mac_length (h : Handshake) (tag : Nat) : ([] : Bytes) ≠ handMac (zeros 32) tag h := by
  intro e
  have := congrArg List.length e
  rw [handMac, aesCmac_zero_length] at this
  cases this

theorem met_Hello (h : Obligations.TwinsShakeHands) :
    Runs .twinAutoAttach (st autoReady) ∧ Runs .twinAutoAttach (st up) ∧ Runs (.twinHello (hello none)) (st autoReady) ∧
    Runs (.twinHello (hello (some (handMac (zeros 32) 0x52 handed)))) (st (shaking true 0)) ∧
    Runs (.twinHello (hello (some []))) (st (shaking true 0)) :=
  ⟨runs ((h _ _ rfl).1 (by decide +kernel) (by decide +kernel) (by decide +kernel)),
   ⟨_, (h _ _ rfl).2.1 (.inr (.inr (by decide +kernel)))⟩,
   runs ((h _ _ rfl).2.2.1 (hello none) (zeros 32) _ (by decide +kernel) (by decide +kernel) rfl (by decide +kernel)
     (by decide +kernel) (.inl (by decide +kernel)) other_serial rfl rfl (by decide +kernel)),
   runs (((h _ _ rfl).2.2.2.1 (hello (some (handMac (zeros 32) 0x52 handed))) _ (zeros 32) (hand true 0) handed (by decide +kernel)
     (by decide +kernel) rfl (by decide +kernel) rfl rfl rfl rfl).1 rfl other_serial (by decide +kernel)),
   runs (((h _ _ rfl).2.2.2.1 (hello (some [])) _ (zeros 32) (hand true 0) handed (by decide +kernel)
     (by decide +kernel) rfl (by decide +kernel) rfl rfl rfl rfl).2 (mac_length _ _))⟩

theorem met_Handshake (h : Obligations.TwinsShakeHands) :
    Runs (.twinHandshakeMac (handMac (zeros 32) 0x49 (hand false 0))) (st (shaking false 0)) ∧
    Runs (.twinHandshakeMac []) (st (shaking false 0)) ∧ Runs .twinHandshakeTimeout (st (shaking true 1)) ∧
    Runs .twinHandshakeTimeout (st (shaking true 2)) :=
  ⟨runs (((h _ _ rfl).2.2.2.2.1 _ (zeros 32) (hand false 0) (by decide +kernel) (by decide +kernel) (by decide +kernel)
     rfl rfl rfl).1 rfl),
   ⟨_, ((h _ _ rfl).2.2.2.2.1 _ (zeros 32) (hand false 0) (by decide +kernel) (by decide +kernel) (by decide +kernel)
     rfl rfl rfl).2 (mac_length _ _)⟩,
   (let ⟨u, _, e, _⟩ := ((h _ _ rfl).2.2.2.2.2 (hand true 1) _ rfl rfl rfl).1 (by decide) (by decide +kernel)
    ⟨u, e⟩),
   runs (((h _ _ rfl).2.2.2.2.2 (hand true 2) _ rfl rfl rfl).2 (by decide))⟩


/-- A pair, SECONDARY or PRIMARY, sharing state under keys; a record of it sent, or waiting. -/
def sharing (x : TwinSt) (role : Nat) (f : Twin → Twin) : Dev :=
  let d := twinned x role (withPort 96 (fun x => { x with state := .up }) up)
  { d with twin := f { d.twin with keyOut := zeros 32, keyIn := zeros 32 } }
def unackedOne (synced : Bool) (t : Twin) : Twin := { t with unacked := [(4, .pnReservation 0 99)], synced := synced }
/-- The record of what the firmware follows has been sent, and another waits. -/
def queuedRec : Dev :=
  let d := sharing .paired 1 id
  { d with twin := { d.twin with waiting := [.pnReservation 0 99],
                                 lastSent := [.timedActions (twinActions d), controlRecord d] } }

theorem met_Records (h : Obligations.TwinsShareAndTakeOver) :
    Runs .twinRecordSend (st queuedRec) ∧ Runs (.twinRecordAck 4) (st (sharing .paired 1 (unackedOne false))) ∧
    Runs (.twinRecordAck 4) (st (sharing .syncing 1 (unackedOne true))) ∧ Runs .twinRxStateSend (st (sharing .paired 1 id)) ∧
    Runs (.twinRecordReceive ⟨5, false, some (.portTaps 0 [])⟩) (st (sharing .paired 2 id)) ∧
    Runs (.twinRecordReceive ⟨5, false, some (.rxState 3 7)⟩) (st (withSa 3 (fun x => { x with state := .inUse }) (sharing .paired 2 id))) ∧
    Runs (.twinRecordReceive ⟨5, false, none⟩) (st (sharing .paired 2 id)) ∧
    Runs (.twinRecordReceive ⟨5, true, none⟩) (st (sharing .paired 2 id)) :=
  ⟨runs ((h _ _ rfl).1 queuedRec (.pnReservation 0 99) [] (by decide +kernel) (by decide +kernel) (by decide +kernel)
     (by decide +kernel) (by decide +kernel) rfl),
   runs (((h _ _ rfl).2.1 4 (.pnReservation 0 99) (by decide +kernel)).1 (by decide +kernel)),
   runs (((h _ _ rfl).2.1 4 (.pnReservation 0 99) (by decide +kernel)).2 rfl rfl rfl rfl),
   runs ((h _ _ rfl).2.2.1 (by decide +kernel)),
   ⟨_, ((h _ _ rfl).2.2.2.1 ⟨5, false, some (.portTaps 0 [])⟩ (by decide +kernel) (by decide +kernel) (by decide +kernel)
     (by decide +kernel)).1 _ rfl⟩,
   runs (((h _ _ rfl).2.2.2.1 ⟨5, false, some (.rxState 3 7)⟩ (by decide +kernel) (by decide +kernel) (by decide +kernel)
     (by decide +kernel)).2.1 3 7 rfl (by decide +kernel)),
   runs (((h _ _ rfl).2.2.2.1 ⟨5, false, none⟩ (by decide +kernel) (by decide +kernel) (by decide +kernel)
     (by decide +kernel)).2.2.1 rfl rfl),
   runs (((h _ _ rfl).2.2.2.1 ⟨5, true, none⟩ (by decide +kernel) (by decide +kernel) (by decide +kernel)
     (by decide +kernel)).2.2.2 rfl rfl)⟩

theorem met_Beats (h : Obligations.TwinsShareAndTakeOver) :
    Runs .yoyoSend (st (sharing .solo 1 id)) ∧ Runs (.yoyoReceive ⟨5, 3, true, 0⟩) (st (sharing .suspect 1 id)) ∧
    Runs (.yoyoReceive ⟨5, 0, false, 0⟩) (st (sharing .paired 1 id)) ∧
    Runs .heartbeatMiss (st (sharing .paired 1 (fun t => { t with missed := 7, heard := 900 }))) ∧
    Runs .twinLostTimeout (st (sharing .suspect 1 id)) ∧ Runs (.twinTimeExchange 5 4) (st (sharing .paired 2 id)) ∧
    Runs .twfailITakeover (st (sharing .lost 2 id)) ∧ Runs .twfailITakeover (st (sharing .paired 1 id)) :=
  ⟨⟨_, (h _ _ rfl).2.2.2.2.1 (.inr rfl) (by decide +kernel)⟩,
   runs ((h _ _ rfl).2.2.2.2.2.1 ⟨5, 3, true, 0⟩ (by decide +kernel) (by decide +kernel)),
   runs ((h _ _ rfl).2.2.2.2.2.1 ⟨5, 0, false, 0⟩ (by decide +kernel) (by decide +kernel)),
   runs ((h _ _ rfl).2.2.2.2.2.2.1 _ (by decide +kernel) rfl), runs ((h _ _ rfl).2.2.2.2.2.2.2.1 rfl),
   ⟨_, (h _ _ rfl).2.2.2.2.2.2.2.2.1 5 4 _ (by decide +kernel) (by decide +kernel) (by decide) rfl⟩,
   runs ((h _ _ rfl).2.2.2.2.2.2.2.2.2.1 (.inr (.inr rfl)) (by decide +kernel)),
   ⟨_, (h _ _ rfl).2.2.2.2.2.2.2.2.2.2 (.inr (.inr (.inr (by decide +kernel)))) (by decide +kernel)⟩⟩


theorem met_Step (h : Obligations.StepRunsTheFrontCommand) :
    step ⟨[.whiskMatch, .rekeyStart], ⟨[]⟩, up⟩ = exec .whiskMatch ⟨[.rekeyStart], ⟨[]⟩, up⟩ :=
  (h .whiskMatch [.rekeyStart] ⟨[.whiskMatch, .rekeyStart], ⟨[]⟩, up⟩).2 rfl

theorem met_Idle (h : Obligations.ResetAndIdle) : ∃ t, step (st up) = .next t ∧ t.dev.time.elapsed = 1001 :=
  (let ⟨t, e, x⟩ := h.2.2.2.2.2.2.2.2.2.2.2.2.2.2.2.2.2.2.2.2 (st up) rfl
   ⟨t, e, x.2.2.2.2.2.2.2⟩)

theorem met_Answers (h : Obligations.EveryCommandAnswers) :
    Runs (.stockpotVerifyComplete 5 (.eccNode 4)) (st up) :=
  (let ⟨t, e, _⟩ := h (.stockpotVerifyComplete 5 (.eccNode 4)) (st up)
   ⟨t, e⟩)

/-- OTP of a retired device. -/
def retiredOtp : Otp := ⟨[(0x252, 7)]⟩

theorem met_Retired (h : Obligations.RetiredIsForEver) (h2 : Obligations.ProgrammedBitsStay) :
    decodeLc retiredOtp = 4 ∧ (∀ t, step ⟨[], retiredOtp, up⟩ = .next t → decodeLc t.otp = 4 ∧ Otp.kept retiredOtp t.otp) ∧
    ∃ t, step ⟨[], retiredOtp, up⟩ = .next t :=
  ⟨by decide +kernel, fun t e => ⟨h.2 _ _ (by decide +kernel) e, h2 _ _ e⟩, ⟨_, rfl⟩⟩

theorem met_Counter (h : Obligations.CounterReportsAsTs96) :
    tsOf (((2 ^ 48 - 1) * 1000000000 + 999999999) * 2 ^ 32 + (2 ^ 32 - 1)) = ⟨2 ^ 48 - 1, 999999999, 65535⟩ :=
  h (2 ^ 48 - 1) 999999999 (2 ^ 32 - 1) (by decide) (by decide) (by decide)

/-- A command that never needs authorization, and one that always does; a request of it; the device with its state
of mailbox 0. -/
def plainCmd : CmdInfo := { op := 0x0101, len := 0 }
def authCmd : CmdInfo := { op := 0x0101, len := 0, auth := .always, held := true }
def trivialBody (_ : Ctx) (o : Otp) (_ : Dev) : Ans × Otp := (.fail .badState, o)
def authAsk : Request := { ask [] with flags := 1, body := zeros 16 }
def inLc (lc : Nat) : Dev := { up with vault := { up.vault with lc := lc } }
def repeated : Dev := setMailbox 0 { mailbox 0 up with stored := some (1, [7], [9]) } up
def lockedUp : Dev := { inLc 2 with host := { up.host with lockout := some 5 } }

theorem met_Checks (h : Obligations.MailboxChecksComeInOrder) :
    (mailbox 0 (mailboxOtp plainCmd trivialBody (ask []) ⟨[]⟩ repeated).2).done = true ∧
    (mailboxOtp plainCmd trivialBody (ask [1, 2, 3, 4]) ⟨[]⟩ up).1 = ⟨[]⟩ ∧
    (mailboxOtp plainCmd trivialBody { ask [] with reserved := 1 } ⟨[]⟩ up).1 = ⟨[]⟩ ∧
    (mailboxOtp authCmd trivialBody (ask []) ⟨[]⟩ (inLc 3)).1 = ⟨[]⟩ ∧
    (mailboxOtp { authCmd with held := false } trivialBody (ask []) ⟨[]⟩ (inLc 2)).1 = ⟨[]⟩ ∧
    (mailboxOtp { authCmd with held := false } trivialBody authAsk ⟨[]⟩ lockedUp).1 = ⟨[]⟩ ∧
    (mailboxOtp { authCmd with held := false } trivialBody authAsk ⟨[]⟩ (inLc 2)).1 = ⟨[]⟩ ∧
    (mailboxOtp plainCmd trivialBody (ask [] 0xF7000000) ⟨[]⟩ up).1 = ⟨[]⟩ :=
  ⟨((h plainCmd trivialBody (ask []) ⟨[]⟩ repeated _ (by decide +kernel) (by decide +kernel) (by decide +kernel) rfl).1 [7] [9]
     (by decide +kernel)).2.2.1,
   congrArg Prod.fst (((h plainCmd trivialBody (ask [1, 2, 3, 4]) ⟨[]⟩ up _ (by decide +kernel) (by decide +kernel)
     (by decide +kernel) rfl).2 (by decide +kernel)).1 (by decide +kernel)),
   congrArg Prod.fst (((h plainCmd trivialBody { ask [] with reserved := 1 } ⟨[]⟩ up _ (by decide +kernel) (by decide +kernel)
     (by decide +kernel) rfl).2 (by decide +kernel)).2.1 (by decide +kernel) (by decide +kernel)),
   congrArg Prod.fst ((((h authCmd trivialBody (ask []) ⟨[]⟩ (inLc 3) _ (by decide +kernel) (by decide +kernel)
     (by decide +kernel) rfl).2 (by decide +kernel)).2.2 (by decide +kernel) (by decide +kernel)).1 .tamperHeld (by decide +kernel)),
   congrArg Prod.fst ((((h { authCmd with held := false } trivialBody (ask []) ⟨[]⟩ (inLc 2) _ (by decide +kernel)
     (by decide +kernel) (by decide +kernel) rfl).2 (by decide +kernel)).2.2 (by decide +kernel) (by decide +kernel)).2.1
     (by decide +kernel) (by decide +kernel) (by decide +kernel)),
   congrArg Prod.fst ((((h { authCmd with held := false } trivialBody authAsk ⟨[]⟩ lockedUp _ (by decide +kernel)
     (by decide +kernel) (by decide +kernel) rfl).2 (by decide +kernel)).2.2 (by decide +kernel) (by decide +kernel)).2.2.1
     (by decide +kernel) (by decide +kernel) (by decide +kernel) (by decide +kernel)),
   congrArg Prod.fst ((((h { authCmd with held := false } trivialBody authAsk ⟨[]⟩ (inLc 2) _ (by decide +kernel)
     (by decide +kernel) (by decide +kernel) rfl).2 (by decide +kernel)).2.2 (by decide +kernel) (by decide +kernel)).2.2.2.1
     (by decide +kernel) (by decide +kernel) (by decide +kernel) (by decide +kernel) (by decide +kernel)),
   congrArg Prod.fst ((((h plainCmd trivialBody (ask [] 0xF7000000) ⟨[]⟩ up _ (by decide +kernel) (by decide +kernel)
     (by decide +kernel) rfl).2 (by decide +kernel)).2.2 (by decide +kernel) (by decide +kernel)).2.2.2.2 .badField
     (by decide +kernel) (by decide +kernel) rfl)⟩

theorem met_Units (h : Obligations.EventsKeepToTheirUnits) :
    Runs (.gateEvent (.p 0)) (st up) ∧ Runs (.rekeyTrigger 3) (st up) ∧ Runs (.linkSignalLoss (.p 0) 1) (st up) :=
  ⟨(let ⟨_, _, _, _, _, _, e⟩ := (h (st up) _ rfl).1 (.p 0) _ (.tail _ (.head _))
    ⟨_, e⟩),
   (let ⟨_, _, e⟩ := (h (st up) _ rfl).2.2.2.2.2.2.2.2.1 3 _ (.tail _ (.head _))
    ⟨_, e⟩),
   (let ⟨_, _, e⟩ := (h (st up) _ rfl).2.2.2.2.2.2.2.2.2.2.2.2.2.2.1 (.p 0) _ (.tail _ (.head _))
    ⟨_, e⟩)⟩

/-! ### Numbers that the spec works out -/

/-- R81, R83: user parts of two boards added to their factory parts. -/
theorem test_calibration : calSum 0x000E4000 (-49152) = (0x000D8000, false) ∧ calSum 0x13880000 0x75300000 = (0x7FFFFFFF, true) := by
  decide

/-- R266: INC of −48 ppb, and the nominal one. -/
theorem test_increment : incOf (-49152) = 0xCCCCCC28 ∧ incOf 0 = 0xCCCCCCCD := by decide

/-- R267: a slew of +12 ns takes 75,000 full ticks and one of the remainder. -/
theorem test_slew : slewUnits true (withTime (fun t => { t with rate := 0 }) up) = 687194 ∧ 12 * 2 ^ 32 = 75000 * 687194 + 57552 := by
  decide +kernel

/-- R265: the carry at a second boundary, and what is reported. -/
theorem test_carry :
    (match step (st (withTime (fun t => { t with grand := (1812345678 * 1000000000 + 999999999) * 2 ^ 32 + 0x80000000 }) up)) with
      | .next t => tsOf t.dev.time.grand | _ => TS96.zero) = ⟨0x6C06334F, 0, 0x4CCC⟩ := by
  decide +kernel

/-- R247: marking ECT(0) as CE. -/
theorem test_checksum : checksumUpdate 0x6C3F 0x45BA 0x45BB = 0x6C3E := by decide

/-- R249: four frames at a colour-aware meter, and the second at a colour-blind one. -/
theorem test_meter :
    meterJudge 1 .green 1500 (tok 3000) (tok 4000) = (.green, tok 1500, tok 2500) ∧
    meterJudge 1 .yellow 1500 (tok 1500) (tok 2500) = (.yellow, tok 1500, tok 1000) ∧
    meterJudge 1 .green 1500 (tok 1500) (tok 1000) = (.red, tok 1500, tok 1000) ∧
    meterJudge 1 .green 1500 (tok 1500) (tok 2500) = (.green, tok 0, tok 1000) := by decide

/-- R253, R255: tags across the wrap, and the inverse weight of 40,000. -/
theorem test_tags :
    finishTag 0xFFFFFC1800000000 1000 3 = 0xFFFFFD6555555408 ∧ finishTag 0xFFFFFC1800000000 1000 1 = 0 ∧
    precedes64 0xFFFFFFFFFFFFFC18 0 = true ∧ precedes64 0 0x0000014D55555020 = true ∧ invWeight 40000 = 107374 := by decide

/-- R256: three refills at 100 Mb/s. -/
theorem test_refill :
    refill 0x3333333 100000 0 0 = (419430, 26112) ∧ refill 0x3333333 100000 0 26112 = (419430, 52224) ∧
    refill 0x3333333 100000 0 52224 = (419431, 12800) := by decide

/-- R299: a correction that cannot be represented. -/
theorem test_correction : corrSum 0x7FFFFFFFFF000000 0x03E80000 = (0x7FFFFFFFFFFFFFFF, true) := by decide

/-- R298, R307: the residence time of the example, and the chain of the tag patch where H is the element x. -/
theorem test_patch :
    residence (350 * 2 ^ 32 + 2 ^ 30) = 0x015E4000 ∧ gfMul 0x15E (2 ^ 126) = 0xAF ∧
    gfMul (0xAF ^^^ (2 ^ 126)) (2 ^ 126) = 0xC1 * 2 ^ 120 + 0x57 ∧
    gfMul (0xC1 * 2 ^ 120 + 0x57) (2 ^ 126) = 0x8180 * 2 ^ 112 + 0x2B ∧
    gfMul (0x8180 * 2 ^ 112 + 0x2B) (2 ^ 126) = 0xA1C0 * 2 ^ 112 + 0x15 := by decide +kernel

/-- R326: the change time of a list whose base time lies in the past. -/
theorem test_gate_change :
    changeTime (1812345600 * 1000000000 * 65536) 0x3D0900000 ((1812345700 * 1000000000 + 123456789) * 65536 + 0x4000) =
      (1812345700 * 1000000000 + 123500000) * 65536 := by decide +kernel

/-- R388: the codes of the scan. -/
theorem test_ber : berCode 2000000 1000000000 = 691 ∧ berCode 6 1000000000 = 2105 ∧ berCode 0 1000000000 = 2182 ∧
    berCode 24 1000000000 = 1951 := by decide +kernel

/-- R144: three entries and two clearances are HELD; the third clearance gives OWNED; sixteen entries RETIRED. -/
theorem test_held :
    decodeLc ⟨[(0x252, 3), (0x254, 7), (0x256, 3)]⟩ = 3 ∧ decodeLc ⟨[(0x252, 3), (0x254, 7), (0x256, 7)]⟩ = 2 ∧
    decodeLc ⟨[(0x252, 3), (0x254, 255), (0x255, 255), (0x256, 255)]⟩ = 4 := by decide +kernel

/-- R148: the input of the derivation of TK for owner slot 2, the serial number left open. -/
theorem test_kdf_input : kdfInput 1 2 2 2 =
    [0, 0, 0, 1, 0x4C, 0x58, 0x31, 0x36, 0x30, 0x38, 0, 2, 2, 0] ++ be 8 Config.serial ++ [0, 0, 0, 2, 0, 0, 1, 0] := rfl

/-- R159: after a restart at 0x4_0000 the first nonce's counter is 0x4_0000, and the next ceiling 0x6_0000. -/
theorem test_nonce :
    (takeNonce ⟨[]⟩ (withVault (fun v => { v with nonce := 0x40000, ceiling := 0x50000 }) up)).1.drop 4 =
      [0, 0, 0, 0, 0, 4, 0, 0] ∧
    (match exec .nonceCeilingCommit (st (withVault (fun v => { v with nonce := 0x48000, ceiling := 0x50000 }) up)) with
      | .next t => t.dev.vault.ceiling | _ => 0) = 0x60000 := by decide +kernel

/-! ### Commands that cannot be given -/

/-- Frames and payloads out of their carriers' sizes. -/
theorem test_ill_formed_sizes :
    Instr.wf (.perfRead (ask (zeros 4065))) = false ∧ Instr.wf (.frameReceive { port := .mgt, bytes := zeros 17 }) = false ∧
    Instr.wf (.frameInject { inj with bytes := zeros 13 }) = false ∧ Instr.wf (.registerWrite (.bar0 0 3) 0) = false ∧
    Instr.wf (.mailboxRequestWrite 0 []) = false ∧ Instr.wf (.mailboxRequestWrite 0x3FFFF [1, 2]) = false ∧
    Instr.wf (.windowDataWrite 0 0 0 0 []) = false ∧ Instr.wf (.windowDataWrite 0 0 0 59 (zeros 6)) = false ∧
    Instr.wf (.dmaDescriptorStart 0 (zeros 31)) = false ∧ Instr.wf (.spillReadback 0 (9 * 2 ^ 18)) = false := by decide +kernel

/-- Readings and protocol units that are not of their length. -/
theorem test_ill_formed_units :
    Instr.wf (.tempSensorReading [0]) = false ∧ Instr.wf (.todMessage (zeros 15)) = false ∧
    Instr.wf (.trainingFrameReceive (.p 0) ⟨[0], none⟩ true) = false ∧ Instr.wf (.twinTrainingSetReceive 0 (zeros 15)) = false ∧
    Instr.wf (.twinHandshakeMac (zeros 15)) = false ∧ Instr.wf (.twinHello ⟨0, 0, 0, false, false, zeros 15, none⟩) = false ∧
    Instr.wf (.twinHello ⟨0, 0, 0, false, false, zeros 16, some []⟩) = false ∧
    Instr.wf (.flitSend 0 false 0 .cell (zeros 257)) = false ∧ Instr.wf (.flitReceive 0 false 0 0 (zeros 79) 0) = false ∧
    Instr.wf (.twinRecordReceive ⟨0, false, some (.portTaps 0 [0])⟩) = false ∧
    Instr.wf (.twinRecordReceive ⟨0, false, some (.mkaSession 0 0 [] [] [] 0 (some ⟨0, 0, zeros 8, zeros 12⟩))⟩) = false := by
  decide +kernel

/-- Commands that can be given. -/
theorem test_well_formed : Instr.wf (.perfRead (ask (zeros 4))) = true ∧ Instr.wf (.frameReceive (rxOf .mgt [8, 0])) = true ∧
    Instr.wf (.twinTrainingSetReceive 0 tos) = true ∧ Instr.wf (.frameInject inj) = true := by decide +kernel

/-- The table gives no bits, so no word spells a command. -/
theorem test_no_words : decodeTableWord 16 5 = none := rfl

end Sys2Proof.Machine.Tests
end

section
/-! The TS96 report of an island counter (R17). A counter value is put together as
`(sec * 1000000000 + ns) * 2 ^ 32 + frac`, in units of 2^-32 ns. -/
namespace Sys2Proof.Machine

/-- The counter's whole nanoseconds: its fraction is less than one of them. -/
theorem counter_div_unitsPerNs {whole frac : Nat} (hfrac : frac < 2 ^ 32) :
    (whole * 2 ^ 32 + frac) / unitsPerNs = whole := by
  unfold unitsPerNs
  omega

theorem div_unitsPerS (u : Nat) : u / unitsPerS = u / unitsPerNs / 1000000000 := by
  rw [Nat.div_div_eq_div_mul, Nat.mul_comm]
  rfl

/-- The whole nanoseconds are a multiple of 2^16 of the reported fraction's units, so they do not reach it. -/
theorem counter_reportedFraction {whole frac : Nat} (hfrac : frac < 2 ^ 32) :
    (whole * 2 ^ 32 + frac) / 2 ^ 16 % 2 ^ 16 = frac / 2 ^ 16 := by
  omega

/-- Settles O7, field by field: the counter's whole nanoseconds split at one second into its seconds and nanoseconds,
and its fraction keeps its upper 16 bits. -/
theorem counterReportsAsTs96 : Obligations.CounterReportsAsTs96 := by
  intro sec ns frac hsec hns hfrac
  have seconds : (sec * 1000000000 + ns) / 1000000000 % 2 ^ 48 = sec := by omega
  have nanoseconds : (sec * 1000000000 + ns) % 1000000000 = ns := by omega
  rw [tsOf, div_unitsPerS, counter_div_unitsPerNs hfrac, counter_reportedFraction hfrac, seconds, nanoseconds]

end Sys2Proof.Machine
end

section
/-! The command index (R507) and the answer to an opcode outside it (R508): what the answering of a command leaves of a
mailbox, and the doorbell of a request that no mailbox refuses. -/
namespace Sys2Proof.Machine

/-! ### The opcodes outside the index -/

/-- A group without commands lists no opcode; AUTH_CHALLENGE alone is listed apart from its group's numbers. -/
theorem opcodeDefined_eq_false_of_groupSize_eq_zero {op : Nat} (hop : op ≠ 0x01F0)
    (hsize : groupSizes.getD (op / 256) 0 = 0) : opcodeDefined op = false := by
  have notListed : ¬ (1 ≤ op % 256 ∧ op % 256 ≤ groupSizes.getD (op / 256) 0) := by omega
  rw [opcodeDefined, decide_eq_false hop, decide_eq_false notListed, Bool.or_false]

/-- Group 0x00 and the groups past the index's last hold no command. -/
theorem groupSizes_reserved {g : Nat} (hg : g = 0 ∨ 16 ≤ g) : groupSizes.getD g 0 = 0 := by
  rcases hg with rfl | hg
  · rfl
  · exact List.getD_eq_default _ _ hg

/-! ### What an answer leaves of a mailbox's challenge -/

theorem mailbox_setMailbox_ne {m k : Nat} (b : Mailbox) (d : Dev) (h : k ≠ m) :
    mailbox k (setMailbox m b d) = mailbox k d := by
  simp [mailbox, setMailbox, Map.get, Map.get?_put_ne _ _ _ _ h]

/-- A store into one mailbox that keeps its challenge keeps every mailbox's. -/
theorem challenge_setMailbox {m : Nat} {b : Mailbox} {d : Dev} (hb : b.challenge = (mailbox m d).challenge) (k : Nat) :
    (mailbox k (setMailbox m b d)).challenge = (mailbox k d).challenge := by
  by_cases hk : k = m
  · subst hk
    rw [mailbox_setMailbox, hb]
  · rw [mailbox_setMailbox_ne b d hk]

@[simp] theorem mailbox_perfEvent (k die ev n : Nat) (d : Dev) : mailbox k (perfEvent die ev n d) = mailbox k d := rfl

/-- An interrupt, pending or sent, touches no mailbox (R44). -/
@[simp] theorem mailbox_signal (k v : Nat) (d : Dev) : mailbox k (signal v d) = mailbox k d := by
  unfold signal
  split
  · rfl
  · split <;> rfl

theorem challenge_respondWith (keep : Bool) (a : Reply) (st : Status) (fl : Nat) (pl : Bytes) (d : Dev) (k : Nat) :
    (mailbox k (respondWith keep a st fl pl d)).challenge = (mailbox k d).challenge := by
  unfold respondWith
  dsimp only
  split
  · rw [mailbox_perfEvent]
    exact challenge_setMailbox (by rfl) k
  · rw [mailbox_signal, mailbox_perfEvent]
    exact challenge_setMailbox (by rfl) k

theorem challenge_taken (op : Nat) (r : Request) (s : State) (k : Nat) :
    (mailbox k (taken op r s)).challenge = (mailbox k s.dev).challenge :=
  challenge_setMailbox (d := { s.dev with out := [] }) (by rfl) k

theorem challenge_answered (op : Nat) (r : Request) (st : Status) (pl : Bytes) (s : State) (k : Nat) :
    (mailbox k (answered op r st pl (taken op r s) s).dev).challenge = (mailbox k s.dev).challenge :=
  (challenge_respondWith true _ _ _ _ _ k).trans (challenge_taken op r s k)

/-! ### A request that is taken -/

/-- A request whose sequence the mailbox has not answered is no duplicate (R49). -/
theorem duplicate_taken_of_fresh {op : Nat} {r : Request} {s : State}
    (hfresh : ((mailbox r.mb.val s.dev).stored.all (fun x => decide (x.1 ≠ r.sequence.toNat))) = true) :
    duplicate op r (taken op r s) = none := by
  rw [duplicate, taken_mailbox]
  cases hstored : (mailbox r.mb.val s.dev).stored with
  | none => rfl
  | some x =>
    have hseq : x.1 ≠ r.sequence.toNat := by simpa [hstored] using hfresh
    exact if_neg hseq

/-- R48: a doorbell that is neither discarded nor a repetition hands the taken request to its command. -/
theorem doorbell_taken {op : Nat} {r : Request} {s : State} (act : Dev → Otp × Dev) (o : Otp)
    (hreach : hostReaches s.dev = true) (hready : s.dev.host.fwReady = true)
    (hfree : (mailbox r.mb.val s.dev).busy = false)
    (hfresh : ((mailbox r.mb.val s.dev).stored.all (fun x => decide (x.1 ≠ r.sequence.toNat))) = true) :
    doorbell op r act o { s.dev with out := [] } = act (taken op r s) := by
  have reaches : hostReaches { s.dev with out := [] } = true := hreach
  have free : (mailbox r.mb.val { s.dev with out := [] }).busy = false := hfree
  have noDuplicate : duplicate op r (takeRequest op r { s.dev with out := [] }) = none :=
    duplicate_taken_of_fresh hfresh
  simp [doorbell, reaches, free, hready, noDuplicate, taken]

/-! ### The answer to a reserved opcode -/

theorem exec_reservedOpcode {op : BitVec 16} {r : Request} {s : State} (hop : opcodeDefined op.toNat = false)
    (hreach : hostReaches s.dev = true) (hready : s.dev.host.fwReady = true)
    (hfree : (mailbox r.mb.val s.dev).busy = false)
    (hfresh : ((mailbox r.mb.val s.dev).stored.all (fun x => decide (x.1 ≠ r.sequence.toNat))) = true) :
    exec (.reservedOpcode op r) s = .next (answered op.toNat r .badOpcode [] (taken op.toNat r s) s) := by
  have refuses : reservedOpcode op.toNat r s.otp { s.dev with out := [] } =
      respond (replyOf op.toNat r) .badOpcode [] (taken op.toNat r s) := by
    rw [reservedOpcode, if_neg (by simp [hop]), doorbell_taken _ _ hreach hready hfree hfresh]
  change onOtp (reservedOpcode op.toNat r) s = _
  rw [onOtp, refuses, answered, State.withDev]

/-- Settles O8: a group that is not in the index has no commands; a reserved opcode's doorbell takes the request and
answers it, and neither taking nor answering touches a challenge. -/
theorem reservedOpcodesAreRefused : Obligations.ReservedOpcodesAreRefused := by
  refine ⟨fun op hgroup => ?_, fun op r s hop hreach hready hfree hfresh => ?_⟩
  · exact opcodeDefined_eq_false_of_groupSize_eq_zero (by omega) (groupSizes_reserved hgroup)
  · exact ⟨exec_reservedOpcode hop hreach hready hfree hfresh, challenge_answered _ _ _ _ s⟩

end Sys2Proof.Machine
end

section
/-! What a step can do to one-time memory (R140, R144, R145): programmed bits stay, whatever the command, and OTP that
decodes to RETIRED goes on doing so. -/
namespace Sys2Proof.Machine

set_option Elab.async false

/-! ### Thermometers and RETIRED -/

theorem popCount_le (n v : Nat) : popCount n v ≤ n := by
  induction n generalizing v with
  | zero => exact Nat.le_refl 0
  | succ n ih =>
    have rest := ih (v / 2)
    simp only [popCount]
    omega

theorem popCount_mono (n : Nat) {v w : Nat} (h : ∀ i, i < n → v.testBit i = true → w.testBit i = true) :
    popCount n v ≤ popCount n w := by
  induction n generalizing v w with
  | zero => exact Nat.le_refl 0
  | succ n ih =>
    have rest : popCount n (v / 2) ≤ popCount n (w / 2) :=
      ih fun i hi hv => by simpa [Nat.testBit_succ] using h (i + 1) (by omega) (by simpa [Nat.testBit_succ] using hv)
    have lowest : v % 2 = 1 → w % 2 = 1 := by simpa [Nat.testBit_zero] using h 0 (by omega)
    simp only [popCount]
    omega

theorem otpFld_two (o : Otp) (a : Nat) : otpFld o a 2 = otpByte o a % 256 + 256 * (otpByte o (a + 1) % 256) := by
  simp [otpFld, otpBytes, List.range_succ, unle]

theorem testBit_otpFld_two (o : Otp) (a i : Nat) (hi : i < 16) :
    (otpFld o a 2).testBit i = if i < 8 then bit (otpByte o a) i else bit (otpByte o (a + 1)) (i - 8) := by
  have split : otpFld o a 2 = 2 ^ 8 * (otpByte o (a + 1) % 2 ^ 8) + otpByte o a % 2 ^ 8 := by rw [otpFld_two]; omega
  rw [split, Nat.testBit_two_pow_mul_add _ (Nat.mod_lt _ (by decide))]
  simp only [Nat.testBit_mod_two_pow, bit]
  split
  · simp [*]
  · simp [show i - 8 < 8 by omega]

/-- A thermometer of held_entry only grows (R144). -/
theorem heldEntries_mono {o p : Otp} (h : Otp.kept o p) : heldEntries o ≤ heldEntries p := by
  refine popCount_mono 16 fun i hi => ?_
  rw [testBit_otpFld_two o _ i hi, testBit_otpFld_two p _ i hi]
  split
  · exact h _ _
  · exact h _ _

theorem decodeLc_eq_retired_iff (o : Otp) :
    decodeLc o = 4 ↔ bit (otpByte o 0x252) 2 = true ∨ (bit (otpByte o 0x252) 1 = true ∧ heldEntries o = 16) := by
  unfold decodeLc
  dsimp only
  split
  · simp [*]
  · split
    · split
      · simp [*]
      · split
        · simp [*]
        · split <;> simp_all
    · split <;> simp [*]

/-- RETIRED is told by bits alone that are programmed, so it outlasts all programming. -/
theorem decodeLc_retired_of_kept {o p : Otp} (h : Otp.kept o p) (retired : decodeLc o = 4) : decodeLc p = 4 := by
  rw [decodeLc_eq_retired_iff] at retired ⊢
  rcases retired with flag | ⟨owned, entries⟩
  · exact .inl (h _ _ flag)
  · have most : heldEntries p ≤ 16 := popCount_le 16 _
    have more := heldEntries_mono h
    exact .inr ⟨h _ _ owned, by omega⟩

/-! ### What burns a fuse -/

theorem burnHeld_kept (o : Otp) : Otp.kept o (burnHeld o) := by
  unfold burnHeld
  dsimp only
  split
  · exact Otp.kept_trans (burnNext_kept _ _ o) (burn_kept _ _ _)
  · exact burnNext_kept _ _ o

theorem enterHeld_otp (o : Otp) (d : Dev) : (enterHeld o d).1 = burnHeld o := by
  unfold enterHeld
  dsimp only

theorem enterHeld_kept (o : Otp) (d : Dev) : Otp.kept o (enterHeld o d).1 := by
  rw [enterHeld_otp]
  exact burnHeld_kept o

theorem tamper_kept (src : Nat) (o : Otp) (d : Dev) : Otp.kept o (tamper src o d).1 := by
  unfold tamper
  extract_lets
  split
  · exact Otp.kept_refl o
  · split
    · exact Otp.kept_refl o
    · split
      · dsimp only
        exact enterHeld_kept o _
      · exact Otp.kept_refl o

theorem loopSample_kept (l0 l1 mesh : Bool) (o : Otp) (d : Dev) : Otp.kept o (loopSample l0 l1 mesh o d).1 := by
  unfold loopSample
  extract_lets
  split
  · exact Otp.kept_refl o
  · split
    · exact Otp.kept_refl o
    · exact tamper_kept _ o _

theorem supplyMonitor_kept (high : Bool) (dipNs : Nat) (o : Otp) (d : Dev) :
    Otp.kept o (supplyMonitor high dipNs o d).1 := by
  unfold supplyMonitor
  split
  · exact Otp.kept_refl o
  · split
    · exact tamper_kept _ o _
    · exact Otp.kept_refl o

theorem clockMonitor_kept (die : Die) (o : Otp) (d : Dev) : Otp.kept o (clockMonitor die o d).1 := by
  unfold clockMonitor
  split
  · exact tamper_kept _ o _
  · exact Otp.kept_refl o

theorem tempReading_kept (raw : List (BitVec 16)) (o : Otp) (d : Dev) : Otp.kept o (tempReading raw o d).1 := by
  unfold tempReading
  extract_lets
  split
  · exact tamper_kept _ o _
  · exact Otp.kept_refl o

theorem takeAonLatch_kept (o : Otp) (d : Dev) : Otp.kept o (takeAonLatch o d).1 := by
  unfold takeAonLatch
  extract_lets
  split
  · exact Otp.kept_refl o
  · exact tamper_kept _ o _

theorem takeVstbyLoss_kept (o : Otp) (d : Dev) : Otp.kept o (takeVstbyLoss o d).1 := by
  unfold takeVstbyLoss
  extract_lets
  split
  · exact Otp.kept_refl o
  · split
    · exact tamper_kept _ o _
    · exact Otp.kept_refl o

theorem porstRelease_kept (twrole : TwRole) (hubOk vaultOk : Bool) (o : Otp) (d : Dev) :
    Otp.kept o (porstRelease twrole hubOk vaultOk o d).1 := by
  unfold porstRelease
  extract_lets
  split
  · exact Otp.kept_refl o
  · split
    · exact Otp.kept_refl o
    · exact Otp.kept_trans (takeAonLatch_kept o _) (takeVstbyLoss_kept _ _)

theorem fwCommit_kept (o : Otp) (d : Dev) : Otp.kept o (fwCommit o d).2 := by
  unfold fwCommit
  dsimp only
  split
  · exact Otp.kept_refl o
  · exact burn_kept _ _ o

theorem fwRollbackAdvance_kept (c : Ctx) (o : Otp) (d : Dev) : Otp.kept o (fwRollbackAdvance c o d).2 := by
  unfold fwRollbackAdvance
  dsimp only
  split
  · exact Otp.kept_refl o
  · split
    · exact Otp.kept_refl o
    · split
      · exact Otp.kept_refl o
      · exact burnBytes_kept _ _ o

theorem lcChange_kept (c : Ctx) (o : Otp) (d : Dev) : Otp.kept o (lcChange c o d).2 := by
  unfold lcChange
  split
  · exact burn_kept _ _ o
  · dsimp only
    exact enterHeld_kept o d
  · exact Otp.kept_refl o
  · exact Otp.kept_refl o
  · exact burn_kept _ _ o
  · exact Otp.kept_refl o

theorem tamperClear_kept (c : Ctx) (o : Otp) (d : Dev) : Otp.kept o (tamperClear c o d).2 := by
  unfold tamperClear
  extract_lets
  split
  · exact Otp.kept_refl o
  · split
    · exact Otp.kept_refl o
    · split
      · exact burnNext_kept _ _ o
      · exact Otp.kept_refl o
      · exact Otp.kept_refl o
      · split <;> exact Otp.kept_refl o

theorem drawRoots_kept (n : Nat) (o : Otp) (d : Dev) : Otp.kept o (drawRoots n o d).1 :=
  Otp.kept_trans (burnBytes_kept _ _ o) (Otp.kept_trans (burnBytes_kept _ _ _) (burn_kept _ _ _))

theorem takeOwnership_kept (c : Ctx) (o : Otp) (d : Dev) : Otp.kept o (takeOwnership c o d).2 := by
  unfold takeOwnership
  extract_lets
  split
  · exact Otp.kept_refl o
  · split
    · exact Otp.kept_refl o
    · split
      · exact Otp.kept_refl o
      · exact Otp.kept_trans (drawRoots_kept _ o _) (Otp.kept_trans (burn_kept _ _ _) (burn_kept _ _ _))

theorem ownerRotate_kept (c : Ctx) (o : Otp) (d : Dev) : Otp.kept o (ownerRotate c o d).2 := by
  unfold ownerRotate
  extract_lets
  split
  · exact Otp.kept_refl o
  · split
    · exact Otp.kept_refl o
    · split
      · exact Otp.kept_refl o
      · split
        · exact Otp.kept_refl o
        · exact Otp.kept_trans (drawRoots_kept _ o _) (burn_kept _ _ _)

/-! ### A mailbox command programs no more than its own answer does -/

theorem answer_kept {c : CmdInfo} {body : Ctx → Otp → Dev → Ans × Otp} (hbody : ∀ x o d, Otp.kept o (body x o d).2)
    (r : Request) (o : Otp) (d : Dev) : Otp.kept o (answer c body r o d).2 := by
  unfold answer
  split
  · exact Otp.kept_refl o
  · split
    · exact Otp.kept_refl o
    · split
      · exact Otp.kept_refl o
      · split
        · exact Otp.kept_refl o
        · exact hbody _ o d

theorem execute_kept {c : CmdInfo} {body : Ctx → Otp → Dev → Ans × Otp} (hbody : ∀ x o d, Otp.kept o (body x o d).2)
    (r : Request) (o : Otp) (d : Dev) : Otp.kept o (execute c body r o d).1 := by
  unfold execute
  dsimp only
  split
  · exact Otp.kept_refl o
  · split
    · exact Otp.kept_refl o
    · split
      · exact Otp.kept_refl o
      · split
        · exact Otp.kept_refl o
        · split
          · exact Otp.kept_refl o
          · exact answer_kept hbody r o _

theorem mailboxOtp_kept {c : CmdInfo} {body : Ctx → Otp → Dev → Ans × Otp} (hbody : ∀ x o d, Otp.kept o (body x o d).2)
    (r : Request) (o : Otp) (d : Dev) : Otp.kept o (mailboxOtp c body r o d).1 := by
  unfold mailboxOtp doorbell
  dsimp only
  split
  · exact Otp.kept_refl o
  · split
    · exact Otp.kept_refl o
    · split
      · exact Otp.kept_refl o
      · split
        · exact Otp.kept_refl o
        · exact execute_kept hbody r o _

/-! ### The commands -/

/-- A command answers a next state, leaves the queue alone, and does to one-time memory what `R` allows. -/
def Answers (R : Otp → Otp → Prop) (s : State) (x : Host.Outcome State Fault Refusal) : Prop :=
  ∃ t, x = .next t ∧ t.pending = s.pending ∧ R s.otp t.otp

theorem answers_onDev (f : Dev → Dev) (s : State) : Answers Eq s (onDev f s) := ⟨_, rfl, rfl, rfl⟩

theorem answers_onOtp (f : Otp → Dev → Dev) (s : State) : Answers Eq s (onOtp f s) := ⟨_, rfl, rfl, rfl⟩

theorem answers_onAll {R : Otp → Otp → Prop} {f : Otp → Dev → Otp × Dev} (hf : ∀ o d, R o (f o d).1) (s : State) :
    Answers R s (onAll f s) := ⟨_, rfl, rfl, hf _ _⟩

theorem Answers.kept {s : State} {x : Host.Outcome State Fault Refusal} (h : Answers Eq s x) : Answers Otp.kept s x := by
  obtain ⟨t, next, queue, same⟩ := h
  exact ⟨t, next, queue, same ▸ Otp.kept_refl _⟩

/-- A row of the command index keeps every programmed bit. -/
def Meaning.Keeps (m : Meaning) : Prop := ∀ r s, Answers Otp.kept s (m r s)

theorem keeps_fwCommit : Meaning.Keeps execFwCommit :=
  fun r => answers_onAll (mailboxOtp_kept (fun _ => fwCommit_kept) r)

theorem keeps_fwRollbackAdvance : Meaning.Keeps execFwRollbackAdvance :=
  fun r => answers_onAll (mailboxOtp_kept fwRollbackAdvance_kept r)

theorem keeps_lcChange : Meaning.Keeps execLcChange :=
  fun r => answers_onAll (mailboxOtp_kept lcChange_kept r)

theorem keeps_tamperClear : Meaning.Keeps execTamperClear :=
  fun r => answers_onAll (mailboxOtp_kept tamperClear_kept r)

theorem keeps_lcTakeOwnership : Meaning.Keeps execLcTakeOwnership :=
  fun r => answers_onAll (mailboxOtp_kept takeOwnership_kept r)

theorem keeps_ownerRootRotate : Meaning.Keeps execOwnerRootRotate :=
  fun r => answers_onAll (mailboxOtp_kept ownerRotate_kept r)

theorem keeps_of_onOtp {m : Meaning} {f : Request → Otp → Dev → Dev} (h : ∀ r s, m r s = onOtp (f r) s) :
    Meaning.Keeps m := fun r s => h r s ▸ (answers_onOtp (f r) s).kept

/-- The rows of the index whose effect may program one-time memory; the others act through `onOtp`. -/
theorem keeps_meanings : ∀ e ∈ meanings, Meaning.Keeps e.2 := by
  simp only [meanings, group01, group02, group03, group04, group05, group06, group07, group08, group09, group0A, group0B,
    group0C, group0D, group0E, group0F, List.forall_mem_append, List.forall_mem_cons, keeps_fwCommit,
    keeps_fwRollbackAdvance, keeps_lcChange, keeps_tamperClear, keeps_lcTakeOwnership, keeps_ownerRootRotate, true_and]
  simp only [List.not_mem_nil, IsEmpty.forall_iff, implies_true, and_true]
  and_intros
  all_goals exact keeps_of_onOtp fun _ _ => rfl

theorem keeps_reservedOpcode (op : BitVec 16) : Meaning.Keeps (execReservedOpcode op) :=
  keeps_of_onOtp fun _ _ => rfl

theorem keeps_runOpcode (op : Nat) : Meaning.Keeps (runOpcode op) := by
  unfold runOpcode
  split
  · exact keeps_meanings _ (List.mem_of_find?_eq_some ‹_›)
  · exact keeps_reservedOpcode _

theorem answers_ringDoorbell (v : Nat) (s : State) : Answers Otp.kept s (ringDoorbell v s) := by
  unfold ringDoorbell
  split
  · exact (answers_onDev _ s).kept
  · exact keeps_runOpcode _ _ s

theorem answers_registerRow (place : RegPlace) (value : Nat) (s : State) :
    Answers Otp.kept s (registerRow place value s) := by
  cases place with
  | bar0 off size =>
    rw [registerRow]
    split
    · exact answers_ringDoorbell _ s
    · exact (answers_onDev _ s).kept
  | config f => exact (answers_onDev _ s).kept

theorem answers_exec (c : Instr) (s : State) : Answers Otp.kept s (exec c s) := by
  cases c
  case fwCommit r => exact keeps_fwCommit r s
  case fwRollbackAdvance r => exact keeps_fwRollbackAdvance r s
  case lcChange r => exact keeps_lcChange r s
  case lcTakeOwnership r => exact keeps_lcTakeOwnership r s
  case ownerRootRotate r => exact keeps_ownerRootRotate r s
  case tamperClear r => exact keeps_tamperClear r s
  case porstNRelease twrole hubOk vaultOk => exact answers_onAll (porstRelease_kept twrole hubOk vaultOk) s
  case doorbellDiscard v => exact answers_ringDoorbell _ s
  case registerWrite place value => exact answers_registerRow place _ s
  case tamperLoopSample l0 l1 mesh => exact answers_onAll (loopSample_kept l0 l1 mesh) s
  case supplyMonitorEvent high dipNs => exact answers_onAll (supplyMonitor_kept high _) s
  case clockMonitorEvent die => exact answers_onAll (clockMonitor_kept die) s
  case tempSensorReading raw => exact answers_onAll (tempReading_kept raw) s
  all_goals exact ⟨_, rfl, rfl, Otp.kept_refl _⟩

/-- A write to a register other than a doorbell programs nothing. -/
theorem registerRow_otp {off : BitVec 18} {size value : Nat} {s t : State} (other : ¬(off.toNat = 0x40 ∧ size = 4))
    (h : registerRow (.bar0 off size) value s = .next t) : t.otp = s.otp := by
  rw [registerRow, if_neg other] at h
  injection h with same
  exact same ▸ rfl

/-- Settles O3: a row that may program one-time memory keeps its bits, and every other acts on the device alone. -/
theorem everyCommandAnswers : Obligations.EveryCommandAnswers := by
  intro c s
  obtain ⟨t, next, queue, -⟩ := answers_exec c s
  refine ⟨t, next, queue, ?_⟩
  cases c
  case registerWrite place value =>
    cases place with
    | bar0 off size => exact (em (off.toNat = 0x40 ∧ size = 4)).imp_right (registerRow_otp · next)
    | config f =>
      injection next with same
      exact .inr (same ▸ rfl)
  case fwCommit | fwRollbackAdvance | lcChange | lcTakeOwnership | ownerRootRotate | tamperClear | porstNRelease
      | doorbellDiscard | tamperLoopSample | supplyMonitorEvent | clockMonitorEvent | tempSensorReading => trivial
  all_goals
    injection next with same
    exact same ▸ rfl

/-- Settles O4: a step is one command or a tick, and neither clears a programmed bit. -/
theorem programmedBitsStay : Obligations.ProgrammedBitsStay := by
  intro s t hstep
  unfold step at hstep
  split at hstep
  · injection hstep with same
    exact same ▸ Otp.kept_refl s.otp
  · rename_i c rest _
    obtain ⟨u, next, -, kept⟩ := answers_exec c { s with pending := rest }
    have same : u = t := by simpa [next] using hstep
    exact same ▸ kept

/-- Settles O5: a step keeps programmed bits, and those that tell RETIRED are among them. -/
theorem retiredIsForEver : Obligations.RetiredIsForEver :=
  ⟨by decide, fun s t retired hstep => decodeLc_retired_of_kept (programmedBitsStay s t hstep) retired⟩

end Sys2Proof.Machine
end

section
/-! The order in which a doorbell is judged (R46, R49, R56, R57, R59, R147, R509). -/
namespace Sys2Proof.Machine

set_option Elab.async false

/-! ### What taking a request leaves as it was -/

theorem mailbox_takeRequest (op : Nat) (r : Request) (d : Dev) :
    mailbox r.mb.val (takeRequest op r d) =
      { mailbox r.mb.val d with req := headerBytes op r ++ bodyBytes r, busy := true, done := false } :=
  mailbox_setMailbox _ _ _

theorem lifeRefusal_takeRequest (c : CmdInfo) (op : Nat) (r : Request) (d : Dev) :
    lifeRefusal c r (takeRequest op r d) = lifeRefusal c r d := rfl

theorem lockedOut_takeRequest (op : Nat) (r : Request) (d : Dev) : lockedOut (takeRequest op r d) = lockedOut d := rfl

theorem liveChallenge_takeRequest (op : Nat) (r : Request) (d : Dev) :
    liveChallenge r.mb.val (takeRequest op r d) = liveChallenge r.mb.val d := by
  unfold liveChallenge
  rw [mailbox_takeRequest]
  rfl

theorem resolve_takeRequest (c : CmdInfo) (op : Nat) (r : Request) (d : Dev) :
    resolve c r (takeRequest op r d) = resolve c r d := rfl

theorem respBytes_takeRequest (a : Reply) (st : Status) (fl : Nat) (pl : Bytes) (op : Nat) (r : Request) (d : Dev) :
    respBytes a st fl pl (takeRequest op r d) = respBytes a st fl pl d := rfl

/-- What a response makes of its own mailbox (R48 steps 5 and 6, R49). -/
theorem mailbox_respondWith (keep : Bool) (a : Reply) (st : Status) (fl : Nat) (pl : Bytes) (d : Dev) :
    mailbox a.mb (respondWith keep a st fl pl d) =
      { mailbox a.mb d with
        resp := respBytes a st fl pl d, busy := false, done := true, running := none
        stored := if keep then some (a.sequence, a.digest, respBytes a st fl pl d) else (mailbox a.mb d).stored } := by
  unfold respondWith
  dsimp only
  split
  · rw [mailbox_perfEvent, mailbox_setMailbox]
  · rw [mailbox_signal, mailbox_perfEvent, mailbox_setMailbox]

/-! ### The doorbell of a ready device with a free mailbox -/

section
variable {c : CmdInfo} {body : Ctx → Otp → Dev → Ans × Otp} {r : Request} {o : Otp} {d : Dev}

theorem mailboxOtp_of_repeated (hreach : hostReaches d = true) (hfree : (mailbox r.mb.val d).busy = false)
    (hready : d.host.fwReady = true) {e : Dev} (repeated : duplicate c.op r (takeRequest c.op r d) = some e) :
    mailboxOtp c body r o d = (o, e) := by
  simp [mailboxOtp, doorbell, hreach, hfree, hready, repeated]

theorem mailboxOtp_of_fresh (hreach : hostReaches d = true) (hfree : (mailbox r.mb.val d).busy = false)
    (hready : d.host.fwReady = true)
    (hfresh : ((mailbox r.mb.val d).stored.all (fun x => decide (x.1 ≠ r.sequence.toNat))) = true) :
    mailboxOtp c body r o d = execute c body r o (takeRequest c.op r d) := by
  have fresh : duplicate c.op r (takeRequest c.op r d) = none := by
    unfold duplicate
    rw [mailbox_takeRequest]
    cases hstored : (mailbox r.mb.val d).stored with
    | none => rfl
    | some x =>
      have other : x.1 ≠ r.sequence.toNat := by simpa [hstored] using hfresh
      exact if_neg other
  simp [mailboxOtp, doorbell, hreach, hfree, hready, fresh]

/-- R49: the answer to a repeated sequence keeps the stored copy, and is that copy for the same request and BAD_FIELD for
another. -/
theorem mailbox_of_duplicate {op : Nat} {dig resp : Bytes}
    (hstored : (mailbox r.mb.val d).stored = some (r.sequence.toNat, dig, resp)) :
    ∃ e, duplicate op r (takeRequest op r d) = some e ∧
      (mailbox r.mb.val e).stored = some (r.sequence.toNat, dig, resp) ∧ (mailbox r.mb.val e).done = true ∧
      (dig = digestOf op r → (mailbox r.mb.val e).resp = resp) ∧
      (dig ≠ digestOf op r → (mailbox r.mb.val e).resp = respBytes (replyOf op r) .badField 0 [] d) := by
  have copy : (mailbox r.mb.val (takeRequest op r d)).stored = some (r.sequence.toNat, dig, resp) := by
    rw [mailbox_takeRequest]; exact hstored
  unfold duplicate
  simp only [copy, if_true]
  by_cases same : dig = digestOf op r
  · simp only [same, if_true]
    split <;> simp
  · simp only [same, if_false]
    refine ⟨_, rfl, ?_⟩
    have answer := mailbox_respondWith false (replyOf op r) .badField 0 [] (takeRequest op r d)
    simp only [replyOf] at answer ⊢
    simp [answer, copy, same, respBytes_takeRequest]

/-! ### The checks of a request that is no repetition -/

theorem execute_badLength (h : lengthOk c r = false) :
    execute c body r o d = (o, respond (replyOf c.op r) .badLength [] d) := by
  simp [execute, h]

theorem execute_badHeader (hlen : lengthOk c r = true) (h : headerOk r = false) :
    execute c body r o d = (o, respond (replyOf c.op r) .badField [] d) := by
  simp [execute, hlen, h]

theorem execute_lifeRefused (hlen : lengthOk c r = true) (hhead : headerOk r = true) {st : Status}
    (h : lifeRefusal c r d = some st) : execute c body r o d = (o, respond (replyOf c.op r) st [] d) := by
  simp [execute, hlen, hhead, h]

theorem execute_unauthorized (hlen : lengthOk c r = true) (hhead : headerOk r = true) (hlife : lifeRefusal c r d = none)
    {st : Status} {e : Dev} (h : authorize c r d = (some st, e)) :
    execute c body r o d = (o, respond (replyOf c.op r) st [] e) := by
  simp [execute, hlen, hhead, hlife, h]

theorem execute_unresolved (hlen : lengthOk c r = true) (hhead : headerOk r = true) (hlife : lifeRefusal c r d = none)
    (hplain : needsAuth c r = false) {st : Status} (h : resolve c r d = .error st) :
    execute c body r o d = (o, respond (replyOf c.op r) st [] d) := by
  have nothingToCheck : authorize c r d = (none, d) := by simp [authorize, hplain]
  simp [execute, hlen, hhead, hlife, nothingToCheck, answer, h, conclude]

theorem authorize_noTrailer (hneeds : needsAuth c r = true) (h : bit r.flags.toNat 0 = false) :
    authorize c r d = (some .authRequired, d) := by
  simp [authorize, hneeds, h]

theorem authorize_lockedOut (hneeds : needsAuth c r = true) (htrail : bit r.flags.toNat 0 = true)
    (h : lockedOut d = true) : authorize c r d = (some .authFailed, bump .hostif 0 2 d) := by
  simp [authorize, hneeds, htrail, h]

theorem authorize_noChallenge (hneeds : needsAuth c r = true) (htrail : bit r.flags.toNat 0 = true)
    (hopen : lockedOut d = false) (h : liveChallenge r.mb.val d = none) :
    authorize c r d = (some .authFailed, countAuthFail r.mb.val d) := by
  simp [authorize, hneeds, htrail, hopen, h]

end

/-- Settles O6: a repetition is answered from the mailbox; a fresh request reaches the checks of `execute` in their
order. -/
theorem mailboxChecksComeInOrder : Obligations.MailboxChecksComeInOrder := by
  intro c body r o d d1 hreach hfree hready taken
  subst taken
  refine ⟨fun dig resp hstored => ?_, fun hfresh => ?_⟩
  · obtain ⟨e, repeated, stored, done, same, other⟩ := mailbox_of_duplicate (op := c.op) hstored
    rw [mailboxOtp_of_repeated hreach hfree hready repeated]
    exact ⟨rfl, stored, done, same, other⟩
  · rw [mailboxOtp_of_fresh hreach hfree hready hfresh]
    refine ⟨execute_badLength, execute_badHeader, fun hlen hhead => ⟨fun st h => ?_, fun hlife hneeds h => ?_,
      fun hlife hneeds htrail h => ?_, fun hlife hneeds htrail hopen h => ?_, fun st hlife hplain h => ?_⟩⟩
    · exact execute_lifeRefused hlen hhead ((lifeRefusal_takeRequest c _ r d).trans h)
    · exact execute_unauthorized hlen hhead ((lifeRefusal_takeRequest c _ r d).trans hlife)
        (authorize_noTrailer hneeds h)
    · exact execute_unauthorized hlen hhead ((lifeRefusal_takeRequest c _ r d).trans hlife)
        (authorize_lockedOut hneeds htrail ((lockedOut_takeRequest _ r d).trans h))
    · exact execute_unauthorized hlen hhead ((lifeRefusal_takeRequest c _ r d).trans hlife)
        (authorize_noChallenge hneeds htrail ((lockedOut_takeRequest _ r d).trans hopen)
          ((liveChallenge_takeRequest _ r d).trans h))
    · exact execute_unresolved hlen hhead ((lifeRefusal_takeRequest c _ r d).trans hlife) hplain
        ((resolve_takeRequest c _ r d).trans h)

end Sys2Proof.Machine
end

section
/-! What a mailbox command that is asked for comes to, told by its own answer: completed at once, pending, or running. -/
namespace Sys2Proof.Machine

set_option Elab.async false

/-- The context of a command's own checks and effect, for a request the device has taken. -/
abbrev ctxOf (r : Request) (t : Target) (s : State) : Ctx := ⟨r.mb.val, t, payload r, s.dev.host.nextHandle⟩

@[simp] theorem taken_staging (op : Nat) (r : Request) (s : State) :
    (taken op r s).host.staging = s.dev.host.staging := rfl

/-! ### What a command reads through the operations it shares with others -/

@[simp] theorem presentUp_taken (op : Nat) (r : Request) (s : State) : presentUp (taken op r s) = presentUp s.dev := rfl
@[simp] theorem vaultUp_taken (op : Nat) (r : Request) (s : State) : vaultUp (taken op r s) = vaultUp s.dev := rfl
@[simp] theorem awake_taken (op : Nat) (r : Request) (s : State) : awake (taken op r s) = awake s.dev := rfl
@[simp] theorem prm_taken (op : Nat) (r : Request) (s : State) : prm (taken op r s) = prm s.dev := rfl
@[simp] theorem boundTo_taken (g op : Nat) (r : Request) (s : State) : boundTo g (taken op r s) = boundTo g s.dev := rfl
@[simp] theorem firstWhole_taken (unit lead op : Nat) (r : Request) (s : State) :
    firstWhole unit lead (taken op r s) = firstWhole unit lead s.dev := rfl
@[simp] theorem portIsUp_taken (p op : Nat) (r : Request) (s : State) :
    portIsUp p (taken op r s) = portIsUp p s.dev := rfl
@[simp] theorem twinAttached_taken (op : Nat) (r : Request) (s : State) :
    twinAttached (taken op r s) = twinAttached s.dev := rfl
@[simp] theorem sa_taken (k op : Nat) (r : Request) (s : State) : sa k (taken op r s) = sa k s.dev := rfl
@[simp] theorem portSt_taken (p op : Nat) (r : Request) (s : State) : portSt p (taken op r s) = portSt p s.dev := rfl
@[simp] theorem gateSt_taken (p op : Nat) (r : Request) (s : State) : gateSt p (taken op r s) = gateSt p s.dev := rfl
@[simp] theorem scSecy_taken (die p : Nat) (rx : Bool) (i op : Nat) (r : Request) (s : State) :
    scSecy die p rx i (taken op r s) = scSecy die p rx i s.dev := rfl

section
variable {c : CmdInfo} {body : Ctx → Otp → Dev → Ans} {r : Request} {t : Target} {s : State}

/-! ### Commands that need no authorization -/

/-- A command that completes at once. -/
theorem onMailbox_reply {st : Status} {pl : Bytes} {d : Dev} (h : Taken c r t s)
    (hans : body (ctxOf r t s) s.otp (taken c.op r s) = .reply st pl d)
    (h4 : c.len % 4 = 0 := by exact rfl) (hm : c.len ≤ 4048 := by exact Nat.le_of_ble_eq_true rfl)
    (hs : c.shared t (payload r) (taken c.op r s) = c.shared t (payload r) s.dev := by exact rfl) :
    onMailbox c body r s = .next (answered c.op r st pl d s) := by
  rw [ctxOf] at hans
  rw [onMailbox_taken c body r t s h h4 hm hs, hans]
  rfl

/-- A command that is refused by its own checks. -/
theorem onMailbox_fail {st : Status} (h : Taken c r t s)
    (hans : body (ctxOf r t s) s.otp (taken c.op r s) = .fail st)
    (h4 : c.len % 4 = 0 := by exact rfl) (hm : c.len ≤ 4048 := by exact Nat.le_of_ble_eq_true rfl)
    (hs : c.shared t (payload r) (taken c.op r s) = c.shared t (payload r) s.dev := by exact rfl) :
    onMailbox c body r s = .next (answered c.op r st [] (taken c.op r s) s) := by
  rw [ctxOf] at hans
  rw [onMailbox_taken c body r t s h h4 hm hs, hans]
  rfl

/-- A command whose outcome follows by notification (R52). -/
theorem onMailbox_pend {bound object : Nat} {d : Dev} (h : Taken c r t s)
    (hans : body (ctxOf r t s) s.otp (taken c.op r s) = .pend bound object d)
    (h4 : c.len % 4 = 0 := by exact rfl) (hm : c.len ≤ 4048 := by exact Nat.le_of_ble_eq_true rfl)
    (hs : c.shared t (payload r) (taken c.op r s) = c.shared t (payload r) s.dev := by exact rfl) :
    onMailbox c body r s = .next (pended c.op bound object r d s) := by
  rw [ctxOf] at hans
  rw [onMailbox_taken c body r t s h h4 hm hs, hans]
  exact next_pended c.op bound object r d s

/-- A command that keeps its mailbox busy until its effect (R48). -/
theorem onMailbox_run {object : Nat} {d : Dev} (h : Taken c r t s)
    (hans : body (ctxOf r t s) s.otp (taken c.op r s) = .run object d)
    (h4 : c.len % 4 = 0 := by exact rfl) (hm : c.len ≤ 4048 := by exact Nat.le_of_ble_eq_true rfl)
    (hs : c.shared t (payload r) (taken c.op r s) = c.shared t (payload r) s.dev := by exact rfl) :
    onMailbox c body r s = .next (running c.op object r d s) := by
  rw [ctxOf] at hans
  rw [onMailbox_taken c body r t s h h4 hm hs, hans]
  exact next_running c.op object r d s

/-- A command that completes with OK, with more to follow its response. -/
theorem onMailbox_replyThen {pl : Bytes} {d : Dev} {k : Dev → Dev} (h : Taken c r t s)
    (hans : body (ctxOf r t s) s.otp (taken c.op r s) = .replyThen pl d k)
    (h4 : c.len % 4 = 0 := by exact rfl) (hm : c.len ≤ 4048 := by exact Nat.le_of_ble_eq_true rfl)
    (hs : c.shared t (payload r) (taken c.op r s) = c.shared t (payload r) s.dev := by exact rfl) :
    onMailbox c body r s = .next (s.withDev (k (answered c.op r .ok pl d s).dev)) := by
  rw [ctxOf] at hans
  rw [onMailbox_taken c body r t s h h4 hm hs, hans]
  rfl

/-- A command that answers PENDING, with more to follow that response; there is room for it. -/
theorem onMailbox_replyPend {bound object : Nat} {d : Dev} {k : Dev → Dev} (h : Taken c r t s)
    (hans : body (ctxOf r t s) s.otp (taken c.op r s) = .replyPend bound object d k)
    (hroom : s.dev.host.pend.length < 64)
    (h4 : c.len % 4 = 0 := by exact rfl) (hm : c.len ≤ 4048 := by exact Nat.le_of_ble_eq_true rfl)
    (hs : c.shared t (payload r) (taken c.op r s) = c.shared t (payload r) s.dev := by exact rfl) :
    onMailbox c body r s = .next (s.withDev (k (opened c.op bound object r d s))) := by
  rw [ctxOf] at hans
  rw [onMailbox_taken c body r t s h h4 hm hs, hans]
  simp only [conclude]
  rw [concludePend_taken, if_neg (by omega)]

/-! ### Commands that have their authorization -/

theorem onMailbox_granted_reply {st : Status} {pl : Bytes} {d : Dev} (h : Granted c r t s)
    (hans : body (ctxOf r t s) s.otp (granted c.op r s) = .reply st pl d)
    (h4 : c.len % 4 = 0 := by exact rfl) (hm : c.len ≤ 4048 := by exact Nat.le_of_ble_eq_true rfl)
    (hs : c.shared t (payload r) (granted c.op r s) = c.shared t (payload r) s.dev := by exact rfl) :
    onMailbox c body r s = .next (answered c.op r st pl d s) := by
  rw [ctxOf] at hans
  rw [onMailbox_granted c body r t s h h4 hm hs, hans]
  rfl

theorem onMailbox_granted_fail {st : Status} (h : Granted c r t s)
    (hans : body (ctxOf r t s) s.otp (granted c.op r s) = .fail st)
    (h4 : c.len % 4 = 0 := by exact rfl) (hm : c.len ≤ 4048 := by exact Nat.le_of_ble_eq_true rfl)
    (hs : c.shared t (payload r) (granted c.op r s) = c.shared t (payload r) s.dev := by exact rfl) :
    onMailbox c body r s = .next (answered c.op r st [] (granted c.op r s) s) := by
  rw [ctxOf] at hans
  rw [onMailbox_granted c body r t s h h4 hm hs, hans]
  rfl

end

section
variable {c : CmdInfo} {body : Ctx → Otp → Dev → Ans × Otp} {r : Request} {t : Target} {s : State}

/-! ### Commands that may program one-time memory -/

/-- A command that completes at once and programs one-time memory. -/
theorem onAll_mailbox_reply {st : Status} {pl : Bytes} {d : Dev} {o : Otp} (h : Taken c r t s)
    (hans : body (ctxOf r t s) s.otp (taken c.op r s) = (.reply st pl d, o))
    (h4 : c.len % 4 = 0 := by exact rfl) (hm : c.len ≤ 4048 := by exact Nat.le_of_ble_eq_true rfl)
    (hs : c.shared t (payload r) (taken c.op r s) = c.shared t (payload r) s.dev := by exact rfl) :
    onAll (mailboxOtp c body r) s = .next { answered c.op r st pl d s with otp := o } := by
  rw [ctxOf] at hans
  rw [onAll, mailboxOtp_taken c body r t s h h4 hm hs, hans]
  rfl

theorem onAll_mailbox_granted_reply {st : Status} {pl : Bytes} {d : Dev} {o : Otp} (h : Granted c r t s)
    (hans : body (ctxOf r t s) s.otp (granted c.op r s) = (.reply st pl d, o))
    (h4 : c.len % 4 = 0 := by exact rfl) (hm : c.len ≤ 4048 := by exact Nat.le_of_ble_eq_true rfl)
    (hs : c.shared t (payload r) (granted c.op r s) = c.shared t (payload r) s.dev := by exact rfl) :
    onAll (mailboxOtp c body r) s = .next { answered c.op r st pl d s with otp := o } := by
  rw [ctxOf] at hans
  rw [onAll, mailboxOtp_granted c body r t s h h4 hm hs, hans]
  rfl

end

@[simp] theorem Ans.ok_eq (pl : Bytes) (d : Dev) : Ans.ok pl d = .reply .ok pl d := rfl

/-! ### Fields -/

theorem length_slice (bs : Bytes) (off n : Nat) : (slice bs off n).length = n := by
  have short : ((bs.drop off).take n).length ≤ n := List.length_take_le n _
  simp only [slice, zeros, List.length_append, List.length_replicate]
  omega

theorem unle_lt (bs : Bytes) : unle bs < 256 ^ bs.length := by
  induction bs with
  | nil => decide
  | cons b bs ih =>
    have byte := b.isLt
    simp only [unle, List.length_cons, Nat.pow_succ]
    omega

theorem fld_lt (bs : Bytes) (off n : Nat) : fld bs off n < 256 ^ n := by
  have bound := unle_lt (slice bs off n)
  rwa [length_slice] at bound

theorem le_of_zero (n : Nat) : le n 0 = zeros n := by
  induction n with
  | zero => rfl
  | succ n ih =>
    rw [le, Nat.zero_div, ih]
    rfl

/-- A value of one byte, in four. -/
theorem le_four_of_byte {n : Nat} (h : n < 256) : le 4 n = le 1 n ++ zeros 3 := by
  rw [← le_of_zero 3, ← Nat.div_eq_of_lt h]
  rfl

/-! ### Checks of a command -/

@[simp] theorem need_true (st : Status) (a : Ans) : need true st a = a := rfl
@[simp] theorem need_false (st : Status) (a : Ans) : need false st a = .fail st := rfl

theorem need_of_true {b : Bool} (h : b = true) (st : Status) (a : Ans) : need b st a = a := if_pos h

end Sys2Proof.Machine
end

section
/-! What the SYSTEM and FIRMWARE commands answer and do (R38, R57, R445 to R456). -/
namespace Sys2Proof.Machine

set_option Elab.async false

/-! ### Boot control is read from flash alone -/

theorem bootCopy_of_sys {d e : Dev} (h : d.sys = e.sys) (k : Nat) : bootCopy k d = bootCopy k e := by
  unfold bootCopy flashRead
  rw [h]

theorem bootCtl_of_sys {d e : Dev} (h : d.sys = e.sys) : bootCtl d = bootCtl e := by
  simp only [bootCtl, bootGoverning, bootCopy_of_sys h]

@[simp] theorem bootCtl_taken (op : Nat) (r : Request) (s : State) : bootCtl (taken op r s) = bootCtl s.dev :=
  bootCtl_of_sys rfl

@[simp] theorem slotVerdict_taken (slot op : Nat) (r : Request) (s : State) :
    slotVerdict slot (taken op r s) = slotVerdict slot s.dev := by
  simp only [slotVerdict, taken_sys]

@[simp] theorem slotVerdict_granted (slot op : Nat) (r : Request) (s : State) :
    slotVerdict slot (granted op r s) = slotVerdict slot s.dev := by
  simp only [slotVerdict, granted_sys]

theorem trialNowOk_taken {slot : Nat} (op : Nat) (r : Request) {s : State}
    (h : journalVersion slot s.dev = journalVersion s.dev.sys.runningSlot s.dev ∨
      journalVersion slot s.dev = journalVersion s.dev.sys.runningSlot s.dev + 1) :
    trialNowOk slot (taken op r s) = true := by
  rw [trialNowOk, decide_eq_true_eq]
  exact h

/-- In HELD the token key authorizes neither DEBUG_ENABLE nor FW_ROLLBACK_ADVANCE (R146). -/
theorem lc_ne_held_of_granted {c : CmdInfo} {r : Request} {t : Target} {s : State} (h : Granted c r t s)
    (hop : c.op ≠ 0x0602) (hop' : c.op ≠ 0x0605) : s.dev.vault.lc ≠ 3 := by
  intro held
  have allowed := h.allowed
  simp [authAllowed, held, hop, hop'] at allowed

/-- Settles O9: each command's own answer, under what its clause asks. -/
theorem systemAndFirmwareCommandsAnswer : Obligations.SystemAndFirmwareCommandsAnswer := by
  refine ⟨fun r s => ⟨?_, ?_, ?_, ?_, ?_, ?_, ?_, ?_, ?_⟩,
    fun r s h hroom d n hd hn => ⟨?_, ?_, ?_, ?_, ?_, ?_, ?_⟩, fun r s => ⟨?_, ?_, ?_, ?_, ?_, ?_⟩⟩
  · rintro h d rfl
    exact onMailbox_reply h (by rfl)
  · rintro h d rfl
    exact onMailbox_reply h (by rfl)
  · rintro h a hactive hsave d rfl
    exact onMailbox_pend h (by simp [startupSetSave, hactive, hsave])
  · rintro h hactive
    exact onMailbox_fail h (by simp [startupSetSave, hactive])
  · rintro h d rfl
    exact onMailbox_reply h (by rfl)
  · rintro h d rfl
    have off : fld (payload r) 0 1 ≠ 1 := by simpa [needsAuth] using h.plain
    exact onMailbox_reply h (by simp [debugEnable, off])
  · rintro h d rfl
    have on : fld (payload r) 0 1 = 1 := by simpa [needsAuth] using h.needs
    have allowed := lc_ne_held_of_granted h (by decide) (by decide)
    have up : vaultUp (granted 0x0106 r s) = vaultUp s.dev := granted_vaultUp _ r s
    split
    · next hup => exact onMailbox_granted_reply h (by simp [debugEnable, on, allowed, up, hup])
    · next hup => exact onMailbox_granted_fail h (by simp [debugEnable, on, allowed, up, hup])
  · rintro h k rfl d rfl
    exact onMailbox_reply h (by simp [pkgCntRead, pkgObj, clearIf]; split <;> rfl)
  · rintro h htrng d ch rfl rfl
    exact onMailbox_reply h (by simp [authChallenge, htrng, freshBytes]; rfl)
  · subst hd
    intro hop hpower
    exact onMailbox_reply h (by simp [systemPower, hop, hpower])
  · subst hd
    intro hop hpower
    exact onMailbox_reply h (by simp [systemPower, hop, hpower])
  · subst hd hn
    intro hop hpower
    exact onMailbox_replyPend h (by simp [systemPower, hop, hpower]) hroom
  · subst hd hn
    intro hop hpower hwake
    exact onMailbox_pend h (by simp [systemPower, hop, hpower, hwake])
  · subst hd hn
    intro hop hpower hready
    exact onMailbox_pend h (by simp [systemPower, hop, hpower, hready])
  · subst hd
    intro hop hpower hrefused
    exact onMailbox_fail h (by simp [systemPower, hop, hpower, hrefused])
  · subst hd
    intro hpower
    exact onMailbox_fail h (by simp [systemPower, hpower])
  · rintro h d b rfl rfl
    exact onMailbox_reply h (by rfl)
  · intro h slot off len stage hslot hoff hlen hstage h1 h2 h3 h4 h5 h6 h7 h8 notRunning notTrial free d hd
    subst hd
    exact onMailbox_pend h (by simp [fwImageWrite, stagingRead, bootCtl_taken, *])
  · intro h slot hslot hle hfree d hd
    subst hd
    exact onMailbox_pend h (by simp [fwImageVerify, *])
  · intro h slot hslot hle hverdict hsave hwrite d hd
    subst hd
    refine ⟨fun hop => ?_, fun hop hversion => ?_⟩
    · exact onMailbox_replyThen (k := id) h (by simp [fwActivate, *]; rfl)
    · exact onMailbox_replyThen h (by simp [fwActivate, trialNowOk_taken _ r hversion, *])
  · intro h htrial slot hslot htrialSlot d hd
    subst hd
    exact onAll_mailbox_reply h (by simp [fwCommit, flashRead, slotBase, *])
  · intro h n hn htrial hverdict hlevel
    have allowed := lc_ne_held_of_granted h (by decide) (by decide)
    have byte : n < 256 := hn ▸ fld_lt (payload r) 0 1
    rw [le_four_of_byte byte]
    exact onAll_mailbox_granted_reply h
      (by simp [fwRollbackAdvance, burnRollback, Nat.not_le.mpr hlevel, *])

end Sys2Proof.Machine
end

section
/-! What the observability and diagnostic commands answer and do (R459, R470 to R472, R474 to R483). -/
namespace Sys2Proof.Machine

set_option Elab.async false

theorem portLanes_taken (p op : Nat) (r : Request) (s : State) : portLanes p (taken op r s) = portLanes p s.dev := rfl

theorem portHeld_taken (p op : Nat) (r : Request) (s : State) : portHeld p (taken op r s) = portHeld p s.dev := rfl

/-- Settles O10: each command's own answer, under what its clause asks. -/
theorem observabilityCommandsAnswer : Obligations.ObservabilityCommandsAnswer := by
  refine ⟨fun r s => ⟨?_, ?_, ?_, ?_, ?_, ?_, ?_, ?_⟩, fun r p s => ⟨?_, ?_⟩⟩
  · rintro n die c ev hdie hc hev hlt hok h d rfl
    have hperf : perfDie (.die n) = die := hdie
    exact onMailbox_reply h (by simp [perfConfig, hperf, hc, hev, hlt, hok])
  · rintro n die hdie hlive h d rfl
    have hperf : perfDie (.die n) = die := hdie
    exact onMailbox_reply h (by simp only [perfRead, hperf, hlive]; rfl)
  · rintro n die t m hdie hlatched h d rfl hlatch
    have hperf : perfDie (.die n) = die := hdie
    exact onMailbox_reply h (by simp only [perfRead, hperf, hlatched, hlatch]; rfl)
  · rintro h g d rfl rfl
    exact onMailbox_reply h (by rfl)
  · rintro h d rfl seq off hfirst
    refine onMailbox_reply h ?_
    rw [taken_obs] at hfirst
    cases hrecs : s.dev.obs.recs with
    | nil =>
      obtain ⟨rfl, rfl⟩ := Prod.mk.inj (hrecs ▸ hfirst)
      simp only [recordRange, taken_obs, hrecs]
      rfl
    | cons e rest =>
      obtain ⟨rfl, rfl⟩ := Prod.mk.inj (hrecs ▸ hfirst)
      simp only [recordRange, taken_obs, hrecs]
      rfl
  · rintro h off n hoff hn h1 h2 h3 h4 h5
    exact onMailbox_reply h (by simp [recordRead, ringBytes, ringSize, *])
  · rintro h d rfl
    exact onMailbox_reply h (by rfl)
  · rintro h d rfl
    exact onMailbox_reply h (by rfl)
  · rintro h d rfl mode hmode
    refine ⟨fun off => ?_, fun on hup halone => ?_, fun on hrefused => ?_⟩
    · exact onMailbox_reply h (by simp [diagLoopback, Target.portNo, hmode, off])
    · exact onMailbox_reply h (by simp [diagLoopback, Target.portNo, portIsUp_taken, twinAttached_taken, *])
    · have refused : (portIsUp p s.dev && !twinAttached s.dev) = false := by
        rcases hrefused with h | h <;> simp [h]
      exact onMailbox_fail h
        (by simp only [diagLoopback, Target.portNo, portIsUp_taken, twinAttached_taken, hmode, on,
          refused, if_false, need_false])
  · rintro h d rfl l op t hl hop hlane hheld hstop hstart hread
    refine ⟨fun other => onMailbox_reply h ?_, fun clear u hu => onMailbox_reply h ?_⟩
    · have range : op = 0 ∨ op = 1 ∨ op = 2 := by
        have resv := h.asked.resv
        simp only [below, hop, Bool.and_eq_true, decide_eq_true_eq] at resv
        omega
      rcases range with rfl | rfl | rfl
      · obtain rfl := hstop rfl
        simp only [diagPrbs, Target.portNo, portLanes_taken, portHeld_taken, hl, hop, hlane, hheld,
          decide_true, need_true, if_true]
        rfl
      · obtain rfl := hstart rfl
        simp only [diagPrbs, Target.portNo, portLanes_taken, portHeld_taken, hl, hop, hlane, hheld,
          decide_true, need_true]
        rfl
      · obtain rfl := hread rfl
        simp only [diagPrbs, Target.portNo, portLanes_taken, portHeld_taken, hl, hop, hlane, hheld,
          decide_true, need_true]
        rfl
    · subst hu clear
      simp only [diagPrbs, Target.portNo, portLanes_taken, portHeld_taken, hl, hop, hlane, hheld,
        decide_true, need_true]
      rfl

end Sys2Proof.Machine
end

section
/-! What the CONFIG commands answer and do (R71, R76 to R80, R83, R85). -/
namespace Sys2Proof.Machine

set_option Elab.async false

theorem swapConflict_taken (x : SetParams) (op : Nat) (r : Request) (s : State) :
    swapConflict x (taken op r s) = swapConflict x s.dev := rfl

theorem setOnItsWay_taken (op : Nat) (r : Request) (s : State) : setOnItsWay (taken op r s) = setOnItsWay s.dev := rfl

theorem instantRefusal_taken (t : TS96) (us op : Nat) (r : Request) (s : State) :
    instantRefusal t us (taken op r s) = instantRefusal t us s.dev := rfl

theorem b2n_scheduled (w : Option SwapPend) :
    b2n (match w with | some x => x.mailbox.isNone | none => false) = if w.any (fun x => x.mailbox.isNone) then 1 else 0 := by
  cases w <;> rfl

theorem configQuery_eq (d : Dev) : configQuery d = .reply .ok
    (le 4 ((d.cfg.active.map (·.id)).getD 0) ++ le 4 ((d.cfg.active.map (·.crc)).getD 0)
      ++ le 4 ((d.cfg.shadow.map (·.id)).getD 0) ++ le 1 (shadowCode d.cfg.shadowState)
      ++ le 1 (if d.cfg.swap.any (fun w => w.mailbox.isNone) then 1 else 0) ++ zeros 2 ++ d.cfg.lastSwap.bytes ++ zeros 4)
    d := by
  have scheduled := b2n_scheduled d.cfg.swap
  simp only [configQuery, Ans.ok_eq]
  rw [← scheduled]
  cases d.cfg.active <;> cases d.cfg.shadow <;> rfl

/-- R83: the sum of the two parts of a calibration value saturates, and says so. -/
theorem calSum_eq (f u : Int) :
    calSum f u = (max (-2147483648) (min 2147483647 (f + u)), !decide (-2147483648 ≤ f + u ∧ f + u ≤ 2147483647)) := by
  unfold calSum
  dsimp only
  split
  · rw [Prod.mk.injEq]
    exact ⟨by omega, by rw [decide_eq_false (by omega)]; rfl⟩
  · split
    · rw [Prod.mk.injEq]
      exact ⟨by omega, by rw [decide_eq_false (by omega)]; rfl⟩
    · rw [Prod.mk.injEq]
      exact ⟨by omega, by rw [decide_eq_true (by omega)]; rfl⟩

/-- The port that a target names, if it names one. -/
def calPort (t : Target) : Option Nat := match t with | .port p => some p | _ => none

theorem calRead_found {c : Ctx} {o : Otp} {d : Dev} {f u : Int}
    (h : calPoint o (fld c.pl 0 2) (fld c.pl 2 2) (calPort c.target) (prm d) d = some (f, u)) : calRead c o d =
      .reply .ok (le 4 (ofSigned 32 f) ++ le 4 (ofSigned 32 u) ++ le 4 (ofSigned 32 (calSum f u).1) ++ le 4 (b2n (calSum f u).2)) d := by
  unfold calPort at h
  unfold calRead
  cases ht : c.target with
  | device | die n | port p =>
    rw [ht] at h
    dsimp only at h ⊢
    rw [h]
    rfl

/-! ### CONFIG_WRITE (R71, R76, R79) -/

section
variable {c : Ctx} {d : Dev} {field idx n : Nat} {x : SetImg}

/-- Is the field one that the set knows, with a value in order for the target? -/
def writeInOrder (c : Ctx) (field idx n : Nat) : Prop :=
  (1 ≤ n ∧ n ≤ 64) ∧ allZero ((slice c.pl 16 64).drop n) = true ∧ Config.fieldKind field ≠ .unknown ∧
    Config.fieldAccepts field (targetCode c.target) idx n = true

/-- A field that is not in order is refused before the state is looked at. -/
theorem configWrite_refused (hfield : fld c.pl 4 4 = field) (hidx : fld c.pl 8 4 = idx) (hn : fld c.pl 12 4 = n)
    (h : ¬ writeInOrder c field idx n) : configWrite c d = .fail .badField := by
  subst hfield hidx hn
  have refused : (decide (1 ≤ fld c.pl 12 4 ∧ fld c.pl 12 4 ≤ 64) && allZero ((slice c.pl 16 64).drop (fld c.pl 12 4)) &&
      decide (Config.fieldKind (fld c.pl 4 4) ≠ .unknown) &&
      Config.fieldAccepts (fld c.pl 4 4) (targetCode c.target) (fld c.pl 8 4) (fld c.pl 12 4)) = false := by
    simpa only [← Bool.not_eq_true, Bool.and_eq_true, decide_eq_true_eq, and_assoc, writeInOrder] using h
  simp only [configWrite, refused, need_false]

variable (hfield : fld c.pl 4 4 = field) (hidx : fld c.pl 8 4 = idx) (hn : fld c.pl 12 4 = n)
  (horder : writeInOrder c field idx n) (hswap : d.cfg.swap = none) (hup : presentUp d = true)
include hfield hidx hn horder hswap hup

/-- R76: a live write to the active set. -/
theorem configWrite_active (hset : fld c.pl 0 1 = 1) (hactive : d.cfg.active = some x) :
    configWrite c d = match Config.fieldKind field with
      | .live f =>
        need (!plainSession f idx x.params) .badState <|
        (match patchSet x field (targetCode c.target) idx (slice c.pl 16 n) d with
         | none => .fail .badField
         | some y =>
           let y := { y with params := liveParams f x.params (altParams d.twin.tookHome y.params) }
           let d := mirrorEra f idx x.gen x.params y.params (keepBuckets x.params y.params d)
           let d := bump .cfg 0 2 { d with cfg := { d.cfg with active := some y } }
           .ok [] (twinPost (setRecord d) d))
      | .counterClear b => .ok [] (clearObject b (cntObject b c.target idx) (bump .cfg 0 2 d))
      | _ => .fail .badState := by
  obtain ⟨⟨hlow, hhigh⟩, hrest, hknown, haccepts⟩ := horder
  subst hfield hidx hn
  simp only [configWrite, hset, hswap, hactive, hlow, hhigh, hrest, hknown, haccepts, hup, and_self, decide_true, ne_eq,
    not_false_eq_true, Bool.and_self, need_true, Nat.one_ne_zero, if_false, Bool.not_false] <;> rfl

/-- R71: a write to the shadow. -/
theorem configWrite_shadow (hset : fld c.pl 0 1 = 0) (hshadow : d.cfg.shadow = some x) (hready : d.cfg.shadowState = .ready) :
    configWrite c d = match Config.fieldKind field with
      | .counterClear _ => .fail .badField
      | _ =>
        match patchSet x field (targetCode c.target) idx (slice c.pl 16 n) d with
        | none => .fail .badField
        | some y =>
          let d := keepSet (some x) d
          let d := bump .cfg 0 2 { d with cfg := { d.cfg with shadow := some { y with gen := 0 } } }
          .ok [] (twinPost (setRecord d) d) := by
  obtain ⟨⟨hlow, hhigh⟩, hrest, hknown, haccepts⟩ := horder
  subst hfield hidx hn
  simp only [configWrite, hset, hswap, hshadow, hready, hlow, hhigh, hrest, hknown, haccepts, hup, and_self, decide_true, ne_eq,
    not_false_eq_true, Bool.and_self, need_true, if_true, swapPending] <;> rfl

end

/-- Settles O11: each command's own answer, under what its clause asks. -/
theorem configCommandsAnswer : Obligations.ConfigCommandsAnswer := by
  refine fun r t s => ⟨?_, ?_, ?_, ?_, ?_, ?_, ?_, ?_⟩
  · rintro h off hoff h64 hroom hloading hdraining hswap d k rfl rfl len hlen
    split
    · next hup =>
      refine onMailbox_pend h ?_
      simp only [loadShadow, hoff, h64, hroom, taken_cfg, hloading, hdraining, swapPending, hswap,
        presentUp_taken, hup, and_self, decide_true, need_true, or_self, decide_false, Option.isSome_none, Bool.or_self, Bool.not_false]
      rw [← hlen]
      rfl
    · next hup =>
      exact onMailbox_fail h (by simp [loadShadow, swapPending, *])
  · rintro h d rfl
    exact onMailbox_reply h (configQuery_eq _)
  · rintro h d rfl x g hshadow hready hswap hid hconf hway hzero hacq hg
    split
    · next hup =>
      exact onMailbox_run h (by simp [swapSet, swapPending, swapConflict_taken, setOnItsWay_taken, valid_of_isZero hzero, *])
    · next hup =>
      exact onMailbox_fail h (by simp [swapSet, swapPending, *])
  · rintro h d rfl x g hshadow hready hswap hid hconf hway hzero hns hg hacq hlead hday
    have inOrder : instantRefusal (tsFld (payload r) 4) 50 s.dev = none :=
      instantRefusal_none hacq (by omega) (by omega)
    have valid : (tsFld (payload r) 4).valid = true := decide_eq_true hns
    split
    · next hup =>
      exact onMailbox_pend h (by simp [swapSet, swapPending, swapConflict_taken, setOnItsWay_taken, instantRefusal_taken, *])
    · next hup =>
      exact onMailbox_fail h (by simp [swapSet, swapPending, *])
  · rintro h d rfl w n hswap hhandle hlead
    have early : s.dev.time.grand + 20000 * unitsPerNs ≤ w.at_ := hlead
    exact onMailbox_reply h (by simp [swapCancel, *])
  · rintro h d rfl hup field idx n hfield hidx hn
    refine ⟨fun hset hswap x hactive hlow hhigh hrest => ?_, fun hset hswap x hshadow hready => ?_⟩
    · by_cases order : writeInOrder (ctxOf r t s) field idx n
      · have written := configWrite_active (d := taken 0x0205 r s) hfield hidx hn order hswap hup hset hactive
        obtain ⟨-, -, known, accepts⟩ := order
        cases kind : Config.fieldKind field with
        | unknown => exact absurd kind known
        | notLive =>
          simp only [kind] at written
          exact ⟨.badState, _, onMailbox_fail h written, by simp_all⟩
        | counterClear b =>
          simp only [kind] at written
          exact ⟨.ok, _, onMailbox_reply h written, by simp_all⟩
        | live f =>
          cases plain : plainSession f idx x.params with
          | true =>
            simp only [kind, plain, Bool.not_true, need_false] at written
            exact ⟨.badState, _, onMailbox_fail h written, by simp_all⟩
          | false =>
            simp only [kind, plain, Bool.not_false, need_true] at written
            cases patched : patchSet x field (targetCode t) idx (slice (payload r) 16 n) (taken 0x0205 r s) with
            | none =>
              simp only [patched] at written
              exact ⟨.badField, _, onMailbox_fail h written, by simp_all⟩
            | some y =>
              simp only [patched] at written
              exact ⟨.ok, _, onMailbox_reply h written, by simp_all⟩
      · refine ⟨.badField, _, onMailbox_fail h (configWrite_refused hfield hidx hn order), ?_⟩
        simp only [writeInOrder, hlow, hhigh, hrest] at order
        simp_all
    · by_cases order : writeInOrder (ctxOf r t s) field idx n
      · have written := configWrite_shadow (d := taken 0x0205 r s) hfield hidx hn order hswap hup hset hshadow hready
        simp only at written
        cases kind : Config.fieldKind field with
        | counterClear b =>
          simp only [kind] at written
          exact ⟨.badField, _, onMailbox_fail h written, by simp_all⟩
        | unknown | notLive | live f =>
          cases patched : patchSet x field (targetCode t) idx (slice (payload r) 16 n) (taken 0x0205 r s) with
          | none =>
            simp only [kind, patched] at written
            exact ⟨.badField, _, onMailbox_fail h written, by simp_all⟩
          | some y =>
            simp only [kind, patched] at written
            exact ⟨.ok, _, onMailbox_reply h written, .inl rfl, nofun, fun _ => ⟨y, rfl, _, rfl, rfl⟩⟩
      · exact ⟨.badField, _, onMailbox_fail h (configWrite_refused hfield hidx hn order), .inr rfl, fun _ => rfl, nofun⟩
  · rintro h d rfl f u hcal
    have read := calRead_found (c := ctxOf r t s) (d := taken 0x0206 r s) hcal
    have sum : b2n (calSum f u).2 = if -2147483648 ≤ f + u ∧ f + u ≤ 2147483647 then 0 else 1 := by
      rw [calSum_eq]
      split <;> simp [*, b2n]
    refine onMailbox_reply h ?_
    rw [read, sum, calSum_eq]
  · rintro h d rfl
    exact onMailbox_reply h (by rfl)
end Sys2Proof.Machine
end

section
/-! What the SECY, SA and MKA commands answer and do (R103 to R111, R131 to R139). -/
namespace Sys2Proof.Machine

set_option Elab.async false

theorem secyOn_taken (r : Request) (p idx op : Nat) (s : State) :
    secyOn (ctxOf r (.port p) s) idx (taken op r s) = scSecy (portDie p) p false idx s.dev := rfl

/-- The mask of an RX SC's slots that are not EMPTY is 0 where all four are. -/
theorem anMask_eq_zero {die sc : Nat} {d : Dev} (h : ∀ a, a < 4 → (sa (saKey die true sc a) d).state = .empty) :
    anMask die sc (fun st => decide (st ≠ .empty)) d = 0 := by
  simp [anMask, List.range_succ, h]

/-- R108: a free index and a free place for the SCI make an RX SC. -/
theorem createRxSc_of_free {die port secy sci conf i : Nat} {d e : Dev}
    (hfree : (List.range 4096).find? (fun i => !Map.has d.prot.rxscs (4096 * die + i)) = some i)
    (hplace : sciInsert die port sci i secy d = some e) :
    createRxSc die port secy sci conf d = some (i, { e with prot := { e.prot with
      rxscs := Map.put e.prot.rxscs (4096 * die + i) ⟨port, secy, sci, conf⟩ } }) := by
  unfold createRxSc
  rw [hfree]
  dsimp only
  rw [hplace]

theorem cipherOnlyCounters (port : Nat) (d : Dev) :
    (List.range 6).flatMap (fun k => le 8 (if k = 1 ∨ k = 3 then cntGet .cport port k d else 0)) =
      zeros 8 ++ le 8 (cntGet .cport port 1 d) ++ zeros 8 ++ le 8 (cntGet .cport port 3 d) ++ zeros 16 := by
  have last : zeros 16 = zeros 8 ++ zeros 8 := rfl
  simp [List.range_succ, le_of_zero, last]

/-! ### Installing an SA (R114, R116, R131) -/

theorem saBusy_of_state {k : Nat} {d : Dev} (h : (sa k d).state ≠ .loading) : saBusy k d = false := by
  simp [saBusy, h]

/-- Nothing in the state refuses the installation. -/
theorem saInstallRefusal_none {x : SaLoad} {q : SecyPrm} {d : Dev} (hkey : q.hostKeying = true)
    (hstate : (sa (saKey x.die x.rx x.sc x.an) d).state = .empty ∨ (sa (saKey x.die x.rx x.sc x.an) d).state = .installed)
    (hloading : (sa (saKey x.die x.rx x.sc x.an) d).loading = false)
    (hroom : x.rx = true → (sa (saKey x.die x.rx x.sc x.an) d).state = .empty → rxSlotsUsed x.die d < 8192)
    (hfree : x.rx = false → heldBySwitch x.die x.sc x.an d = false) : saInstallRefusal x q d = none := by
  have idle : saBusy (saKey x.die x.rx x.sc x.an) d = false :=
    saBusy_of_state (by rcases hstate with h | h <;> simp [h])
  have inHand : (decide ((sa (saKey x.die x.rx x.sc x.an) d).state = .empty ∨
      (sa (saKey x.die x.rx x.sc x.an) d).state = .installed)) = true := decide_eq_true hstate
  cases hrx : x.rx with
  | false =>
    rw [hrx] at idle inHand hloading
    simp only [saInstallRefusal, hrx, idle, hkey, inHand, hloading, hfree hrx]
    rfl
  | true =>
    have room : (decide ((sa (saKey x.die true x.sc x.an) d).state = .empty) && decide (8192 ≤ rxSlotsUsed x.die d)) = false := by
      rw [Bool.and_eq_false_imp, decide_eq_true_eq, decide_eq_false_iff_not, Nat.not_le]
      rw [hrx] at hroom
      exact hroom rfl
    rw [hrx] at idle inHand hloading
    simp only [saInstallRefusal, hrx, idle, hkey, inHand, hloading, room, Bool.true_and]
    rfl

theorem saInstall_of_accepted {c : Ctx} {d : Dev} {x : SaLoad} {q : SecyPrm}
    (hx : readSaLoad (.mailbox c.mb) c.target.dieNo c.pl = x)
    (secy : scSecy c.target.dieNo c.target.portNo x.rx x.sc d = some q) (fields : saFieldsOk x q c.pl = true)
    (accepted : saInstallRefusal x q d = none) :
    saInstall c d = if d.prot.loads.isEmpty then .run (saKey x.die x.rx x.sc x.an) (saAccept x d)
      else .pend 2000 (saKey x.die x.rx x.sc x.an) (saAccept { x with waiter := .handle c.handle } d) := by
  subst hx
  simp only [saInstall, secy, fields, accepted, need_true] <;> rfl

/-- The slot is marked, and the installation joins the queue at the vault. -/
theorem saAccept_eq {x : SaLoad} {d e : Dev} {k : Nat} {rep : Bool} (hk : saKey x.die x.rx x.sc x.an = k)
    (hrep : decide ((sa k d).state = .installed) = rep)
    (he : e = if rep then setSa k { sa k d with loading := true } d else saEnter .loading k d) :
    saAccept x d = { e with prot := { e.prot with loads := d.prot.loads ++ [{ x with replace := rep }] } } := by
  subst hk hrep he
  unfold saAccept
  dsimp only
  split <;> rfl

/-! ### Switching and bulk installation (R132, R134) -/

theorem batchCheck_taken (op : Nat) (r : Request) (s : State) (i : Nat) (l : List Bytes) (acc : List (Nat × Nat × Nat)) :
    batchCheck (taken op r s) i l acc = batchCheck s.dev i l acc := by
  induction l generalizing i acc with
  | nil => rfl
  | cons b l ih =>
    have entry : batchEntry b (taken op r s) = batchEntry b s.dev := rfl
    unfold batchCheck
    rw [entry]
    split
    · rfl
    · rw [ih]
      rfl

theorem staging_signal (v : Nat) (d : Dev) : (signal v d).host.staging = d.host.staging := by
  unfold signal
  split
  · rfl
  · split <;> rfl

theorem staging_respond (a : Reply) (st : Status) (pl : Bytes) (d : Dev) :
    (respond a st pl d).host.staging = d.host.staging := by
  unfold respond respondWith
  dsimp only
  split
  · rfl
  · rw [staging_signal]
    rfl

theorem staging_opened (op bound object : Nat) (r : Request) (d : Dev) (s : State) :
    (opened op bound object r d s).host.staging = d.host.staging := staging_respond _ _ _ _

/-- R138: a new CA fits where its SecY has one already, or the table has room. -/
theorem room_for_ca {n : Nat} {d : Dev} (h : (Map.get? d.prot.mka n).isSome = true ∨ caCount d < 4096) {b : Bool} :
    (Map.has d.prot.mka n || b || decide (caCount d < 4096)) = true := by
  rcases h with has | few
  · simp [Map.has, has]
  · simp [few]

/-- Settles O12: each command's own answer, under what its clause asks. -/
theorem secySaAndMkaCommandsAnswer : Obligations.SecySaAndMkaCommandsAnswer := by
  refine ⟨fun r p s die i hdie hi => ?_, fun r p s die hdie => ⟨fun rx sc an hrx hsc han k hk q hq => ?_, ?_, ?_, ?_, ?_, ?_⟩, fun r p s i n q hi hn hq => ⟨?_, ?_⟩⟩
  · subst hdie hi
    refine ⟨?_, ?_, ?_, ?_, ?_, ?_, ?_, ?_⟩
    · rintro h d rfl x hx
      refine onMailbox_reply h ?_
      cases hactive : s.dev.cfg.active <;>
        simp only [secyQuery, Target.dieNo, secyOn_taken, hx, taken_cfg, hactive, Option.map_none,
          Option.map_some, Option.getD_none, Option.getD_some, Ans.ok_eq]
    · rintro h hx
      exact onMailbox_fail h (by simp only [secyQuery, secyOn_taken, hx])
    · rintro h d rfl x hx
      refine onMailbox_reply h ?_
      simp only [secyCntRead, secyOn_taken, hx]
      rfl
    · rintro h d rfl x hx hkey
      refine ⟨fun hoff => ?_, fun hon hdisabled hsa => ?_, fun hon hdisabled hprot hsa => ?_⟩
      · refine onMailbox_reply h ?_
        by_cases hmem : 2048 * portDie p + fld (payload r) 0 2 ∈ s.dev.prot.enabled <;>
          simp [secyPortEnable, Target.dieNo, secyOn_taken, hx, hkey, hoff, portEnabled, setPortEnabled, hmem]
      · refine onMailbox_reply h ?_
        have allowed : (x.protectFrames && !hasTxSa (portDie p) (fld (payload r) 0 2) (taken 0x0403 r s)) = false := by
          rcases hsa with hsa | hsa
          · simp [hsa]
          · simp [show hasTxSa (portDie p) (fld (payload r) 0 2) (taken 0x0403 r s) = true from hsa]
        simp [secyPortEnable, Target.dieNo, secyOn_taken, hx, hkey, hon, portEnabled, setPortEnabled, hdisabled, allowed]
      · refine onMailbox_fail h ?_
        have none : hasTxSa (portDie p) (fld (payload r) 0 2) (taken 0x0403 r s) = false := hsa
        simp [secyPortEnable, Target.dieNo, secyOn_taken, hx, hkey, hon, portEnabled, hdisabled, hprot, none]
    · rintro h d rfl x sci hx hkey rfl hsci n d' hfree hins
      refine onMailbox_reply h ?_
      have created := createRxSc_of_free (conf := fld (payload r) 2 1) (d := taken 0x0404 r s) hfree hins
      have new : sciOnPort p (fld (payload r) 8 8) (taken 0x0404 r s) = false := hsci
      simp only [rxscCreate, Target.dieNo, Target.portNo, secyOn_taken, hx, hkey, new, created,
        Bool.not_false, Bool.and_self, need_true, Ans.ok_eq]
    · rintro h d rfl x y hx hport hy hkey hempty
      refine onMailbox_reply h ?_
      have empty := anMask_eq_zero (d := taken 0x0405 r s) hempty
      have owner : secyPrm (portDie p) x.secy (taken 0x0405 r s) = some y := hy
      simp only [rxscDelete, rxScOn, Target.dieNo, Target.portNo, taken_prot, hx, hport, if_true,
        owner, hkey, empty, decide_true, Bool.and_self, need_true, Ans.ok_eq]
    · rintro h d rfl x hx hport
      refine onMailbox_reply h ?_
      simp only [rxscQuery, rxScOn, Target.dieNo, Target.portNo, taken_prot, hx, hport, if_true]
      cases newestAn (portDie p) (fld (payload r) 0 2) (taken 0x0406 r s) <;> rfl
    · rintro h d rfl
      refine onMailbox_reply h ?_
      have cipher : isCipher p (taken 0x0407 r s) = isCipher p s.dev := rfl
      simp only [cportCntRead, Target.portNo, cipher]
      split
      · rfl
      · rw [cipherOnlyCounters]
        rfl
  · subst hdie hsc han hk
    have kind : decide (fld (payload r) 0 1 = 1) = rx := by cases rx <;> simp [hrx, b2n]
    refine ⟨?_, ?_, ?_, ?_⟩
    · rintro h d rfl x hx hfields hkey hstate hroom hfree hloading rep e hrep he
      have xdie : x.die = portDie p := by rw [← hx]; rfl
      have xrx : x.rx = rx := by rw [← hx, ← kind]; rfl
      have xsc : x.sc = fld (payload r) 2 2 := by rw [← hx]; rfl
      have xan : x.an = fld (payload r) 1 1 := by rw [← hx]; rfl
      have slot : saKey x.die x.rx x.sc x.an = saKey (portDie p) rx (fld (payload r) 2 2) (fld (payload r) 1 1) := by
        rw [xdie, xrx, xsc, xan]
      have secy : scSecy (portDie p) p x.rx x.sc (taken 0x0501 r s) = some q := by rwa [xrx, xsc]
      have accepted : saInstallRefusal x q (taken 0x0501 r s) = none := by
        refine saInstallRefusal_none hkey ?_ ?_ ?_ ?_
        · rwa [slot]
        · rwa [slot]
        · rw [slot, xrx, xdie]
          exact hroom
        · rw [xrx, xdie, xsc, xan]
          exact hfree
      refine ⟨fun hempty => onMailbox_run h ?_, fun hqueue => onMailbox_pend h ?_⟩
      · rw [saInstall_of_accepted (c := ctxOf r (.port p) s) (d := taken 0x0501 r s) hx secy hfields accepted, taken_prot, hempty, slot,
          saAccept_eq (d := taken 0x0501 r s) slot hrep he, taken_prot, hempty, List.nil_append]
        rfl
      · have queued : s.dev.prot.loads.isEmpty = false := List.isEmpty_eq_false_iff.mpr hqueue
        rw [saInstall_of_accepted (c := ctxOf r (.port p) s) (d := taken 0x0501 r s) hx secy hfields accepted, taken_prot, queued, slot,
          if_neg Bool.false_ne_true]
        exact congrArg (Ans.pend 2000 _) (saAccept_eq (x := { x with waiter := .handle s.dev.host.nextHandle }) slot hrep he)
    · rintro h d rfl x sw rfl rfl
      refine onMailbox_reply h ?_
      have pending : pendingSwitch (portDie p) (fld (payload r) 2 2) (taken 0x0502 r s) =
        pendingSwitch (portDie p) (fld (payload r) 2 2) s.dev := rfl
      cases hsw : pendingSwitch (portDie p) (fld (payload r) 2 2) s.dev <;>
        simp only [saQuery, Target.dieNo, Target.portNo, kind, scSecy_taken, hq, pending, hsw, Option.any_none,
          Option.any_some, Ans.ok_eq]
    · rintro h d rfl hkey hloading hfree
      have held : ∀ sc an, heldBySwitch (portDie p) sc an (taken 0x0504 r s) = heldBySwitch (portDie p) sc an s.dev :=
        fun _ _ => rfl
      have idle : ∀ k, (sa k s.dev).state ≠ .loading → saBusy k (taken 0x0504 r s) = false := fun _ hk => saBusy_of_state hk
      refine ⟨fun htx hst => onMailbox_reply h ?_, fun hr hst => onMailbox_reply h ?_, fun h1 h2 h3 => onMailbox_fail h ?_⟩
      · have free := hfree htx
        subst htx
        have ready := idle _ (by rw [hst]; decide)
        simp [saRetire, Target.dieNo, Target.portNo, kind, hq, ready, hkey, hloading, held, free, hst]
      · subst hr
        have ready := idle _ (by rw [hst]; decide)
        simp [saRetire, Target.dieNo, Target.portNo, kind, hq, ready, hkey, hloading, held, hst]
      · have ready := idle _ h3
        cases rx with
        | true => simp [saRetire, Target.dieNo, Target.portNo, kind, hq, ready, hkey, hloading, held, h1, h2]
        | false => simp [saRetire, Target.dieNo, Target.portNo, kind, hq, ready, hkey, hloading, held, hfree rfl, h1, h2]
    · rintro h d rfl
      refine onMailbox_reply h ?_
      simp only [saCntRead, Target.dieNo, Target.portNo, kind, scSecy_taken, hq]
      rfl
  · subst hdie
    rintro h d rfl i an n q hi han hn hq hkey hst hloading hpend hacq
    subst hi han hn
    have ready : saBusy (saKey (portDie p) false (fld (payload r) 0 2) (fld (payload r) 2 1)) (taken 0x0503 r s) = false :=
      saBusy_of_state (by rw [sa_taken, hst]; decide)
    have none : switchPending (portDie p) (fld (payload r) 0 2) (taken 0x0503 r s) = false := hpend
    refine ⟨fun hzero => onMailbox_run h ?_, fun g hzero hns hg hlead hday => onMailbox_pend h ?_⟩
    · simp [saTxSwitch, Target.dieNo, Target.portNo, hq, valid_of_isZero hzero, ready, hzero, hacq, hkey, hst, hloading, none]
    · have valid : (tsFld (payload r) 4).valid = true := decide_eq_true hns
      have inOrder : instantRefusal (tsFld (payload r) 4) 50 (taken 0x0503 r s) = Option.none :=
        instantRefusal_none hacq (hg ▸ hlead) (hg ▸ hday)
      simp [saTxSwitch, Target.dieNo, Target.portNo, hq, valid, ready, hzero, hkey, hst, hloading, none, inOrder, hg]
  · rintro h d rfl hz off n g hoff hn hg h8 h1 h8192 hend hns hacq hlead hday
    have valid : (tsFld (payload r) 8).valid = true := decide_eq_true hns
    have inOrder : instantRefusal (tsFld (payload r) 8) 1000 (taken 0x0505 r s) = none :=
      instantRefusal_none hacq (hg ▸ hlead) (hg ▸ hday)
    refine ⟨fun l hroom hl => onMailbox_pend h ?_, fun st i he => onMailbox_reply h ?_⟩
    · simp only [saBatchSwitch, hz, hoff, hn, h8, h1, h8192, hend, valid, inOrder, batchCheck_taken, taken_staging, hl,
        taken_prot, Nat.not_le.mpr hroom, hg, and_self, decide_true, Bool.and_self, Bool.not_true, Bool.false_eq_true,
        if_false, boundTo_taken]
    · simp only [saBatchSwitch, hz, hoff, hn, h8, h1, h8192, hend, valid, inOrder, batchCheck_taken, taken_staging, he,
        and_self, decide_true, Bool.and_self, Bool.not_true, Bool.false_eq_true, if_false]
  · rintro h d rfl n b hn hb hlead
    have early : s.dev.time.grand + 20000 * unitsPerNs ≤ b.at_ := hlead
    exact onMailbox_reply h (by simp [saBatchCancel, hn, hb, early])
  · rintro h d rfl off n k hoff hn hk h64 h1 h2 h3 hroom
    subst hoff hn hk
    refine (onMailbox_replyPend h (by
      simp only [saInstallBulk, h64, h1, h2, h3, and_self, decide_true, need_true]
      rfl) hroom).trans ?_
    simp only [staging_opened]
    rfl
  · rintro n h d rfl
    exact onMailbox_reply h (by rfl)
  · rintro h d rfl hfields hrun hkey
    subst hi hn
    refine ⟨fun hdel hhas => onMailbox_reply h ?_, fun hadd hroom x hx => ⟨fun hempty => onMailbox_run h ?_, fun hqueue => onMailbox_pend h ?_⟩⟩
    · simp [mkaCaSet, secyOn_taken, hq, hfields, hrun, hkey, hdel, Map.has, hhas, Target.dieNo]
    · subst hx
      simp only [mkaCaSet, secyOn_taken, hq, hfields, hrun, hkey, hadd, Bool.not_false, need_true, Target.dieNo,
        Bool.false_eq_true, if_false, taken_prot, hempty, List.isEmpty_nil, if_true]
      exact need_of_true (room_for_ca hroom) _ _
    · subst hx
      have queued : s.dev.prot.caLoads.isEmpty = false := List.isEmpty_eq_false_iff.mpr hqueue
      simp only [mkaCaSet, secyOn_taken, hq, hfields, hrun, hkey, hadd, Bool.not_false, need_true, Target.dieNo,
        Bool.false_eq_true, if_false, taken_prot, queued]
      exact need_of_true (room_for_ca hroom) _ _
  · rintro h d rfl
    subst hi hn
    refine ⟨fun hnone => onMailbox_reply h ?_, fun m hm => onMailbox_reply h ?_⟩
    · simp only [mkaCaQuery, secyOn_taken, hq, mkaSt, Target.dieNo, taken_prot, hnone]
      rfl
    · simp only [mkaCaQuery, secyOn_taken, hq, mkaSt, Target.dieNo, taken_prot, hm, List.isEmpty_iff,
        Option.isSome_iff_ne_none, Ans.ok_eq]

end Sys2Proof.Machine
end

section
/-! What the VAULT commands and the authorized life-cycle commands answer and do (R142 to R145, R152 to R157, R168 to R176). -/
namespace Sys2Proof.Machine

set_option Elab.async false

/-! ### What a command reads of the key store -/

@[simp] theorem keySlot_taken (n op : Nat) (r : Request) (s : State) : keySlot n (taken op r s) = keySlot n s.dev := rfl

@[simp] theorem idElsewhere_taken (id n op : Nat) (r : Request) (s : State) :
    idElsewhere id n (taken op r s) = idElsewhere id n s.dev := rfl

@[simp] theorem jobsBound_taken (n op : Nat) (r : Request) (s : State) : jobsBound n (taken op r s) = jobsBound n s.dev := rfl

theorem openOtk_granted (pl : Bytes) (under op : Nat) (r : Request) (s : State) :
    openOtk pl under (granted op r s) = openOtk pl under s.dev := by
  have found : ∀ n, findKek n (granted op r s) = findKek n s.dev := fun n => by unfold findKek; rw [granted_vault]
  unfold openOtk openBlob
  simp only [found]

theorem enterHeld_dev (o : Otp) (d : Dev) :
    (enterHeld o d).2 = setFault 2 (stopService (lcMove (burnHeld o) (zeroize d))) := by
  unfold enterHeld
  dsimp only

/-! ### The bodies of the commands, where nothing refuses them -/

/-- R172: where no slot, size, class, instant or key in hand refuses it, an installation runs at an idle vault if it is not
scheduled, and pends otherwise. -/
theorem keyInstall_of_accepted {c : Ctx} {d : Dev}
    (fields : (decide (32 ≤ fld c.pl 0 2 ∧ fld c.pl 0 2 ≤ 1022 ∧ (fld c.pl 4 2 = 48 ∨ fld c.pl 4 2 = 64)) &&
      allZero ((slice c.pl 24 64).drop (fld c.pl 4 2)) && storeClass (fld (slice c.pl 24 64) 1 1) &&
      (decide (fld c.pl 2 1 = 2) || (tsFld c.pl 12).isZero) && (tsFld c.pl 12).valid) = true)
    (inOrder : (if fld c.pl 2 1 = 2 then instantRefusal (tsFld c.pl 12) 50 d else none) = none)
    (idle : keyLoadRunning (fld c.pl 0 2) d = false) (new : idElsewhere (fld c.pl 8 4) (fld c.pl 0 2) d = false) :
    keyInstall c d =
      let ld (h : Option Nat) : KeyLoad := ⟨h, c.mb, fld c.pl 0 2, fld c.pl 2 1,
        if fld c.pl 2 1 = 2 then unitsOf (tsFld c.pl 12) else 0, fld c.pl 8 4, slice (slice c.pl 24 64) 0 (fld c.pl 4 2)⟩
      if fld c.pl 2 1 = 2 || !d.vault.queue.isEmpty then
        .pend 2000 (fld c.pl 0 2) { d with vault := { d.vault with queue := d.vault.queue ++ [ld (some c.handle)] } }
      else .run (fld c.pl 0 2) { d with vault := { d.vault with queue := [ld none] } } := by
  unfold keyInstall
  dsimp only
  rw [need_of_true fields, inOrder]
  dsimp only
  rw [idle, new]
  rfl

/-- Settles O13: each command's own answer, under what its clause asks. -/
theorem vaultCommandsAnswer : Obligations.VaultCommandsAnswer := by
  refine ⟨fun r s => ⟨?_, ?_, ?_, ?_, ?_, ?_, ?_, ?_, ?_, ?_, ?_⟩, fun r s o ho => ⟨?_, ?_, ?_, ?_⟩⟩
  · rintro h d o v rfl rfl rfl
    exact onMailbox_reply h (by rfl)
  · rintro h d rfl slot len blob x rfl rfl rfl hlow hhigh hlen hrest hcls hrun hid rfl
    have shape : decide (32 ≤ fld (payload r) 0 2 ∧ fld (payload r) 0 2 ≤ 1022 ∧ (fld (payload r) 4 2 = 48 ∨ fld (payload r) 4 2 = 64)) = true :=
      decide_eq_true ⟨hlow, hhigh, hlen⟩
    refine ⟨fun hmode hz hq => onMailbox_run h ?_, fun hmode hz hq => onMailbox_pend h ?_, fun g hmode hns hg hacq hlead hday => onMailbox_pend h ?_⟩
    · refine (keyInstall_of_accepted (c := ctxOf r .device s) (d := taken _ r s) (by simp only [shape, hrest, hcls, hz, valid_of_isZero hz]; simp) (if_neg hmode) hrun hid).trans ?_
      simp [hmode, hq]
    · have queued : s.dev.vault.queue.isEmpty = false := List.isEmpty_eq_false_iff.mpr hq
      refine (keyInstall_of_accepted (c := ctxOf r .device s) (d := taken _ r s) (by simp only [shape, hrest, hcls, hz, valid_of_isZero hz]; simp) (if_neg hmode) hrun hid).trans ?_
      simp [hmode, queued]
    · have valid : (tsFld (payload r) 12).valid = true := decide_eq_true hns
      refine (keyInstall_of_accepted (c := ctxOf r .device s) (d := taken _ r s) (by simp only [shape, hrest, hcls, hmode, valid]; simp)
        ((if_pos hmode).trans (instantRefusal_none hacq (hg ▸ hlead) (hg ▸ hday))) hrun hid).trans ?_
      simp [hmode, hg]
  · rintro h d rfl slot p rfl hslot hrun hp
    refine ⟨fun hid => onMailbox_fail h ?_, fun hid => ⟨fun hh => onMailbox_reply h ?_, fun k hk => onMailbox_reply h ?_⟩⟩
    · simp [keyActivate, hslot, hrun, hp, hid]
    · simp [keyActivate, hslot, hrun, hp, hid, hh]
    · simp only [keyActivate, hslot, hrun, keySlot_taken, hp, hid, hk, decide_true, need_true, Bool.not_false, idElsewhere_taken]
      rfl
  · rintro h d rfl slot k e rfl hlow hhigh hjobs hrun rfl rfl
    refine ⟨fun hall hsome => onMailbox_reply h ?_, fun honly hp => onMailbox_reply h ?_⟩
    · have held : ((keySlot (fld (payload r) 0 2) s.dev).active.isSome || (keySlot (fld (payload r) 0 2) s.dev).pending.isSome) = true := by
        simpa [Option.isSome_iff_ne_none] using hsome
      simp [keyDelete, hlow, hhigh, hjobs, hrun, held, hall]
    · have held := Option.isSome_iff_ne_none.mpr hp
      simp [keyDelete, hlow, hhigh, hjobs, hrun, held, honly]
  · rintro h d rfl slot k a x sched rfl hlow hhigh rfl rfl rfl rfl
    refine onMailbox_reply h ?_
    have inside : ¬ fld (payload r) 0 2 < 32 := Nat.not_lt.mpr hlow
    simp only [keyQuery, hhigh, decide_true, need_true, inside, if_false, keySlot_taken, decide_false]
    rcases keySlot (fld (payload r) 0 2) s.dev with ⟨_ | a, _ | ⟨key, mode, _ | g, handle⟩, t⟩ <;> rfl
  · rintro h d rfl slot a rfl hslot rfl
    refine onMailbox_reply h ?_
    have low : fld (payload r) 0 2 ≤ 1023 := by omega
    simp only [keyQuery, low, hslot, decide_true, need_true, if_true, taken_vault]
    cases Map.get? s.dev.vault.derived (fld (payload r) 0 2) <;> rfl
  · rintro h d rfl j mode hold slot aad data iv tag k nd rfl rfl rfl rfl rfl rfl rfl rfl hj hlow hhigh hfree hk hcls hshape hhold h1 h2 h3 job rfl
    refine onMailbox_pend h ?_
    have absent : Map.has s.dev.vault.jobs (fld (payload r) 0 1) = false := by simp [Map.has, hfree]
    simp only [laJobStart, hj, hlow, hhigh, and_self, decide_true, need_true, taken_vault, absent, Bool.not_false, keySlot_taken, hk,
      hcls, ne_eq, not_true_eq_false, if_false, hshape]
    have nonce : (if fld (payload r) 1 1 = 1 then takeNonce s.otp (taken 0x060A r s)
        else (if fld (payload r) 1 1 = 2 then (slice (payload r) 16 16).take 12 else slice (payload r) 16 16, taken 0x060A r s)) = nd := by
      split
      next h => exact (h1 h).symm
      next h =>
        split
        next h' => exact (h2 h').symm
        next h' => exact (h3 h h').symm
    rw [nonce, need_of_true (by rcases hhold with none | none <;> simp [none])]
    rfl
  · rintro h d n rfl rfl h16 h256 hmod htrng
    refine onMailbox_reply h ?_
    simp [vaultRandom, h16, h256, hmod, htrng, drbg, freshBytes]
  · rintro h off n rfl rfl h4 h256 hmod hend
    refine ⟨fun hs => onMailbox_reply h ?_, fun hs => onMailbox_fail h ?_⟩
    · simp [otpRead, h4, h256, hmod, hend, hs]
    · simp [otpRead, hs]
  · rintro h d rfl
    exact onMailbox_reply h (by rfl)
  · rintro h i d rfl rfl hi hhas
    refine (onMailbox_replyThen h (pl := []) (d := taken 0x060B r s) (k := endLaJob (fld (payload r) 0 1) .badState) ?_).trans rfl
    simp only [laJobAbort, hi, decide_true, need_true, hhas]
  all_goals subst ho
  · rintro h d rfl
    refine ⟨fun hlc hto o' ho => ?_, fun hlc hto o' ho => ?_, fun hlc hlt hto o' ho => ?_⟩
    all_goals refine onAll_mailbox_granted_reply h ?_
    all_goals subst ho
    · simp only [lcChange, granted_vault, hlc, hto, Ans.ok_eq]
    · simp only [lcChange, granted_vault, hlc, hto, Ans.ok_eq, enterHeld_dev, enterHeld_otp]
    · have lc : s.dev.vault.lc = 1 ∨ s.dev.vault.lc = 2 ∨ s.dev.vault.lc = 3 := by omega
      rcases lc with hlc | hlc | hlc <;> simp only [lcChange, granted_vault, hlc, hto, Ans.ok_eq]
  · rintro h d rfl hcount hlive
    refine ⟨fun hlc o' ho => onAll_mailbox_granted_reply h ?_, fun hlc hlatch => ?_⟩
    · subst ho
      simp only [tamperClear, granted_vault, hcount, hlive, hlc, ne_eq, not_true_eq_false, if_false, Ans.ok_eq]
    · have lc : s.dev.vault.lc = 0 ∨ s.dev.vault.lc = 1 := by omega
      refine onAll_mailbox_granted_reply h ?_
      rcases lc with hlc | hlc <;>
        simp only [tamperClear, granted_vault, hcount, hlive, hlc, hlatch, ne_eq, not_true_eq_false, if_false, Ans.ok_eq]
  · rintro h d te n otk o' rfl rfl hlen hte hlc hlatch htrng hotk rfl rfl
    refine onAll_mailbox_granted_reply h ?_
    simp only [takeOwnership, hlen, Nat.not_le.mpr hte, granted_vault, hlc, hlatch, htrng, ne_eq, not_true_eq_false, or_self,
      if_false, openOtk_granted, hotk, Ans.ok_eq]
  · rintro h d n otk o' rfl hzero hlen hlc htrng rfl hn hotk rfl
    refine onAll_mailbox_granted_reply h ?_
    simp only [ownerRotate, hlen, hzero, granted_vault, hlc, htrng, hn, ne_eq, not_true_eq_false, or_self,
      if_false, openOtk_granted, hotk, Ans.ok_eq]

end Sys2Proof.Machine
end

section
/-! What the TABLE, FABRIC and QUEUE commands answer and do (R206 to R212, R226 to R241, R259 to R264). -/
namespace Sys2Proof.Machine

set_option Elab.async false

/-! ### What a command reads of the tables, the fabric and the queues -/

@[simp] theorem scopeDies_taken (t : Target) (op : Nat) (r : Request) (s : State) :
    scopeDies t (taken op r s) = scopeDies t s.dev := rfl

@[simp] theorem macFind_taken (die fid mac op : Nat) (r : Request) (s : State) :
    macFind die fid mac (taken op r s) = macFind die fid mac s.dev := rfl

@[simp] theorem pfxFind_taken (v6 : Bool) (die fid len p op : Nat) (r : Request) (s : State) :
    pfxFind v6 die fid len p (taken op r s) = pfxFind v6 die fid len p s.dev := rfl

@[simp] theorem tableFigures_taken (k : Tid) (stash : Bool) (die op : Nat) (r : Request) (s : State) :
    tableFigures k stash die (taken op r s) = tableFigures k stash die s.dev := rfl

@[simp] theorem directFigures_taken (table die op : Nat) (r : Request) (s : State) :
    directFigures table die (taken op r s) = directFigures table die s.dev := rfl

@[simp] theorem group_taken (g op : Nat) (r : Request) (s : State) : group g (taken op r s) = group g s.dev := rfl

@[simp] theorem otherEntries_taken (g k op : Nat) (r : Request) (s : State) :
    otherEntries g k (taken op r s) = otherEntries g k s.dev := rfl

@[simp] theorem oldVersionUsed_taken (g op : Nat) (r : Request) (s : State) :
    oldVersionUsed g (taken op r s) = oldVersionUsed g s.dev := rfl

@[simp] theorem isPlain_taken (p op : Nat) (r : Request) (s : State) : isPlain p (taken op r s) = isPlain p s.dev := rfl

@[simp] theorem isPlain_granted (p op : Nat) (r : Request) (s : State) :
    isPlain p (granted op r s) = isPlain p s.dev := by
  unfold isPlain portPrm prm
  rw [granted_cfg]

@[simp] theorem queueAt_taken (q op : Nat) (r : Request) (s : State) : queueAt q (taken op r s) = queueAt q s.dev := rfl

@[simp] theorem queueBytes_taken (q op : Nat) (r : Request) (s : State) :
    queueBytes q (taken op r s) = queueBytes q s.dev := rfl

@[simp] theorem queueSpilled_taken (q op : Nat) (r : Request) (s : State) :
    queueSpilled q (taken op r s) = queueSpilled q s.dev := rfl

theorem paired_congr {d e : Dev} (h : d.twin = e.twin) : paired d = paired e := by
  unfold paired
  rw [h]

theorem sharedState_granted (t : Target) (pl : Bytes) (op : Nat) (r : Request) (s : State) :
    sharedState t pl (granted op r s) = sharedState t pl s.dev := by
  unfold sharedState pairedSecondary
  rw [paired_congr (granted_twin op r s), granted_twin]

/-! ### The bodies of the commands -/

/-- R235: the member list after an operation that is in order. -/
theorem groupAfter_of_valid {op : Nat} {codes old l : List Nat} (hop : op < 4) (h0 : op = 0 → l = codes)
    (h1 : op = 1 → (∀ m ∈ codes, m ∉ old) ∧ l = old ++ codes)
    (h2 : op = 2 → (∀ m ∈ codes, m ∈ old) ∧ l = old.filter (fun m => !codes.contains m)) (h3 : op = 3 → l = []) :
    groupAfter op old codes = some l := by
  have cases : op = 0 ∨ op = 1 ∨ op = 2 ∨ op = 3 := by omega
  rcases cases with rfl | rfl | rfl | rfl
  · rw [h0 rfl]; rfl
  · obtain ⟨new, rfl⟩ := h1 rfl
    simpa [groupAfter] using new
  · obtain ⟨known, rfl⟩ := h2 rfl
    simpa [groupAfter] using known
  · rw [h3 rfl]; rfl

/-- Settles O14: each command's own answer, under what its clause asks. -/
theorem tableFabricAndQueueCommandsAnswer : Obligations.TableFabricAndQueueCommandsAnswer := by
  refine ⟨fun r t s e table he htable => ⟨?_, ?_, ?_, ?_, ?_, ?_, ?_⟩, fun r p s => ⟨?_, ?_, ?_, ?_, ?_, ?_, ?_, ?_⟩,
    fun r n p i s hi => ⟨?_, ?_, ?_, ?_, ?_, ?_⟩⟩
  · subst he htable
    rintro h d rfl ds l d' rep hok hds rfl
    refine ⟨fun fid mac hkey hall => onMailbox_reply h ?_, fun v6 fid len p hkey hall => onMailbox_reply h ?_,
      fun die fid mac pos x d1 ht hdie hkey hd1 hpos hx hlock hfid hmac =>
        ⟨fun hrep => onMailbox_reply h ?_, fun hrep => onMailbox_fail h ?_⟩⟩
    · simp only [tableAdd, hkey, hok, need_true, scopeDies_taken, hds, hall, Ans.ok_eq]
    · simp only [tableAdd, hkey, hok, need_true, scopeDies_taken, hds, hall, Ans.ok_eq]
    · subst hdie hfid hmac
      simp only [tableAdd, hkey, hok, need_true, scopeDies_taken, hds, onDies, hd1, addMacOn, hpos, hx, hrep, hlock, Bool.not_true,
        Bool.or_self, Bool.false_eq_true, if_false, List.nil_append, Ans.ok_eq]
    · subst hdie hfid hmac
      simp only [tableAdd, hkey, hok, need_true, scopeDies_taken, hds, onDies, hd1, addMacOn, hpos, hx, hrep, Bool.not_false,
        Bool.true_or, if_true]
  · subst he htable
    rintro h d rfl ds key l d' hok hds hkey hall
    refine onMailbox_reply h ?_
    simp only [tableDelete, hkey, hok, need_true, scopeDies_taken, hds, hall, Ans.ok_eq]
  · subst he htable
    rintro h d rfl hok
    refine ⟨fun fid mac pos x hkey hpos hx => onMailbox_reply h ?_, fun fid mac hkey hpos => onMailbox_reply h ?_,
      fun v6 fid len p pos x hkey hpos hheld => onMailbox_reply h ?_⟩
    · simp only [tableLookup, hkey, hok, need_true, macFind_taken, hpos, taken_cls, hx, Option.map_some, Ans.ok_eq]
    · simp only [tableLookup, hkey, hok, need_true, macFind_taken, hpos, Ans.ok_eq]
    · simp only [tableLookup, hkey, hok, need_true, pfxFind_taken, hpos, hheld, if_false, Ans.ok_eq]
  · subst htable
    rintro h d rfl ds flags fid dest rfl rfl rfl hds htab hfid hdest
    refine onMailbox_pend h ?_
    have fields : (decide (fld (payload r) 0 1 = 3 ∨ fld (payload r) 0 1 = 7 ∨ fld (payload r) 0 1 = 9) &&
        (!bit (fld (payload r) 1 1) 1 || decide (fld (payload r) 2 2 < 4096)) &&
        (!bit (fld (payload r) 1 1) 2 || destValid (fld (payload r) 4 4))) = true := by
      rw [decide_eq_true htab]
      cases h1 : bit (fld (payload r) 1 1) 1 <;> cases h2 : bit (fld (payload r) 1 1) 2 <;> simp_all
    exact (need_of_true fields _ _).trans (by simp only [scopeDies_taken, hds])
  · subst htable
    rintro h d rfl
    refine ⟨fun k used st locked pinned hk hf => onMailbox_reply h ?_, fun k used st locked pinned hk hf => onMailbox_reply h ?_,
      fun n used hk hf => onMailbox_reply h ?_⟩
    · simp only [tableInfo, hk, tableFigures_taken, hf]
      rfl
    · simp only [tableInfo, hk, tableFigures_taken, hf]
      rfl
    · simp only [tableInfo, hk, directFigures_taken, hf, Ans.ok_eq]
  · rintro h d rfl fid mac die pos x rfl rfl hfid rfl hpos hx
    refine ⟨fun hpin => onMailbox_reply h ?_, fun hpin => onMailbox_fail h ?_⟩
    · have one : unpinOn (fld (payload r) 0 2) (fldBe (payload r) 2 6) die (taken 0x0706 r s) =
        some (macSet die pos (unpin (msNow (taken 0x0706 r s)) x) (taken 0x0706 r s)) := by
        simp only [unpinOn, macFind_taken, hpos, taken_cls, hx, hpin, if_true]
      simp only [tableUnpin, hfid, decide_true, need_true, scopeDies, List.any_cons, one, Option.isSome_some, Bool.true_or,
        List.foldl_cons, List.foldl_nil, Option.getD_some, Ans.ok_eq]
    · have none : unpinOn (fld (payload r) 0 2) (fldBe (payload r) 2 6) die (taken 0x0706 r s) = Option.none := by
        simp only [unpinOn, macFind_taken, hpos, taken_cls, hx, hpin, Bool.false_eq_true, if_false]
      simp only [tableUnpin, hfid, decide_true, need_true, scopeDies, List.any_cons, List.any_nil, none, Option.isSome_none,
        Bool.or_self, need_false]
  · rintro h d rfl
    exact onMailbox_reply h (by rfl)
  · rintro h d rfl g op n off codes rfl rfl rfl rfl hcodes hg hn hop hoff hend hvalid hdist
    have bounds : decide (fld (payload r) 0 2 < 8192 ∧ fld (payload r) 4 4 ≤ 1024 ∧ (fld (payload r) 2 1 = 3 → fld (payload r) 4 4 = 0) ∧
        fld (payload r) 8 4 % 4 = 0 ∧ fld (payload r) 8 4 + 4 * fld (payload r) 4 4 ≤ 4194304) = true :=
      decide_eq_true ⟨hg, hn, hop, hoff, hend⟩
    have read : readCodes (stagingRead (fld (payload r) 8 4) (4 * fld (payload r) 4 4) (taken 0x0901 r s)) = codes := hcodes
    have members : (codes.all (fun m => destValid m && decide (m / 2 ^ 28 = 1 ∨ m / 2 ^ 28 = 2)) && distinct codes) = true := by
      rw [hdist, Bool.and_true, List.all_eq_true]
      exact fun m hm => Bool.and_eq_true_iff.mpr ⟨(hvalid m hm).1, decide_eq_true (hvalid m hm).2⟩
    refine ⟨fun hup => onMailbox_fail h ?_, fun hup l x hx h0 h1 h2 h3 hlen hroom hold => onMailbox_reply h ?_⟩
    · refine (need_of_true bounds _ _).trans ?_
      rw [read, need_of_true members, presentUp_taken, hup, need_false]
    · subst hx
      have opOk : fld (payload r) 2 1 < 4 := of_decide_eq_true (Bool.and_eq_true_iff.mp h.asked.resv).1
      have room : (decide (l.length ≤ 1024) && (List.range 4).all (fun k => decide
          ((l.filter (fun m => decide (destDie m = k))).length + otherEntries (fld (payload r) 0 2) k (taken 0x0901 r s) ≤ 65536))) = true := by
        rw [decide_eq_true hlen, Bool.true_and, List.all_eq_true]
        exact fun k hk => decide_eq_true (hroom k (List.mem_range.mp hk))
      refine (need_of_true bounds _ _).trans ?_
      rw [read, need_of_true members, presentUp_taken, hup, need_true, group_taken, groupAfter_of_valid opOk h0 h1 h2 h3]
      dsimp only
      rw [need_of_true room, oldVersionUsed_taken, hold]
      rfl
  · rintro h d rfl g off x rfl rfl rfl hg hoff hend
    refine onMailbox_reply h ?_
    simp only [groupQuery, hg, hoff, hend, group_taken, and_self, decide_true, need_true]
    rfl
  · rintro h hplain d rfl
    have off : fld (payload r) 0 1 ≠ 1 := of_decide_eq_false h.plain
    have zero : fld (payload r) 0 1 = 0 := by
      have two : fld (payload r) 0 1 < 2 := of_decide_eq_true (Bool.and_eq_true_iff.mp h.asked.resv).1
      omega
    refine onMailbox_reply h ?_
    simp only [mirrorPlainEnable, Target.portNo, isPlain_taken, hplain, zero, decide_true, Bool.true_or, need_true]
    rfl
  · rintro h hplain d rfl
    have on : fld (payload r) 0 1 = 1 := of_decide_eq_true h.needs
    have up : vaultUp (granted 0x0903 r s) = vaultUp s.dev := granted_vaultUp _ _ _
    have listed : (granted 0x0903 r s).fab = s.dev.fab := granted_fab _ _ _
    have alone := sharedState_granted (.port p) (payload r) 0x0903 r s
    refine ⟨fun hup => onMailbox_granted_fail h ?_ (hs := alone), fun hup hp => onMailbox_granted_reply h ?_ (hs := alone),
      fun hup hp => onMailbox_granted_reply h ?_ (hs := alone)⟩
    · simp only [mirrorPlainEnable, Target.portNo, isPlain_granted, hplain, on, up, hup, need_true, Nat.one_ne_zero, decide_false,
        Bool.or_self, need_false]
    · simp only [mirrorPlainEnable, Target.portNo, isPlain_granted, hplain, on, up, hup, need_true, Nat.one_ne_zero, decide_false,
        Bool.false_or, analysisOn, listed, List.contains_iff_mem.mpr hp, if_true, Ans.ok_eq]
    · have absent : s.dev.fab.analysis.contains p = false := by simpa using hp
      simp only [mirrorPlainEnable, Target.portNo, isPlain_granted, hplain, on, up, hup, need_true, Nat.one_ne_zero, decide_false,
        Bool.false_or, analysisOn, listed, absent, if_true]
      rfl
  · rintro h d rfl k rfl
    refine ⟨fun hm => onMailbox_reply h ?_, fun m hm => onMailbox_reply h ?_⟩
    · simp only [mirrorQuery, prm_taken, hm]
      rfl
    · simp only [mirrorQuery, prm_taken, hm]
      have state : (if mirrorBlocked m (taken 0x0904 r s).fab.nextFrame (taken 0x0904 r s) && m.enabled then 2 else if m.enabled then 1 else 0) =
          if m.enabled = false then 0 else if mirrorBlocked m (taken 0x0904 r s).fab.nextFrame (taken 0x0904 r s) = true then 2 else 1 := by
        cases m.enabled <;> cases mirrorBlocked m (taken 0x0904 r s).fab.nextFrame (taken 0x0904 r s) <;> rfl
      rw [state, taken_cfg]
      by_cases hp : m.point = 4 <;> cases m.source <;> cases s.dev.cfg.active <;> simp only [hp, if_true, if_false] <;> rfl
  · rintro h d rfl
    refine onMailbox_reply h ?_
    simp only [fabricPortQuery, Target.portNo]
    cases portPrm p (taken 0x0905 r s) <;> rfl
  · rintro n h d rfl
    exact onMailbox_reply h (by rfl)
  · rintro n h d rfl own bad spilled held rfl rfl rfl rfl
    exact onMailbox_reply h (by rfl)
  · rintro h hlt d rfl q y x busy rfl rfl rfl rfl
    subst hi
    refine onMailbox_reply h ?_
    refine (need_of_true (decide_eq_true hlt) _ _).trans ?_
    dsimp only [Target.dieNo]
    cases Map.get? (prm (taken 0x0801 r s)).queues (2 ^ 18 * n + fld (payload r) 0 4) <;> rfl
  · rintro h hlt d rfl k rfl
    subst hi
    refine ⟨fun hx => onMailbox_reply h ?_, fun x b m hx hb hm => onMailbox_reply h ?_⟩
    · refine (need_of_true (decide_eq_true hlt) _ _).trans ?_
      simp only [Target.dieNo, hx, Ans.ok_eq]
    · subst hb hm
      refine (need_of_true (decide_eq_true hlt) _ _).trans ?_
      simp only [Target.dieNo, hx]
      rfl
  · rintro h hlt d rfl k rfl
    subst hi
    refine ⟨fun hx => onMailbox_reply h ?_, fun x b hx hb => onMailbox_reply h ?_⟩
    · refine (need_of_true (decide_eq_true hlt) _ _).trans ?_
      simp only [Target.dieNo, hx]
      rfl
    · subst hb
      refine (need_of_true (decide_eq_true hlt) _ _).trans ?_
      simp only [Target.dieNo, hx]
      rfl
  · rintro h d rfl x hx
    refine onMailbox_reply h ?_
    have own : portPrm p (taken 0x0804 r s) = some x := hx
    simp only [portSchedQuery, Target.portNo, own, Option.getD_some]
    rfl
  · rintro h d rfl
    exact onMailbox_reply h (by rfl)
  · rintro h hlt d rfl q k b e rfl hq rfl rfl rfl
    subst hi
    have defined : Map.has (prm (taken 0x0806 r s)).queues (2 ^ 18 * n + fld (payload r) 0 4) = true := hq
    refine ⟨fun hs => onMailbox_reply h ?_, fun hs => onMailbox_pend h ?_⟩
    · simp only [queueFlush, Target.dieNo, hlt, decide_true, need_true, defined, queueSpilled_taken, hs, Nat.lt_irrefl, decide_false,
        Bool.false_eq_true, if_false]
      rfl
    · simp only [queueFlush, Target.dieNo, hlt, decide_true, need_true, defined, queueSpilled_taken, hs, if_true]
      rfl

end Sys2Proof.Machine
end

section
/-! What the TIME and PTP commands answer and do (R283 to R292, R312 to R316). -/
namespace Sys2Proof.Machine

set_option Elab.async false

/-! ### The bodies of the commands -/

theorem hostIn_of_mem {l : List TimeState} {d : Dev} (hhost : timeSourceNow d = 3) (hstate : d.time.state ∈ l) :
    hostIn l d = true := by
  simp [hostIn, hhost, hstate]

/-- R285: a step that the source and the state allow. -/
theorem timeStepCmd_of_allowed {c : Ctx} {d : Dev} (hvalid : (tsFld c.pl 0).valid = true) (hnew : (tsFld c.pl 12).valid = true)
    (hhost : timeSourceNow d = 3) (hstate : d.time.state = .acquire) (hclose : stepClose d = false) :
    timeStepCmd c d =
      let put (at_ : Nat) (h mb : Option Nat) : Dev :=
        decideStep { at_ := at_, new := tsFld c.pl 12, handle := h, mailbox := mb, newRate := none, delivered := [], residual := 0 }
          (replaceStep d)
      if (tsFld c.pl 0).isZero then .run 0 (put (firstWhole 1000 20000 d) none (some c.mb))
      else
        need (decide (d.time.grand + 50000 * unitsPerNs ≤ unitsOf (tsFld c.pl 0))) .timePassed <|
        need (decide (unitsOf (tsFld c.pl 0) ≤ d.time.grand + 86400 * unitsPerS)) .badField <|
        .pend (boundTo (unitsOf (tsFld c.pl 0)) d) 0 (put (unitsOf (tsFld c.pl 0)) (some c.handle) none) := by
  unfold timeStepCmd
  dsimp only
  rw [hvalid, hnew, hclose, decide_eq_true ⟨hhost, hstate⟩]
  rw [Bool.and_self, Bool.not_false, Bool.and_self, need_of_true rfl, need_of_true rfl]

/-- R288: a pulse whose fields are in order, outside ACQUIRE. -/
theorem timePulseSet_of_ok {c : Ctx} {d e : Dev} (hok : pulseOk (fld c.pl 1 1) (fld c.pl 4 4) (fld c.pl 20 8) (tsFld c.pl 8) = true)
    (hacq : d.time.state ≠ .acquire)
    (hlead : fld c.pl 1 1 = 1 → d.time.grand + 50000 * 2 ^ 32 ≤ unitsOf (tsFld c.pl 8))
    (hon : (tpo (fld c.pl 0 1) d).activeUntil = none → (tpo (fld c.pl 0 1) d).polarity ≠ fld c.pl 2 1 →
      e = emit (.pulse (fld c.pl 0 1) (decide (fld c.pl 2 1 = 1))) d)
    (hoff : (tpo (fld c.pl 0 1) d).activeUntil ≠ none ∨ (tpo (fld c.pl 0 1) d).polarity = fld c.pl 2 1 → e = d) :
    timePulseSet c d =
      let y : Tpo := ⟨fld c.pl 1 1, fld c.pl 2 1, fld c.pl 4 4, tsFld c.pl 8, fld c.pl 20 8, none, (tpo (fld c.pl 0 1) d).activeUntil⟩
      .reply .ok [] (setTpo (fld c.pl 0 1)
        { y with
          next :=
            if fld c.pl 1 1 = 1 then some (unitsOf (tsFld c.pl 8)) else if fld c.pl 1 1 = 2 then some (pulseStart y e) else none } e) := by
  have early : (decide (fld c.pl 1 1 ≠ 1) || decide (d.time.grand + 50000 * unitsPerNs ≤ unitsOf (tsFld c.pl 8))) = true := by
    by_cases h : fld c.pl 1 1 = 1
    · rw [decide_eq_true (show d.time.grand + 50000 * unitsPerNs ≤ unitsOf (tsFld c.pl 8) from hlead h), Bool.or_true]
    · rw [decide_eq_true h, Bool.true_or]
  have driven : (if (tpo (fld c.pl 0 1) d).activeUntil.isNone && decide ((tpo (fld c.pl 0 1) d).polarity ≠ fld c.pl 2 1) then
      emit (.pulse (fld c.pl 0 1) (decide (fld c.pl 2 1 = 1))) d else d) = e := by
    split
    next h =>
      obtain ⟨idle, differs⟩ := Bool.and_eq_true_iff.mp h
      exact (hon (Option.isNone_iff_eq_none.mp idle) (of_decide_eq_true differs)).symm
    next h =>
      refine (hoff ?_).symm
      by_contra both
      rw [not_or, not_not] at both
      exact h (by rw [both.1, decide_eq_true both.2]; rfl)
  unfold timePulseSet
  dsimp only
  rw [need_of_true hok, decide_eq_true hacq, need_true, need_of_true early, driven, Ans.ok_eq]

/-- Settles O15: each command's own answer, under what its clause asks. -/
theorem timeAndPtpCommandsAnswer : Obligations.TimeAndPtpCommandsAnswer := by
  refine ⟨fun r t s => ⟨?_, ?_, ?_, ?_, ?_, ?_, ?_, ?_, ?_, ?_⟩, fun r p t s => ⟨?_, ?_, ?_, ?_, ?_⟩⟩
  · rintro h d rfl flags locks rfl rfl
    exact onMailbox_reply h (by rfl)
  · rintro h d rfl
    refine ⟨fun hor => onMailbox_reply h ?_, fun hacq hat => onMailbox_reply h ?_⟩
    · rw [taken_time] at hor
      by_cases hacq : s.dev.time.state = .acquire
      · simp only [timeUnlock, taken_time, hacq, if_true, Ans.ok_eq]
      · simp only [timeUnlock, taken_time, hacq, if_false, askAcquire, hor.resolve_left hacq, if_true, Ans.ok_eq]
    · rw [taken_time] at hacq hat
      simp only [timeUnlock, taken_time, hacq, if_false, askAcquire, hat, Option.isSome_none, Bool.false_eq_true]
      rfl
  · rintro h d rfl at_ new rfl rfl hvalid hnew hhost hacq hclose e rfl
    refine ⟨fun hz => onMailbox_run h ?_, fun hz hlead hday => onMailbox_pend h ?_⟩
    · rw [timeStepCmd_of_allowed (c := ctxOf r t s) hvalid hnew hhost hacq hclose]
      dsimp only
      rw [hz, if_pos rfl]
      rfl
    · rw [timeStepCmd_of_allowed (c := ctxOf r t s) hvalid hnew hhost hacq hclose]
      dsimp only
      rw [hz, if_neg Bool.false_ne_true]
      refine (need_of_true (decide_eq_true hlead) _ _).trans ((need_of_true (decide_eq_true hday) _ _).trans ?_)
      rfl
  · rintro h d rfl x rfl hlow hhigh hhost hrun
    refine onMailbox_reply h ?_
    have allowed : hostIn [.acquire, .track, .locked, .holdover] (taken 0x0A04 r s) = true := by
      refine hostIn_of_mem hhost ?_
      cases hst : (taken 0x0A04 r s).time.state <;> simp_all
    refine (need_of_true (decide_eq_true ⟨hlow, hhigh⟩) _ _).trans ((need_of_true allowed _ _).trans ?_)
    rfl
  · rintro h d rfl x rfl hx hhost hrun hroom
    refine onMailbox_reply h ?_
    have allowed : (hostIn [.track, .locked, .holdover] (taken 0x0A05 r s) &&
        decide (1024000 ≤ slewRoom (decide (0 ≤ toSigned 64 (fld (payload r) 0 8))) (taken 0x0A05 r s))) = true := by
      rw [hostIn_of_mem hhost (by rcases hrun with hst | hst | hst <;> rw [hst] <;> decide), decide_eq_true hroom]
      rfl
    refine (need_of_true (decide_eq_true hx) _ _).trans ((need_of_true allowed _ _).trans ?_)
    rfl
  · rintro h d rfl pin mode width period start x rfl rfl rfl rfl rfl rfl hvalid hacq e hon hoff
    refine ⟨fun hm hp => onMailbox_reply h ?_, fun hm hp hlow hhigh hlead => onMailbox_reply h ?_,
      fun hm hlow hhigh hp1 hp2 hp3 y hy => onMailbox_reply h ?_⟩
    · rw [timePulseSet_of_ok (c := ctxOf r t s) (e := e) (by simp [pulseOk, hvalid, hm, hp]) hacq (by simp [hm]) hon hoff]
      simp [hm, hp]
    · rw [timePulseSet_of_ok (c := ctxOf r t s) (e := e) (by simp [pulseOk, hvalid, hm, hp, hlow, hhigh]) hacq (fun _ => hlead) hon hoff]
      simp [hm, hp]
    · rw [timePulseSet_of_ok (c := ctxOf r t s) (e := e) (by simp only [pulseOk, hvalid, hm, hlow, hhigh, hp1, hp2, hp3]; rfl) hacq (by simp [hm]) hon hoff]
      subst hy
      simp [hm]
  · rintro h d rfl pin e rfl rfl
    refine ⟨fun he => onMailbox_reply h ?_, fun he => onMailbox_reply h ?_⟩
    · simp only [timeCaptureSet, he, if_true, Ans.ok_eq]
    · simp only [timeCaptureSet, he, if_false, Ans.ok_eq]
  · rintro h d rfl pin n x rfl rfl rfl h1 h32
    refine onMailbox_reply h ?_
    refine (need_of_true (decide_eq_true ⟨h1, h32⟩) _ _).trans ?_
    rw [List.length_take]
    rfl
  · rintro h d rfl hptm hl0
    have ready : ((taken 0x0A09 r s).time.ptmEnabled && (taken 0x0A09 r s).time.linkL0) = true := by rw [hptm, hl0]; rfl
    refine ⟨Config.freeNat (s.dev.free + 1), Config.freeNat (s.dev.free + 2), ?_⟩
    by_cases odd : Config.freeNat s.dev.free % 2 = 1
    · exact .inr (onMailbox_reply h ((need_of_true ready _ _).trans (if_pos odd)))
    · exact .inl (onMailbox_reply h ((need_of_true ready _ _).trans (if_neg odd)))
  · rintro h d rfl
    exact onMailbox_reply h (by rfl)
  · rintro h d rfl n l rfl h1 h64 rfl
    refine onMailbox_reply h ?_
    refine (need_of_true (decide_eq_true ⟨h1, h64⟩) _ _).trans ?_
    rw [List.length_take]
    rfl
  · rintro h d rfl x i hx rfl
    refine onMailbox_reply h ?_
    have own : portPrm p (taken 0x0A0C r s) = some x := hx
    simp only [ptpPortQuery, Target.portNo, own, Option.getD_some]
    rfl
  · rintro h d rfl x v hx hmode hhost rfl hlow hhigh
    refine onMailbox_reply h ?_
    have own : portPrm p (taken 0x0A0D r s) = some x := hx
    simp only [ptpLinkDelaySet, Target.portNo, own, hmode, hhost, hlow, hhigh, and_self, decide_true, Bool.and_self, need_true, Ans.ok_eq]
  · rintro h d rfl i x y a rfl rfl rfl rfl mpd rfl
    exact onMailbox_reply h (by rfl)
  · rintro h d rfl
    exact onMailbox_reply h (by rfl)

end Sys2Proof.Machine
end

section
/-! What the gate-list and timed-action commands answer and do (R342 to R349). -/
namespace Sys2Proof.Machine

set_option Elab.async false

/-! ### What the commands read -/

theorem changeClose_of_early {g : GateSt} {d : Dev}
    (h : ∀ t, g.change = some t → d.time.grand / 65536 + 20000 * 65536 ≤ t) : changeClose g d = false := by
  unfold changeClose
  cases hc : g.change with
  | none => rfl
  | some t => exact decide_eq_false (Nat.not_lt.mpr (h t hc))

theorem cdSecy_of_port {c : Ctx} {d : Dev} {p : Nat} {x : SecyPrm} (hc : c.target = .port p)
    (hx : secyPrm (portDie p) (fld c.pl 0 2) d = some x) (hp : x.port = p) : cdSecy c d = some x := by
  unfold cdSecy
  rw [hc]
  dsimp only [Target.dieNo, Target.portNo]
  rw [hx]
  exact if_pos hp

/-- Settles O16: each command's own answer, under what its clause asks. -/
theorem gateAndTimedActionCommandsAnswer : Obligations.GateAndTimedActionCommandsAnswer := by
  refine ⟨fun r p s => ⟨?_, ?_, ?_, ?_⟩, fun r p t s => ⟨?_, ?_, ?_, ?_⟩⟩
  · rintro h d rfl n off entries l now_ at_ rfl rfl rfl rfl rfl rfl hok hday hacq hclose
    refine onMailbox_reply h ?_
    refine (need_of_true (Bool.and_eq_true_iff.mpr ⟨hok, decide_eq_true hday⟩) _ _).trans ?_
    have open_ : (decide ((taken 0x0B01 r s).time.state ≠ .acquire) &&
        !changeClose (gateSt p (taken 0x0B01 r s)) (taken 0x0B01 r s)) = true := by
      rw [changeClose_of_early hclose, decide_eq_true hacq]
      rfl
    refine (need_of_true open_ _ _).trans ?_
    rfl
  · rintro h d rfl t ht hearly
    refine onMailbox_reply h ?_
    have open_ : ((gateSt p (taken 0x0B02 r s)).change.isSome &&
        !changeClose (gateSt p (taken 0x0B02 r s)) (taken 0x0B02 r s)) = true := by
      rw [changeClose_of_early (fun t' ht' => Option.some.inj (ht.symm.trans ht') ▸ hearly), ht]
      rfl
    refine (need_of_true open_ _ _).trans ?_
    rfl
  · rintro h d rfl l off rfl hl hoff hend
    refine onMailbox_reply h ?_
    have list : (if fld (ctxOf r (.port p) s).pl 0 1 = 0 then (gateSt (ctxOf r (.port p) s).target.portNo (taken 0x0B03 r s)).admin
        else (gateSt (ctxOf r (.port p) s).target.portNo (taken 0x0B03 r s)).oper) = some l := hl
    unfold gateListRead
    dsimp only
    rw [list]
    refine (need_of_true (decide_eq_true ⟨hoff, hend⟩) _ _).trans ?_
    rfl
  · rintro h d rfl g en running rfl rfl rfl
    refine onMailbox_reply h ?_
    unfold gateStatus
    dsimp only [Target.portNo]
    cases (gateSt p (taken 0x0B04 r s)).change <;> cases (gateSt p (taken 0x0B04 r s)).restart <;> rfl
  · rintro h d rfl i n v x rfl rfl rfl hi hv hx hp hkey
    refine onMailbox_reply h ?_
    have own : cdSecy (ctxOf r (.port p) s) (taken 0x0B05 r s) = some x := cdSecy_of_port rfl hx hp
    refine (need_of_true (decide_eq_true ⟨hi, hv⟩) _ _).trans ?_
    rw [own]
    refine (need_of_true hkey _ _).trans ?_
    rfl
  · rintro h d rfl i n x stamps told flags rfl rfl hi hx hp rfl rfl rfl
    refine onMailbox_reply h ?_
    have own : cdSecy (ctxOf r (.port p) s) (taken 0x0B06 r s) = some x := cdSecy_of_port rfl hx hp
    refine (need_of_true (decide_eq_true hi) _ _).trans ?_
    rw [own]
    rfl
  · rintro h d rfl off m all rfl rfl rfl hoff h1 hmax hend
    refine onMailbox_reply h ?_
    refine (need_of_true (decide_eq_true ⟨hoff, h1, hmax, hend⟩) _ _).trans ?_
    rfl
  · rintro h d rfl
    exact onMailbox_reply h (by rfl)

end Sys2Proof.Machine
end

section
/-! What the MEMORY commands answer and do (R370 to R373). -/
namespace Sys2Proof.Machine

set_option Elab.async false

/-- R371: a region that shows as in service is not waiting for a re-key. -/
theorem not_waiting_of_shown {k : Nat} {d : Dev} (h : shownState k d = .inService) : (region k d).state ≠ .waiting := by
  unfold shownState at h
  split at h
  · cases h
  · rw [h]
    decide

/-- Settles O17: each command's own answer, under what its clause asks. -/
theorem memoryCommandsAnswer : Obligations.MemoryCommandsAnswer := by
  intro r t s k hk
  subst hk
  refine ⟨?_, ?_, ?_, ?_, ?_⟩
  · rintro h d rfl n rfl
    exact onMailbox_reply h (by rfl)
  · rintro h d rfl hlt hshown
    refine onMailbox_pend h ?_
    simp only [memRegionRekey, hlt, hshown, not_waiting_of_shown hshown, ne_eq, not_false_eq_true, decide_true, need_true]
    rfl
  · rintro h d rfl hlt hout hnone d' rfl
    refine ⟨fun htrng => onMailbox_pend h ?_, fun htrng => onMailbox_pend h ?_⟩
    all_goals
      simp only [memRegionReturn, hlt, hout, hnone, decide_true, Option.isNone_none, need_true, Ans.pend.injEq, true_and]
    · exact if_pos htrng
    · exact if_neg (not_not.mpr htrng)
  · rintro h d rfl hlt hout hsome
    refine onMailbox_fail h ?_
    have waits : (region (fld (payload r) 0 4) (taken 0x0C03 r s)).handle.isNone = false := by
      rw [← Option.not_isSome, hsome]
      rfl
    simp only [memRegionReturn, hlt, hout, waits, decide_true, need_true, need_false]
  · rintro h d rfl
    exact onMailbox_reply h (by rfl)

end Sys2Proof.Machine
end

section
/-! What the PORT and LANE commands answer and do (R395 to R400). -/
namespace Sys2Proof.Machine

set_option Elab.async false

theorem laneSt_respond (l : Nat) (a : Reply) (st : Status) (pl : Bytes) (d : Dev) :
    laneSt l (respond a st pl d) = laneSt l d := by
  simp only [laneSt, respond_port]

/-- R388: what the end of a scan leaves. -/
theorem endScan_of_scan {l : Nat} {d : Dev} {x : EyeScan} (h : (laneSt l d).scan = some x) :
    endScan l d = complete x.handle .badState [] (setLaneSt l { laneSt l d with scan := none } d) := by
  unfold endScan
  rw [h]

/-- R396: the operation of PORT_ADMIN on a port that the active set has. -/
theorem portAdmin_of_port {c : Ctx} {d : Dev} {x : PortPrm} (hx : portPrm c.target.portNo d = some x)
    (htwin : c.target.portNo = 96 → twinAttached d = false) :
    portAdmin c d =
      if fld c.pl 0 1 = 0 then .ok [] (adminDisable c.target.portNo d)
      else if fld c.pl 0 1 = 1 then need (decide (d.vault.lc ≠ 4)) .badState (.ok [] (adminEnable c.target.portNo d))
      else if fld c.pl 0 1 = 2 then
        need (!portIn .disabled c.target.portNo d && decide (x.form ≤ 3 ∨ x.form = 7)) .badState
          (.ok [] (if x.form = 7 then portAgain false c.target.portNo d else startTraining false c.target.portNo d))
      else need (!portIn .disabled c.target.portNo d && negotiates x) .badState
        (.ok [] (portTo .an c.target.portNo (anReset c.target.portNo d))) := by
  have free : (!(decide (c.target.portNo = 96) && twinAttached d)) = true := by
    by_cases h : c.target.portNo = 96
    · rw [htwin h, Bool.and_false]
      rfl
    · rw [decide_eq_false h]
      rfl
  unfold portAdmin
  dsimp only
  rw [hx]
  exact need_of_true free _ _

/-- Settles O18: each command's own answer, under what its clause asks. -/
theorem portAndLaneCommandsAnswer : Obligations.PortAndLaneCommandsAnswer := by
  refine ⟨fun r p s x => ⟨?_, ?_, ?_⟩, fun r p i l s hi hl => ?_⟩
  · rintro h d rfl hx y flags rfl rfl
    refine onMailbox_reply h ?_
    have own : portPrm p (taken 0x0301 r s) = some x := hx
    simp only [portQuery, Target.portNo, own, Option.getD_some]
    rfl
  · rintro h d rfl op rfl hx htwin
    have body := portAdmin_of_port (c := ctxOf r (.port p) s) hx htwin
    have up : (portSt p (taken 0x0302 r s)).state ≠ .disabled → (!portIn .disabled p (taken 0x0302 r s)) = true := fun hst => by
      rw [show portIn .disabled p (taken 0x0302 r s) = false from decide_eq_false hst]
      rfl
    refine ⟨fun hop => onMailbox_reply h (body.trans ?_), fun hop hlc => onMailbox_reply h (body.trans ?_),
      fun hop hst hform => onMailbox_reply h (body.trans ?_), fun hop hst hform => onMailbox_reply h (body.trans ?_),
      fun hop hst hneg => onMailbox_reply h (body.trans ?_)⟩
    · rw [if_pos hop]
      rfl
    · rw [if_neg (by simp [hop]), if_pos hop]
      exact need_of_true (decide_eq_true hlc) _ _
    · have other : x.form ≠ 7 := by omega
      rw [if_neg (by simp [hop]), if_neg (by simp [hop]), if_pos hop, if_neg other]
      exact need_of_true (Bool.and_eq_true_iff.mpr ⟨up hst, decide_eq_true (Or.inl hform)⟩) _ _
    · rw [if_neg (by simp [hop]), if_neg (by simp [hop]), if_pos hop, if_pos hform]
      exact need_of_true (Bool.and_eq_true_iff.mpr ⟨up hst, decide_eq_true (Or.inr hform)⟩) _ _
    · rw [if_neg (by simp [hop]), if_neg (by simp [hop]), if_neg (by simp [hop])]
      exact need_of_true (Bool.and_eq_true_iff.mpr ⟨up hst, hneg⟩) _ _
  · rintro h d rfl
    exact onMailbox_reply h (by rfl)
  · subst hi hl
    refine ⟨?_, ?_, ?_⟩
    · rintro h d rfl x y st hlane rfl hy rfl
      refine onMailbox_reply h ?_
      have own : portPrm p (taken 0x0304 r s) = some y := hy
      refine (need_of_true (decide_eq_true hlane) _ _).trans ?_
      simp only [Target.portNo, own, Option.getD_some]
      rfl
    · rintro h d rfl hMin vMin hStep vStep nH nV dwell off ns rfl rfl rfl rfl rfl rfl rfl rfl rfl hlane hok hend hns hup hscan w rfl
      refine onMailbox_pend h ?_
      refine (need_of_true (Bool.and_eq_true_iff.mpr ⟨decide_eq_true hlane, hok⟩) _ _).trans ?_
      refine (need_of_true (decide_eq_true ⟨hend, hns⟩) _ _).trans ?_
      refine (need_of_true (decide_eq_true hup) _ _).trans ?_
      refine (need_of_true (Option.isNone_iff_eq_none.mpr hscan) _ _).trans ?_
      rfl
    · rintro h d rfl x hlane hscan d' rfl
      have body : laneEyeAbort (ctxOf r (.port p) s) (taken 0x0306 r s) =
          .replyThen [] (taken 0x0306 r s) (endScan (laneOfPort p (fld (payload r) 0 1))) := by
        refine (need_of_true (decide_eq_true hlane) _ _).trans (need_of_true ?_ _ _)
        exact Option.isSome_of_eq_some hscan
      refine (onMailbox_replyThen h body).trans ?_
      rw [endScan_of_scan (by rw [show (answered 0x0306 r .ok [] (taken 0x0306 r s) s).dev = respond (replyOf 0x0306 r) .ok [] (taken 0x0306 r s) from rfl, laneSt_respond]; exact hscan)]
      rfl

end Sys2Proof.Machine
end

section
/-! What the TWIN commands answer and do (R422 to R427). -/
namespace Sys2Proof.Machine

set_option Elab.async false

theorem twin_opened (op bound object : Nat) (r : Request) (d : Dev) (s : State) :
    (opened op bound object r d s).twin = d.twin := by
  unfold opened
  rw [respond_twin]

theorem withDev_dev (s : State) (d : Dev) : (s.withDev d).dev = d := rfl
theorem withDev_otp (s : State) (d : Dev) : (s.withDev d).otp = s.otp := rfl

/-- The mailbox of an authorized command is busy. -/
theorem busy_granted (op : Nat) (r : Request) (s : State) : (mailbox r.mb.val (granted op r s)).busy = true := by
  have held : mailbox r.mb.val (granted op r s) = { mailbox r.mb.val (taken op r s) with challenge := none } :=
    mailbox_setMailbox _ _ _
  rw [held, taken_mailbox]

/-- An authorized command that keeps its mailbox busy until its effect (R48). -/
theorem onMailbox_granted_run {c : CmdInfo} {body : Ctx → Otp → Dev → Ans} {r : Request} {t : Target} {s : State} {object : Nat}
    {d : Dev} (h : Granted c r t s) (hans : body (ctxOf r t s) s.otp (granted c.op r s) = .run object d)
    (h4 : c.len % 4 = 0 := by exact rfl) (hm : c.len ≤ 4048 := by exact Nat.le_of_ble_eq_true rfl)
    (hs : c.shared t (payload r) (granted c.op r s) = c.shared t (payload r) s.dev := by exact rfl) :
    ∃ x, onMailbox c body r s = .next (s.withDev (setMailbox r.mb.val { mailbox r.mb.val d with running := some x } d)) := by
  rw [ctxOf] at hans
  rw [onMailbox_granted c body r t s h h4 hm hs, hans]
  exact ⟨_, rfl⟩

/-- R423: a pairing key that the vault can take at once. -/
theorem pairkeyInstall_of_idle {c : Ctx} {d : Dev} (hslot : fld c.pl 0 2 = 64) (hcls : fld (slice c.pl 8 64) 1 1 = 5)
    (hlen : fld (slice c.pl 8 64) 3 1 = 32) (hrun : keyLoadRunning 1023 d = false)
    (hid : idElsewhere (fld c.pl 4 4) 1023 d = false) (hq : d.vault.queue = []) :
    pairkeyInstall c d = .run 1023 { d with vault := { d.vault with
      queue := [⟨none, c.mb, 1023, 0, 0, fld c.pl 4 4, slice c.pl 8 64⟩] } } := by
  unfold pairkeyInstall
  dsimp only
  rw [need_of_true (decide_eq_true ⟨hslot, hcls, hlen⟩), hrun, hid, hq]
  rfl

/-- Settles O19: each command's own answer, under what its clause asks. -/
theorem twinCommandsAnswer : Obligations.TwinCommandsAnswer := by
  intro r t s
  refine ⟨?_, ?_, ?_, ?_, ?_, ?_⟩
  · rintro h d rfl w flags rfl rfl
    exact onMailbox_reply h (by rfl)
  · rintro h d rfl id blob rfl rfl hslot hcls hlen hrun hid hq
    obtain ⟨x, ran⟩ := onMailbox_granted_run (body := fun c _ d => pairkeyInstall c d) h (pairkeyInstall_of_idle (c := ctxOf r t s) hslot hcls hlen hrun hid hq)
    refine ⟨_, ran, ?_, ?_, ?_, ?_⟩
    · exact withDev_otp _ _
    · rw [withDev_dev, setMailbox_vault]
    · rw [withDev_dev, mailbox_setMailbox]
      exact busy_granted 0x0D02 r s
    · rw [withDev_dev, setMailbox_out]
      rfl
  · rintro h d rfl hcan hroom
    have body : twinAttachCmd (ctxOf r t s) (taken 0x0D03 r s) = .replyPend 2000 0 (taken 0x0D03 r s) _ := need_of_true hcan _ _
    refine (onMailbox_replyPend h body hroom).trans ?_
    rw [twin_opened]
    rfl
  · rintro h d rfl hst
    exact onMailbox_reply h (need_of_true (decide_eq_true hst) _ _)
  · rintro h d rfl op rfl
    refine ⟨fun hop hst hby => onMailbox_reply h ?_, fun hop hst hserve => onMailbox_reply h ?_, fun hop => onMailbox_reply h ?_⟩
    · simp only [twinTakeoverCmd, hop]
      exact need_of_true (Bool.and_eq_true_iff.mpr ⟨decide_eq_true hst, hby⟩) _ _
    · simp only [twinTakeoverCmd, hop]
      exact need_of_true (Bool.and_eq_true_iff.mpr ⟨decide_eq_true hst, hserve⟩) _ _
    · simp only [twinTakeoverCmd, hop]
      rfl
  · rintro h d rfl
    exact onMailbox_reply h (by rfl)

end Sys2Proof.Machine
end

section
/-! The next state of an event, told by what it makes of the device; and what the inputs and outputs of the time base do
(R275 to R279). -/
namespace Sys2Proof.Machine

set_option Elab.async false

section
variable {s : State} {d e : Dev}

/-- An event that leaves one-time memory alone. -/
theorem onDev_next {f : Dev → Dev} (hd : { s.dev with out := [] } = d) (he : f d = e) : onDev f s = .next (s.withDev e) := by
  subst hd he
  rfl

/-- An event that reads one-time memory. -/
theorem onOtp_next {f : Otp → Dev → Dev} (hd : { s.dev with out := [] } = d) (he : f s.otp d = e) :
    onOtp f s = .next (s.withDev e) := by
  subst hd he
  rfl

/-- An event that may program one-time memory. -/
theorem onAll_next {f : Otp → Dev → Otp × Dev} {o : Otp} (hd : { s.dev with out := [] } = d) (he : f s.otp d = (o, e)) :
    onAll f s = .next { s.withDev e with otp := o } := by
  subst hd
  rw [onAll, he]
  rfl

/-- An event that may program one-time memory and does not. -/
theorem onAll_same {f : Otp → Dev → Otp × Dev} (hd : { s.dev with out := [] } = d) (he : f s.otp d = (s.otp, e)) :
    onAll f s = .next (s.withDev e) := by
  rw [onAll_next hd he]
  rfl

end

/-! ### The inputs (R275 to R277) -/

/-- R276: the edge in a running time base, by its distance from the last one. -/
theorem ppsinEdge_first {o : Otp} {d : Dev} (hrun : d.time.running = true) (hlast : d.time.ppsLast = none) :
    ppsinEdge o d = { d with time := { d.time with
      ppsLast := some (calibrated d.time.grand (-(pinCal o 0x20 0 d)), d.time.elapsed), todNext := none } } := by
  unfold ppsinEdge
  dsimp only
  rw [hrun, hlast]
  rfl

theorem ppsinEdge_next {o : Otp} {d : Dev} {v e : Nat} (hrun : d.time.running = true) (hlast : d.time.ppsLast = some (v, e)) :
    ppsinEdge o d =
      let u := calibrated d.time.grand (-(pinCal o 0x20 0 d))
      let d1 := { d with time := { d.time with ppsLast := some (u, d.time.elapsed), todNext := none } }
      if 1000000 * unitsPerNs < ((u : Int) - v - unitsPerS).natAbs then bump .time 0 5 d1
      else match d.time.todNext with
        | some n => if timeSourceNow d1 = 2 ∧ d1.host.fwRestarting = false then measure u (n * unitsPerS) d1 else d1
        | none => d1 := by
  unfold ppsinEdge
  dsimp only
  rw [hrun, hlast]
  simp only [Option.map_some, Bool.not_true, Bool.false_eq_true, if_false] <;> rfl

theorem todWindow_of_edge {d : Dev} {u e : Nat} (hlast : d.time.ppsLast = some (u, e))
    (hearly : u + 100000000 * unitsPerNs ≤ d.time.grand) (hlate : d.time.grand ≤ u + 900000000 * unitsPerNs) :
    todWindow d = true := by
  unfold todWindow
  rw [hlast]
  exact decide_eq_true ⟨hearly, hlate⟩

theorem todWindow_none {d : Dev} (hlast : d.time.ppsLast = none) : todWindow d = false := by
  unfold todWindow
  rw [hlast]

/-- R276, R277: is the message whole, and in time? -/
def todGood (m : Bytes) (d : Dev) : Bool :=
  decide (m.length = 16 ∧ fldBe m 0 2 = 0xC33C) && decide (fldBe m 14 2 = crc16 (slice m 2 12)) && todWindow d

theorem todMessage_bad {m : Bytes} {d : Dev} (h : todGood m d = false) : todMessage m d = bump .time 0 6 d := by
  unfold todMessage
  exact if_pos (by rw [← todGood, h]; rfl)

theorem todMessage_good {m : Bytes} {d : Dev} (h : todGood m d = true) :
    todMessage m d = if fld m 2 1 = 1 ∧ bit (fld m 3 1) 0 = true ∧ fld m 3 1 / 8 = 0 ∧ fldBe m 12 2 = 0 then
      { d with time := { d.time with todNext := some (fldBe m 4 6), todInfo := fld m 3 1 * 65536 + fldBe m 10 2 } }
    else d := by
  unfold todMessage
  exact if_neg (by rw [← todGood, h]; decide)

/-! ### The outputs and captures (R277 to R279) -/

/-- R279: an edge that the pin's setting selects, at least 1 µs after the last one. -/
theorem tciEdge_of_selected {pin : Nat} {rising : Bool} {o : Otp} {d : Dev} (hrun : d.time.running = true)
    (hsel : selects (tci pin d).edge rising = true)
    (hlast : ∀ l, (tci pin d).lastEdge = some l → l + ticksUs 1 ≤ d.time.elapsed) :
    tciEdge pin rising o d =
      let x := { tci pin d with lastEdge := some d.time.elapsed }
      if 64 ≤ x.fifo.length then bump .time 0 8 (setTci pin { x with lost := x.lost + 1 } d)
      else setTci pin { x with fifo := x.fifo ++ [⟨tsOf (calibrated d.time.grand (-(pinCal o 0x21 pin d))),
        b2n rising + 2 * b2n (decide (d.time.state = .acquire)) + 4 * b2n (decide (d.time.state ≠ .locked))⟩] } d := by
  unfold tciEdge
  dsimp only
  refine if_neg ?_
  rw [hrun, hsel]
  cases h : (tci pin d).lastEdge with
  | none => exact Bool.false_ne_true
  | some l =>
    dsimp only
    rw [decide_eq_false (Nat.not_lt.mpr (hlast l h))]
    decide

/-- Settles O20: what each event makes of the device. -/
theorem timeInputsAndOutputs : Obligations.TimeInputsAndOutputs := by
  refine ⟨fun s d hd hrun => ⟨?_, ?_, ?_, ?_, ?_, ?_, ?_⟩, fun s d hd => ⟨?_, ?_, ?_⟩⟩
  · rintro u d1 rfl rfl
    refine ⟨fun hlast => onOtp_next hd (ppsinEdge_first hrun hlast), fun v e hlast hfar => onOtp_next hd ?_,
      fun v e n hlast hnear hname hsrc hfw => onOtp_next hd ?_⟩
    · rw [ppsinEdge_next hrun hlast]
      exact if_pos hfar
    · rw [ppsinEdge_next hrun hlast]
      dsimp only
      rw [if_neg (Nat.not_lt.mpr hnear), hname]
      exact if_pos ⟨hsrc, hfw⟩
  · rintro u e d1 hlast rfl
    refine onDev_next hd ?_
    unfold ppsMissing
    rw [hlast]
  · rintro m u e hlen hsync hcrc hlast hearly hlate hver hvalid hflags hzero
    refine onDev_next hd ?_
    have good : todGood m d = true := by
      unfold todGood
      rw [decide_eq_true ⟨hlen, hsync⟩, decide_eq_true hcrc, todWindow_of_edge hlast hearly hlate]
      rfl
    rw [todMessage_good good]
    exact if_pos ⟨hver, hvalid, hflags, hzero⟩
  · rintro m hbad
    refine onDev_next hd (todMessage_bad ?_)
    unfold todGood
    rcases hbad with h | h | h | h
    · simp [h]
    · simp [h]
    · simp [h]
    · simp [todWindow_none h]
  · intro hp
    refine onDev_next hd ?_
    unfold tref10Loss
    rw [hp]
    rfl
  · intro hp
    refine onDev_next hd ?_
    unfold tref10Return
    rw [hp, hrun]
    rfl
  · rintro edges d1 x hp huse rfl rfl
    refine onDev_next hd ?_
    unfold tref10Window
    rw [hp, huse]
    rfl
  · rintro hrun n d1 hn hd1
    refine ⟨Config.freeNat d1.free % 4, Config.freeNat d1.free / 4 % 65536, Nat.mod_lt _ (by decide), Nat.mod_lt _ (by decide),
      onDev_next hd ?_⟩
    unfold todOutput
    dsimp only
    rw [hrun, if_neg (by decide), hn, hd1]
    rfl
  · rintro pin x rfl
    refine ⟨fun u d1 hu hd1 => onOtp_next hd ?_, fun g d1 hu hg hm hd1 => onOtp_next hd ?_, fun g d1 hu hg hm hd1 => onOtp_next hd ?_⟩
    · unfold pulseEdge
      dsimp only
      rw [hu, ← hd1]
    · unfold pulseEdge
      dsimp only
      rw [hu, hg, ← hd1]
      simp [hm]
    · unfold pulseEdge
      dsimp only
      rw [hu, hg, ← hd1]
      simp [hm]
  · rintro pin rising x e c hrun rfl hsel hlast rfl rfl
    refine ⟨fun hroom => onOtp_next hd ?_, fun hfull => onOtp_next hd ?_⟩
    · exact (tciEdge_of_selected hrun hsel hlast).trans (if_neg (Nat.not_le.mpr hroom))
    · exact (tciEdge_of_selected hrun hsel hlast).trans (if_pos hfull)

end Sys2Proof.Machine
end

section
/-! What an operation leaves alone, by parts of the device: a calculus over the equations of Laws/Ops. -/
namespace Sys2Proof.Machine

set_option Elab.async false

/-- The parts of the device. -/
inductive Part where
  | time | host | pkg | cfg | sys | vault | prot | cls | fab | que | ts | act | mem | port | twin | obs | cnt | free | out

def Part.code : Part → Nat
  | .time => 0 | .host => 1 | .pkg => 2 | .cfg => 3 | .sys => 4 | .vault => 5 | .prot => 6 | .cls => 7 | .fab => 8 | .que => 9
  | .ts => 10 | .act => 11 | .mem => 12 | .port => 13 | .twin => 14 | .obs => 15 | .cnt => 16 | .free => 17 | .out => 18

/-- Is the part among those listed? -/
def Part.inList (p : Part) (l : List Part) : Bool := l.any (fun q => q.code == p.code)

/-- A part reads the same in two devices. -/
def Part.same (d e : Dev) : Part → Prop
  | .time => e.time = d.time | .host => e.host = d.host | .pkg => e.pkg = d.pkg | .cfg => e.cfg = d.cfg | .sys => e.sys = d.sys
  | .vault => e.vault = d.vault | .prot => e.prot = d.prot | .cls => e.cls = d.cls | .fab => e.fab = d.fab | .que => e.que = d.que
  | .ts => e.ts = d.ts | .act => e.act = d.act | .mem => e.mem = d.mem | .port => e.port = d.port | .twin => e.twin = d.twin
  | .obs => e.obs = d.obs | .cnt => e.cnt = d.cnt | .free => e.free = d.free | .out => e.out = d.out

/-- `e` is `d` but for the parts listed. -/
def Only (l : List Part) (d e : Dev) : Prop := ∀ p : Part, p.inList l = false → p.same d e

/-- `d` with the parts listed taken from `e`. -/
def Dev.mix (l : List Part) (d e : Dev) : Dev where
  time := bif Part.time.inList l then e.time else d.time
  host := bif Part.host.inList l then e.host else d.host
  pkg := bif Part.pkg.inList l then e.pkg else d.pkg
  cfg := bif Part.cfg.inList l then e.cfg else d.cfg
  sys := bif Part.sys.inList l then e.sys else d.sys
  vault := bif Part.vault.inList l then e.vault else d.vault
  prot := bif Part.prot.inList l then e.prot else d.prot
  cls := bif Part.cls.inList l then e.cls else d.cls
  fab := bif Part.fab.inList l then e.fab else d.fab
  que := bif Part.que.inList l then e.que else d.que
  ts := bif Part.ts.inList l then e.ts else d.ts
  act := bif Part.act.inList l then e.act else d.act
  mem := bif Part.mem.inList l then e.mem else d.mem
  port := bif Part.port.inList l then e.port else d.port
  twin := bif Part.twin.inList l then e.twin else d.twin
  obs := bif Part.obs.inList l then e.obs else d.obs
  cnt := bif Part.cnt.inList l then e.cnt else d.cnt
  free := bif Part.free.inList l then e.free else d.free
  out := bif Part.out.inList l then e.out else d.out

theorem eq_of_same {d e : Dev} (h : ∀ p : Part, p.same d e) : e = d := by
  cases d
  cases e
  congr 1
  exacts [h .time, h .host, h .pkg, h .cfg, h .sys, h .vault, h .prot, h .cls, h .fab, h .que, h .ts, h .act, h .mem, h .port,
    h .twin, h .obs, h .cnt, h .free, h .out]

theorem eq_cond_of_same {α : Type} {b : Bool} {x y : α} (h : b = false → x = y) : x = bif b then x else y := by
  cases b with
  | false => exact h rfl
  | true => rfl

theorem cond_same_of_not {α : Type} {b : Bool} (x y : α) (h : b = false) : (bif b then x else y) = y := by rw [h]; rfl

theorem Only.eq_mix {l : List Part} {d e : Dev} (h : Only l d e) : e = d.mix l e :=
  eq_of_same fun p => by cases p <;> exact eq_cond_of_same (h _)

/-- To read off what an operation changes, write its result as the mix. -/
theorem Only.intro {l : List Part} {d e : Dev} (h : e = d.mix l e) : Only l d e := by
  intro p hp
  rw [h]
  cases p <;> exact cond_same_of_not _ _ hp

theorem Only.refl (l : List Part) (d : Dev) : Only l d d := fun p _ => by cases p <;> rfl

theorem Only.trans {l : List Part} {d e f : Dev} (h : Only l d e) (g : Only l e f) : Only l d f := fun p hp => by
  have first := h p hp
  have second := g p hp
  cases p <;> exact Eq.trans second first

/-- Every part of `l` is listed in `m`. -/
def Part.within (l m : List Part) : Bool := l.all (fun p => p.inList m)

theorem Only.mono {l m : List Part} {d e : Dev} (h : Only l d e) (hlm : Part.within l m = true := by exact rfl) : Only m d e := by
  intro p hp
  refine h p (Bool.eq_false_iff.mpr fun listed => ?_)
  obtain ⟨q, hq, code⟩ := List.any_eq_true.mp listed
  have inM := List.all_eq_true.mp hlm q hq
  rw [Part.inList, show q.code = p.code from eq_of_beq code, ← Part.inList, hp] at inM
  exact Bool.false_ne_true inM

/-- One operation after another. -/
theorem Only.comp {l m n : List Part} {d e f : Dev} (h : Only l d e) (g : Only m e f) (hl : Part.within l n = true := by exact rfl)
    (hm : Part.within m n = true := by exact rfl) : Only n d f :=
  (h.mono hl).trans (g.mono hm)

theorem Only.foldl {α : Type} {l : List Part} {f : Dev → α → Dev} (h : ∀ d x, Only l d (f d x)) (xs : List α) (d : Dev) :
    Only l d (xs.foldl f d) := by
  induction xs generalizing d with
  | nil => exact .refl l d
  | cons x xs ih => exact (h d x).trans (ih (f d x))

theorem Only.ite {l : List Part} {c : Prop} [Decidable c] {d e f : Dev} (he : c → Only l d e) (hf : ¬c → Only l d f) :
    Only l d (if c then e else f) := by
  split
  next h => exact he h
  next h => exact hf h

/-! ### The parts that stay -/

section
variable {l : List Part} {d e : Dev} (h : Only l d e)
include h

theorem Only.time (hp : Part.time.inList l = false := by exact rfl) : e.time = d.time := h .time hp
theorem Only.host (hp : Part.host.inList l = false := by exact rfl) : e.host = d.host := h .host hp
theorem Only.pkg (hp : Part.pkg.inList l = false := by exact rfl) : e.pkg = d.pkg := h .pkg hp
theorem Only.cfg (hp : Part.cfg.inList l = false := by exact rfl) : e.cfg = d.cfg := h .cfg hp
theorem Only.sys (hp : Part.sys.inList l = false := by exact rfl) : e.sys = d.sys := h .sys hp
theorem Only.vault (hp : Part.vault.inList l = false := by exact rfl) : e.vault = d.vault := h .vault hp
theorem Only.prot (hp : Part.prot.inList l = false := by exact rfl) : e.prot = d.prot := h .prot hp
theorem Only.cls (hp : Part.cls.inList l = false := by exact rfl) : e.cls = d.cls := h .cls hp
theorem Only.fab (hp : Part.fab.inList l = false := by exact rfl) : e.fab = d.fab := h .fab hp
theorem Only.que (hp : Part.que.inList l = false := by exact rfl) : e.que = d.que := h .que hp
theorem Only.ts (hp : Part.ts.inList l = false := by exact rfl) : e.ts = d.ts := h .ts hp
theorem Only.act (hp : Part.act.inList l = false := by exact rfl) : e.act = d.act := h .act hp
theorem Only.mem (hp : Part.mem.inList l = false := by exact rfl) : e.mem = d.mem := h .mem hp
theorem Only.port (hp : Part.port.inList l = false := by exact rfl) : e.port = d.port := h .port hp
theorem Only.twin (hp : Part.twin.inList l = false := by exact rfl) : e.twin = d.twin := h .twin hp
theorem Only.obs (hp : Part.obs.inList l = false := by exact rfl) : e.obs = d.obs := h .obs hp
theorem Only.cnt (hp : Part.cnt.inList l = false := by exact rfl) : e.cnt = d.cnt := h .cnt hp
theorem Only.free (hp : Part.free.inList l = false := by exact rfl) : e.free = d.free := h .free hp
theorem Only.out (hp : Part.out.inList l = false := by exact rfl) : e.out = d.out := h .out hp

end

/-! ### The shared operations -/

theorem emit_only (x : Output) (d : Dev) : Only [.out] d (emit x d) := .intro rfl
theorem bumpBy_only (b : CntBlock) (i k n : Nat) (d : Dev) : Only [.cnt] d (bumpBy b i k n d) := .intro rfl
theorem bump_only (b : CntBlock) (i k : Nat) (d : Dev) : Only [.cnt] d (bump b i k d) := .intro rfl
theorem perfEvent_only (die ev n : Nat) (d : Dev) : Only [.obs] d (perfEvent die ev n d) := .intro rfl
theorem elapse_only (k : Nat) (d : Dev) : Only [.time, .obs] d (elapse k d) := .intro rfl
theorem fresh_only (d : Dev) : Only [.free] d (fresh d).2 := .intro rfl
theorem freshBytes_only (n : Nat) (d : Dev) : Only [.free] d (freshBytes n d).2 := .intro rfl

theorem record_only (type source : Nat) (data : Bytes) (d : Dev) : Only [.obs, .cnt] d (record type source data d) := by
  obtain ⟨_, _, e⟩ := record_frame type source data d
  rw [e]
  exact .intro rfl

theorem setFault_only (k : Nat) (d : Dev) : Only [.host, .out] d (setFault k d) := by
  obtain ⟨_, _, e⟩ := setFault_frame k d
  rw [e]
  exact .intro rfl

theorem notify_only (type source : Nat) (data : Bytes) (d : Dev) : Only [.host, .obs, .cnt, .out] d (notify type source data d) := by
  obtain ⟨_, _, _, _, e⟩ := notify_frame type source data d
  rw [e]
  exact .intro rfl

theorem notifyRecord_only (type source : Nat) (data : Bytes) (d : Dev) :
    Only [.host, .obs, .cnt, .out] d (notifyRecord type source data d) := by
  obtain ⟨_, _, _, _, e⟩ := notifyRecord_frame type source data d
  rw [e]
  exact .intro rfl

theorem complete_only (h : Nat) (st : Status) (res : Bytes) (d : Dev) : Only [.host, .obs, .cnt, .out] d (complete h st res d) := by
  obtain ⟨_, _, _, _, e⟩ := complete_frame h st res d
  rw [e]
  exact .intro rfl

theorem finish_only (m : Nat) (st : Status) (pl : Bytes) (d : Dev) : Only [.host, .obs, .out] d (finish m st pl d) := by
  obtain ⟨_, _, _, e⟩ := finish_frame m st pl d
  rw [e]
  exact .intro rfl

theorem settle_only (h mb : Option Nat) (st : Status) (res : Bytes) (d : Dev) :
    Only [.host, .obs, .cnt, .out] d (settle h mb st res d) := by
  obtain ⟨_, _, _, _, e⟩ := settle_frame h mb st res d
  rw [e]
  exact .intro rfl

theorem waitUntil_only (g : Nat) (d : Dev) : Only [.time, .obs] d (waitUntil g d) := by
  obtain ⟨_, _, e⟩ := waitUntil_frame g d
  rw [e]
  exact .intro rfl

theorem waitTicks_only (e : Nat) (d : Dev) : Only [.time, .obs] d (waitTicks e d) := elapse_only _ d

theorem waitLine_only (e : Nat) (d : Dev) : Only [.time, .obs] d (waitLine e d) := by
  obtain ⟨_, _, e⟩ := waitLine_frame e d
  rw [e]
  exact .intro rfl

theorem waitLane_only (k g : Nat) (d : Dev) : Only [.time, .obs] d (waitLane k g d) := by
  obtain ⟨_, _, e⟩ := waitLane_frame k g d
  rw [e]
  exact .intro rfl

theorem waitPort_only (p t16 : Nat) (d : Dev) : Only [.time, .obs] d (waitPort p t16 d) := by
  obtain ⟨_, _, e⟩ := waitPort_frame p t16 d
  rw [e]
  exact .intro rfl

theorem twinPost_only (x : TwinBody) (d : Dev) : Only [.twin] d (twinPost x d) := by
  obtain ⟨_, e⟩ := twinPost_frame x d
  rw [e]
  exact .intro rfl

theorem milestone_only (k : Nat) (d : Dev) : Only [.sys] d (milestone k d) := .ite (fun _ => .refl _ d) (fun _ => .intro rfl)

/-! ### What an event leaves alone -/

theorem onDev_only {l : List Part} {f : Dev → Dev} {s : State} {d : Dev} (hd : { s.dev with out := [] } = d) (h : Only l d (f d)) :
    onDev f s = .next (s.withDev (d.mix l (f d))) := by
  rw [onDev_next hd rfl, ← h.eq_mix]

end Sys2Proof.Machine
end

section
/-! How measurements and instants move the state of device time (R267, R270 to R275). -/
namespace Sys2Proof.Machine

set_option Elab.async false

/-! ### What shared operations do to the time base -/

theorem prm_of_cfg {d e : Dev} (h : e.cfg = d.cfg) : prm e = prm d := by
  unfold prm
  rw [h]

theorem timeEnter_frame (st : TimeState) (cause : Nat) (recorded : Bool) (d : Dev) : ∃ h b n w, timeEnter st cause recorded d =
    { d with
      time := { d.time with state := st, since := now d, lockRun := 0, unlockRun := 0 }
      host := h
      obs := b
      cnt := n
      out := w } := by
  unfold timeEnter
  dsimp only
  split
  · obtain ⟨h, b, n, w, e⟩ := notifyRecord_frame 0x30 deviceTarget _ _
    exact ⟨h, b, n, w, e⟩
  · obtain ⟨h, b, n, w, e⟩ := notify_frame 0x30 deviceTarget _ _
    exact ⟨h, b, n, w, e⟩

@[simp] theorem timeEnter_time (st : TimeState) (cause : Nat) (recorded : Bool) (d : Dev) :
    (timeEnter st cause recorded d).time = { d.time with state := st, since := now d, lockRun := 0, unlockRun := 0 } := by
  obtain ⟨_, _, _, _, e⟩ := timeEnter_frame st cause recorded d
  rw [e]

theorem timeEnter_only (st : TimeState) (cause : Nat) (recorded : Bool) (d : Dev) :
    Only [.time, .host, .obs, .cnt, .out] d (timeEnter st cause recorded d) := by
  obtain ⟨_, _, _, _, e⟩ := timeEnter_frame st cause recorded d
  rw [e]
  exact .intro rfl

@[simp] theorem milestone_time (k : Nat) (d : Dev) : (milestone k d).time = d.time := (milestone_only k d).time

/-- A wait moves the counters and the slew; the rest of the time base stays. -/
theorem waitTicks_time (e : Nat) (d : Dev) : ∃ g sl el le is, (waitTicks e d).time =
    { d.time with grand := g, slew := sl, elapsed := el, lineElapsed := le, islands := is } := ⟨_, _, _, _, _, rfl⟩

/-! ### Measurements (R267, R270) -/

/-- The alarm, and the notification of one. -/
theorem offsetAlarm_frame (off : Int) (d : Dev) : ∃ a h b n w, offsetAlarm off d =
    { d with time := { d.time with alarm := a }, host := h, obs := b, cnt := n, out := w } := by
  unfold offsetAlarm
  dsimp only
  generalize decide ((prm d).offsetAlarm * unitsPerNs < off.natAbs) = big
  cases big with
  | false => exact ⟨_, _, _, _, _, rfl⟩
  | true =>
    obtain ⟨h, b, n, w, e⟩ := notifyRecord_frame 0x31 deviceTarget _ _
    exact ⟨_, _, _, _, _, (if_pos rfl).trans e⟩

/-- A measurement toward LOCKED. -/
theorem judgeLock_track {off : Int} {d : Dev} (h : d.time.state = .track) :
    judgeLock off d =
      let n := if off.natAbs ≤ (prm d).lockThreshold * unitsPerNs then d.time.lockRun + 1 else 0
      let e := { d with time := { d.time with lockRun := n } }
      if (prm d).lockCount ≤ n then timeEnter .locked 1 false e else e := by
  unfold judgeLock
  simp only [h]

/-- A measurement toward the loss of LOCKED. -/
theorem judgeLock_locked {off : Int} {d : Dev} (h : d.time.state = .locked) :
    judgeLock off d =
      let n := if (prm d).unlockThreshold * unitsPerNs < off.natAbs then d.time.unlockRun + 1 else 0
      let e := { d with time := { d.time with unlockRun := n } }
      if 4 ≤ n then timeEnter .track 6 true (bump .time 0 3 e) else e := by
  unfold judgeLock
  simp only [h]

theorem judgeLock_near {off : Int} {d : Dev} (h : d.time.state = .track) (hnear : off.natAbs ≤ (prm d).lockThreshold * unitsPerNs)
    (hrun : (prm d).lockCount ≤ d.time.lockRun + 1) :
    judgeLock off d = timeEnter .locked 1 false { d with time := { d.time with lockRun := d.time.lockRun + 1 } } := by
  rw [judgeLock_track h]
  dsimp only
  rw [if_pos hnear, if_pos hrun]

theorem judgeLock_far {off : Int} {d : Dev} (h : d.time.state = .track) (hfar : (prm d).lockThreshold * unitsPerNs < off.natAbs)
    (hone : 1 ≤ (prm d).lockCount) : judgeLock off d = { d with time := { d.time with lockRun := 0 } } := by
  rw [judgeLock_track h]
  dsimp only
  rw [if_neg (Nat.not_le.mpr hfar), if_neg (by omega)]

theorem judgeLock_lost {off : Int} {d : Dev} (h : d.time.state = .locked)
    (hfar : (prm d).unlockThreshold * unitsPerNs < off.natAbs) (hrun : 3 ≤ d.time.unlockRun) :
    judgeLock off d =
      timeEnter .track 6 true (bump .time 0 3 { d with time := { d.time with unlockRun := d.time.unlockRun + 1 } }) := by
  rw [judgeLock_locked h]
  dsimp only
  rw [if_pos hfar, if_pos (by omega)]

theorem judgeLock_kept {off : Int} {d : Dev} (h : d.time.state = .locked)
    (hnear : off.natAbs ≤ (prm d).unlockThreshold * unitsPerNs) :
    judgeLock off d = { d with time := { d.time with unlockRun := 0 } } := by
  rw [judgeLock_locked h]
  dsimp only
  rw [if_neg (Nat.not_lt.mpr hnear), if_neg (by omega)]

theorem judgeLock_far_track {off : Int} {d : Dev} (h : d.time.state = .track)
    (hfar : (prm d).lockThreshold * unitsPerNs < off.natAbs) (hone : 1 ≤ (prm d).lockCount) :
    (judgeLock off d).time.state = .track ∧ (judgeLock off d).time.lockRun = 0 := by
  rw [judgeLock_far h hfar hone]
  exact ⟨h, rfl⟩

theorem judgeLock_kept_locked {off : Int} {d : Dev} (h : d.time.state = .locked)
    (hnear : off.natAbs ≤ (prm d).unlockThreshold * unitsPerNs) :
    (judgeLock off d).time.state = .locked ∧ (judgeLock off d).time.unlockRun = 0 := by
  rw [judgeLock_kept h hnear]
  exact ⟨h, rfl⟩

theorem judgeLock_other {off : Int} {d : Dev} (ht : d.time.state ≠ .track) (hl : d.time.state ≠ .locked) : judgeLock off d = d := by
  unfold judgeLock
  cases h : d.time.state with
  | track => exact absurd h ht
  | locked => exact absurd h hl
  | _ => simp only

/-- Judging a measurement moves the counts, and may enter a state. -/
theorem judgeLock_cases (off : Int) (d : Dev) : ∃ lr ur e, e.time = { d.time with lockRun := lr, unlockRun := ur } ∧
    (judgeLock off d = e ∨ ∃ st cause recorded, judgeLock off d = timeEnter st cause recorded e) := by
  cases h : d.time.state with
  | track =>
    rw [judgeLock_track h]
    dsimp only
    generalize (if off.natAbs ≤ (prm d).lockThreshold * unitsPerNs then d.time.lockRun + 1 else 0) = n
    split
    · exact ⟨n, d.time.unlockRun, _, rfl, .inr ⟨_, _, _, rfl⟩⟩
    · exact ⟨n, d.time.unlockRun, _, rfl, .inl rfl⟩
  | locked =>
    rw [judgeLock_locked h]
    dsimp only
    generalize (if (prm d).unlockThreshold * unitsPerNs < off.natAbs then d.time.unlockRun + 1 else 0) = n
    split
    · exact ⟨d.time.lockRun, n, _, bump_time _ _ _ _, .inr ⟨_, _, _, rfl⟩⟩
    · exact ⟨d.time.lockRun, n, _, rfl, .inl rfl⟩
  | _ =>
    exact ⟨d.time.lockRun, d.time.unlockRun, d, rfl, .inl (judgeLock_other (by rw [h]; decide) (by rw [h]; decide))⟩

/-- The rest of the time base stays. -/
theorem judgeLock_time (off : Int) (d : Dev) : ∃ st si lr ur, (judgeLock off d).time =
    { d.time with state := st, since := si, lockRun := lr, unlockRun := ur } := by
  obtain ⟨lr, ur, e, time, judged | ⟨st, cause, recorded, judged⟩⟩ := judgeLock_cases off d
  · rw [judged, time]
    exact ⟨_, _, _, _, rfl⟩
  · rw [judged, timeEnter_time, time]
    exact ⟨_, _, _, _, rfl⟩

/-- The device that a measured offset is judged in. -/
def measured (off : Int) (d : Dev) : Dev :=
  offsetAlarm off { d with time := { d.time with lastOffset := off, lastMeas := d.time.elapsed, slew := off } }

theorem measured_time (off : Int) (d : Dev) : ∃ a, (measured off d).time =
    { d.time with lastOffset := off, lastMeas := d.time.elapsed, slew := off, alarm := a } := by
  obtain ⟨_, _, _, _, _, e⟩ := offsetAlarm_frame off { d with time := { d.time with lastOffset := off, lastMeas := d.time.elapsed, slew := off } }
  unfold measured
  rw [e]
  exact ⟨_, rfl⟩

theorem measured_prm (off : Int) (d : Dev) : prm (measured off d) = prm d := by
  obtain ⟨_, _, _, _, _, e⟩ := offsetAlarm_frame off { d with time := { d.time with lastOffset := off, lastMeas := d.time.elapsed, slew := off } }
  unfold measured
  rw [e]
  rfl

/-- R270: what a measurement does next, by the state it finds. -/
def servoIn (off : Int) (d : Dev) : Dev :=
  match d.time.state with
  | .holdover => timeEnter .track 1 false d
  | _ => judgeLock off d

/-- The measurement is judged in the state that `measured` makes. The definition is opened with that state a variable: the
threshold in it must not be evaluated. -/
theorem servo_of_measured {off : Int} {d e : Dev}
    (he : offsetAlarm off { d with time := { d.time with lastOffset := off, lastMeas := d.time.elapsed, slew := off } } = e) :
    servo off d = servoIn off e := by
  have unfolded : servo = servo := rfl
  conv_rhs at unfolded => delta servo
  rw [unfolded]
  beta_reduce
  rw [he]
  cases h : e.time.state <;> simp only [servoIn, h] <;> rfl

theorem servo_eq (off : Int) (d : Dev) : servo off d = servoIn off (measured off d) := servo_of_measured rfl

theorem servoIn_holdover {off : Int} {d : Dev} (h : d.time.state = .holdover) : servoIn off d = timeEnter .track 1 false d := by
  unfold servoIn
  rw [h]

theorem servoIn_of_ne_holdover {off : Int} {d : Dev} (h : d.time.state ≠ .holdover) : servoIn off d = judgeLock off d := by
  unfold servoIn
  cases hs : d.time.state with
  | holdover => exact absurd hs h
  | _ => rfl

theorem servo_holdover {off : Int} {d : Dev} (h : d.time.state = .holdover) :
    servo off d = timeEnter .track 1 false (measured off d) := by
  obtain ⟨a, e⟩ := measured_time off d
  rw [servo_eq, servoIn_holdover (by rw [e]; exact h)]

theorem servo_of_ne_holdover {off : Int} {d : Dev} (h : d.time.state ≠ .holdover) : servo off d = judgeLock off (measured off d) := by
  obtain ⟨a, e⟩ := measured_time off d
  rw [servo_eq, servoIn_of_ne_holdover (by rw [e]; exact h)]

/-- R267: the offset goes to the slew; the counter and its rate stay. -/
theorem servo_time (off : Int) (d : Dev) : ∃ st si lr ur a, (servo off d).time =
    { d.time with
      lastOffset := off
      lastMeas := d.time.elapsed
      slew := off
      alarm := a
      state := st
      since := si
      lockRun := lr
      unlockRun := ur } := by
  obtain ⟨a, e⟩ := measured_time off d
  by_cases h : d.time.state = .holdover
  · rw [servo_holdover h, timeEnter_time, e]
    exact ⟨_, _, _, _, _, rfl⟩
  · rw [servo_of_ne_holdover h]
    obtain ⟨st, si, lr, ur, j⟩ := judgeLock_time off (measured off d)
    rw [j, e]
    exact ⟨_, _, _, _, _, rfl⟩

theorem measure_servo {loc ref : Nat} {d : Dev} (h : d.time.state = .track ∨ d.time.state = .locked ∨ d.time.state = .holdover) :
    measure loc ref d = servo ((ref : Int) - loc) d := by
  unfold measure
  rcases h with h | h | h <;> simp only [h]

theorem measure_track {loc ref : Nat} {d : Dev} (h : d.time.state = .track) :
    measure loc ref d = judgeLock ((ref : Int) - loc) (measured ((ref : Int) - loc) d) := by
  rw [measure_servo (.inl h), servo_of_ne_holdover (by rw [h]; decide)]

theorem measure_locked {loc ref : Nat} {d : Dev} (h : d.time.state = .locked) :
    measure loc ref d = judgeLock ((ref : Int) - loc) (measured ((ref : Int) - loc) d) := by
  rw [measure_servo (.inr (.inl h)), servo_of_ne_holdover (by rw [h]; decide)]

theorem measure_freerun {loc ref : Nat} {d : Dev} (h : d.time.state = .freerun) :
    measure loc ref d = askAcquire 1 { d with time := { d.time with
      lastOffset := (ref : Int) - loc, lastMeas := d.time.elapsed, samples := d.time.samples ++ [⟨loc, ref⟩] } } := by
  unfold measure
  simp only [h]

theorem measure_acquire {loc ref : Nat} {d : Dev} (h : d.time.state = .acquire) (hstep : d.time.step = none) :
    measure loc ref d =
      let e := { d with time := { d.time with
        lastOffset := (ref : Int) - loc, lastMeas := d.time.elapsed, samples := d.time.samples ++ [⟨loc, ref⟩] } }
      if (prm d).acqSamples ≤ d.time.samples.length + 1 then acquisitionStep e else e := by
  unfold measure
  simp only [h, hstep, Option.isSome_none, Bool.false_eq_true, if_false, List.length_append, List.length_cons, List.length_nil,
    Nat.zero_add]
  rfl

theorem askAcquire_time (cause : Nat) (d : Dev) : ∃ g c, (askAcquire cause d).time = { d.time with acquireAt := some g, acquireCause := c } := by
  unfold askAcquire
  split
  next h =>
    obtain ⟨g, hg⟩ := Option.isSome_iff_exists.mp h
    exact ⟨g, d.time.acquireCause, by rw [← hg]⟩
  next h => exact ⟨_, _, rfl⟩

/-- The first whole multiple of `m` from `x` on. -/
theorem le_roundUp (x m : Nat) (hm : 0 < m) : x ≤ (x + m - 1) / m * m := by
  have split := Nat.div_add_mod (x + m - 1) m
  have small := Nat.mod_lt (x + m - 1) hm
  rw [Nat.mul_comm] at split
  omega

theorem getLast?_concat {α : Type} (l : List α) (a : α) : (l ++ [a]).getLast? = some a := by simp

/-- R270: the step that the samples of an acquisition decide. -/
theorem acquisitionStep_concat {l : List Sample} {loc ref : Nat} {d : Dev} (h : d.time.samples = l ++ [⟨loc, ref⟩]) :
    ∃ x, (acquisitionStep d).time.step = some x ∧ x.handle = none ∧ loc + 500000 * unitsPerNs ≤ x.at_ ∧
      x.at_ % (1000000 * unitsPerNs) = 0 := by
  have last : d.time.samples.getLast? = some ⟨loc, ref⟩ := by rw [h, getLast?_concat]
  obtain ⟨a, first⟩ : ∃ a, d.time.samples.head? = some a := by
    rw [h]
    cases l with
    | nil => exact ⟨_, rfl⟩
    | cons b l => exact ⟨b, rfl⟩
  unfold acquisitionStep
  rw [first, last]
  exact ⟨_, rfl, rfl, le_roundUp _ _ (by decide), Nat.mul_mod_left _ _⟩

/-- Settles O21, state by state. -/
theorem measurementFollowsState : Obligations.MeasurementFollowsState := by
  rintro loc ref d off rfl
  refine ⟨fun h => ?_, fun h hstep hmore => ?_, fun h hstep hfull => ?_, fun h => ?_, fun h => ?_, fun h hrun hnear => ?_,
    fun h hfar hone => ?_, fun h hrun hfar => ?_, fun h hnear => ?_⟩
  · rw [measure_freerun h]
    obtain ⟨g, c, e⟩ := askAcquire_time 1 { d with time := { d.time with
      lastOffset := (ref : Int) - loc, lastMeas := d.time.elapsed, samples := d.time.samples ++ [⟨loc, ref⟩] } }
    rw [e]
    exact ⟨rfl, rfl, rfl⟩
  · rw [measure_acquire h hstep]
    dsimp only
    rw [if_neg (Nat.not_le.mpr hmore)]
    exact ⟨rfl, hstep⟩
  · rw [measure_acquire h hstep]
    dsimp only
    rw [if_pos hfull]
    exact acquisitionStep_concat rfl
  · rw [measure_servo h]
    obtain ⟨_, _, _, _, _, e⟩ := servo_time ((ref : Int) - loc) d
    rw [e]
    exact ⟨rfl, rfl, rfl, rfl⟩
  · rw [measure_servo (.inr (.inr h)), servo_holdover h, timeEnter_time]
  all_goals obtain ⟨a, e⟩ := measured_time ((ref : Int) - loc) d
  · have state : (measured ((ref : Int) - loc) d).time.state = .track := by rw [e]; exact h
    have run : (measured ((ref : Int) - loc) d).time.lockRun = d.time.lockRun := by rw [e]
    rw [measure_track h, judgeLock_near state (by rwa [measured_prm]) (by rwa [measured_prm, run]), timeEnter_time]
  · have state : (measured ((ref : Int) - loc) d).time.state = .track := by rw [e]; exact h
    rw [measure_track h]
    exact judgeLock_far_track state (by rwa [measured_prm]) (by rwa [measured_prm])
  · have state : (measured ((ref : Int) - loc) d).time.state = .locked := by rw [e]; exact h
    have run : (measured ((ref : Int) - loc) d).time.unlockRun = d.time.unlockRun := by rw [e]
    rw [measure_locked h, judgeLock_lost state (by rwa [measured_prm]) (by rwa [run]), timeEnter_time]
  · have state : (measured ((ref : Int) - loc) d).time.state = .locked := by rw [e]; exact h
    rw [measure_locked h]
    exact judgeLock_kept_locked state (by rwa [measured_prm])

end Sys2Proof.Machine
end

section
/-! How device time changes its state (R270 to R275). -/
namespace Sys2Proof.Machine

set_option Elab.async false

theorem onGates_only {f : Nat → Dev → Dev} (hf : ∀ p d, Only [.act] d (f p d)) (d : Dev) : Only [.act] d (onGates f d) :=
  Only.foldl (fun d p => hf p d) _ d

theorem gateAcquireEnd_only (p : Nat) (d : Dev) : Only [.act] d (gateAcquireEnd p d) := by
  unfold gateAcquireEnd
  dsimp only
  split <;> exact .intro rfl

/-- What resumes when ACQUIRE ends is the gate lists and the pulse outputs. -/
theorem acquireEnd_time (d : Dev) : ∃ t, (acquireEnd d).time = { d.time with tpo := t } := by
  have kept := (onGates_only gateAcquireEnd_only d).time
  unfold acquireEnd
  dsimp only
  rw [kept]
  exact ⟨_, rfl⟩

/-! ### The end of ACQUIRE without a step (R270) -/

/-- Whether a step was taken decides between FREERUN and HOLDOVER. -/
theorem acquireTimeout_of_acquire {d d1 d2 e : Dev} (h : d.time.state = .acquire)
    (h1 : waitTicks (d.time.acquireStart + ticksNs (prm d).acquireTimeout) d = d1)
    (he : { d1 with time := { d1.time with step := none, samples := [] } } = e)
    (hnone : d.time.step = none → d2 = bump .time 0 1 e)
    (hsome : ∀ x, d.time.step = some x → d2 = bump .time 0 1 (settle x.handle x.mailbox .timePassed [] e)) :
    d2.time.stepped = d.time.stepped ∧
      acquireTimeout d = acquireEnd (if d.time.stepped then
        bump .time 0 2 (timeEnter .holdover 3 true { d2 with time := { d2.time with slew := 0 } }) else timeEnter .freerun 3 true d2) := by
  obtain ⟨g, sl, el, le, is, w⟩ := waitTicks_time (d.time.acquireStart + ticksNs (prm d).acquireTimeout) d
  rw [h1] at w
  have step : d1.time.step = d.time.step := by rw [w]
  have stepped : d2.time.stepped = d.time.stepped := by
    cases hs : d.time.step with
    | none => rw [hnone hs, ← he, bump_time, w]
    | some x => rw [hsome x hs, ← he, bump_time, settle_time, w]
  refine ⟨stepped, ?_⟩
  unfold acquireTimeout
  rw [if_neg (fun absurd => absurd h)]
  dsimp only
  rw [h1, he, step]
  cases hs : d.time.step with
  | none => rw [← stepped, hnone hs]
  | some x => rw [← stepped, hsome x hs]

/-! ### Steps (R270, R272) -/

/-- The state that a step ends in: TRACK, or LOCKED where the host is the source and one measurement is enough. -/
def stepEnd (host : Bool) (d : Dev) : Dev :=
  let d := if host then { d with time := { d.time with lockRun := 1 } } else d
  if host ∧ (prm d).lockCount ≤ 1 then timeEnter .locked 1 false d else d

theorem stepEnd_time (host : Bool) (d : Dev) (h : d.time.state = .track) :
    ∃ st si lr ur, (stepEnd host d).time = { d.time with state := st, since := si, lockRun := lr, unlockRun := ur } ∧
      (st = .track ∨ st = .locked) := by
  cases host with
  | false => exact ⟨d.time.state, _, _, _, rfl, .inl h⟩
  | true =>
    unfold stepEnd
    simp only [if_true, true_and]
    split
    · exact ⟨_, _, _, _, timeEnter_time _ _ _ _, .inr rfl⟩
    · exact ⟨d.time.state, _, _, _, rfl, .inl h⟩

/-- The time base as the step leaves it. -/
def steppedTime (x : StepPend) (t t' : TimeBase) : Prop :=
  t'.grand = unitsOf x.new ∧ t'.step = none ∧ t'.stepped = true ∧ t'.slew = x.residual ∧ t'.lastStep = x.new ∧ t'.samples = [] ∧
    t'.rate = x.newRate.getD t.rate ∧ t'.inc = (x.newRate.map incOf).getD t.inc

/-- The device when the counters have been loaded and the exchanges cut through are dropped. -/
def stepTaken (x : StepPend) (d : Dev) : Dev :=
  let n := unitsOf x.new
  let size : Int := (n : Int) - x.at_
  let t := moveKept size d.time
  let host := x.newRate.isNone && decide (timeSourceNow d = 3)
  let d := { d with time := { t with
    grand := n, islands := t.islands.map (fun (e : Nat × IslandSt) => (e.1, stepIsland size x.delivered e.1 e.2)),
    slew := x.residual, step := none, samples := [], stepped := true, steps := t.steps + 1, lastStep := x.new,
    stepHist := (size :: t.stepHist).take 3, epoch := t.epoch + 1,
    rebase := t.rebase + (size + 500000 * 2 ^ 32) / (1000000 * 2 ^ 32), lastMeas := t.elapsed,
    lastOffset := if host then 0 else t.lastOffset } }
  let d := { d with ts := dropExchanges d.ts }
  match x.newRate with | some r => setRate r d | none => d

theorem stepTaken_time (x : StepPend) (d : Dev) : steppedTime x d.time (stepTaken x d).time := by
  unfold stepTaken
  cases hr : x.newRate with
  | none => exact ⟨rfl, rfl, rfl, rfl, rfl, rfl, by rw [hr]; rfl, by rw [hr]; rfl⟩
  | some r => exact ⟨rfl, rfl, rfl, rfl, rfl, rfl, by rw [hr]; rfl, by rw [hr]; rfl⟩

theorem timeStep_eq {d : Dev} {x : StepPend} (h : d.time.step = some x) :
    timeStep d =
      let d := waitUntil x.at_ d
      milestone 11 (settle x.handle x.mailbox .ok (stepResult x.at_)
        (stepEnd (x.newRate.isNone && decide (timeSourceNow d = 3)) (acquireEnd (timeEnter .track 1 false
          (record 0x120 deviceTarget ((tsOf x.at_).bytes ++ x.new.bytes ++ zeros 8) (bump .time 0 0 (stepTaken x d))))))) := by
  unfold timeStep
  rw [h]
  rfl

theorem timeStep_time {d : Dev} {x : StepPend} (h : d.time.step = some x) :
    steppedTime x (waitUntil x.at_ d).time (timeStep d).time ∧ ((timeStep d).time.state = .track ∨ (timeStep d).time.state = .locked) := by
  have stepped := stepTaken_time x (waitUntil x.at_ d)
  have he := timeStep_eq h
  dsimp only at he
  generalize (tsOf x.at_).bytes ++ x.new.bytes ++ zeros 8 = data at he
  generalize stepTaken x (waitUntil x.at_ d) = e at he stepped
  generalize (x.newRate.isNone && decide (timeSourceNow (waitUntil x.at_ d) = 3)) = host at he
  obtain ⟨tpo, ended⟩ := acquireEnd_time (timeEnter .track 1 false (record 0x120 deviceTarget data (bump .time 0 0 e)))
  rw [timeEnter_time, record_time, bump_time] at ended
  obtain ⟨st, si, lr, ur, final, hst⟩ := stepEnd_time host (acquireEnd (timeEnter .track 1 false
    (record 0x120 deviceTarget data (bump .time 0 0 e)))) (by rw [ended])
  rw [he, milestone_time, settle_time, final, ended]
  exact ⟨stepped, hst⟩

theorem sourceLost_of_locked {d : Dev} (cause : Nat) (h : d.time.state = .track ∨ d.time.state = .locked) :
    sourceLost cause d = enterHoldover cause d := by
  unfold sourceLost
  rcases h with h | h <;> simp only [h]

/-- Settles O22, instant by instant. -/
theorem timeStatesChange : Obligations.TimeStatesChange := by
  rintro s d hd
  refine ⟨fun g d1 hg h1 => ?_, fun d1 e h h1 he d2 hnone hsome => ?_, fun x hx => ?_, fun e d1 h he h1 => ?_⟩
  · refine onDev_next hd ?_
    unfold acquireEntry
    rw [hg]
    dsimp only
    rw [h1]
  · obtain ⟨_, out⟩ := acquireTimeout_of_acquire h h1 he hnone hsome
    refine ⟨fun hs => onDev_next hd ?_, fun hs => onDev_next hd ?_⟩
    · rw [out, hs, if_neg Bool.false_ne_true]
    · rw [out, hs, if_pos rfl]
  · obtain ⟨⟨grand, step, stepped, slew, last, samples, rate, inc⟩, state⟩ := timeStep_time hx
    refine ⟨_, onDev_next hd rfl, withDev_otp .., ?_⟩
    rw [withDev_dev]
    refine ⟨grand, step, stepped, slew, state, last, samples, fun r hr => ⟨?_, ?_⟩⟩
    · rw [rate, hr, Option.getD_some]
    · rw [inc, hr, Option.map_some, Option.getD_some]
  · refine onDev_next hd ?_
    obtain ⟨g, sl, el, le, is, w⟩ := waitTicks_time e d
    have state : d1.time.state = d.time.state := by rw [← h1, w]
    unfold sourceLossTimeout
    rw [if_pos h, he]
    dsimp only
    rw [h1]
    exact sourceLost_of_locked 4 (by rwa [state])

end Sys2Proof.Machine
end

section
/-! Resets and their releases (R429, R430, R443, R444, R447), and the resets of the PCIe endpoint (R68). -/
namespace Sys2Proof.Machine

set_option Elab.async false

/-- Settles O24, field by field. -/
theorem resetsKeepWhatTheyMust : Obligations.ResetsKeepWhatTheyMust := by
  intro d c w
  and_intros <;> rfl

/-! ### What a release starts (R430) -/

theorem milestone_sys (k : Nat) (d : Dev) : ∃ m, (milestone k d).sys = { d.sys with milestones := m } := by
  unfold milestone
  split
  · exact ⟨_, rfl⟩
  · exact ⟨_, rfl⟩

@[simp] theorem elapse_powerCycles (k : Nat) (d : Dev) : (elapse k d).obs.powerCycles = d.obs.powerCycles := rfl

@[simp] theorem record_powerCycles (type source : Nat) (data : Bytes) (d : Dev) :
    (record type source data d).obs.powerCycles = d.obs.powerCycles := by
  unfold record
  dsimp only
  split <;> rfl

theorem drawSeeds_only (d : Dev) : Only [.cls, .free] d (drawSeeds d) := Only.foldl (fun _ _ => .intro rfl) _ d

theorem clocksStart_only (ms : Nat) (d : Dev) : Only [.sys, .time, .obs] d (clocksStart ms d) := by
  let e : Dev := { d with sys := { d.sys with releaseAt := d.time.elapsed } }
  have first : Only [.sys, .time, .obs] d (elapse (ticksMs ms) e) :=
    (Only.intro (l := [.sys]) rfl : Only [.sys] d e).comp (elapse_only _ _)
  have second := (first.trans ((milestone_only 0 _).mono)).trans ((elapse_only (ticksMs (3 - ms)) _).mono)
  exact second.trans (.intro rfl)

theorem clocksStart_sys (ms : Nat) (d : Dev) : ∃ m, (clocksStart ms d).sys = { d.sys with releaseAt := d.time.elapsed, milestones := m } := by
  obtain ⟨m, hm⟩ := milestone_sys 0 (elapse (ticksMs ms) { d with sys := { d.sys with releaseAt := d.time.elapsed } })
  refine ⟨m, ?_⟩
  unfold clocksStart
  dsimp only
  rw [elapse_sys, hm, elapse_sys]

theorem clocksStart_powerCycles (ms : Nat) (d : Dev) : (clocksStart ms d).obs.powerCycles = d.obs.powerCycles := by
  unfold clocksStart
  dsimp only
  rw [elapse_powerCycles, (milestone_only 0 _).obs, elapse_powerCycles]

/-- The device that the seeds are drawn in. -/
def releasing (d : Dev) : Dev := linksStart { d with sys := { d.sys with starting := true, srst := true } }

theorem releaseCommon_eq (ms : Nat) (d : Dev) : releaseCommon ms d = clocksStart ms (drawSeeds (releasing d)) := rfl

theorem releaseCommon_only (ms : Nat) (d : Dev) : Only [.sys, .pkg, .cls, .free, .time, .obs] d (releaseCommon ms d) := by
  rw [releaseCommon_eq]
  have first : Only [.sys, .pkg] d (releasing d) := .intro rfl
  exact (first.comp (drawSeeds_only _) (n := [.sys, .pkg, .cls, .free, .time, .obs])).trans (clocksStart_only ms _).mono

theorem releaseCommon_sys (ms : Nat) (d : Dev) : ∃ a m, (releaseCommon ms d).sys =
    { d.sys with starting := true, srst := true, releaseAt := a, milestones := m } := by
  obtain ⟨m, hm⟩ := clocksStart_sys ms (drawSeeds (releasing d))
  rw [releaseCommon_eq, hm, (drawSeeds_only _).sys]
  exact ⟨_, _, rfl⟩

theorem releaseCommon_running (ms : Nat) (d : Dev) : (releaseCommon ms d).time.running = true := rfl

theorem releaseCommon_powerCycles (ms : Nat) (d : Dev) : (releaseCommon ms d).obs.powerCycles = d.obs.powerCycles := by
  rw [releaseCommon_eq, clocksStart_powerCycles, (drawSeeds_only _).obs]
  rfl

theorem releaseCommon_pkg (ms : Nat) (d : Dev) : (releaseCommon ms d).pkg = (linksStart d).pkg := by
  rw [releaseCommon_eq, (clocksStart_only ms _).pkg, (drawSeeds_only _).pkg]
  rfl

/-- R34: the links whose package state is that of a start. -/
theorem linkState_of_linksStart {d e : Dev} (h : e.pkg = (linksStart d).pkg) {k : Nat} (hk : k < 5) : linkState k e = .retrain := by
  unfold linkState
  rw [h]
  match k, hk with
  | 0, _ => rfl
  | 1, _ => rfl
  | 2, _ => rfl
  | 3, _ => rfl
  | 4, _ => rfl

/-! ### Resets (R161, R447) -/

theorem zeroFill_only (j : LaJob) (d : Dev) : Only [.out] d (zeroFill j d) := Only.foldl (fun _ _ => emit_only _ _) _ d

theorem zeroFillJobs_only (d : Dev) : Only [.out] d (zeroFillJobs d) :=
  Only.foldl (f := fun d e => zeroFill e.2 d) (fun d e => zeroFill_only e.2 d) d.vault.jobs d

/-- R155: the TRNG start-up tests are repeated. -/
def trngTested (d : Dev) : Dev :=
  { d with vault := { d.vault with startHeld := decide (d.vault.latch ≠ 0), trng := 0, trngFails := 0 } }

/-- R430: a release over a vault whose step has ended. -/
theorem srstRelease_true {d : Dev} (hp : d.sys.porst = true) (hs : d.sys.srst = false) (hv : d.sys.vaultDone = true) :
    srstRelease true d = releaseCommon 1 (trngTested d) := by
  unfold srstRelease
  rw [hp, hs, hv]
  rfl

theorem srstRelease_false {d : Dev} (hp : d.sys.porst = true) (hs : d.sys.srst = false) (hv : d.sys.vaultDone = true) :
    srstRelease false d = { d with sys := { d.sys with srst := true, stopped := true } } := by
  unfold srstRelease
  rw [hp, hs, hv]
  rfl

/-- R447: SYSTEM_RESET acts as SRST_N. -/
theorem systemResetFire_of_due {t : Nat} {d : Dev} (trngOk : Bool) (h : d.sys.resetAt = some t) (hp : d.sys.porst = true)
    (hv : d.sys.vaultDone = true) :
    systemResetFire trngOk d = srstRelease trngOk (warmReset 3 (zeroFillJobs (waitTicks t d))) := by
  have stays := (waitTicks_only t d).sys
  unfold systemResetFire
  rw [h]
  dsimp only
  rw [stays, hp, hv]
  rfl

/-- Settles O23, input by input. -/
theorem resetsTakeEffect : Obligations.ResetsTakeEffect := by
  intro s d hd
  refine ⟨fun hp => onDev_next hd (if_pos hp), fun standby => onDev_next hd rfl, onDev_next hd rfl, fun hp hv => onDev_next hd ?_,
    fun t e ht hp hv he => onDev_next hd ?_, fun t ht hp hv => ?_⟩
  · unfold srstAssert
    rw [hp, hv]
    rfl
  · rw [systemResetFire_of_due false ht hp hv, he]
    subst he
    exact srstRelease_false rfl rfl rfl
  · have fire := systemResetFire_of_due true ht hp hv
    have vault : (zeroFillJobs (waitTicks t d)).vault = d.vault := by
      rw [(zeroFillJobs_only _).vault, (waitTicks_only t d).vault]
    generalize zeroFillJobs (waitTicks t d) = w at fire vault
    rw [srstRelease_true rfl rfl rfl] at fire
    have only := releaseCommon_only 1 (trngTested (warmReset 3 w))
    obtain ⟨a, m, sys⟩ := releaseCommon_sys 1 (trngTested (warmReset 3 w))
    refine ⟨_, onDev_next hd fire, withDev_otp .., ?_⟩
    rw [withDev_dev, sys, only.vault, only.cfg]
    exact ⟨rfl, rfl, rfl, rfl, rfl, (congrArg Vault.lc vault :), (congrArg Vault.latch vault :), rfl⟩

/-! ### PORST_N high (R144, R468) -/

theorem decodeLife_only (o : Otp) (d : Dev) : Only [.vault, .obs, .cnt] d (decodeLife o d) := by
  unfold decodeLife
  exact .ite (fun _ => (Only.intro (l := [.vault]) rfl).comp (record_only _ _ _ _)) (fun _ => .intro rfl)

theorem decodeLife_vault (o : Otp) (d : Dev) : ∃ k, (decodeLife o d).vault = { d.vault with lc := decodeLc o, derived := k } := by
  unfold decodeLife
  dsimp only
  split
  · exact ⟨_, record_vault _ _ _ _⟩
  · exact ⟨_, rfl⟩

theorem decodeLife_powerCycles (o : Otp) (d : Dev) : (decodeLife o d).obs.powerCycles = d.obs.powerCycles := by
  unfold decodeLife
  dsimp only
  split
  · exact record_powerCycles _ _ _ _
  · rfl

theorem resumeNonce_vault (d : Dev) : ∃ n c s, (resumeNonce d).vault = { d.vault with nonce := n, ceiling := c, nonceSlots := s } :=
  ⟨_, _, _, rfl⟩

theorem resumeNonce_only (d : Dev) : Only [.vault, .cnt] d (resumeNonce d) := .intro rfl

theorem takeAonLatch_zero (o : Otp) {d : Dev} (h : d.vault.aonLatch = 0) :
    takeAonLatch o d = (o, { d with vault := { d.vault with aonLatch := 0 } }) := if_pos h

theorem takeVstbyLoss_false (o : Otp) {d : Dev} (h : d.vault.vstbyLost = false) : takeVstbyLoss o d = (o, d) := by
  unfold takeVstbyLoss
  rw [h]
  rfl

/-- The vault with its generator tested and its loop patterns drawn. -/
def vaultDrawn (d : Dev) : Dev :=
  seedLoop 1 (seedLoop 0 { (fresh d).2 with vault := { d.vault with trng := 0, reseedAt := d.time.elapsed } })

theorem vaultDrawn_only (d : Dev) : Only [.vault, .free] d (vaultDrawn d) := .intro rfl

theorem vaultDrawn_vault (d : Dev) : ∃ r l, (vaultDrawn d).vault = { d.vault with trng := 0, reseedAt := r, loopPattern := l } :=
  ⟨_, _, rfl⟩

/-- With nothing latched and VSTBY never lost only the state of the vault itself is resumed. -/
theorem vaultStart_of_quiet (o : Otp) (d : Dev) (hl : d.vault.aonLatch = 0) (hv : d.vault.vstbyLost = false) :
    let e := vaultDrawn (resumeNonce (decodeLife o d))
    vaultStart o d =
      (o, { e with vault := { e.vault with aonLatch := 0, startHeld := e.vault.startHeld || decide (e.vault.latch ≠ 0) } }) := by
  obtain ⟨k, life⟩ := decodeLife_vault o d
  obtain ⟨n, c, sl, nonce⟩ := resumeNonce_vault (decodeLife o d)
  obtain ⟨r, l, drawn⟩ := vaultDrawn_vault (resumeNonce (decodeLife o d))
  have aon := takeAonLatch_zero o (d := vaultDrawn (resumeNonce (decodeLife o d))) (by rw [drawn, nonce, life]; exact hl)
  have vstby := takeVstbyLoss_false o (d := (takeAonLatch o (vaultDrawn (resumeNonce (decodeLife o d)))).2)
    (by rw [aon]; dsimp only; rw [drawn, nonce, life]; exact hv)
  rw [aon] at vstby
  have eq : vaultStart o d =
      let r := takeAonLatch o (vaultDrawn (resumeNonce (decodeLife o d)))
      let r := takeVstbyLoss r.1 r.2
      (r.1, { r.2 with vault := { r.2.vault with startHeld := r.2.vault.startHeld || decide (r.2.vault.latch ≠ 0) } }) := rfl
  rw [eq]
  dsimp only
  rw [aon, vstby]

/-- The device that a cold start releases. -/
def coldStart (twrole : TwRole) (d : Dev) : Dev :=
  resumeHours { d with
    sys := { d.sys with porst := true, srst := true, power := .run, resetCause := 1, twrole := twrole, cold := true, vaultDone := true } }

theorem porstRelease_eq (twrole : TwRole) (o : Otp) {d : Dev} (h : d.sys.porst = false) :
    porstRelease twrole true true o d = vaultStart o (releaseCommon 3 (coldStart twrole d)) := by
  unfold porstRelease
  rw [h]
  rfl

theorem coldStart_only (twrole : TwRole) (d : Dev) : Only [.sys, .obs, .cnt] d (coldStart twrole d) := .intro rfl

theorem coldStart_powerCycles (twrole : TwRole) (d : Dev) : (coldStart twrole d).obs.powerCycles = ((bestHours d).2 + 1) % 2 ^ 32 := rfl

theorem porstNRelease_starts {s : State} {d : Dev} (twrole : TwRole) (hd : { s.dev with out := [] } = d) (hp : d.sys.porst = false)
    (hl : d.vault.aonLatch = 0) (hv : d.vault.vstbyLost = false) :
    ∃ t, exec (.porstNRelease twrole true true) s = .next t ∧ t.otp = s.otp ∧ t.dev.sys.porst = true ∧
      t.dev.sys.srst = true ∧ t.dev.sys.resetCause = 1 ∧ t.dev.sys.twrole = twrole ∧ t.dev.sys.cold = true ∧
      t.dev.sys.vaultDone = true ∧ t.dev.sys.starting = true ∧ t.dev.sys.power = .run ∧
      t.dev.vault.lc = decodeLc s.otp ∧ t.dev.vault.latch = d.vault.latch ∧ t.dev.vault.trng = 0 ∧
      t.dev.obs.powerCycles = ((bestHours d).2 + 1) % 2 ^ 32 ∧ t.dev.time.running = true ∧
      (∀ k, k < 5 → linkState k t.dev = .retrain) := by
  have start := porstRelease_eq twrole s.otp hp
  have startVault := (coldStart_only twrole d).vault
  have common := releaseCommon_only 3 (coldStart twrole d)
  have vault : (releaseCommon 3 (coldStart twrole d)).vault = d.vault := common.vault.trans startVault
  obtain ⟨a, m, sys⟩ := releaseCommon_sys 3 (coldStart twrole d)
  have cycles := (releaseCommon_powerCycles 3 (coldStart twrole d)).trans (coldStart_powerCycles twrole d)
  have pkg := releaseCommon_pkg 3 (coldStart twrole d)
  have running := releaseCommon_running 3 (coldStart twrole d)
  rw [vaultStart_of_quiet s.otp _ (by rw [vault]; exact hl) (by rw [vault]; exact hv)] at start
  generalize releaseCommon 3 (coldStart twrole d) = e at *
  obtain ⟨k, life⟩ := decodeLife_vault s.otp e
  obtain ⟨n, c, sl, nonce⟩ := resumeNonce_vault (decodeLife s.otp e)
  obtain ⟨r, l, drawn⟩ := vaultDrawn_vault (resumeNonce (decodeLife s.otp e))
  rw [nonce, life, vault] at drawn
  have only := ((decodeLife_only s.otp e).comp (resumeNonce_only _) (n := [.vault, .obs, .cnt])).comp (vaultDrawn_only _)
    (n := [.vault, .obs, .cnt, .free])
  have obs : (vaultDrawn (resumeNonce (decodeLife s.otp e))).obs.powerCycles = e.obs.powerCycles := by
    rw [(vaultDrawn_only _).obs, (resumeNonce_only _).obs, decodeLife_powerCycles]
  generalize vaultDrawn (resumeNonce (decodeLife s.otp e)) = x at *
  refine ⟨_, onAll_next hd start, rfl, ?_⟩
  dsimp only
  rw [withDev_dev]
  dsimp only
  rw [only.sys, sys, drawn, obs, cycles, only.time, running]
  refine ⟨rfl, rfl, rfl, rfl, rfl, rfl, rfl, rfl, rfl, rfl, rfl, rfl, rfl, fun k hk => ?_⟩
  exact linkState_of_linksStart (only.pkg.trans pkg) hk

/-- Settles O25, the releases first and then the resets of the endpoint. -/
theorem releasesAndEndpointResets : Obligations.ReleasesAndEndpointResets := by
  refine ⟨fun s d hd => ⟨fun twrole hp hl hv => porstNRelease_starts twrole hd hp hl hv, fun twrole hubOk vaultOk hp hfail =>
    onAll_same hd ?_, fun hp hs hv => ?_, fun hp hs hv => onDev_next hd (srstRelease_false hp hs hv), fun trngOk hp hs hv =>
    onDev_next hd ?_⟩, fun s d d1 hd he hd1 => ?_⟩
  · have failed : (hubOk && vaultOk) = false := by rcases hfail with h | h <;> simp [h]
    unfold porstRelease
    rw [hp, failed]
    rfl
  · have release := srstRelease_true hp hs hv
    have only := releaseCommon_only 1 (trngTested d)
    obtain ⟨a, m, sys⟩ := releaseCommon_sys 1 (trngTested d)
    have pkg := releaseCommon_pkg 1 (trngTested d)
    have running := releaseCommon_running 1 (trngTested d)
    refine ⟨_, onDev_next hd release, withDev_otp .., ?_⟩
    rw [withDev_dev, sys, only.vault, running]
    exact ⟨rfl, rfl, rfl, rfl, rfl, rfl, rfl, fun k hk => linkState_of_linksStart pkg hk⟩
  · unfold srstRelease
    rw [hp, hs, hv]
    rfl
  · have reset : functionReset d = d1 := by
      unfold functionReset
      rw [he]
      exact hd1
    have down : pcieLinkDown d = { d1 with time := { d1.time with linkL0 := false } } := by
      unfold pcieLinkDown
      rw [reset]
    have porst : d.sys.porst = true := by
      unfold enumerated at he
      simp only [Bool.and_eq_true] at he
      exact he.1.1
    refine ⟨onDev_next hd reset, onDev_next hd down, onDev_next hd ((if_pos porst).trans down), ?_⟩
    subst hd1
    refine ⟨rfl, rfl, rfl, rfl, rfl, rfl, rfl, ?_, fun n hn => ?_⟩
    · exact List.length_map ..
    · interval_cases n <;> rfl

end Sys2Proof.Machine
end

section
/-! What the shared operations leave of the host interface, and what operations on ports and on the pair leave alone. -/
namespace Sys2Proof.Machine

set_option Elab.async false

theorem Only.foldlPair {α β : Type} {l : List Part} {f : α × Dev → β → α × Dev} (h : ∀ a x, Only l a.2 (f a x).2) (xs : List β)
    (a : α × Dev) : Only l a.2 (xs.foldl f a).2 := by
  induction xs generalizing a with
  | nil => exact .refl l a.2
  | cons x xs ih => exact (h a x).trans (ih (f a x))

/-- One more operation, within the parts already listed. -/
theorem Only.andThen {m n : List Part} {d e f : Dev} (h : Only n d e) (g : Only m e f) (hm : Part.within m n = true := by exact rfl) :
    Only n d f :=
  h.trans (g.mono hm)

/-! ### The host interface but for the ring, the completions and the responses -/

/-- The host interface without what notifications, completions and responses move. -/
def HostIf.core (h : HostIf) : HostIf :=
  { h with
    faultCause := 0, nrTail := 0, nrPhase := false, nrSeq := 0, lost := none, held := [], heldLost := none, pba := 0
    mbs := [], pend := [], interrupted := [] }

theorem signal_core (v : Nat) (d : Dev) : (signal v d).host.core = d.host.core := by
  unfold signal
  split
  · rfl
  · split <;> rfl

theorem ringWrite_core (n : Notif) (d : Dev) : (ringWrite n d).host.core = d.host.core := signal_core _ _

theorem ringOverflow_core (d : Dev) : (ringOverflow d).host.core = d.host.core := by
  unfold ringOverflow
  split
  · rfl
  · split
    · exact ringWrite_core _ _
    · rfl

theorem place_core (n : Notif) (d : Dev) : (place n d).host.core = d.host.core := by
  unfold place
  split
  · exact ringWrite_core _ _
  · rfl

theorem notify_core (type source : Nat) (data : Bytes) (d : Dev) : (notify type source data d).host.core = d.host.core := by
  unfold notify
  split
  · rfl
  · split
    · dsimp only
      split <;> rfl
    · exact (place_core _ _).trans (ringOverflow_core d)

theorem notifyRecord_core (type source : Nat) (data : Bytes) (d : Dev) : (notifyRecord type source data d).host.core = d.host.core := by
  unfold notifyRecord
  rw [notify_core, record_host]

theorem complete_core (h : Nat) (st : Status) (res : Bytes) (d : Dev) : (complete h st res d).host.core = d.host.core := by
  unfold complete
  split
  · rfl
  · exact notify_core _ _ _ _

/-! ### Ports and lanes -/

theorem setPortSt_only (p : Nat) (x : PortSt) (d : Dev) : Only [.port] d (setPortSt p x d) := .intro rfl
theorem setLaneSt_only (l : Nat) (x : LaneSt) (d : Dev) : Only [.port] d (setLaneSt l x d) := .intro rfl
theorem portEnter_only (st : LinkSt) (p : Nat) (d : Dev) : Only [.port] d (portEnter st p d) := .intro rfl
theorem anReset_only (p : Nat) (d : Dev) : Only [.port] d (anReset p d) := .intro rfl

theorem onLanes_only (p : Nat) (g : LaneSt → LaneSt) (d : Dev) : Only [.port] d (onLanes p g d) :=
  Only.foldl (f := fun d l => setLaneSt l (g (laneSt l d)) d) (fun _ _ => setLaneSt_only _ _ _) (lanesOf p d) d

theorem presetTaps_only (l : Nat) (d : Dev) : Only [.free] d (presetTaps l d).2 :=
  by
  unfold presetTaps
  exact Only.foldlPair (fun a _ => by exact fresh_only a.2) (tapRange l) (([] : List Int), d)

/-- Training a lane anew draws its taps, or keeps them. -/
theorem trainLane_only (keep : Bool) (l : Nat) (d : Dev) :
    Only [.port, .free] d (
      let (t, d) := if keep then ((laneSt l d).taps, d) else presetTaps l d
      setLaneSt l { laneSt l d with taps := t, trained := false, readyRun := 0, since := d.time.elapsed } d) := by
  cases keep with
  | true => exact .intro rfl
  | false => exact (presetTaps_only l d).comp (setLaneSt_only _ _ _)

theorem twinLanesStart_only (d : Dev) : Only [.port, .free] d (twinLanesStart d) :=
  Only.foldl (fun d l => trainLane_only false l d) (lanesOf 96 d) d

theorem endScan_only (l : Nat) (d : Dev) : Only [.port, .host, .obs, .cnt, .out] d (endScan l d) := by
  unfold endScan
  split
  · exact (setLaneSt_only _ _ _).comp (complete_only _ _ _ _)
  · exact .refl _ d

theorem twinEvent_only (kind : Nat) (st : Status) (d : Dev) : Only [.obs, .cnt] d (twinEvent kind st d) := record_only _ _ _ _

theorem attachFail_only (st : Status) (d : Dev) : Only [.twin, .prot, .host, .obs, .cnt, .out] d (attachFail st d) := by
  unfold attachFail
  have counted : Only [.obs, .cnt] d (if st = .authFailed then twinEvent 1 st (bump .twin 0 5 (bump .twin 0 4 d)) else bump .twin 0 4 d) :=
    .ite (fun _ => ((bump_only _ _ _ _).comp (bump_only _ _ _ _) (n := [.cnt])).comp (twinEvent_only _ _ _))
      (fun _ => (bump_only _ _ _ _).mono)
  have ended (e : Dev) : Only [.twin, .prot] e (twinEnd { e with twin := { e.twin with handle := none } }) := .intro rfl
  have both := counted.comp (ended _) (n := [.twin, .prot, .obs, .cnt])
  cases d.twin.handle with
  | none => exact both.mono
  | some h => exact both.comp (complete_only _ _ _ _)

theorem linkLost_only (d : Dev) : Only [.twin, .prot, .host, .obs, .cnt, .out] d (linkLost d) :=
  .ite (fun _ => (twinEvent_only _ _ _).comp (attachFail_only _ _)) (fun _ => .refl _ d)

theorem leaveUp_only (p : Nat) (d : Dev) : Only [.port, .que, .twin, .prot, .host, .obs, .cnt, .out] d (leaveUp p d) := by
  unfold leaveUp
  split
  · exact .refl _ d
  · have lost : Only [.twin, .prot, .host, .obs, .cnt, .out] d (if p = 96 then linkLost d else d) :=
      .ite (fun _ => linkLost_only d) (fun _ => .refl _ d)
    have stomped (s : Map Sending) (e : Dev) : Only [.que] e { e with que := { e.que with sending := s } } := .intro rfl
    exact (lost.comp (stomped _ _) (n := [.que, .twin, .prot, .host, .obs, .cnt, .out])).comp
      (Only.foldl (fun d l => endScan_only l d) _ _)

theorem portTo_only (st : LinkSt) (p : Nat) (d : Dev) :
    Only [.port, .que, .twin, .prot, .host, .obs, .cnt, .out] d (portTo st p d) := by
  unfold portTo
  split
  · exact (portEnter_only _ _ _).mono
  · exact (leaveUp_only p d).comp (portEnter_only _ _ _)

/-- What the state of a port may reach beyond the port. -/
abbrev portParts : List Part := [.port, .que, .twin, .prot, .host, .obs, .cnt, .out, .free]

theorem portOff_only (p : Nat) (d : Dev) : Only portParts d (portOff p d) :=
  ((portTo_only .disabled p d).comp (setPortSt_only _ _ _) (n := portParts)).andThen (onLanes_only _ _ _)

theorem startTraining_only (keep : Bool) (p : Nat) (d : Dev) : Only portParts d (startTraining keep p d) := by
  have lanes := Only.foldl (fun d l => trainLane_only keep l d) (lanesOf p (portTo .training p d)) (portTo .training p d)
  exact (portTo_only .training p d).comp lanes

theorem portAgain_only (keep : Bool) (p : Nat) (d : Dev) : Only portParts d (portAgain keep p d) := by
  unfold portAgain
  split
  · exact .refl _ d
  next x _ =>
    unfold trunkStart
    split
    · split
      · exact (anReset_only p d).comp (portTo_only _ _ _)
      · exact startTraining_only keep p d
    · split
      · exact (twinLanesStart_only d).comp (portTo_only _ _ _)
      · exact (anReset_only p d).comp (portTo_only _ _ _)

theorem portStart_only (keep : Bool) (p : Nat) (d : Dev) : Only portParts d (portStart keep p d) := by
  unfold portStart
  split
  · exact ((onLanes_only p _ d).comp (portAgain_only keep p _) (n := portParts)).andThen (setPortSt_only _ _ _)
  · exact .refl _ d

theorem portsStart_only (keep : Bool) (d : Dev) : Only portParts d (portsStart keep d) :=
  Only.foldl (f := fun d p => portStart keep p d) (fun d p => portStart_only keep p d) (formedPorts d) d

end Sys2Proof.Machine
end

section
/-! What making a set active changes (R431, R439), and what stays calm over it: how far start-up has come. -/
namespace Sys2Proof.Machine

set_option Elab.async false

/-! ### The parts that a new set touches -/

theorem analysisOff_only (p : Nat) (d : Dev) : Only [.fab, .cnt] d (analysisOff p d) := by
  have flags : Only [.fab, .cnt] d { d with fab := { d.fab with
      analysis := d.fab.analysis.filter (· ≠ p), analysisFrom := Map.del d.fab.analysisFrom p } } := .intro rfl
  exact flags.trans (Only.foldl (fun e x => by exact .intro rfl) _ _)

/-- The parts of a port and of what a port carries. -/
abbrev reformParts : List Part := [.port, .que, .twin, .prot, .host, .obs, .cnt, .out, .free, .fab]

theorem portReform_only (d : Dev) (p : Nat) : Only reformParts d (portReform d p) := by
  have off : Only reformParts d (if (portSt p d).state = .disabled then d else portOff p d) :=
    .ite (fun _ => .refl _ d) (fun _ => (portOff_only p d).mono)
  have loop (e : Dev) : Only [.obs] e { e with obs := { e.obs with loopback := Map.del e.obs.loopback p } } := .intro rfl
  exact (off.trans (analysisOff_only p _).mono).trans (loop _).mono

theorem enterHoldover_only (cause : Nat) (d : Dev) : Only [.time, .host, .obs, .cnt, .out] d (enterHoldover cause d) := by
  have slewed : Only [.time, .host, .obs, .cnt, .out] d { d with time := { d.time with slew := 0 } } := .intro rfl
  exact (slewed.andThen (timeEnter_only _ _ _ _)).andThen (bump_only _ _ _ _)

theorem askAcquire_only (cause : Nat) (d : Dev) : Only [.time] d (askAcquire cause d) :=
  .ite (fun _ => .refl _ d) (fun _ => .intro rfl)

theorem sourceChanged_only (old new : Nat) (d : Dev) : Only [.time, .host, .obs, .cnt, .out] d (sourceChanged old new d) := by
  unfold sourceChanged
  split
  · exact .refl _ d
  · extract_lets t e
    have cleared : Only [.time, .host, .obs, .cnt, .out] d e := .intro rfl
    clear_value e
    refine cleared.trans ?_
    cases e.time.state with
    | freerun => exact .ite (fun _ => (askAcquire_only 5 e).mono) (fun _ => .refl _ e)
    | acquire => exact .refl _ e
    | track => exact enterHoldover_only 5 e
    | locked => exact enterHoldover_only 5 e
    | holdover => exact .refl _ e

theorem cdJudge_only (n : Nat) (d : Dev) : Only [.act, .host, .obs, .cnt, .out] d (cdJudge n d) := by
  unfold cdJudge
  split
  · exact .refl _ d
  · extract_lets die cap newCap a e req f
    have missed : Only [.act, .host, .obs, .cnt, .out] d e := .intro rfl
    have recorded : Only [.obs, .cnt] e f := .ite (fun _ => (bump_only _ _ _ _).comp (record_only _ _ _ _)) (fun _ => .refl _ e)
    have delayed (l : List Nat) : Only [.act] f { f with act := { f.act with delayMis := l } } := .intro rfl
    have first := missed.andThen recorded
    clear_value f
    refine first.trans ?_
    split
    · exact (delayed _).mono
    · split
      · exact .refl _ f
      · exact ((delayed _).comp (bump_only _ _ _ _) (n := [.act, .host, .obs, .cnt, .out])).andThen (notifyRecord_only _ _ _ _)

theorem cdJudgeAll_only (d : Dev) : Only [.act, .host, .obs, .cnt, .out] d (cdJudgeAll d) :=
  Only.foldl (f := fun d n => cdJudge n d) (fun d n => cdJudge_only n d) _ d

theorem trafficCheck_only (d : Dev) : Only [.sys, .host, .twin] d (trafficCheck d) := by
  unfold trafficCheck
  split
  · exact .refl _ d
  · have ready : Only [.host, .twin] d { d with
        host := { d.host with trafficReady := true }
        twin := { d.twin with serving := d.twin.serving || mayServe d } } := .intro rfl
    exact ready.comp (milestone_only _ _)

/-! ### Making a set active, in its steps -/

/-- The set as the device takes it: a twin that took the other home over runs it on the alternate ports (R416). -/
def setTaken (set : SetImg) (d : Dev) : SetImg := { set with params := altParams d.twin.tookHome set.params }

/-- The ports that change are down, and the set is the active one. -/
def setInstalled (set : SetImg) (d : Dev) : Dev :=
  let e := keepBuckets (prm d) (setTaken set d).params ((changedPorts (prm d) (setTaken set d).params).foldl portReform (keepSet (some set) d))
  { e with cfg := { e.cfg with active := some { setTaken set d with gen := e.cfg.nextGen }, nextGen := e.cfg.nextGen + 1 } }

/-- Ports that the active set does not enable go down. -/
def portsDisabled (d : Dev) : Dev :=
  ((formedPorts d).filter (fun p => !adminOn p d && decide ((portSt p d).state ≠ .disabled))).foldl (fun d p => portOff p d) d

/-- The eras and samples of the sets in force are kept. -/
def setCarried (set : SetImg) (d : Dev) : Dev :=
  let e := restartSamples (prm d) (setTaken set d).params (setInstalled set d)
  pruneEras [activeGen e - 1, activeGen e] e

theorem activate_eq (set : SetImg) (d : Dev) :
    activate set d = trafficCheck (milestone 7 (portsStart false (cdJudgeAll (sourceChanged (prm d).timeSource
      (setTaken set d).params.timeSource (portsDisabled (setCarried set d)))))) := rfl

/-- All that a set becoming active touches but for the sets themselves. -/
abbrev activeParts : List Part := [.time, .host, .sys, .prot, .fab, .que, .act, .port, .twin, .obs, .cnt, .free, .out]

theorem setInstalled_cfg (set : SetImg) (d : Dev) : ∃ k, (setInstalled set d).cfg = { d.cfg with
    kept := k, active := some { setTaken set d with gen := d.cfg.nextGen }, nextGen := d.cfg.nextGen + 1 } := by
  have reform := (Only.foldl portReform_only (changedPorts (prm d) (setTaken set d).params) (keepSet (some set) d)).cfg
  unfold setInstalled keepBuckets
  dsimp only
  rw [reform]
  exact ⟨_, rfl⟩

theorem setCarried_only (set : SetImg) (d : Dev) : Only [.fab] (setInstalled set d) (setCarried set d) := .intro rfl

theorem portsDisabled_only (d : Dev) : Only portParts d (portsDisabled d) :=
  Only.foldl (f := fun d p => portOff p d) (fun d p => portOff_only p d) _ d

theorem activate_rest_only (set : SetImg) (d : Dev) : Only activeParts (setInstalled set d) (activate set d) := by
  rw [activate_eq]
  have carried : Only activeParts (setInstalled set d) (setCarried set d) := (setCarried_only set d).mono
  have source := (carried.andThen (portsDisabled_only _)).andThen
    (sourceChanged_only (prm d).timeSource (setTaken set d).params.timeSource _)
  exact (((source.andThen (cdJudgeAll_only _)).andThen (portsStart_only false _)).andThen (milestone_only 7 _)).andThen
    (trafficCheck_only _)

/-- R439: the set becomes active under the next number. -/
theorem activate_cfg (set : SetImg) (d : Dev) : ∃ k, (activate set d).cfg = { d.cfg with
    kept := k, active := some { setTaken set d with gen := d.cfg.nextGen }, nextGen := d.cfg.nextGen + 1 } := by
  rw [(activate_rest_only set d).cfg]
  exact setInstalled_cfg set d

end Sys2Proof.Machine
end

section
/-! What stays calm while ports start and a set becomes active: how far start-up has come, and the end of SLEEP (R430 to
R432, R439 to R442). -/
namespace Sys2Proof.Machine

set_option Elab.async false

/-! ### How far start-up has come -/

/-- Start-up and power but for the milestones. -/
def Sys.core (x : Sys) : Sys := { x with milestones := [] }

/-- Start-up has come as far, the firmware is as ready, and TWFAIL_O is at its level. -/
structure Calm (d e : Dev) : Prop where
  sys : e.sys.core = d.sys.core
  ready : e.host.fwReady = d.host.fwReady
  failOut : e.twin.failOut = d.twin.failOut

theorem Calm.refl (d : Dev) : Calm d d := ⟨rfl, rfl, rfl⟩

theorem Calm.trans {d e f : Dev} (h : Calm d e) (g : Calm e f) : Calm d f :=
  ⟨g.sys.trans h.sys, g.ready.trans h.ready, g.failOut.trans h.failOut⟩

theorem Calm.foldl {α : Type} {f : Dev → α → Dev} (h : ∀ d x, Calm d (f d x)) (xs : List α) (d : Dev) : Calm d (xs.foldl f d) := by
  induction xs generalizing d with
  | nil => exact .refl d
  | cons x xs ih => exact (h d x).trans (ih (f d x))

theorem Calm.ite {c : Prop} [Decidable c] {d e f : Dev} (he : Calm d e) (hf : Calm d f) : Calm d (if c then e else f) := by
  split
  · exact he
  · exact hf

theorem Calm.of_core {l : List Part} {d e : Dev} (h : Only l d e) (hc : e.host.core = d.host.core)
    (hs : Part.sys.inList l = false := by exact rfl) (ht : Part.twin.inList l = false := by exact rfl) : Calm d e :=
  ⟨congrArg Sys.core (h .sys hs), (congrArg HostIf.fwReady hc :), congrArg Twin.failOut (h .twin ht)⟩

theorem Calm.of_only {l : List Part} {d e : Dev} (h : Only l d e) (hh : Part.host.inList l = false := by exact rfl)
    (hs : Part.sys.inList l = false := by exact rfl) (ht : Part.twin.inList l = false := by exact rfl) : Calm d e :=
  .of_core h (congrArg HostIf.core (h .host hh)) hs ht

theorem complete_calm (h : Nat) (st : Status) (res : Bytes) (d : Dev) : Calm d (complete h st res d) :=
  .of_core (complete_only h st res d) (complete_core h st res d)

theorem notifyRecord_calm (type source : Nat) (data : Bytes) (d : Dev) : Calm d (notifyRecord type source data d) :=
  .of_core (notifyRecord_only type source data d) (notifyRecord_core type source data d)

theorem milestone_calm (k : Nat) (d : Dev) : Calm d (milestone k d) := .ite (.refl d) ⟨rfl, rfl, rfl⟩

theorem endScan_calm (l : Nat) (d : Dev) : Calm d (endScan l d) := by
  unfold endScan
  split
  · exact (Calm.of_only (setLaneSt_only _ _ _)).trans (complete_calm _ _ _ _)
  · exact .refl d

theorem attachFail_calm (st : Status) (d : Dev) : Calm d (attachFail st d) := by
  unfold attachFail
  extract_lets h e f t g
  have counted : Calm d f := .ite
    (.trans (.of_only ((bump_only _ _ _ _).comp (bump_only _ _ _ _) (n := [.cnt]))) (.of_only (twinEvent_only _ _ _)))
    (.of_only (bump_only _ _ _ _))
  clear_value f
  have ended : Calm f g := ⟨rfl, rfl, rfl⟩
  cases h with
  | none => exact counted.trans ended
  | some h => exact (counted.trans ended).trans (complete_calm _ _ _ _)

theorem linkLost_calm (d : Dev) : Calm d (linkLost d) :=
  .ite ((Calm.of_only (twinEvent_only _ _ _)).trans (attachFail_calm _ _)) (.refl d)

theorem leaveUp_calm (p : Nat) (d : Dev) : Calm d (leaveUp p d) := by
  have stomped (s : Map Sending) (e : Dev) : Calm e { e with que := { e.que with sending := s } } := ⟨rfl, rfl, rfl⟩
  have lost : Calm d (if p = 96 then linkLost d else d) := .ite (linkLost_calm d) (.refl d)
  exact .ite (.refl d) ((lost.trans (stomped _ _)).trans (.foldl (fun d l => endScan_calm l d) _ _))

theorem portTo_calm (st : LinkSt) (p : Nat) (d : Dev) : Calm d (portTo st p d) := by
  have left : Calm d (if st = .up then d else leaveUp p d) := .ite (.refl d) (leaveUp_calm p d)
  exact left.trans (.of_only (portEnter_only _ _ _))

theorem portOff_calm (p : Nat) (d : Dev) : Calm d (portOff p d) :=
  ((portTo_calm .disabled p d).trans (.of_only (setPortSt_only _ _ _))).trans (.of_only (onLanes_only _ _ _))

theorem startTraining_calm (keep : Bool) (p : Nat) (d : Dev) : Calm d (startTraining keep p d) := by
  have lanes := Only.foldl (fun d l => trainLane_only keep l d) (lanesOf p (portTo .training p d)) (portTo .training p d)
  exact (portTo_calm .training p d).trans (.of_only lanes)

theorem portAgain_calm (keep : Bool) (p : Nat) (d : Dev) : Calm d (portAgain keep p d) := by
  unfold portAgain
  split
  · exact .refl d
  next x _ =>
    unfold trunkStart
    split
    · exact .ite ((Calm.of_only (anReset_only p d)).trans (portTo_calm _ _ _)) (startTraining_calm keep p d)
    · exact .ite ((Calm.of_only (twinLanesStart_only d)).trans (portTo_calm _ _ _))
        ((Calm.of_only (anReset_only p d)).trans (portTo_calm _ _ _))

theorem portStart_calm (keep : Bool) (p : Nat) (d : Dev) : Calm d (portStart keep p d) :=
  .ite (((Calm.of_only (onLanes_only p _ d)).trans (portAgain_calm keep p _)).trans (.of_only (setPortSt_only _ _ _))) (.refl d)

theorem portsStart_calm (keep : Bool) (d : Dev) : Calm d (portsStart keep d) :=
  Calm.foldl (f := fun d p => portStart keep p d) (fun d p => portStart_calm keep p d) (formedPorts d) d

theorem portReform_calm (d : Dev) (p : Nat) : Calm d (portReform d p) := by
  have off : Calm d (if (portSt p d).state = .disabled then d else portOff p d) := .ite (.refl d) (portOff_calm p d)
  have loop (e : Dev) : Calm e { e with obs := { e.obs with loopback := Map.del e.obs.loopback p } } := ⟨rfl, rfl, rfl⟩
  exact (off.trans (.of_only (analysisOff_only p _))).trans (loop _)

theorem timeEnter_calm (st : TimeState) (cause : Nat) (recorded : Bool) (d : Dev) : Calm d (timeEnter st cause recorded d) := by
  refine .of_core (timeEnter_only st cause recorded d) ?_
  unfold timeEnter
  dsimp only
  split
  · exact notifyRecord_core _ _ _ _
  · exact notify_core _ _ _ _

theorem enterHoldover_calm (cause : Nat) (d : Dev) : Calm d (enterHoldover cause d) := by
  have slewed : Calm d { d with time := { d.time with slew := 0 } } := ⟨rfl, rfl, rfl⟩
  exact (slewed.trans (timeEnter_calm _ _ _ _)).trans (.of_only (bump_only _ _ _ _))

theorem sourceChanged_calm (old new : Nat) (d : Dev) : Calm d (sourceChanged old new d) := by
  unfold sourceChanged
  split
  · exact .refl d
  · extract_lets t e
    have cleared : Calm d e := ⟨rfl, rfl, rfl⟩
    clear_value e
    refine cleared.trans ?_
    cases e.time.state with
    | freerun => exact .ite (.of_only (askAcquire_only 5 e)) (.refl e)
    | acquire => exact .refl e
    | track => exact enterHoldover_calm 5 e
    | locked => exact enterHoldover_calm 5 e
    | holdover => exact .refl e

theorem cdJudge_calm (n : Nat) (d : Dev) : Calm d (cdJudge n d) := by
  unfold cdJudge
  split
  · exact .refl d
  · extract_lets die cap newCap a e req f
    have missed : Calm d e := ⟨rfl, rfl, rfl⟩
    have recorded : Calm e f := .ite (.of_only ((bump_only _ _ _ _).comp (record_only _ _ _ _) (n := [.obs, .cnt]))) (.refl e)
    have delayed (l : List Nat) : Calm f { f with act := { f.act with delayMis := l } } := ⟨rfl, rfl, rfl⟩
    have first := missed.trans recorded
    clear_value f
    refine first.trans ?_
    split
    · exact delayed _
    · exact .ite (.refl f) (((delayed _).trans (.of_only (bump_only _ _ _ _))).trans (notifyRecord_calm _ _ _ _))

theorem cdJudgeAll_calm (d : Dev) : Calm d (cdJudgeAll d) :=
  Calm.foldl (f := fun d n => cdJudge n d) (fun d n => cdJudge_calm n d) _ d

theorem trafficCheck_calm (d : Dev) : Calm d (trafficCheck d) := by
  have ready : Calm d { d with
      host := { d.host with trafficReady := true }
      twin := { d.twin with serving := d.twin.serving || mayServe d } } := ⟨rfl, rfl, rfl⟩
  exact .ite (.refl d) (ready.trans (milestone_calm _ _))

theorem setInstalled_calm (set : SetImg) (d : Dev) : Calm d (setInstalled set d) := by
  have kept : Calm d (keepSet (some set) d) := ⟨rfl, rfl, rfl⟩
  have reform := Calm.foldl portReform_calm (changedPorts (prm d) (setTaken set d).params) (keepSet (some set) d)
  have last (e : Dev) (c : Cfg) : Calm e { keepBuckets (prm d) (setTaken set d).params e with cfg := c } := ⟨rfl, rfl, rfl⟩
  exact (kept.trans reform).trans (last _ _)

theorem activate_calm (set : SetImg) (d : Dev) : Calm d (activate set d) := by
  rw [activate_eq]
  have carried := (setInstalled_calm set d).trans (.of_only (setCarried_only set d))
  have disabled := carried.trans (Calm.foldl (f := fun d p => portOff p d) (fun d p => portOff_calm p d) _ _ : Calm _ (portsDisabled _))
  have judged := (disabled.trans (sourceChanged_calm (prm d).timeSource (setTaken set d).params.timeSource _)).trans (cdJudgeAll_calm _)
  exact ((judged.trans (portsStart_calm false _)).trans (milestone_calm 7 _)).trans (trafficCheck_calm _)

/-! ### The start-up set and the key store -/

theorem loadCopy_calm {k : Nat} {o : Otp} {d e : Dev} (h : loadCopy k o d = .ok e) : Calm d e := by
  unfold loadCopy at h
  dsimp only at h
  split at h
  · cases h
  · rw [← Except.ok.inj h]
    exact (activate_calm _ _).trans (.of_only (bumpBy_only _ _ _ _ _))

theorem loadStartupSet_calm (o : Otp) (d : Dev) : Calm d (loadStartupSet o d) := by
  unfold loadStartupSet
  dsimp only
  split
  next e h => exact loadCopy_calm h
  next st ref h =>
    split
    next e h' => exact loadCopy_calm h'
    next => exact .of_only (record_only _ _ _ _)

theorem reinstallOne_only {e : Nat × (Bool × Nat × Bytes)} {d d1 : Dev} (h : reinstallOne e d = some d1) : Only [.vault, .cnt] d d1 := by
  unfold reinstallOne at h
  dsimp only at h
  split at h
  · cases h
  · split at h
    · cases h
    · split at h <;> rw [← Option.some.inj h] <;> exact .intro rfl

theorem reinstall_only (n : Nat) (es : List (Nat × (Bool × Nat × Bytes))) (d : Dev) : Only [.vault, .cnt] d (reinstall n es d) := by
  induction n generalizing es d with
  | zero => exact (bumpBy_only _ _ _ _ _).mono
  | succ n ih =>
    unfold reinstall
    extract_lets r
    have once : Only [.vault, .cnt] d r.2 := Only.foldlPair (fun a e => by
      split
      next h => exact reinstallOne_only h
      next => exact .refl _ _) es ([], d)
    exact .ite (fun _ => (bumpBy_only _ _ _ _ _).mono) (fun _ => once.trans (ih _ _))

theorem reinstallKeys_eq (d : Dev) : ∃ e, Only [.vault, .cnt] d e ∧
    reinstallKeys d = { e with sys := { e.sys with keysLoaded := true, starting := false } } := by
  refine ⟨if d.vault.startHeld || decide (d.vault.lc = 3 ∨ d.vault.lc = 4) || !vaultUp d then d
    else reinstall d.vault.area.length d.vault.area d, ?_, rfl⟩
  exact .ite (fun _ => .refl _ d) (fun _ => reinstall_only _ _ d)

/-! ### The firmware starts (R430) -/

/-- The firmware runs, with TWFAIL_O at the level of the life cycle. -/
def firmwareUp (d : Dev) : Dev :=
  milestone 6 { d with
    sys := { d.sys with fwRunning := true }
    host := { d.host with fwReady := true, aliveAt := d.time.elapsed }
    twin := { d.twin with failOut := decide (d.vault.lc = 3 ∨ d.vault.lc = 4) } }

theorem firmwareStart_eq (o : Otp) {d : Dev} (hs : startingUp d = true) (hb : d.sys.bistDone = true) (hr : d.sys.romDone = true) :
    firmwareStart o d =
      let e := firmwareUp d
      trafficCheck (loadStartupSet o (reinstallKeys (portStart false 96 (record 0x100 deviceTarget
        (le 1 e.sys.resetCause ++ le 1 e.pkg.present ++ le 1 e.vault.lc ++ le 4 e.host.fwVersion) e)))) := by
  have runs : (!(startingUp d && d.sys.bistDone && d.sys.romDone)) = false := by rw [hs, hb, hr]; rfl
  exact if_neg (runs ▸ Bool.false_ne_true)

theorem firmwareStart_state (o : Otp) {d e : Dev} (hs : startingUp d = true) (hb : d.sys.bistDone = true) (hr : d.sys.romDone = true)
    (he : firmwareStart o d = e) :
    e.sys.fwRunning = true ∧ e.host.fwReady = true ∧ e.sys.starting = false ∧ e.sys.keysLoaded = true ∧
      e.twin.failOut = decide (d.vault.lc = 3 ∨ d.vault.lc = 4) := by
  rw [firmwareStart_eq o hs hb hr] at he
  have up : Calm { d with
      sys := { d.sys with fwRunning := true }
      host := { d.host with fwReady := true, aliveAt := d.time.elapsed }
      twin := { d.twin with failOut := decide (d.vault.lc = 3 ∨ d.vault.lc = 4) } } (firmwareUp d) := milestone_calm 6 _
  generalize firmwareUp d = u at up he
  dsimp only at he
  have started := (up.trans (.of_only (record_only 0x100 deviceTarget
    (le 1 u.sys.resetCause ++ le 1 u.pkg.present ++ le 1 u.vault.lc ++ le 4 u.host.fwVersion) u))).trans (portStart_calm false 96 _)
  generalize portStart false 96 _ = p at started he
  obtain ⟨k, only, keys⟩ := reinstallKeys_eq p
  have loaded := started.trans (.of_only only)
  rw [keys] at he
  have after := (loadStartupSet_calm o { k with sys := { k.sys with keysLoaded := true, starting := false } }).trans (trafficCheck_calm _)
  rw [he] at after
  exact ⟨(congrArg Sys.fwRunning after.sys).trans (congrArg Sys.fwRunning loaded.sys), after.ready.trans loaded.ready,
    congrArg Sys.starting after.sys, congrArg Sys.keysLoaded after.sys, after.failOut.trans loaded.failOut⟩

end Sys2Proof.Machine
end

section
/-! Each step of start-up, and SLEEP with its wake (R430 to R442). -/
namespace Sys2Proof.Machine

set_option Elab.async false

/-! ### The ROM chooses an image (R432, R436) -/

section
variable {d e : Dev} (h : e.sys.flash = d.sys.flash)
include h

theorem flashRead_of_flash (off n : Nat) : flashRead off n e = flashRead off n d := by
  unfold flashRead
  rw [h]

theorem verifySlot_of_flash (k : Nat) (o : Otp) : verifySlot k o e = verifySlot k o d := by
  unfold verifySlot
  simp only [flashRead_of_flash h]

theorem bootGoverning_of_flash : bootGoverning e = bootGoverning d := by
  unfold bootGoverning bootCopy
  simp only [flashRead_of_flash h]

theorem bootCtl_of_flash : bootCtl e = bootCtl d := by
  unfold bootCtl
  rw [bootGoverning_of_flash h]

theorem bootChoose_of_flash (plan : List Nat) (o : Otp) : bootChoose plan o e = bootChoose plan o d := by
  unfold bootChoose
  simp only [verifySlot_of_flash h]

theorem bootPlan_of_flash : (bootPlan e).1 = (bootPlan d).1 ∧ (bootPlan e).2.sys.flash = (bootPlan d).2.sys.flash := by
  unfold bootPlan
  rw [bootCtl_of_flash h]
  dsimp only
  split
  · unfold bootWrite flashWrite
    dsimp only
    rw [bootCtl_of_flash h, bootGoverning_of_flash h, h]
    exact ⟨rfl, rfl⟩
  · exact ⟨rfl, h⟩

end

theorem bootPlan_only (d : Dev) : Only [.sys] d (bootPlan d).2 := by
  unfold bootPlan
  dsimp only
  split
  · exact .intro rfl
  · exact .refl _ d

theorem bootPlan_sys (d : Dev) : ∃ f, (bootPlan d).2.sys = { d.sys with flash := f } := by
  unfold bootPlan
  dsimp only
  split
  · exact ⟨_, rfl⟩
  · exact ⟨_, rfl⟩

theorem bootSelect_none {o : Otp} {d : Dev} (h : bootChoose (bootPlan d).1 o (bootPlan d).2 = none) :
    bootSelect o d = (none, (bootPlan d).2) := by
  unfold bootSelect
  dsimp only
  rw [h]

/-- The image of a slot runs, as it was judged. -/
def imageChosen (k : Nat) (trial : Bool) (v : Verdict) (d : Dev) : Dev :=
  { d with
    sys := { d.sys with runningSlot := k, runningTrial := trial, verdicts := Map.put d.sys.verdicts k (0, v.security, v.version) }
    host := { d.host with fwVersion := v.version } }

theorem imageChosen_only (k : Nat) (trial : Bool) (v : Verdict) (d : Dev) : Only [.sys, .host] d (imageChosen k trial v d) := .intro rfl

/-- R436: a fall-back is recorded. -/
def fallBack (c : Bool) (data : Bytes) (d : Dev) : Dev := if c then record 0x0101 deviceTarget data d else d

theorem fallBack_only (c : Bool) (data : Bytes) (d : Dev) : Only [.obs, .cnt] d (fallBack c data d) :=
  .ite (fun _ => record_only _ _ _ _) (fun _ => .refl _ d)

theorem bootSelect_some {o : Otp} {d : Dev} {k : Nat} (h : bootChoose (bootPlan d).1 o (bootPlan d).2 = some k) :
    ∃ trial c data, bootSelect o d = (some k, fallBack c data (imageChosen k trial (verifySlot k o (bootPlan d).2) (bootPlan d).2)) := by
  unfold bootSelect
  dsimp only
  rw [h]
  exact ⟨_, _, _, rfl⟩

theorem bootSelect_keeps {o : Otp} {d : Dev} {k : Nat} (h : bootChoose (bootPlan d).1 o (bootPlan d).2 = some k) :
    ∃ e, bootSelect o d = (some k, e) ∧ Only [.sys, .host, .obs, .cnt] d e ∧ e.sys.stopped = d.sys.stopped ∧
      e.sys.romDone = d.sys.romDone ∧ e.sys.runningSlot = k ∧ e.host.fwVersion = (verifySlot k o (bootPlan d).2).version := by
  obtain ⟨f, sys⟩ := bootPlan_sys d
  obtain ⟨trial, c, data, eq⟩ := bootSelect_some h
  have plan : Only [.sys, .host, .obs, .cnt] d (bootPlan d).2 := (bootPlan_only d).mono
  generalize verifySlot k o (bootPlan d).2 = v at eq ⊢
  generalize (bootPlan d).2 = p at *
  refine ⟨_, eq, (plan.andThen (imageChosen_only k trial v p)).andThen (fallBack_only c data _), ?_⟩
  rw [(fallBack_only c data _).sys, (fallBack_only c data _).host]
  exact ⟨(congrArg Sys.stopped sys :), (congrArg Sys.romDone sys :), rfl, rfl⟩

/-- PCIe has enumerated. -/
def enumeratedBy (d : Dev) : Dev :=
  milestone 1 { d with sys := { d.sys with romDone := true }, time := { d.time with linkL0 := true } }

theorem enumeratedBy_only (d : Dev) : Only [.sys, .time] d (enumeratedBy d) := by
  have rom : Only [.sys, .time] d { d with sys := { d.sys with romDone := true }, time := { d.time with linkL0 := true } } := .intro rfl
  exact rom.andThen (milestone_only _ _)

theorem enumeratedBy_sys (d : Dev) : ∃ m, (enumeratedBy d).sys = { d.sys with romDone := true, milestones := m } := milestone_sys _ _

theorem enumeratedBy_time (d : Dev) : (enumeratedBy d).time = { d.time with linkL0 := true } := milestone_time _ _

section
variable {o : Otp} {d e : Dev} (hs : startingUp d = true) (hr : d.sys.romDone = false)
include hs hr

theorem romBoot_of_none (h : bootSelect o (enumeratedBy d) = (none, e)) :
    romBoot o d = record 0x0101 deviceTarget
      (le 1 ((bootPlan e).1.headD 0) ++ le 1 0xFF ++ le 1 (verifySlot ((bootPlan e).1.headD 0) o e).verdict)
      { e with sys := { e.sys with stopped := true } } := by
  have runs : (!startingUp d || d.sys.romDone) = false := by rw [hs, hr]; rfl
  unfold romBoot
  rw [runs, if_neg Bool.false_ne_true]
  dsimp only [enumeratedBy] at h ⊢
  rw [h]

theorem romBoot_of_some {k : Nat} (h : bootSelect o (enumeratedBy d) = (some k, e)) : romBoot o d = milestone 2 e := by
  have runs : (!startingUp d || d.sys.romDone) = false := by rw [hs, hr]; rfl
  unfold romBoot
  rw [runs, if_neg Bool.false_ne_true]
  dsimp only [enumeratedBy] at h ⊢
  rw [h]

end

/-- R432: start-up stops without an image. -/
theorem romBoot_none (o : Otp) {d : Dev} (hs : startingUp d = true) (hr : d.sys.romDone = false)
    (h : bootChoose (bootPlan d).1 o (bootPlan d).2 = none) :
    ∃ e data, romBoot o d = record 0x0101 deviceTarget data { e with sys := { e.sys with stopped := true } } ∧
      Only [.sys, .time] d e ∧ e.sys.romDone = true ∧ e.time.linkL0 = true := by
  obtain ⟨m, sys⟩ := enumeratedBy_sys d
  have flash : (enumeratedBy d).sys.flash = d.sys.flash := by rw [sys]
  obtain ⟨plan, after⟩ := bootPlan_of_flash flash
  obtain ⟨f, planned⟩ := bootPlan_sys (enumeratedBy d)
  have none' : bootChoose (bootPlan (enumeratedBy d)).1 o (bootPlan (enumeratedBy d)).2 = none := by
    rw [plan, bootChoose_of_flash after]
    exact h
  rw [romBoot_of_none hs hr (bootSelect_none none')]
  refine ⟨_, _, rfl, (enumeratedBy_only d).andThen (bootPlan_only _), ?_, ?_⟩
  · rw [planned, sys]
  · rw [(bootPlan_only _).time, enumeratedBy_time]

/-- R432: the image chosen runs. -/
theorem romBoot_some (o : Otp) {d : Dev} {k : Nat} (hs : startingUp d = true) (hr : d.sys.romDone = false)
    (h : bootChoose (bootPlan d).1 o (bootPlan d).2 = some k) :
    ∃ e, romBoot o d = milestone 2 e ∧ Only [.sys, .host, .obs, .cnt, .time] d e ∧ e.sys.romDone = true ∧ e.time.linkL0 = true ∧
      e.sys.stopped = d.sys.stopped ∧ e.sys.runningSlot = k ∧ e.host.fwVersion = (verifySlot k o (bootPlan d).2).version := by
  obtain ⟨m, sys⟩ := enumeratedBy_sys d
  have flash : (enumeratedBy d).sys.flash = d.sys.flash := by rw [sys]
  obtain ⟨plan, after⟩ := bootPlan_of_flash flash
  obtain ⟨e, chosen, only, stopped, rom, slot, version⟩ := bootSelect_keeps (o := o) (d := enumeratedBy d) (k := k) (by
    rw [plan, bootChoose_of_flash after]
    exact h)
  rw [romBoot_of_some hs hr chosen]
  refine ⟨e, rfl, (enumeratedBy_only d).comp only, ?_, ?_, ?_, slot, ?_⟩
  · rw [rom, sys]
  · rw [only.time, enumeratedBy_time]
  · rw [stopped, sys]
  · rw [version, verifySlot_of_flash after]

theorem not_stopped_of_startingUp {d : Dev} (h : startingUp d = true) : d.sys.stopped = false := by
  unfold startingUp at h
  simp only [Bool.and_eq_true, Bool.not_eq_true'] at h
  exact h.1.2

/-! ### Stockpot training (R352) -/

theorem freshRegion_only (r : Nat) (st : RegionState) (d : Dev) : Only [.mem, .free] d (freshRegion r st d) := .intro rfl

theorem initStockpot_only (ok : Bool) (d : Dev) : Only [.mem, .free] d (initStockpot ok d) := by
  have cleared : Only [.mem, .free] d { d with mem := { d.mem with
      regions := [], queue := [], nodes := [], writes := [], departed := [] } } := .intro rfl
  exact cleared.trans (Only.foldl (fun e r => by exact .ite (fun _ => .intro rfl) (fun _ => .intro rfl)) _ _)

theorem region_setRegion_eq (r k : Nat) (x : Region) (d : Dev) : region r (setRegion k x d) = if r = k then x else region r d := by
  by_cases h : r = k
  · rw [if_pos h, h, region_setRegion]
  · rw [if_neg h]
    unfold region setRegion Map.get
    dsimp only
    rw [Map.get?_put_ne _ _ _ _ h]
    rfl

/-- A pass over the regions that leaves each in a state its own state decides. -/
theorem regionState_foldl {f : Dev → Nat → Dev} {g : Nat → RegionState → RegionState}
    (own : ∀ d k, (region k (f d k)).state = g k (region k d).state)
    (others : ∀ d k r, r ≠ k → (region r (f d k)).state = (region r d).state) (l : List Nat) (hl : l.Nodup) (d : Dev) (r : Nat) :
    (region r (l.foldl f d)).state = if r ∈ l then g r (region r d).state else (region r d).state := by
  induction l generalizing d with
  | nil => rfl
  | cons k l ih =>
    obtain ⟨hk, hl⟩ := List.nodup_cons.mp hl
    rw [List.foldl_cons, ih hl]
    by_cases h : r = k
    · subst h
      rw [if_neg hk, if_pos List.mem_cons_self, own]
    · rw [others d k r h]
      simp only [List.mem_cons, h, false_or]

theorem region_freshRegion (r k : Nat) (st : RegionState) (d : Dev) :
    (region r (freshRegion k st d)).state = if r = k then st else (region r d).state := by
  unfold freshRegion
  dsimp only
  rw [region_setRegion_eq]
  split
  · rfl
  · rfl

/-- One pass of the initialisation. -/
def initRegion (ok : Bool) (d : Dev) (r : Nat) : Dev :=
  let d := setRegion r ⟨regionOwner r d, .heldOut, [], [], 0, [], none, none⟩ d
  if ok then freshRegion r .inService d else d

theorem region_initRegion (ok : Bool) (d : Dev) (r k : Nat) :
    (region r (initRegion ok d k)).state = if r = k then (if ok then .inService else .heldOut) else (region r d).state := by
  unfold initRegion
  dsimp only
  cases ok with
  | false =>
    rw [if_neg Bool.false_ne_true, region_setRegion_eq]
    split <;> rfl
  | true =>
    rw [if_pos rfl, region_freshRegion, region_setRegion_eq]
    split <;> rfl

theorem region_initStockpot (ok : Bool) (d : Dev) {r : Nat} (hr : r < 128) :
    (region r (initStockpot ok d)).state = if ok then .inService else .heldOut := by
  have pass := regionState_foldl (f := initRegion ok) (g := fun _ _ => if ok then .inService else .heldOut)
    (fun d k => by rw [region_initRegion, if_pos rfl]) (fun d k r h => by rw [region_initRegion, if_neg h])
    (List.range 128) List.nodup_range { d with mem := { d.mem with regions := [], queue := [], nodes := [], writes := [], departed := [] } } r
  rw [if_pos (List.mem_range.mpr hr)] at pass
  exact pass

/-- The regions of a die that has not trained are held out. -/
def holdOut (tr : List Nat) (d : Dev) (r : Nat) : Dev :=
  if tr.contains (r % 2) then d else setRegion r { region r d with state := .heldOut, ke := [], km := [] } d

theorem holdOut_only (tr : List Nat) (d : Dev) (r : Nat) : Only [.mem] d (holdOut tr d r) := .ite (fun _ => .refl _ d) (fun _ => .intro rfl)

theorem holdOut_trained (tr : List Nat) (d : Dev) (r : Nat) : (holdOut tr d r).mem.trained = d.mem.trained := by
  unfold holdOut
  split <;> rfl

theorem region_holdOut (tr : List Nat) (d : Dev) (r k : Nat) :
    (region r (holdOut tr d k)).state = if r = k ∧ tr.contains (k % 2) = false then .heldOut else (region r d).state := by
  unfold holdOut
  cases h : tr.contains (k % 2) with
  | true => simp
  | false =>
    rw [if_neg Bool.false_ne_true, region_setRegion_eq]
    by_cases e : r = k
    · rw [if_pos e, if_pos ⟨e, rfl⟩]
    · rw [if_neg e, if_neg (fun x => e x.1)]

/-- The dies that have trained. -/
def trainedDies (a b : Bool) : List Nat := (if a then [0] else []) ++ (if b then [1] else [])

/-- The stockpot before the dies that failed are taken out. -/
def stockpotReady (a b : Bool) (d : Dev) : Dev :=
  let d := { d with sys := { d.sys with stockpotDone := true } }
  initStockpot (a || b) { d with mem := { d.mem with trained := trainedDies a b } }

theorem stockpotTrained_eq (a b : Bool) {d : Dev} (hp : d.sys.porst = true) (hs : d.sys.srst = true) (hv : d.sys.vaultDone = true)
    (hd : d.sys.stockpotDone = false) :
    stockpotTrained a b d = milestone 4 ((List.range 128).foldl (holdOut (trainedDies a b)) (stockpotReady a b d)) := by
  have due : (!(d.sys.porst && d.sys.srst && d.sys.vaultDone) || d.sys.stockpotDone) = false := by rw [hp, hs, hv, hd]; rfl
  unfold stockpotTrained
  rw [due, if_neg Bool.false_ne_true]
  rfl

theorem initStockpot_trained (ok : Bool) (d : Dev) : (initStockpot ok d).mem.trained = d.mem.trained := by
  have pass (e : Dev) (r : Nat) : (initRegion ok e r).mem.trained = e.mem.trained := by
    unfold initRegion
    cases ok with
    | false => rfl
    | true => rfl
  have all (l : List Nat) (e : Dev) : (l.foldl (initRegion ok) e).mem.trained = e.mem.trained := by
    induction l generalizing e with
    | nil => rfl
    | cons k l ih => exact (ih _).trans (pass e k)
  exact all (List.range 128) { d with mem := { d.mem with regions := [], queue := [], nodes := [], writes := [], departed := [] } }

theorem holdOut_foldl_trained (tr l : List Nat) (d : Dev) : (l.foldl (holdOut tr) d).mem.trained = d.mem.trained := by
  induction l generalizing d with
  | nil => rfl
  | cons k l ih => exact (ih _).trans (holdOut_trained tr d k)

theorem region_holdOut_foldl (tr : List Nat) (d : Dev) {r : Nat} (hr : r < 128) :
    (region r ((List.range 128).foldl (holdOut tr) d)).state = if tr.contains (r % 2) then (region r d).state else .heldOut := by
  rw [regionState_foldl (f := holdOut tr) (g := fun k st => if tr.contains (k % 2) then st else .heldOut)
    (fun d k => by rw [region_holdOut]; cases tr.contains (k % 2) <;> simp)
    (fun d k r h => by rw [region_holdOut, if_neg (fun x => h x.1)]) _ List.nodup_range, if_pos (List.mem_range.mpr hr)]

theorem region_stockpotReady (a b : Bool) (d : Dev) {r : Nat} (hr : r < 128) :
    (region r (stockpotReady a b d)).state = if (a || b) then .inService else .heldOut := by
  unfold stockpotReady
  exact region_initStockpot _ _ hr

theorem stockpotReady_sys (a b : Bool) (d : Dev) : (stockpotReady a b d).sys = { d.sys with stockpotDone := true } := by
  unfold stockpotReady
  exact (initStockpot_only _ _).sys

theorem stockpotReady_trained (a b : Bool) (d : Dev) : (stockpotReady a b d).mem.trained = trainedDies a b := by
  unfold stockpotReady
  exact initStockpot_trained _ _

theorem contains_trainedDies (a b : Bool) (r : Nat) : (trainedDies a b).contains (r % 2) = if r % 2 = 0 then a else b := by
  rcases Nat.mod_two_eq_zero_or_one r with h | h <;> rw [h] <;> cases a <;> cases b <;> rfl

/-- R352: the regions by the dies that have trained. -/
theorem stockpotTrained_state (a b : Bool) {d e : Dev} (he : (List.range 128).foldl (holdOut (trainedDies a b)) (stockpotReady a b d) = e)
    {r : Nat} (hr : r < 128) : (region r e).state = if (if r % 2 = 0 then a else b) then .inService else .heldOut := by
  rw [← he, region_holdOut_foldl _ _ hr, contains_trainedDies, region_stockpotReady a b d hr]
  rcases Nat.mod_two_eq_zero_or_one r with h | h <;> rw [h] <;> cases a <;> cases b <;> rfl

theorem region_milestone (r k : Nat) (d : Dev) : region r (milestone k d) = region r d := by
  have only := milestone_only k d
  unfold region prm
  rw [only.mem, only.cfg]

theorem stockpotTraining_completes {s : State} {d : Dev} (a b : Bool) (hd : { s.dev with out := [] } = d) (hp : d.sys.porst = true)
    (hs : d.sys.srst = true) (hv : d.sys.vaultDone = true) (hst : d.sys.stockpotDone = false) :
    ∃ t, exec (.stockpotTrainingComplete a b) s = .next t ∧ t.otp = s.otp ∧ t.dev.sys.stockpotDone = true ∧
      t.dev.mem.trained = trainedDies a b ∧
      ∀ r, r < 128 → (region r t.dev).state = if (if r % 2 = 0 then a else b) then .inService else .heldOut := by
  have kept := holdOut_foldl_trained (trainedDies a b) (List.range 128) (stockpotReady a b d)
  have only := Only.foldl (holdOut_only (trainedDies a b)) (List.range 128) (stockpotReady a b d)
  have states := fun r (hr : r < 128) => stockpotTrained_state a b (d := d) rfl hr
  have eq := stockpotTrained_eq a b hp hs hv hst
  generalize (List.range 128).foldl (holdOut (trainedDies a b)) (stockpotReady a b d) = e at *
  obtain ⟨m, sys⟩ := milestone_sys 4 e
  refine ⟨_, onDev_next hd eq, withDev_otp .., ?_⟩
  rw [withDev_dev, sys, (milestone_only 4 e).mem, only.sys, stockpotReady_sys, kept, stockpotReady_trained]
  exact ⟨rfl, rfl, fun r hr => (congrArg Region.state (region_milestone r 4 e)).trans (states r hr)⟩

/-- Settles O26, step by step. -/
theorem startupSteps : Obligations.StartupSteps := by
  intro s d hd
  refine ⟨fun passed hs hb => onDev_next hd ?_, fun hs hr => ?_, fun a b hp hs hv hst => ?_, fun hs hb hr => ?_, fun p e d1 he h1 =>
    onDev_next hd ?_, fun h img k hsave hk => onDev_next hd ?_⟩
  · have due : (!startingUp d || d.sys.bistDone) = false := by rw [hs, hb]; rfl
    unfold bistComplete
    rw [due, if_neg Bool.false_ne_true, Nat.mod_eq_of_lt passed.isLt]
  · cases h : bootChoose (bootPlan d).1 s.otp (bootPlan d).2 with
    | none =>
      obtain ⟨e, data, boot, only, rom, link⟩ := romBoot_none s.otp hs hr h
      refine ⟨_, onOtp_next hd boot, withDev_otp .., ?_⟩
      rw [withDev_dev, record_sys, record_time, record_free]
      exact ⟨rom, link, only.free, fun _ => rfl, fun k hk => nomatch hk⟩
    | some k =>
      obtain ⟨e, boot, only, rom, link, stopped, slot, version⟩ := romBoot_some s.otp hs hr h
      refine ⟨_, onOtp_next hd boot, withDev_otp .., ?_⟩
      obtain ⟨m, sys⟩ := milestone_sys 2 e
      rw [withDev_dev, milestone_time, sys, (milestone_only 2 e).free, (milestone_only 2 e).host]
      refine ⟨rom, link, only.free, fun hk => (nomatch hk), fun k' hk => ?_⟩
      cases hk
      exact ⟨stopped.trans (not_stopped_of_startingUp hs), slot, version⟩
  · obtain ⟨t, ht, otp, done, trained, states⟩ := stockpotTraining_completes a b hd hp hs hv hst
    refine ⟨t, ht, otp, done, trained, fun r hr => ?_⟩
    rw [states r hr]
    rcases Nat.mod_two_eq_zero_or_one r with h | h <;> rw [h] <;> cases a <;> cases b <;> decide
  · refine ⟨_, onOtp_next hd rfl, withDev_otp .., ?_⟩
    obtain ⟨running, ready, starting, loaded, out⟩ := firmwareStart_state s.otp hs hb hr rfl
    rw [withDev_dev]
    exact ⟨running, ready, starting, loaded, out⟩
  · unfold graceExpiry
    rw [he]
    dsimp only
    rw [h1]
  · unfold startupSetSaveComplete
    rw [hsave]
    dsimp only
    rw [hk]
    rfl

end Sys2Proof.Machine
end

section
/-! SLEEP and its wake (R441, R442). -/
namespace Sys2Proof.Machine

set_option Elab.async false

/-! ### What leaves before SLEEP (R441) -/

theorem setQueue_only (q : Nat) (x : Queue) (d : Dev) : Only [.que] d (setQueue q x d) := .intro rfl

theorem dropPort_only (p : Nat) (d : Dev) : Only [.que, .fab, .cnt] d (dropPort p d) := by
  unfold dropPort
  extract_lets qs n d1 hub m d2 d3
  have first : Only [.que] d d1 := Only.foldl (fun _ _ => setQueue_only _ _ _) _ _
  have second : Only [.que] d1 d2 := Only.foldl (fun _ _ => setQueue_only _ _ _) _ _
  have third : Only [.cnt] d2 d3 := bumpBy_only _ _ _ _ _
  have last := Only.foldl (l := [.que, .fab, .cnt]) (f := fun d (e : Nat × List Frame) =>
    let here := e.2.filter (fun f => decide (f.dest = p))
    let d := bumpBy .fab (portDie p) 10 here.length (bumpBy .mirror e.1 2 here.length d)
    setMirrorQ e.1 (e.2.filter (fun f => decide (f.dest ≠ p))) d) (fun _ _ => .intro rfl) d3.fab.mirrorQ d3
  exact (((first.trans second).comp third (n := [.que, .fab, .cnt]))).trans last

theorem keepFrames_only (f : Frame → Bool) (d : Dev) : Only [.que, .fab] d (keepFrames f d) := .intro rfl

/-- What waited is dropped: the parts that held it. -/
theorem dropRemaining_only (d : Dev) : Only [.que, .fab, .cnt, .act, .mem] d (dropRemaining d) := by
  unfold dropRemaining
  extract_lets d1 d2 d3 d4
  have ports : Only [.que, .fab, .cnt] d d1 := Only.foldl (f := fun d p => dropPort p d) (fun d p => dropPort_only p d) (List.range 98) d
  have counted : Only [.cnt] d1 d2 := Only.foldl (fun d f => by
    split
    · exact bump_only _ _ _ _
    · exact .refl _ d) _ d1
  have kept : Only [.que, .fab] d2 d3 := keepFrames_only _ d2
  have held : Only [.cnt] d3 d4 := Only.foldl (fun d h => bump_only _ _ _ _) _ d3
  have first : Only [.que, .fab, .cnt, .act, .mem] d d4 :=
    (((ports.andThen counted).andThen kept).andThen held).mono
  clear_value d4
  exact first.trans (.intro rfl)

theorem dropRemaining_empty (d : Dev) :
    (dropRemaining d).act.egg = [] ∧ (dropRemaining d).fab.voq = [] ∧ (dropRemaining d).mem.writes = [] ∧ (dropRemaining d).que.queues = [] := by
  unfold dropRemaining
  exact ⟨rfl, rfl, rfl, rfl⟩

/-! ### The queues as ports go down -/

theorem leaveUp_queues (p : Nat) (d : Dev) : (leaveUp p d).que.queues = d.que.queues := by
  unfold leaveUp
  split
  · rfl
  · extract_lets s e
    have lost : e.que = d.que := by
      have only : Only [.twin, .prot, .host, .obs, .cnt, .out] d e := .ite (fun _ => linkLost_only d) (fun _ => .refl _ d)
      exact only.que
    rw [(Only.foldl (fun d l => endScan_only l d) _ _).que]
    exact (congrArg Que.queues lost :)

theorem portTo_queues (st : LinkSt) (p : Nat) (d : Dev) : (portTo st p d).que.queues = d.que.queues := by
  unfold portTo
  rw [(portEnter_only _ _ _).que]
  split
  · rfl
  · exact leaveUp_queues p d

theorem portOff_queues (p : Nat) (d : Dev) : (portOff p d).que.queues = d.que.queues := by
  unfold portOff
  rw [(onLanes_only _ _ _).que, (setPortSt_only _ _ _).que, portTo_queues]

theorem foldl_keeps {α β : Type} {f : Dev → α → Dev} {v : Dev → β} (h : ∀ d x, v (f d x) = v d) (l : List α) (d : Dev) :
    v (l.foldl f d) = v d := by
  induction l generalizing d with
  | nil => rfl
  | cons x l ih => exact (ih _).trans (h d x)

theorem portsOff_queues (d : Dev) : (portsOff d).que.queues = d.que.queues :=
  foldl_keeps (v := fun d => d.que.queues) (fun d p => by
    split
    · rfl
    · exact portOff_queues p d) _ d

theorem portsOff_only (d : Dev) : Only portParts d (portsOff d) :=
  Only.foldl (fun d p => .ite (fun _ => .refl _ d) (fun _ => portOff_only p d)) _ d

theorem gateSleep_only (p : Nat) (d : Dev) : Only [.act] d (gateSleep p d) := by
  unfold gateSleep
  dsimp only
  split
  · exact .intro rfl
  · exact .refl _ d

theorem gateSleep_egg (p : Nat) (d : Dev) : (gateSleep p d).act.egg = d.act.egg := by
  unfold gateSleep
  dsimp only
  split <;> rfl

theorem onGates_gateSleep_egg (d : Dev) : (onGates gateSleep d).act.egg = d.act.egg :=
  foldl_keeps (v := fun d => d.act.egg) (fun d p => gateSleep_egg p d) _ d

/-! ### Entry into SLEEP (R441) -/

/-- All has left, or what has not is dropped; ports, gates and pins rest. -/
def sleepEmptied (start : Nat) (d : Dev) : Dev :=
  pausePins (onGates gateSleep (portsOff (dropRemaining (if drained d then d else waitTicks (start + ticksMs 100) d))))

theorem sleepEmptied_only (start : Nat) (d : Dev) :
    Only [.time, .obs, .que, .fab, .cnt, .act, .mem, .port, .twin, .prot, .host, .out, .free, .cls] d (sleepEmptied start d) := by
  have waited : Only [.time, .obs] d (if drained d then d else waitTicks (start + ticksMs 100) d) :=
    .ite (fun _ => .refl _ d) (fun _ => waitTicks_only _ d)
  have rested (e : Dev) : Only [.cls] e (pausePins e) := .intro rfl
  have dropped := waited.comp (dropRemaining_only _)
    (n := [.time, .obs, .que, .fab, .cnt, .act, .mem, .port, .twin, .prot, .host, .out, .free, .cls])
  exact ((dropped.andThen (portsOff_only _)).andThen (onGates_only gateSleep_only _)).andThen (rested _)

theorem sleepEmptied_empty (start : Nat) (d : Dev) :
    (sleepEmptied start d).act.egg = [] ∧ (sleepEmptied start d).fab.voq = [] ∧ (sleepEmptied start d).mem.writes = [] ∧
      (sleepEmptied start d).que.queues = [] := by
  unfold sleepEmptied
  generalize (if drained d then d else waitTicks (start + ticksMs 100) d) = w
  obtain ⟨egg, voq, writes, queues⟩ := dropRemaining_empty w
  have ports := portsOff_only (dropRemaining w)
  have kept := portsOff_queues (dropRemaining w)
  generalize dropRemaining w = r at *
  generalize portsOff r = q at *
  have gates := onGates_only gateSleep_only q
  refine ⟨?_, ?_, ?_, ?_⟩
  · exact (onGates_gateSleep_egg _).trans ((congrArg Act.egg ports.act).trans egg)
  · exact (congrArg Fab.voq (gates.fab.trans ports.fab)).trans voq
  · exact (congrArg Mem.writes (gates.mem.trans ports.mem)).trans writes
  · exact (congrArg Que.queues gates.que).trans (kept.trans queues)

/-- The device asleep. -/
def sleeping (d : Dev) : Dev :=
  { d with
    obs := { d.obs with loopback := [] }
    host := { d.host with trafficReady := false }
    twin := { d.twin with serving := false }
    sys := { d.sys with power := .sleep, sleepOp := none } }

theorem sleepEntry_of_emptied {d e : Dev} {h start : Nat} (he : sleepEmptied start d = e) (hp : d.sys.power = .entering)
    (ho : d.sys.sleepOp = some (h, start)) (hw : (complete h .ok [] (sleeping e)).sys.wakeOp = none) :
    sleepEntry d = complete h .ok [] (sleeping e) := by
  subst he
  unfold sleeping sleepEmptied at *
  unfold sleepEntry
  rw [hp, ho]
  dsimp only
  rw [hw]

theorem sleepEntry_eq {d : Dev} {h start : Nat} (hp : d.sys.power = .entering) (ho : d.sys.sleepOp = some (h, start))
    (hw : d.sys.wakeOp = none) : sleepEntry d = complete h .ok [] (sleeping (sleepEmptied start d)) := by
  have sys := (sleepEmptied_only start d).sys
  refine sleepEntry_of_emptied rfl hp ho ?_
  generalize sleepEmptied start d = e at *
  rw [complete_sys]
  exact (congrArg Sys.wakeOp sys).trans hw

/-- Settles O27, the entry into SLEEP first and then the end of a wake. -/
theorem sleepAndWake : Obligations.SleepAndWake := by
  intro s d hd
  refine ⟨fun h start hp ho hw => ?_, fun h hp hw => onDev_next hd ?_⟩
  · obtain ⟨egg, voq, writes, queues⟩ := sleepEmptied_empty start d
    have vault := (sleepEmptied_only start d).vault
    have eq := sleepEntry_eq hp ho hw
    generalize sleepEmptied start d = e at *
    have core := complete_core h .ok [] (sleeping e)
    refine ⟨_, onDev_next hd eq, withDev_otp .., ?_⟩
    rw [withDev_dev, complete_sys, complete_twin, complete_act, complete_que, complete_fab, complete_mem, complete_vault]
    exact ⟨rfl, rfl, (congrArg HostIf.trafficReady core :), rfl, egg, queues, voq, writes, (congrArg Vault.lc vault :)⟩
  · unfold wakeComplete
    rw [hp, hw]

end Sys2Proof.Machine
end

section
/-! The host's accesses to BAR0 and to configuration space, and the ring that reports its losses (R39 to R69). -/
namespace Sys2Proof.Machine

set_option Elab.async false

section
variable {s : State} {d e : Dev}

/-- An access of the host that reaches the device. -/
theorem hostAccess_next {f : Dev → Dev} (hd : { s.dev with out := [], time := { s.dev.time with linkL0 := true } } = d)
    (hr : hostReaches d = true) (he : f d = e) : onDev (hostAccess f) s = .next (s.withDev e) := by
  subst hd
  exact onDev_next rfl ((if_pos hr).trans he)

/-- A doorbell that is discarded. -/
theorem ringDoorbell_bad {v : Nat} (hd : { s.dev with out := [], time := { s.dev.time with linkL0 := true } } = d)
    (hr : hostReaches d = true) (hb : doorbellBad v d = true) : ringDoorbell v s = .next (s.withDev (bump .hostif 0 0 d)) := by
  have bad : doorbellBad v s.dev = true := by subst hd; exact hb
  have discarded : (!hostReaches s.dev || doorbellBad v s.dev) = true := by rw [bad, Bool.or_true]
  unfold ringDoorbell
  rw [discarded, if_pos rfl]
  exact hostAccess_next hd hr (if_pos hb)

/-- R48: a doorbell that is taken runs the request that stands in its mailbox. -/
theorem ringDoorbell_good {m : Fin 16} (hd : { s.dev with out := [], time := { s.dev.time with linkL0 := true } } = d)
    (hr : hostReaches d = true) (hb : doorbellBad m.val d = false) :
    ringDoorbell m.val s = runOpcode (fld (mailbox m.val d).req 0 2) (storedRequest m s.dev) s := by
  have reaches : hostReaches s.dev = true := by subst hd; exact hr
  have good : doorbellBad m.val s.dev = false := by subst hd; exact hb
  have taken : (!hostReaches s.dev || doorbellBad m.val s.dev) = false := by rw [reaches, good]; rfl
  have number : (⟨m.val % 16, Nat.mod_lt m.val (by decide)⟩ : Fin 16) = m := Fin.ext (Nat.mod_eq_of_lt m.isLt)
  unfold ringDoorbell
  rw [taken, if_neg Bool.false_ne_true]
  dsimp only
  rw [number, Nat.mod_eq_of_lt m.isLt]
  subst hd
  rfl

/-- A write to BAR0 but for the doorbell. -/
theorem registerWrite_next {off : BitVec 18} {size : Nat} {v : BitVec 64}
    (hd : { s.dev with out := [], time := { s.dev.time with linkL0 := true } } = d) (hr : hostReaches d = true)
    (hoff : ¬(off.toNat = 0x40 ∧ size = 4)) (he : registerWrite off.toNat size v.toNat d = e) :
    exec (.registerWrite (.bar0 off size) v) s = .next (s.withDev e) :=
  (if_neg hoff).trans (hostAccess_next hd hr he)

end

/-! ### The ring (R54, R55) -/

theorem ringOverflow_none {d : Dev} (h : d.host.lost = none) : ringOverflow d = d := by
  unfold ringOverflow
  rw [h]

theorem nrControl_off {d : Dev} {v : Nat} (h : bit v 0 = false) : nrControl v d = { d with host := { d.host with nrEnable := false } } := by
  unfold nrControl
  rw [h]
  rfl

theorem nrControl_on {d : Dev} {v : Nat} (h : bit v 0 = true) (hn : d.host.nrEnable = false) (hv : ringValid d.host = true)
    (hl : d.host.lost = none) : nrControl v d =
      { d with host := { d.host with nrEnable := true, nrErr := false, nrTail := 0, nrPhase := true } } := by
  unfold nrControl
  rw [h, hv]
  simp only [hn, Bool.not_true, Bool.false_eq_true, if_false, if_true]
  exact ringOverflow_none hl

theorem nrControl_bad {d : Dev} {v : Nat} (h : bit v 0 = true) (hn : d.host.nrEnable = false) (hv : ringValid d.host = false) :
    nrControl v d = setFault 3 { d with host := { d.host with nrErr := true } } := by
  unfold nrControl onHost
  simp only [h, hn, hv, Bool.not_true, Bool.false_eq_true, if_false]

theorem signal_out (v : Nat) (d : Dev) (x : Output) (h : x ∈ d.out) : x ∈ (signal v d).out := by
  unfold signal
  split
  · exact h
  · split
    · exact h
    · exact List.mem_append_left _ h

/-- R55: one RING_OVERFLOW covers what was lost. -/
theorem ringOverflow_some {d : Dev} {c f : Nat} (hl : d.host.lost = some (c, f)) (hn : d.host.nrEnable = true)
    (hf : (d.host.nrTail + 1) % d.host.nrSize ≠ d.host.nrHead) :
    ringOverflow d = ringWrite ⟨2, d.host.nrSeq, now d, deviceTarget, le 4 c ++ le 4 f⟩
      { d with host := { d.host with lost := none, nrSeq := (d.host.nrSeq + 1) % 2 ^ 32 } } := by
  have opened : ringOpen d.host = true := by
    unfold ringOpen ringFull
    rw [hn, decide_eq_false hf]
    rfl
  unfold ringOverflow
  rw [hl]
  dsimp only
  rw [opened, if_pos rfl]
  rfl

/-- What a signal moves of the host interface is the pending bits. -/
theorem signal_host (v : Nat) (d : Dev) : ∃ p, (signal v d).host = { d.host with pba := p } := by
  unfold signal
  split
  · exact ⟨_, rfl⟩
  · split
    · exact ⟨_, rfl⟩
    · exact ⟨_, rfl⟩

theorem ringWrite_host (n : Notif) (d : Dev) : ∃ p ph, (ringWrite n d).host =
    { d.host with nrTail := (d.host.nrTail + 1) % d.host.nrSize, nrPhase := ph, pba := p } := by
  obtain ⟨p, e⟩ := signal_host 16 (perfEvent 4 0x231 1 { emit (.hostWrite (d.host.nrBaseHi * 2 ^ 32 + d.host.nrBaseLo + 64 * d.host.nrTail)
    (notifBytes n d.host.nrPhase)) d with host := { d.host with
      nrTail := (d.host.nrTail + 1) % d.host.nrSize
      nrPhase := if (d.host.nrTail + 1) % d.host.nrSize = 0 then !d.host.nrPhase else d.host.nrPhase } })
  exact ⟨p, _, e⟩

theorem ringWrite_out (n : Notif) (d : Dev) :
    Output.hostWrite (d.host.nrBaseHi * 2 ^ 32 + d.host.nrBaseLo + 64 * d.host.nrTail) (notifBytes n d.host.nrPhase) ∈ (ringWrite n d).out :=
  signal_out _ _ _ (List.mem_append_right _ (List.mem_singleton.mpr rfl))

/-! ### Configuration space (R39, R44) -/

theorem msixFlush_disabled {d : Dev} (h : d.host.msixEnable = false) : msixFlush d = d := by
  unfold msixFlush
  rw [h]
  rfl

theorem msixFlush_quiet {d : Dev} (h : d.host.pba = 0) : msixFlush d = d := by
  unfold msixFlush
  split
  · rfl
  · have quiet (k : Nat) : (bit d.host.pba k && vectorOpen k d) = false := by rw [h]; simp [bit]
    generalize List.range 32 = l
    induction l with
    | nil => rfl
    | cons k l ih => rw [List.foldl_cons, quiet k, if_neg Bool.false_ne_true, ih]

/-- A write to a field of an enumerated function: what it does there is left to show. -/
theorem configWrite_next {s : State} {d e : Dev} {f : CfgField} {v : BitVec 64} (hd : { s.dev with out := [] } = d)
    (hf : configField f v.toNat d = e) : exec (.registerWrite (.config f) v) s = .next (s.withDev e) := onDev_next hd hf

section
variable {d : Dev} {v : Nat} (he : enumerated d = true)
include he

theorem configField_msixEnable : configField .msixEnable v d = msixFlush { d with host := { d.host with msixEnable := bit v 0 } } := by
  unfold configField
  rw [he]
  rfl

theorem configField_msixMask :
    configField .msixMask v d = msixFlush { d with host := { d.host with pci := { d.host.pci with mask := bit v 0 } } } := by
  unfold configField
  rw [he]
  rfl

theorem configField_powerState (h : v = 0 ∨ v = 3) :
    configField .powerState v d = msixFlush { d with host := { d.host with pci := { d.host.pci with d3hot := decide (v = 3) } } } := by
  unfold configField
  rw [he]
  exact if_pos h

end

/-! ### Reads of BAR0 (R40, R41, R69) -/

theorem registerRead_control {off : Nat} {d : Dev} (h : off < 0x1000) (ha : off % 4 = 0) : registerRead off 4 d = controlRead off d := by
  unfold registerRead
  dsimp only
  rw [if_pos h, decide_eq_true (p := 4 = 4 ∧ off % 4 = 0) ⟨rfl, ha⟩, if_pos rfl]

theorem registerRead_misfit {off size : Nat} {d : Dev} (h : off < 0x2000) (hm : size ≠ 4 ∨ off % 4 ≠ 0) : registerRead off size d = 0 := by
  have bad : decide (size = 4 ∧ off % 4 = 0) = false := decide_eq_false (by omega)
  unfold registerRead
  dsimp only
  rw [bad]
  by_cases hl : off < 0x1000
  · rw [if_pos hl]
    rfl
  · rw [if_neg hl, if_pos h]
    rfl

theorem registerRead_reserved {off size : Nat} {d : Dev} (h : 0x2200 ≤ off) (hr : off < 0x3000 ∨ 0x3008 ≤ off ∧ off < 0x20000) :
    registerRead off size d = 0 := by
  unfold registerRead
  dsimp only
  rw [if_neg (by omega), if_neg (by omega), if_neg (by omega), if_neg (by omega), if_pos (by omega)]

theorem registerRead_dma {ch off : Nat} {d : Dev} (hch : ch < 16) (ho : off < 0x100) (ha : off % 4 = 0) :
    registerRead (0x1000 + off + 0x100 * ch) 4 d = dmaRead ch off d := by
  have word : decide (4 = 4 ∧ (0x1000 + off + 0x100 * ch) % 4 = 0) = true := decide_eq_true ⟨rfl, by omega⟩
  have number : (0x1000 + off + 0x100 * ch - 0x1000) / 0x100 = ch := by omega
  have inside : (0x1000 + off + 0x100 * ch) % 0x100 = off := by omega
  unfold registerRead
  dsimp only
  rw [word, number, inside, if_neg (by omega), if_pos (by omega), if_pos rfl]

theorem controlRead_counter {i : Nat} {d : Dev} (h : i < 8) :
    controlRead (0x800 + 8 * i) d = cntGet .hostif 0 i d % 2 ^ 32 ∧ controlRead (0x804 + 8 * i) d = cntHigh i d := by
  interval_cases i <;> exact ⟨rfl, rfl⟩

/-- R40 to R42, R60, R69: what reads of BAR0 return. -/
theorem registerReads (d : Dev) (size : Nat) :
    registerRead 0x000 4 d = 0x1608B101 ∧ registerRead 0x004 4 d = devStatus d ∧
      registerRead 0x018 4 d = d.host.faultCause ∧ registerRead 0x090 4 d = d.host.nrTail ∧
      registerRead 0x01C 4 d = 0 ∧ registerRead 0x040 4 d = 0 ∧ bit (registerRead 0x100 4 d) 0 = false ∧
      (∀ off, off < 0x2000 → size ≠ 4 ∨ off % 4 ≠ 0 → registerRead off size d = 0) ∧
      (∀ off, 0x2200 ≤ off → off < 0x3000 ∨ 0x3008 ≤ off ∧ off < 0x20000 → registerRead off size d = 0) ∧
      (∀ i, i < 8 → registerRead (0x800 + 8 * i) 4 d = cntGet .hostif 0 i d % 2 ^ 32 ∧
        (∀ x, Map.get? d.host.cntLatch i = some x → registerRead (0x804 + 8 * i) 4 d = x)) ∧
      (∀ ch c, ch < 16 → dmaChan ch d = c →
        registerRead (0x1004 + 0x100 * ch) 4 d = b2n c.running + 2 * b2n c.halted + 256 * c.err ∧
        registerRead (0x1018 + 0x100 * ch) 4 d = c.cons) := by
  refine ⟨rfl, rfl, rfl, rfl, rfl, rfl, ?_, fun off h hm => registerRead_misfit h hm, fun off h hr => registerRead_reserved h hr,
    fun i hi => ?_, fun ch c hch hc => ?_⟩
  · rw [registerRead_control (by decide) (by decide)]
    change bit (2 * b2n d.host.tsnapValid) 0 = false
    cases d.host.tsnapValid <;> rfl
  · obtain ⟨low, high⟩ := controlRead_counter (d := d) hi
    refine ⟨(registerRead_control (by omega) (by omega)).trans low, fun x hx => ?_⟩
    rw [registerRead_control (by omega) (by omega), high, cntHigh, Map.get, hx]
    rfl
  · subst hc
    exact ⟨registerRead_dma hch (off := 4) (by decide) (by decide), registerRead_dma hch (off := 0x18) (by decide) (by decide)⟩

/-! ### The request half of a mailbox (R48) -/

theorem requestWrite_at {off m o : Nat} {data : Bytes} {d : Dev} (h : off = 0x20000 + 0x2000 * m + o) (ho : o < 0x1000) :
    requestWrite off data d =
      if (mailbox m d).busy then bump .hostif 0 1 d
      else setMailbox m { mailbox m d with req := (splice (mailbox m d).req o data).take 4096 } d := by
  have number : (off - 0x20000) / 0x2000 = m := by omega
  have inside : (off - 0x20000) % 0x2000 = o := by omega
  unfold requestWrite
  rw [if_neg (by omega)]
  dsimp only
  rw [number, inside, if_neg (by omega)]

theorem doorbellBad_of {v : Nat} {d : Dev} (h : 16 ≤ v ∨ (mailbox (v % 16) d).busy = true ∨ d.host.fwReady = false) :
    doorbellBad v d = true := by
  unfold doorbellBad
  rcases h with h | h | h
  · simp [h]
  · simp [h]
  · simp [h]

theorem doorbellBad_false {m : Fin 16} {d : Dev} (hb : (mailbox m.val d).busy = false) (hf : d.host.fwReady = true) :
    doorbellBad m.val d = false := by
  unfold doorbellBad
  rw [Nat.mod_eq_of_lt m.isLt, hb, hf, decide_eq_false (Nat.not_le.mpr m.isLt)]
  rfl

/-- Settles O28: the accesses to BAR0, RING_OVERFLOW, configuration space and the reads. -/
theorem hostRegistersAndRings : Obligations.HostRegistersAndRings := by
  refine ⟨fun s d hd hr => ?_, fun s d c f hd hl hn hf => ?_, fun s d v n hd he hv => ?_, registerReads⟩
  · refine ⟨fun m => hostAccess_next hd hr rfl, fun m => hostAccess_next hd hr rfl, fun v hb hrun hre => ?_,
      fun v hb => hostAccess_next hd hr (if_pos hb), fun v => ⟨fun hb => hostAccess_next hd hr (nrControl_off hb),
        fun hb hn hv hl => hostAccess_next hd hr (nrControl_on hb hn hv hl),
        fun hb hn hv => hostAccess_next hd hr (nrControl_bad hb hn hv)⟩,
      fun v hl => hostAccess_next hd hr (ringOverflow_none hl), fun i => hostAccess_next hd hr rfl,
      fun v hb => ringDoorbell_bad hd hr (doorbellBad_of hb), fun v m hv hb hf => ?_, fun v => ?_,
      fun off data m o hoff ho hm => ⟨fun hb => ?_, fun hb => ?_⟩, fun v => registerWrite_next hd hr (by decide) rfl,
      fun v => registerWrite_next hd hr (by decide) rfl, fun v => registerWrite_next hd hr (by decide) rfl,
      fun v => registerWrite_next hd hr (by decide) rfl⟩
    · have idle : (!d.sys.fwRunning || d.host.fwRestarting) = false := by rw [hrun, hre]; rfl
      refine ⟨_, hostAccess_next hd hr ((if_pos hb).trans (if_neg (idle ▸ Bool.false_ne_true))), ?_⟩
      rw [withDev_dev, withDev_otp]
      exact ⟨rfl, rfl, rfl, rfl, rfl, rfl, rfl⟩
    · exact (congrArg (fun n => ringDoorbell n s) hv).trans (ringDoorbell_good hd hr (doorbellBad_false hb hf))
    · have row : registerRow (.bar0 0x040 4) v.toNat s = ringDoorbell (v.toNat % 2 ^ 32) s := by
        unfold registerRow
        exact if_pos ⟨rfl, rfl⟩
      exact row.trans (congrArg (fun n => ringDoorbell n s) (BitVec.toNat_setWidth 32 v).symm)
    · exact hostAccess_next hd hr ((requestWrite_at hoff ho).trans (if_pos hb))
    · exact hostAccess_next hd hr ((requestWrite_at hoff ho).trans (if_neg (hb ▸ Bool.false_ne_true)))
  · have eq := ringOverflow_some hl hn hf
    generalize hm : ({ d with host := { d.host with lost := none, nrSeq := (d.host.nrSeq + 1) % 2 ^ 32 } } : Dev) = m at eq
    obtain ⟨p, ph, host⟩ := ringWrite_host ⟨2, d.host.nrSeq, now d, deviceTarget, le 4 c ++ le 4 f⟩ m
    have out := ringWrite_out ⟨2, d.host.nrSeq, now d, deviceTarget, le 4 c ++ le 4 f⟩ m
    refine ⟨_, onDev_next hd eq, withDev_otp .., ?_⟩
    rw [withDev_dev, host]
    subst hm
    exact ⟨rfl, rfl, rfl, out⟩
  · subst hv
    have taken : (!enumerated d) = false := by rw [he]; rfl
    refine ⟨fun hb => configWrite_next hd ?_, fun hp => ⟨configWrite_next hd ?_, configWrite_next hd ?_,
      fun hn => configWrite_next hd ?_⟩, configWrite_next hd ?_, fun hn => configWrite_next hd ?_,
      fun hn => configWrite_next hd ?_, configWrite_next hd ?_, configWrite_next hd ?_, fun off size h3 => ?_⟩
    · rw [configField_msixEnable he, hb]
      exact msixFlush_disabled rfl
    · rw [configField_msixEnable he]
      exact msixFlush_quiet hp
    · rw [configField_msixMask he]
      exact msixFlush_quiet hp
    · rw [configField_powerState he hn]
      exact msixFlush_quiet hp
    · exact if_neg (taken ▸ Bool.false_ne_true)
    · exact (if_neg (taken ▸ Bool.false_ne_true)).trans (if_pos hn)
    · exact (if_neg (taken ▸ Bool.false_ne_true)).trans (if_pos hn)
    · exact if_neg (taken ▸ Bool.false_ne_true)
    · exact if_neg (taken ▸ Bool.false_ne_true)
    · have closed : hostReaches d = false := by
        unfold hostReaches
        rw [h3, Bool.not_true, Bool.and_false]
      have closed' : hostReaches s.dev = false := by subst hd; exact closed
      by_cases hbell : off.toNat = 0x40 ∧ size = 4
      · refine (if_pos hbell).trans ?_
        unfold ringDoorbell
        rw [closed']
        exact onDev_next hd (if_neg (closed ▸ Bool.false_ne_true))
      · exact (if_neg hbell).trans (onDev_next hd (if_neg (closed ▸ Bool.false_ne_true)))

end Sys2Proof.Machine
end

section
/-! The windows onto the tables and the DMA channels (R60 to R64, R182, R203). -/
namespace Sys2Proof.Machine

set_option Elab.async false

/-! ### Windows (R63, R64) -/

section
variable {die a e n t k : Nat} {act : Nat → Nat → Dev → Dev} {d : Dev}

theorem windowWrite_off (h : shown die a e d = .off) : windowWrite die a e act d = d := by
  unfold windowWrite
  rw [h]

theorem windowWrite_nothing (h : shown die a e d = .nothing) : windowWrite die a e act d = bump .hostif 0 5 d := by
  unfold windowWrite
  rw [h]
  rfl

theorem windowWrite_entry (h : shown die a e d = .entry t k) (hw : tableWritable t = true) : windowWrite die a e act d = act t k d := by
  unfold windowWrite
  rw [h]
  exact if_pos hw

theorem windowWrite_readOnly (h : shown die a e d = .entry t k) (hw : tableWritable t = false) :
    windowWrite die a e act d = bump .hostif 0 5 d := by
  unfold windowWrite
  rw [h]
  exact if_neg (hw ▸ Bool.false_ne_true)

/-! ### Staging (R64) -/

theorem stagingFor_same {b : Bytes} (h : (aperture n d).stage = some (k, b)) : stagingFor n k d = d := by
  unfold stagingFor
  rw [h]
  exact if_pos rfl

theorem stagingFor_none (h : (aperture n d).stage = none) : stagingFor n k d = d := by
  unfold stagingFor
  rw [h]

/-- The first write of an entry takes a buffer of open values; a later one goes on. -/
theorem windowStage_eq {off : Nat} {data b : Bytes} {d0 : Dev}
    (h : (aperture n d).stage = some (entryKey t k, b) ∧ d0 = d ∨ (aperture n d).stage = none ∧ freshBytes 64 d = (b, d0)) :
    windowStage n t k off data d =
      setAperture n { aperture n d0 with stage := some (entryKey t k, slice (splice b off data) 0 64) } d0 := by
  unfold windowStage
  rcases h with ⟨hs, rfl⟩ | ⟨hs, hb⟩
  · rw [stagingFor_same hs]
    dsimp only
    rw [hs]
  · rw [stagingFor_none hs]
    dsimp only
    rw [hs, hb]

theorem staged_same {b : Bytes} (h : (aperture n d).stage = some (k, b)) : staged n k d = true := by
  unfold staged
  rw [h]
  exact decide_eq_true rfl

theorem staged_other (h : ∀ b, (aperture n d).stage ≠ some (k, b)) : staged n k d = false := by
  unfold staged
  cases hs : (aperture n d).stage with
  | none => rfl
  | some p =>
    obtain ⟨j, b⟩ := p
    exact decide_eq_false fun hj => h b (hj ▸ hs)

theorem windowCommit_staged {ctl : Nat} {b : Bytes} (h : (aperture n d).stage = some (entryKey t k, b)) :
    windowCommit n t die k ctl d =
      commitEntry t die k (slice b 0 60 ++ le 4 ctl) (setAperture n { aperture n d with stage := none } d) := by
  unfold windowCommit
  rw [stagingFor_same h, h]

theorem windowCtl_staged {ctl : Nat} {b : Bytes} (h : (aperture n d).stage = some (entryKey t k, b)) :
    windowCtl n t die k ctl d =
      commitEntry t die k (slice b 0 60 ++ le 4 ctl) (setAperture n { aperture n d with stage := none } d) := by
  unfold windowCtl
  rw [staged_same h, if_pos rfl, windowCommit_staged h]

theorem windowCtl_unstaged {ctl : Nat} (h : ∀ b, (aperture n d).stage ≠ some (entryKey t k, b)) :
    windowCtl n t die k ctl d = windowControl t die k ctl (stagingFor n (entryKey t k) d) := by
  unfold windowCtl
  rw [staged_other h, if_neg Bool.false_ne_true]

/-! ### Reads (R63, R64) -/

theorem windowRead_off {off : Nat} (h : shown die a e d = .off) :
    windowRead die a e off d = { d with host := { d.host with lastRead := 0 } } := by
  unfold windowRead
  rw [h]
  rfl

theorem windowRead_nothing {off : Nat} (h : shown die a e d = .nothing) :
    windowRead die a e off d =
      if diePresent die (bump .hostif 0 5 d) then hostReads ((fresh (bump .hostif 0 5 d)).1 % 2 ^ 32) (fresh (bump .hostif 0 5 d)).2
      else hostReads 0xFFFFFFFF (bump .hostif 0 5 d) := by
  unfold windowRead
  rw [h]
  rfl

/-- An entry that is read anew: a snapshot is taken. -/
theorem windowRead_taken {off : Nat} (h : shown die a e d = .entry t k)
    (hs : off < 4 ∨ ∀ b, (aperture (16 * die + a) d).snap ≠ some (entryKey t k, b)) :
    windowRead die a e off d = hostReads (fld (tableEntry t die k d) (off / 4 * 4) 4)
      (setAperture (16 * die + a) { aperture (16 * die + a) d with snap := some (entryKey t k, tableEntry t die k d) } d) := by
  unfold windowRead
  rw [h]
  dsimp only
  obtain hn | ⟨⟨j, b⟩, hb⟩ := Option.eq_none_or_eq_some (aperture (16 * die + a) d).snap
  · rw [hn]
  · have other : ¬(j = entryKey t k ∧ 4 ≤ off) := by
      rintro ⟨rfl, h4⟩
      exact hs.elim (fun h => absurd h (Nat.not_lt.2 h4)) (fun h => h b hb)
    rw [hb]
    dsimp only
    rw [if_neg other]

theorem windowRead_kept {off j : Nat} {b : Bytes} (h : shown die a e d = .entry t k)
    (hs : (aperture (16 * die + a) d).snap = some (j, b)) (same : j = entryKey t k ∧ 4 ≤ off) :
    windowRead die a e off d = hostReads (fld b (off / 4 * 4) 4) d := by
  unfold windowRead
  rw [h]
  dsimp only
  rw [hs]
  dsimp only
  rw [if_pos same]

end

/-! ### Channels (R60) -/

theorem dmaChan_setChan (n : Nat) (c : DmaChan) (d : Dev) : dmaChan n (setChan n c d) = c := by
  simp [dmaChan, setChan, Map.get, Map.get?_put]

section
variable {ch v : Nat} {d : Dev}

theorem dmaControl_host (h : ch < 14) :
    dmaControl ch v d = setChan ch { dmaChan ch d with
      enable := bit v 0, irqEnable := bit v 2, running := bit v 0 && !(dmaChan ch d).halted } d := if_neg (by omega)

theorem dmaPost_host (h : ch < 14) : dmaPost ch v d = setChan ch { dmaChan ch d with prod := v } d := if_neg (by omega)

theorem dmaReset_host (h : ch < 14) (hb : bit v 1 = true) :
    dmaReset ch v d = dmaControl ch v (setChan ch { dmaChan ch d with
      halted := false, err := 0, cons := (dmaChan ch d).prod, inFlight := none } (emptyRing ch d)) := by
  unfold dmaReset
  rw [if_neg (by omega), hb]
  rfl

end

/-! ### Descriptors (R61, R62) -/

/-- May the channel take its next descriptor? -/
theorem descStart_taken {ch : Nat} {bs : Bytes} {d : Dev} {c : DmaChan} (hc : dmaChan ch d = c) (hf : c.inFlight = none)
    (may : ch < 14 ∧ c.halted = false ∧ c.enable = true ∧ c.cons ≠ c.prod ∨
      14 ≤ ch ∧ d.host.fwReady = true ∧ d.host.fwRestarting = false) (hp : d.sys.porst = true) (hs : d.sys.srst = true)
    {x : DmaDesc} {e : Dev} (hx : readDesc c.cons bs = x)
    (he : setChan ch { c with cons := (c.cons + 1) % max c.size 1, inFlight := some x, halted := false, running := true } d = e) :
    (descCode ch x e = 0 → descStart ch bs d = takeDead ch (laPost (regionAt x.devAddr) x.length e)) ∧
      (descCode ch x e ≠ 0 → descStart ch bs d = takeDead ch (descDone ch x (descCode ch x e) e)) := by
  have takes : (!(c.inFlight.isNone && (decide (14 ≤ ch) || !c.halted) &&
      (if decide (14 ≤ ch) then d.host.fwReady && !d.host.fwRestarting else c.enable && decide (c.cons ≠ c.prod)) &&
      d.sys.porst && d.sys.srst)) = false := by
    rw [hf, hp, hs]
    rcases may with ⟨hch, hh, hen, hne⟩ | ⟨hch, hr, hre⟩
    · rw [decide_eq_false (p := 14 ≤ ch) (by omega), hh, hen, decide_eq_true hne]
      rfl
    · rw [decide_eq_true hch, hr, hre]
      rfl
  unfold descStart
  dsimp only
  rw [hc, takes, if_neg Bool.false_ne_true, hx, he]
  refine ⟨fun h => ?_, fun h => ?_⟩
  · rw [h]
    rfl
  · cases hd : descCode ch x e with
    | zero => exact absurd hd h
    | succ m => rfl

theorem regionAt_staging {off : Nat} (h : off < 0x400000) : regionAt (0x2000000000 + off) = .staging off := by
  unfold regionAt
  rw [if_neg (by omega), if_neg (by omega), if_pos (by omega), Nat.add_sub_cancel_left]

section
variable {ch : Nat} {data : Bytes} {d : Dev} {x : DmaDesc} (hx : (dmaChan ch d).inFlight = some x) (hj : d.vault.jobs = [])
include hx hj

/-- R61: a PCIe error. -/
theorem transferDone_error (err : PcieError) : transferDone ch data (some err) d = failPcie ch x err d := by
  unfold transferDone
  rw [hx]
  dsimp only
  rw [hj]
  rfl

theorem transferDone_asleep (ha : regionAnswers (regionAt x.devAddr) d = false) : transferDone ch data none d = descDone ch x 5 d := by
  unfold transferDone
  rw [hx]
  dsimp only
  rw [hj, List.any_nil]
  refine (if_neg Bool.false_ne_true).trans ?_
  rw [ha]
  rfl

/-- R62: a transfer of another region than the look-aside windows. -/
theorem transferDone_plain {a : Region60} (hr : regionAt x.devAddr = a) (ha : regionAnswers a d = true)
    (hla : ∀ j o, a ≠ .laIn j o ∧ a ≠ .laOut j o) :
    (∀ b, stockpotBad ch a x d = some b → transferDone ch data none d = descDone ch x 5 (readFailure b d)) ∧
      (stockpotBad ch a x d = none → transferDone ch data none d =
        if bit x.ctrl 0 then
          descDone ch x 0 (emit (.hostWrite x.hostAddr (regionRead a (decide (14 ≤ ch)) x.length d).1)
            (regionRead a (decide (14 ≤ ch)) x.length d).2)
        else descDone ch x 0 (regionWrite a (slice data 0 x.length) d)) := by
  unfold transferDone
  rw [hx]
  dsimp only
  rw [hj, hr, List.any_nil, ha]
  cases a with
  | laIn j o => exact absurd rfl (hla j o).1
  | laOut j o => exact absurd rfl (hla j o).2
  | _ => exact ⟨fun b hb => by rw [hb]; rfl, fun hb => by rw [hb]; rfl⟩

end

theorem windowDataWrite_short {die a e off : Nat} {data : Bytes} (d : Dev) (h : off + data.length < 64) :
    windowDataWrite die a e off data d =
      windowWrite die a e (fun t k => windowStage (16 * die + a) t k off (data.take (60 - off))) d := by
  unfold windowDataWrite
  simp only [if_neg (Nat.not_le.2 h)]

theorem windowDataWrite_long {die a e off : Nat} {data : Bytes} (d : Dev) (h : 64 ≤ off + data.length) :
    windowDataWrite die a e off data d =
      windowWrite die a e (fun t k d => windowCommit (16 * die + a) t die k (fld data (60 - off) 4)
        (windowStage (16 * die + a) t k off (data.take (60 - off)) d)) d := by
  unfold windowDataWrite
  simp only [if_pos h]

/-- A reset of a channel of the host (R60). -/
theorem dmaReset_chan {ch v : Nat} {d : Dev} (h : ch < 14) (hb : bit v 1 = true) :
    dmaChan ch (dmaReset ch v d) = { dmaChan ch d with
      enable := bit v 0, irqEnable := bit v 2, running := bit v 0, halted := false, err := 0, cons := (dmaChan ch d).prod,
      inFlight := none } := by
  rw [dmaReset_host h hb, dmaControl_host h, dmaChan_setChan, dmaChan_setChan, Bool.not_false, Bool.and_true]

/-- Settles O29: the windows and the DMA channels reach the tables and the memories as R60 to R64 say. -/
theorem windowsAndDmaReachTables : Obligations.WindowsAndDmaReachTables := by
  refine ⟨fun s d die a e n hd hr hn => ?_, fun s d d0 ch c hd0 hd hc => ?_⟩
  · subst hn
    refine ⟨fun off data t k b d0 d1 hsh hw hb hd1 => ?_, fun off data hsh => ?_, fun off data hsh => ?_,
      fun ctl t k b hsh hw hb d1 hd1 => ?_, fun ctl t k d1 b d2 hsh hw hb hd1 hb1 hd2 => ?_, fun t k hsh hw => ?_,
      fun off t k b hsh hs hb d2 hd2 => ?_, fun off t k b hsh h4 hs => ?_, fun off hsh => ?_, fun off d1 hsh hd1 => ?_⟩
    · have staged : windowStage (16 * die.val + a.val) t k off.val (data.take (60 - off.val)) d = d1 := (windowStage_eq hb).trans hd1
      refine ⟨fun hlt => hostAccess_next hd hr ?_, fun hle => hostAccess_next hd hr ?_⟩
      · rw [windowDataWrite_short d hlt, windowWrite_entry hsh hw, staged]
      · rw [windowDataWrite_long d hle, windowWrite_entry hsh hw, staged]
    · refine hostAccess_next hd hr ?_
      unfold windowDataWrite
      exact windowWrite_off hsh
    · refine hostAccess_next hd hr ?_
      unfold windowDataWrite
      exact windowWrite_nothing hsh
    · have committed := (windowCtl_staged (n := 16 * die.val + a.val) (die := die.val) (ctl := ctl.toNat) hb).trans hd1
      exact ⟨hostAccess_next hd hr ((windowWrite_entry hsh hw).trans committed),
        hostAccess_next hd hr ((windowWrite_entry hsh hw).trans committed)⟩
    · have controlled : windowCtl (16 * die.val + a.val) t die.val k ctl.toNat d = d2 := by
        rw [windowCtl_unstaged hb, hd1]
        unfold windowControl
        rw [hb1]
        exact hd2
      exact ⟨hostAccess_next hd hr ((windowWrite_entry hsh hw).trans controlled),
        hostAccess_next hd hr ((windowWrite_entry hsh hw).trans controlled)⟩
    · refine ⟨fun off data => hostAccess_next hd hr ?_,
        fun ctl => hostAccess_next hd hr (windowWrite_readOnly hsh hw)⟩
      unfold windowDataWrite
      exact windowWrite_readOnly hsh hw
    · refine hostAccess_next hd hr ((windowRead_taken hsh hs).trans ?_)
      rw [hb, hd2]
      rfl
    · exact hostAccess_next hd hr (windowRead_kept hsh hs ⟨rfl, h4⟩)
    · exact hostAccess_next hd hr (windowRead_off hsh)
    · have present : diePresent die.val d1 = diePresent die.val d := by
        rw [← hd1]
        rfl
      refine ⟨fun hp => hostAccess_next hd hr ?_, fun hp => hostAccess_next hd hr ?_⟩
      · rw [windowRead_nothing hsh, hd1, present, hp]
        rfl
      · rw [windowRead_nothing hsh, hd1, present, hp, ← hd1]
        rfl
  · have chan : dmaChan ch.val d0 = c := by
      rw [← hc, ← hd]
      rfl
    have both : { s.dev with out := [], time := { s.dev.time with linkL0 := true } } = d := by
      rw [← hd, ← hd0]
    refine ⟨fun v hr hlt => ⟨?_, fun hb => ⟨_, hostAccess_next both hr rfl, withDev_otp .., ?_⟩, ?_⟩, fun v hr hle => ⟨?_, ?_, ?_⟩,
      fun bs x hf may hp hs hx d1 hd1 => ?_, fun data x off hf ha ho hj => ?_, fun data x a hf ha hj hla => ?_⟩
    · refine hostAccess_next both hr ?_
      rw [dmaControl_host hlt, hc]
    · rw [withDev_dev, dmaReset_chan hlt hb, hc]
    · refine hostAccess_next both hr ?_
      rw [dmaPost_host hlt, hc]
    · exact hostAccess_next both hr (if_pos hle)
    · exact hostAccess_next both hr (if_pos hle)
    · exact hostAccess_next both hr (if_pos hle)
    · obtain ⟨valid, invalid⟩ := descStart_taken (bs := bs) chan hf may hp hs hx hd1
      exact ⟨fun h => onDev_next hd0 (valid h), fun h => onDev_next hd0 (invalid h)⟩
    · have inFlight : (dmaChan ch.val d0).inFlight = some x := by rw [chan, hf]
      have staging : regionAt x.devAddr = .staging off := by rw [ha, regionAt_staging ho]
      have moved := (transferDone_plain (data := data) inFlight hj staging rfl (fun _ _ => ⟨nofun, nofun⟩)).2 rfl
      refine ⟨fun hb => onDev_next hd0 ?_, fun hb => onDev_next hd0 ?_, fun err => onDev_next hd0 ?_⟩
      · rw [moved, hb]
        rfl
      · rw [moved, hb]
        rfl
      · rw [transferDone_error inFlight hj]
        unfold failPcie laUnpost
        have same : regionAt x.devAddr = .staging off := staging
        rw [same]
    · have inFlight : (dmaChan ch.val d0).inFlight = some x := by rw [chan, hf]
      refine ⟨fun hn => onDev_next hd0 ?_, fun bs d1 hy hg hb hread => onDev_next hd0 ?_, fun hy hg hb => onDev_next hd0 ?_,
        fun b hy hg => onDev_next hd0 ?_⟩
      · exact transferDone_asleep inFlight hj (ha ▸ hn)
      · rw [(transferDone_plain inFlight hj ha hy hla).2 hg, hb, hread]
        rfl
      · rw [(transferDone_plain inFlight hj ha hy hla).2 hg, hb]
        rfl
      · exact (transferDone_plain inFlight hj ha hy hla).1 b hg

end Sys2Proof.Machine
end

section
/-! The firmware's watchdog, its restart, the lockout, and the ends of image writes and verifications (R41, R59, R67, R438). -/
namespace Sys2Proof.Machine

set_option Elab.async false

/-! ### The host interface while the firmware answers -/

/-- The host interface without what a notification moves while no restart holds it back. -/
def HostIf.calm (h : HostIf) : HostIf :=
  { h with faultCause := 0, nrTail := 0, nrPhase := false, nrSeq := 0, lost := none, pba := 0 }

theorem signal_hostCalm (v : Nat) (d : Dev) : (signal v d).host.calm = d.host.calm := by
  obtain ⟨p, h⟩ := signal_host v d
  rw [h]
  rfl

theorem ringWrite_hostCalm (n : Notif) (d : Dev) : (ringWrite n d).host.calm = d.host.calm := by
  obtain ⟨p, ph, h⟩ := ringWrite_host n d
  rw [h]
  rfl

theorem ringOverflow_hostCalm (d : Dev) : (ringOverflow d).host.calm = d.host.calm := by
  unfold ringOverflow
  split
  · rfl
  · split
    · exact ringWrite_hostCalm _ _
    · rfl

theorem place_hostCalm (n : Notif) (d : Dev) : (place n d).host.calm = d.host.calm := by
  unfold place
  split
  · exact ringWrite_hostCalm _ _
  · rfl

theorem notify_hostCalm {type source : Nat} {data : Bytes} {d : Dev} (h : d.host.fwRestarting = false) :
    (notify type source data d).host.calm = d.host.calm := by
  unfold notify
  rw [h]
  split
  · rfl
  · exact (place_hostCalm _ _).trans (ringOverflow_hostCalm d)

theorem notifyRecord_hostCalm {type source : Nat} {data : Bytes} {d : Dev} (h : d.host.fwRestarting = false) :
    (notifyRecord type source data d).host.calm = d.host.calm := by
  have same := record_host type source (slice data 0 40 ++ zeros 8) d
  exact (notify_hostCalm (congrArg HostIf.fwRestarting same |>.trans h)).trans (congrArg HostIf.calm same)

theorem releaseHeld_hostCalm (d : Dev) : (releaseHeld d).host.calm = { d.host with held := [], heldLost := none }.calm := by
  unfold releaseHeld
  refine (ringOverflow_hostCalm _).trans ?_
  exact foldl_keeps (v := fun e => e.host.calm) (fun e n => (place_hostCalm n _).trans (ringOverflow_hostCalm e)) _ _

theorem setFault_faultCause (k : Nat) (d : Dev) : (setFault k d).host.faultCause = d.host.faultCause ||| 2 ^ k := by
  obtain ⟨p, h⟩ := signal_host 31 { d with host := { d.host with faultCause := d.host.faultCause ||| 2 ^ k } }
  exact congrArg HostIf.faultCause h

theorem bit_setFault (k : Nat) (d : Dev) : bit (setFault k d).host.faultCause k = true := by
  rw [setFault_faultCause]
  unfold bit
  rw [Nat.testBit_or, Nat.testBit_two_pow_self, Bool.or_true]

theorem setFault_hostCalm (k : Nat) (d : Dev) : (setFault k d).host.calm = d.host.calm := signal_hostCalm _ _

theorem resyncAll_host (d : Dev) : (resyncAll d).host = d.host := by
  unfold resyncAll
  split <;> rfl

theorem passFwFrames_host (d : Dev) : (passFwFrames d).host = d.host := by
  unfold passFwFrames
  refine foldl_keeps (v := fun e => e.host) (fun e f => ?_) _ _
  split
  · exact bump_host _ _ _ _
  · rfl

/-! ### The restart (R67, R438) -/

theorem startFwRestart_eq {c : Nat} {d : Dev} (hr : d.sys.fwRunning = true) (hf : d.host.fwRestarting = false) :
    startFwRestart c d = { d with host := { d.host with
        fwReady := false, fwRestarting := true, restartCause := c
        interrupted := (d.host.mbs.filter (fun e => e.2.busy)).map (fun e => (e.1, false))
        dma := d.host.dma.map (fun e => if 14 ≤ e.1 then (e.1, { e.2 with running := false, inFlight := none }) else e) } } := by
  unfold startFwRestart
  rw [hr, hf]
  rfl

section
variable {o : Otp} {d e : Dev} (h : d.host.fwRestarting = true)
include h

theorem fwRestartComplete_none (hb : bootSelect o d = (none, e)) :
    fwRestartComplete o d = { e with sys := { e.sys with stopped := true, fwRunning := false } } := by
  unfold fwRestartComplete
  rw [h, hb]
  rfl

theorem fwRestartComplete_some {k : Nat} (hb : bootSelect o d = (some k, e)) :
    ∃ f data, fwRestartComplete o d =
        passFwFrames (resyncAll (bump .hostif 0 6 (setFault 0 (notifyRecord 3 deviceTarget data (releaseHeld f))))) ∧
      f.host.fwRestarting = false ∧ f.host.fwReady = true ∧ f.host.interrupted = [] := by
  unfold fwRestartComplete
  rw [h, hb]
  exact ⟨_, _, rfl, rfl, rfl, rfl⟩

/-- R67: what a restart that ends leaves of the host interface. -/
theorem fwRestartComplete_host {k : Nat} (hb : bootSelect o d = (some k, e)) :
    (fwRestartComplete o d).host.fwRestarting = false ∧ (fwRestartComplete o d).host.fwReady = true ∧
      (fwRestartComplete o d).host.interrupted = [] ∧ (fwRestartComplete o d).host.held = [] ∧
      bit (fwRestartComplete o d).host.faultCause 0 = true := by
  obtain ⟨f, data, eq, restarting, ready, interrupted⟩ := fwRestartComplete_some h hb
  have released := releaseHeld_hostCalm f
  have going : (releaseHeld f).host.fwRestarting = false := (congrArg HostIf.fwRestarting released :).trans restarting
  have told := (setFault_hostCalm 0 _).trans ((notifyRecord_hostCalm (type := 3) (source := deviceTarget) (data := data) going).trans released)
  have fault := bit_setFault 0 (notifyRecord 3 deviceTarget data (releaseHeld f))
  rw [eq, passFwFrames_host, resyncAll_host, bump_host]
  generalize setFault 0 _ = g at told fault ⊢
  exact ⟨(congrArg HostIf.fwRestarting told :).trans restarting, (congrArg HostIf.fwReady told :).trans ready,
    (congrArg HostIf.interrupted told :).trans interrupted, (congrArg HostIf.held told :), fault⟩

end

/-- Settles O30: the watchdog, the firmware restart, the lockout and the image events do what R41, R59, R67 and R438 say. -/
theorem firmwareLives : Obligations.FirmwareLives := by
  refine fun s d hd => ⟨fun hr hf => ⟨onDev_next hd ?_, ?_, ?_⟩, fun h => ?_, fun t0 d1 hl hw => onDev_next hd ?_,
    fun w hw => onDev_next hd ?_, fun h slot v hv hs => onOtp_next hd ?_⟩
  · unfold fwAliveTick
    rw [hr, hf]
    rfl
  · have expired : watchdogExpiry d = startFwRestart 1 (waitTicks (d.host.aliveAt + ticksMs 100) d) := by
      unfold watchdogExpiry
      rw [hr, hf]
      rfl
    have waited := waitTicks_elapsed (d.host.aliveAt + ticksMs 100) d
    obtain ⟨t, b, frame⟩ := waitTicks_frame (d.host.aliveAt + ticksMs 100) d
    refine ⟨_, onDev_next hd (expired.trans (startFwRestart_eq ?_ ?_)), withDev_otp .., ?_⟩
    · rw [waitTicks_sys, hr]
    · rw [waitTicks_host, hf]
    · rw [withDev_dev]
      refine ⟨rfl, rfl, rfl, waited, ?_⟩
      rw [frame]
      exact ⟨rfl, rfl, rfl, rfl⟩
  · refine ⟨_, onDev_next hd (startFwRestart_eq hr hf), withDev_otp .., ?_⟩
    rw [withDev_dev]
    exact ⟨rfl, rfl, rfl, rfl, rfl, rfl, rfl, rfl⟩
  · refine ⟨_, onOtp_next hd rfl, withDev_otp .., ?_⟩
    rw [withDev_dev]
    refine ⟨fun hn => ?_, fun hn => ?_⟩
    · rw [fwRestartComplete_none h (bootSelect_none hn)]
      exact ⟨rfl, rfl⟩
    · obtain ⟨k, hk⟩ := Option.ne_none_iff_exists'.1 hn
      obtain ⟨e, chosen, -⟩ := bootSelect_keeps hk
      exact fwRestartComplete_host h chosen
  · unfold lockoutEnd
    rw [hl, ← hw]
    rfl
  · unfold fwImageWriteComplete
    rw [hw]
    rfl
  · unfold fwImageVerifyComplete
    rw [hv, ← hs]

end Sys2Proof.Machine
end

section
/-! The package links: flits sent and received, retrain and keying (R30 to R37). -/
namespace Sys2Proof.Machine

set_option Elab.async false

/-! ### The state of a link -/

section
variable (k : Nat) (l : PkgLink) (d : Dev) (t : Bool) (ch : Nat) (x : LinkDir) (c : FlitChan)

theorem setLink_only : Only [.pkg] d (setLink k l d) := .intro rfl
theorem setChanOf_only : Only [.pkg] d (setChanOf k t ch c d) := .intro rfl

theorem setLink_get : Map.get? (setLink k l d).pkg.links k = some l := Map.get?_put _ _ _

@[simp] theorem linkDir_setDir : linkDir t (setDir t x l) = x := by cases t <;> rfl

@[simp] theorem setDir_setDir (y : LinkDir) : setDir t y (setDir t x l) = setDir t y l := by cases t <;> rfl

@[simp] theorem setDir_authFails : (setDir t x l).authFails = l.authFails := by cases t <;> rfl

@[simp] theorem setDir_state : (setDir t x l).state = l.state := by cases t <;> rfl

@[simp] theorem setDir_replays : (setDir t x l).replays = l.replays := by cases t <;> rfl

theorem linkDir_of_dirs {m : PkgLink} (hf : m.fromHub = l.fromHub) (ht : m.toHub = l.toHub) : linkDir t m = linkDir t l := by
  unfold linkDir
  rw [hf, ht]

theorem flitChan_put : flitChan ch { x with chans := Map.put x.chans ch c } = c := by
  unfold flitChan Map.get
  rw [Map.get?_put]
  rfl

end

section
variable {k : Nat} {l : PkgLink} {d : Dev} {t : Bool} {ch : Nat}

theorem pkgLink_of_get (h : Map.get? d.pkg.links k = some l) : pkgLink k d = l := by
  unfold pkgLink Map.get
  rw [h]
  rfl

theorem linkState_of_get (h : Map.get? d.pkg.links k = some l) : linkState k d = l.state := by
  unfold linkState
  rw [h]

theorem chanOf_of_get (h : Map.get? d.pkg.links k = some l) : chanOf k t ch d = flitChan ch (linkDir t l) := by
  unfold chanOf
  rw [pkgLink_of_get h]

theorem not_linkUp_of_state (h : linkState k d = .retrain ∨ linkState k d = .down) : linkUp k d = false := by
  unfold linkUp
  rcases h with h | h <;> rw [h]

theorem setChanOf_get (c : FlitChan) (h : Map.get? d.pkg.links k = some l) :
    Map.get? (setChanOf k t ch c d).pkg.links k =
      some (setDir t { linkDir t l with chans := Map.put (linkDir t l).chans ch c } l) := by
  unfold setChanOf
  dsimp only
  rw [setLink_get, pkgLink_of_get h]

end

theorem chanOf_setChanOf (k : Nat) (t : Bool) (ch : Nat) (c : FlitChan) (d : Dev) : chanOf k t ch (setChanOf k t ch c d) = c := by
  unfold setChanOf
  dsimp only
  rw [chanOf_of_get (setLink_get _ _ _), linkDir_setDir, flitChan_put]

/-! ### Sending (R30, R31) -/

section
variable {k : Nat} {t : Bool} {ch : Nat} {kind : FlitKind} {payload : Bytes} {d : Dev} {l : PkgLink} {c : FlitChan}

theorem flitSend_waits (up : linkUp k d = true) (there : hasChan k ch = true) (hc : chanOf k t ch d = c) (h0 : c.credits = 0) :
    flitSend k t ch kind payload d = setChanOf k t ch { c with stalled := some (c.stalled.getD d.time.elapsed) } d := by
  unfold flitSend
  rw [up, there, Bool.not_true, Bool.or_self, if_neg Bool.false_ne_true]
  dsimp only
  rw [hc, if_pos h0]
  unfold noteStall
  rw [hc]

theorem flitSend_sends (up : linkUp k d = true) (there : hasChan k ch = true) (hc : chanOf k t ch d = c) (h0 : 0 < c.credits) :
    flitSend k t ch kind payload d = sendFlit k t ch (if c.inBlock = 0 then openBlock k t ch kind payload d else d) := by
  unfold flitSend
  rw [up, there, Bool.not_true, Bool.or_self, if_neg Bool.false_ne_true]
  dsimp only
  rw [hc, if_neg (Nat.pos_iff_ne_zero.1 h0)]

theorem sendFlit_get (hl : Map.get? d.pkg.links k = some l) (hc : flitChan ch (linkDir t l) = c) :
    Map.get? (sendFlit k t ch d).pkg.links k = some (setDir t { linkDir t l with chans := Map.put (linkDir t l).chans ch { c with
      credits := c.credits - 1, seq := (c.seq + 1) % 65536, inBlock := (c.inBlock + 1) % 4
      sent := Map.put c.sent c.seq (c.block.getD c.inBlock []) } } l) := by
  unfold sendFlit
  rw [chanOf_of_get hl, hc]
  change Map.get? (bump .pkg (pkgObj k t) 0 _).pkg.links k = _
  rw [bump_pkg]
  exact setChanOf_get _ hl

theorem sendFlit_out (hc : chanOf k t ch d = c) :
    (sendFlit k t ch d).out = d.out ++ [.flit k t ch c.seq (c.block.getD c.inBlock [])] := by
  unfold sendFlit
  rw [hc]
  dsimp only
  generalize hs : setChanOf k t ch _ d = e
  have same : e.out = d.out := by
    rw [← hs]
    exact (setChanOf_only _ _ _ _ _).out
  exact congrArg (· ++ _) ((bump_out _ _ _ e).trans same)

/-- The counter value of a block that is opened (R31). -/
def openedIv (k : Nat) (x : LinkDir) (d : Dev) : Nat := (x.iv + Config.freeNat d.free % (idleBlocks k x d + 1)) % 2 ^ 96

/-- A channel with a block just opened. -/
def blockOpened (k ch : Nat) (kind : FlitKind) (payload : Bytes) (x : LinkDir) (c : FlitChan) (d : Dev) : FlitChan :=
  { c with block := blockFlits x.key (openedIv k x d) kind ch c.seq payload, ivs := c.ivs ++ [openedIv k x d] }

theorem openBlock_get (hl : Map.get? d.pkg.links k = some l) (hc : flitChan ch (linkDir t l) = c) :
    Map.get? (openBlock k t ch kind payload d).pkg.links k = some (setDir t { linkDir t l with
      iv := (openedIv k (linkDir t l) d + 1) % 2 ^ 96, blockAt := d.time.elapsed
      chans := Map.put (linkDir t l).chans ch (blockOpened k ch kind payload (linkDir t l) c d) } l) := by
  have same : pkgLink k (fresh d).2 = l := pkgLink_of_get hl
  unfold openBlock
  dsimp only
  rw [setLink_get, same, hc]
  rfl

theorem openBlock_only : Only [.pkg, .free] d (openBlock k t ch kind payload d) := .intro rfl

end

/-! ### Receiving (R30, R34) -/

section
variable {k : Nat} {t : Bool} {ch seq lost n : Nat} {w : Bytes} {d e : Dev} {l : PkgLink} {c : FlitChan}

theorem flitReceive_passes (hc : chanOf k t ch d = c) (h : 64 ≤ (seq + 65536 - c.expect) % 65536 ∨ Map.has c.ahead seq = true) :
    flitReceive k t ch seq w lost d = d := by
  unfold flitReceive
  rw [hc]
  split
  · rfl
  · exact if_pos h

section
variable (up : linkUp k d = true) (there : hasChan k ch = true) (hc : chanOf k t ch d = c)
  (near : (seq + 65536 - c.expect) % 65536 < 64) (fresh : Map.has c.ahead seq = false)
include up there hc near fresh

theorem flitReceive_judges : flitReceive k t ch seq w lost d =
    if !flitSound w then flitError k t ch seq lost d
    else if c.expect = seq then flitGood k t ch lost 64 w d
    else if Map.has (pkgLink k (holdAhead k t ch seq w d)).replays (replayKey t ch c.expect) then holdAhead k t ch seq w d
    else flitError k t ch c.expect lost (holdAhead k t ch seq w d) := by
  have judged : ¬(64 ≤ (seq + 65536 - c.expect) % 65536 ∨ Map.has c.ahead seq = true) := by
    rw [fresh]
    rintro (h | h)
    · omega
    · exact Bool.false_ne_true h
  unfold flitReceive
  rw [up, there, Bool.not_true, Bool.or_self, if_neg Bool.false_ne_true]
  dsimp only
  rw [hc, if_neg judged]

end

theorem takeCredit_only : Only [.pkg, .cnt] d (takeCredit k t ch w d) := by
  unfold takeCredit
  extract_lets l c reps e
  have waited : Only [.cnt] d e := by
    unfold e
    split
    · exact bumpBy_only _ _ _ _ _
    · exact .refl _ d
  clear_value e
  have linked := waited.comp (setLink_only k { l with replays := reps, state := if reps.isEmpty then .up else .retry } e) (n := [.pkg, .cnt])
  exact linked.andThen (setChanOf_only _ _ _ _ _)

/-- The channel once the flit awaited is taken. -/
def flitTaken (w : Bytes) (c : FlitChan) : FlitChan :=
  { c with
    expect := (c.expect + 1) % 65536, credits := min 64 (c.credits + 1), stalled := none
    sent := Map.del c.sent c.expect, ahead := Map.del c.ahead c.expect, taken := c.taken ++ [w] }

theorem takeCredit_get (hl : Map.get? d.pkg.links k = some l) (hc : flitChan ch (linkDir t l) = c) :
    ∃ reps st, Map.get? (takeCredit k t ch w d).pkg.links k = some (setDir t
      { linkDir t l with chans := Map.put (linkDir t l).chans ch (flitTaken w c) } { l with replays := reps, state := st }) ∧
      (st = .up ∨ st = .retry) := by
  unfold takeCredit
  rw [chanOf_of_get hl, hc, pkgLink_of_get hl]
  refine ⟨Map.del l.replays (replayKey t ch c.expect),
    if (Map.del l.replays (replayKey t ch c.expect)).isEmpty then .up else .retry, ?_, ite_eq_or_eq _ _ _⟩
  refine (setChanOf_get _ (setLink_get _ _ _)).trans ?_
  rw [linkDir_of_dirs l t rfl rfl]
  rfl

theorem closeBlock_open (h : (chanOf k t ch d).taken.length < 4) : closeBlock k t ch lost d = d := if_pos h

/-- The channel once its block is complete. -/
def blockClosed (c : FlitChan) : FlitChan := { c with taken := [], ivs := c.ivs.drop 1 }

theorem closeBlock_full (hl : Map.get? d.pkg.links k = some l) (hc : flitChan ch (linkDir t l) = c) (h : 4 ≤ c.taken.length) :
    closeBlock k t ch lost d =
      if blockAuthentic (linkDir t l).key (c.ivs.headD 0) c.taken then setChanOf k t ch (blockClosed c) d
      else tagMismatch k t (c.ivs.headD 0) lost (setChanOf k t ch (blockClosed c) d) := by
  have key (b : FlitChan) : (linkDir t (pkgLink k (setChanOf k t ch b d))).key = (linkDir t l).key := by
    rw [pkgLink_of_get (setChanOf_get b hl), linkDir_setDir]
  unfold closeBlock
  rw [chanOf_of_get hl, hc]
  dsimp only
  rw [if_neg (by omega), key]
  rfl

theorem flitGood_last (he : closeBlock k t ch lost (takeCredit k t ch w d) = e)
    (hn : Map.get? (chanOf k t ch e).ahead (chanOf k t ch e).expect = none) : flitGood k t ch lost (n + 1) w d = e := by
  unfold flitGood
  dsimp only
  rw [he, hn]
  split <;> rfl

theorem flitGood_down (he : closeBlock k t ch lost (takeCredit k t ch w d) = e) (hd : linkUp k e = false) :
    flitGood k t ch lost (n + 1) w d = e := by
  unfold flitGood
  dsimp only
  rw [he, hd]
  rfl

end

/-! ### Links that leave service (R34) -/

theorem stompSending_only (p : Sending → Bool) (d : Dev) : Only [.que] d (stompSending p d) := .intro rfl

theorem cutEntry_only (e : VoqEnt) (dies : List Nat) (d : Dev) : Only [.que, .fab] d (cutEntry e dies d) :=
  (keepFrames_only _ d).andThen (stompSending_only _ _)

theorem dropCross_only (k : Nat) (d : Dev) : Only [.que, .fab, .cnt] d (dropCross k d) := by
  unfold dropCross
  split
  · exact .refl _ d
  · refine (Only.foldl (l := [.que, .fab, .cnt]) (fun d e => ?_) _ d).andThen (m := [.fab]) (.intro rfl)
    exact (bumpBy_only _ _ _ _ _).comp (cutEntry_only _ _ _)

theorem endStalls_only (k : Nat) (d : Dev) : Only [.pkg, .cnt] d (endStalls k d) :=
  Only.foldl (fun _ _ => (bumpBy_only _ _ _ _ _).comp (setLink_only _ _ _)) _ d

theorem leaveLink_only (k : Nat) (st : LinkState) (d : Dev) : Only [.que, .fab, .pkg, .cnt] d (leaveLink k st d) :=
  ((endStalls_only k d).mono.andThen (n := [.que, .fab, .pkg, .cnt]) (setLink_only _ _ _)).andThen (dropCross_only _ _)

theorem leaveLink_state (k : Nat) (st : LinkState) (d : Dev) : linkState k (leaveLink k st d) = st := by
  have same := (dropCross_only k (setLink k { pkgLink k (endStalls k d) with state := st, replays := [] } (endStalls k d))).pkg
  refine linkState_of_get (l := { pkgLink k (endStalls k d) with state := st, replays := [] }) ?_
  exact (congrArg (fun p => Map.get? p.links k) same).trans (setLink_get _ _ _)

theorem linkOff_eq (k cause : Nat) (d : Dev) :
    ∃ src data, linkOff k cause d = setFault 1 (notifyRecord 0x41 src data (leaveLink k .down d)) := ⟨_, _, rfl⟩

theorem linkOff_pkg (k cause : Nat) (d : Dev) : (linkOff k cause d).pkg = (leaveLink k .down d).pkg := by
  obtain ⟨src, data, eq⟩ := linkOff_eq k cause d
  rw [eq, (setFault_only _ _).pkg, (notifyRecord_only _ _ _ _).pkg]

theorem linkOff_sys (k cause : Nat) (d : Dev) : (linkOff k cause d).sys = d.sys := by
  obtain ⟨src, data, eq⟩ := linkOff_eq k cause d
  rw [eq, (setFault_only _ _).sys, (notifyRecord_only _ _ _ _).sys, (leaveLink_only _ _ _).sys]

theorem linkOff_state (k cause : Nat) (d : Dev) : linkState k (linkOff k cause d) = .down := by
  unfold linkState
  rw [linkOff_pkg]
  exact leaveLink_state k .down d

theorem linkOff_fault (k cause : Nat) (d : Dev) : bit (linkOff k cause d).host.faultCause 1 = true := by
  obtain ⟨src, data, eq⟩ := linkOff_eq k cause d
  rw [eq]
  exact bit_setFault 1 _

section
variable {k : Nat} {t : Bool} {iv lost : Nat} {d : Dev} {l : PkgLink}

/-- When the tags of blocks of the link did not match, within the last 10 s (R34). -/
def recentFails (l : PkgLink) (d : Dev) : List Nat := l.authFails.filter (fun t => decide (d.time.elapsed < t + ticksMs 10000))

theorem tagMismatch_eq (hl : Map.get? d.pkg.links k = some l) :
    ∃ e, tagMismatch k t iv lost d = if 2 ≤ (recentFails l d).length then linkOff k 2 e else leaveLink k .retrain e := by
  unfold tagMismatch
  rw [pkgLink_of_get hl]
  exact ⟨_, rfl⟩

/-- R34: the first two tags that do not match within 10 s train the link anew, the third holds it off. -/
theorem tagMismatch_state (hl : Map.get? d.pkg.links k = some l) :
    ((recentFails l d).length < 2 → linkState k (tagMismatch k t iv lost d) = .retrain) ∧
      (2 ≤ (recentFails l d).length → linkState k (tagMismatch k t iv lost d) = .down ∧
        bit (tagMismatch k t iv lost d).host.faultCause 1 = true) := by
  obtain ⟨e, eq⟩ := tagMismatch_eq (t := t) (iv := iv) (lost := lost) hl
  rw [eq]
  refine ⟨fun h => ?_, fun h => ?_⟩
  · rw [if_neg (Nat.not_le.2 h)]
    exact leaveLink_state _ _ _
  · rw [if_pos h]
    exact ⟨linkOff_state _ _ _, linkOff_fault _ _ _⟩

theorem tagMismatch_down (hl : Map.get? d.pkg.links k = some l) : linkUp k (tagMismatch k t iv lost d) = false := by
  obtain ⟨again, off⟩ := tagMismatch_state (t := t) (iv := iv) (lost := lost) hl
  rcases Nat.lt_or_ge (recentFails l d).length 2 with h | h
  · exact not_linkUp_of_state (.inl (again h))
  · exact not_linkUp_of_state (.inr (off h).1)

end

/-! ### A block that goes on, closes or is torn (R31, R34) -/

section
variable {k : Nat} {t : Bool} {ch lost n : Nat} {w : Bytes} {d : Dev} {l : PkgLink} {c : FlitChan}
  (hl : Map.get? d.pkg.links k = some l) (hc : flitChan ch (linkDir t l) = c)
include hl hc

/-- The link once the flit awaited is taken. -/
theorem takeCredit_link : ∃ m, Map.get? (takeCredit k t ch w d).pkg.links k = some m ∧ flitChan ch (linkDir t m) = flitTaken w c ∧
    (linkDir t m).key = (linkDir t l).key ∧ m.authFails = l.authFails ∧ (m.state = .up ∨ m.state = .retry) := by
  obtain ⟨reps, st, get, up⟩ := takeCredit_get (w := w) hl hc
  refine ⟨_, get, ?_, ?_, ?_, ?_⟩
  · rw [linkDir_setDir, flitChan_put]
  · rw [linkDir_setDir]
  · rw [setDir_authFails]
  · rw [setDir_state]
    exact up

theorem flitGood_goesOn (h : c.taken.length < 3) (hn : Map.get? c.ahead ((c.expect + 1) % 65536) = none) :
    flitGood k t ch lost (n + 1) w d = takeCredit k t ch w d ∧ chanOf k t ch (takeCredit k t ch w d) = flitTaken w c := by
  obtain ⟨m, get, chan, -⟩ := takeCredit_link (w := w) hl hc
  have taken : chanOf k t ch (takeCredit k t ch w d) = flitTaken w c := (chanOf_of_get get).trans chan
  have next : (c.expect + 1) % 65536 ≠ c.expect := by omega
  refine ⟨flitGood_last (closeBlock_open ?_) ?_, taken⟩
  · rw [taken]
    simp only [flitTaken, List.length_append, List.length_cons, List.length_nil]
    omega
  · rw [taken]
    exact (Map.get?_del_ne _ _ _ next).trans hn

theorem flitGood_closes (h : c.taken.length = 3) (hn : Map.get? c.ahead ((c.expect + 1) % 65536) = none)
    (ha : blockAuthentic (linkDir t l).key (c.ivs.headD 0) (c.taken ++ [w]) = true) :
    flitGood k t ch lost (n + 1) w d = setChanOf k t ch (blockClosed (flitTaken w c)) (takeCredit k t ch w d) := by
  obtain ⟨m, get, chan, key, -⟩ := takeCredit_link (w := w) hl hc
  have next : (c.expect + 1) % 65536 ≠ c.expect := by omega
  refine flitGood_last ?_ ?_
  · rw [closeBlock_full get chan (by simp [flitTaken, h]), key]
    exact if_pos ha
  · rw [chanOf_setChanOf]
    exact (Map.get?_del_ne _ _ _ next).trans hn

theorem flitGood_torn (h : c.taken.length = 3) (ha : blockAuthentic (linkDir t l).key (c.ivs.headD 0) (c.taken ++ [w]) = false) :
    ((recentFails l d).length < 2 → linkState k (flitGood k t ch lost (n + 1) w d) = .retrain) ∧
      (2 ≤ (recentFails l d).length → linkState k (flitGood k t ch lost (n + 1) w d) = .down ∧
        bit (flitGood k t ch lost (n + 1) w d).host.faultCause 1 = true) := by
  obtain ⟨m, get, chan, key, fails, -⟩ := takeCredit_link (w := w) hl hc
  have stored := setChanOf_get (t := t) (ch := ch) (blockClosed (flitTaken w c)) get
  have torn : closeBlock k t ch lost (takeCredit k t ch w d) =
      tagMismatch k t ((flitTaken w c).ivs.headD 0) lost (setChanOf k t ch (blockClosed (flitTaken w c)) (takeCredit k t ch w d)) := by
    rw [closeBlock_full get chan (by simp [flitTaken, h]), key]
    exact if_neg (ha ▸ Bool.false_ne_true)
  have recent : recentFails (setDir t { linkDir t m with chans := Map.put (linkDir t m).chans ch (blockClosed (flitTaken w c)) } m)
      (setChanOf k t ch (blockClosed (flitTaken w c)) (takeCredit k t ch w d)) = recentFails l d := by
    unfold recentFails
    rw [setDir_authFails, fails, (setChanOf_only _ _ _ _ _).time, takeCredit_only.time]
  rw [flitGood_down torn (tagMismatch_down stored), ← recent]
  exact tagMismatch_state stored

end

/-! ### Errors of a flit (R34) -/

section
variable {k : Nat} {t : Bool} {ch seq lost n : Nat} {d : Dev} {l : PkgLink} (hl : Map.get? d.pkg.links k = some l)
include hl

theorem flitError_first (h : Map.get? l.replays (replayKey t ch seq) = none) :
    flitError k t ch seq lost d = askReplay k t ch seq
      (setLink k { l with state := .retry, replays := Map.put l.replays (replayKey t ch seq) 0 } d) := by
  unfold flitError
  rw [pkgLink_of_get hl]
  dsimp only
  rw [h]

theorem flitError_again (h : Map.get? l.replays (replayKey t ch seq) = some n) (hn : n < 15) :
    flitError k t ch seq lost d = askReplay k t ch seq
      (setLink k { l with replays := Map.put l.replays (replayKey t ch seq) (n + 1) } d) := by
  unfold flitError
  rw [pkgLink_of_get hl]
  dsimp only
  rw [h]
  exact if_pos (by omega)

theorem flitError_last (h : Map.get? l.replays (replayKey t ch seq) = some 15) :
    flitError k t ch seq lost d = leaveLink k .retrain (bumpBy .pkg (pkgObj k t) 4 lost d) := by
  unfold flitError
  rw [pkgLink_of_get hl]
  dsimp only
  rw [h]
  exact if_neg (by omega)

/-- Holding one flit leaves the replays of another. -/
theorem holdAhead_has {w : Bytes} {x : Nat} (hne : seq ≠ x) :
    Map.has (pkgLink k (holdAhead k t ch seq w d)).replays (replayKey t ch x) = Map.has l.replays (replayKey t ch x) := by
  have other : replayKey t ch x ≠ replayKey t ch seq := by
    unfold replayKey
    omega
  unfold holdAhead
  dsimp only
  rw [pkgLink_of_get (setChanOf_get _ (setLink_get _ _ _)), setDir_replays, pkgLink_of_get hl]
  unfold Map.has
  rw [Map.get?_del_ne _ _ _ other]

end

/-! ### Retrain and keying (R32, R34, R36) -/

theorem startingUp_of_sys {d e : Dev} (h : e.sys = d.sys) : startingUp e = startingUp d := by
  unfold startingUp
  rw [h]

theorem bit_sub_two_pow {p k : Nat} (h : bit p k = true) : bit (p - 2 ^ k) k = false := by
  unfold bit at *
  rw [Nat.testBit_eq_decide_div_mod_eq, decide_eq_true_eq] at h
  rw [Nat.testBit_eq_decide_div_mod_eq, decide_eq_false_iff_not]
  have less : (p - 2 ^ k) / 2 ^ k = p / 2 ^ k - 1 := by
    have := Nat.sub_mul_div p (2 ^ k) 1
    rwa [Nat.mul_one] at this
  rw [less]
  omega

section
variable {k : Nat} {d : Dev}

theorem bringUpFailed_hub (h : startingUp d = true) : (bringUpFailed 4 d).sys.stopped = true := by
  unfold bringUpFailed
  rw [h]
  rfl

theorem bringUpFailed_die (h : startingUp d = true) (hk : k < 4) : diePresent k (bringUpFailed k d) = false := by
  unfold bringUpFailed diePresent
  rw [h, Bool.not_true, if_neg Bool.false_ne_true, if_neg (by omega)]
  dsimp only
  split
  case isTrue hb => exact bit_sub_two_pow hb
  case isFalse hb => exact Bool.eq_false_iff.2 hb

theorem bringUpFailed_keeps (k : Nat) (d : Dev) : (bringUpFailed k d).pkg.links = d.pkg.links ∧ (bringUpFailed k d).host = d.host := by
  unfold bringUpFailed
  split
  · exact ⟨rfl, rfl⟩
  · split
    · exact ⟨rfl, rfl⟩
    · exact ⟨rfl, rfl⟩

end

theorem retrain_waits {k : Nat} {o : Otp} {d : Dev} (h : d.vault.trng = 1) : retrainComplete k o d = d ∧ retrainFail k d = d := by
  unfold retrainComplete retrainFail
  exact ⟨if_pos (.inr h), if_pos (.inr h)⟩

section
variable {k : Nat} {o : Otp} {d : Dev} {l : PkgLink} (hl : Map.get? d.pkg.links k = some l) (hs : l.state = .retrain)
include hl hs

theorem retrainComplete_failed (h : d.vault.trng = 2) : retrainComplete k o d = retrainFail k d := by
  have runs : ¬((pkgLink k d).state ≠ .retrain ∨ d.vault.trng = 1) := by
    rw [pkgLink_of_get hl, hs, h]
    decide
  exact (if_neg runs).trans (if_pos h)

theorem retrainFail_runs (h : d.vault.trng ≠ 1) : ¬((pkgLink k d).state ≠ .retrain ∨ d.vault.trng = 1) := by
  rw [pkgLink_of_get hl, hs]
  exact not_or.2 ⟨not_not.2 rfl, h⟩

theorem retrainFail_again (h : d.vault.trng ≠ 1) (hn : l.retrainFails < 2) :
    retrainFail k d = setLink k { l with retrainFails := l.retrainFails + 1 } d := by
  refine (if_neg (retrainFail_runs hl hs h)).trans ?_
  rw [pkgLink_of_get hl, if_pos (by omega)]

theorem retrainFail_third (h : d.vault.trng ≠ 1) (hn : 2 ≤ l.retrainFails) :
    retrainFail k d = bringUpFailed k (linkOff k 1 (setLink k { l with retrainFails := 3 } d)) := by
  refine (if_neg (retrainFail_runs hl hs h)).trans ?_
  rw [pkgLink_of_get hl, if_neg (by omega)]

end

/-- After the keys only counters and milestones change (R449). -/
theorem retrainComplete_keys {k : Nat} {o : Otp} {d : Dev} {l : PkgLink} (hl : Map.get? d.pkg.links k = some l) (hs : l.state = .retrain)
    (h : d.vault.trng = 0) : Only [.cnt, .sys] (keyLink o k d) (retrainComplete k o d) := by
  have keys : d.vault.trng ≠ 1 ∧ d.vault.trng ≠ 2 := by
    rw [h]
    decide
  have counted : Only [.cnt, .sys] (keyLink o k d) (if (!(pkgLink k d).toHub.key.isEmpty) = true
      then bump .pkg (pkgObj k true) 3 (bump .pkg (pkgObj k false) 3 (keyLink o k d)) else keyLink o k d) :=
    .ite (fun _ => (bump_only _ _ _ _).comp (bump_only _ _ _ _)) (fun _ => .refl _ _)
  unfold retrainComplete
  dsimp only
  rw [if_neg (retrainFail_runs hl hs keys.1), if_neg keys.2]
  exact counted.trans (.ite (fun _ => (milestone_only _ _).mono) (fun _ => .refl _ _))

/-- A link that the vault has keyed (R32). -/
def linkKeyed (a b tk tb : Bytes) (l : PkgLink) (d : Dev) : PkgLink :=
  ⟨.up, [], 0, l.authFails, ⟨a, 0, d.time.elapsed, []⟩, ⟨b, 0, d.time.elapsed, []⟩, tk, tb, 0, 0⟩

theorem linkKeyed_chan (a b tk tb : Bytes) (l : PkgLink) (d : Dev) (t : Bool) (ch : Nat) :
    flitChan ch (linkDir t (linkKeyed a b tk tb l d)) = FlitChan.full := by cases t <;> rfl

section
variable {k : Nat} {o : Otp} {d : Dev} {l : PkgLink} (hl : Map.get? d.pkg.links k = some l)
include hl

theorem keyLink_die (hk : k < 4) :
    keyLink o k d = emit (.linkKeys k ([le 32 (Config.freeNat d.free), le 32 (Config.freeNat (d.free + 1)),
        le 32 (Config.freeNat (d.free + 2)), le 32 (Config.freeNat (d.free + 3))].map (kwpWrap (linkSecret o k))))
      (setLink k (linkKeyed (le 32 (Config.freeNat d.free)) (le 32 (Config.freeNat (d.free + 1))) (le 32 (Config.freeNat (d.free + 2)))
        (le 32 (Config.freeNat (d.free + 3))) l d) { d with free := d.free + 4 }) := by
  have same : pkgLink k { d with free := d.free + 4 } = l := pkgLink_of_get hl
  unfold keyLink
  simp only [if_pos hk]
  rw [← same]
  rfl

theorem keyLink_hub (hk : ¬k < 4) :
    keyLink o k d = emit (.linkKeys k ([le 32 (Config.freeNat d.free), le 32 (Config.freeNat (d.free + 1))].map (kwpWrap (linkSecret o k))))
      (setLink k (linkKeyed (le 32 (Config.freeNat d.free)) (le 32 (Config.freeNat (d.free + 1))) [] [] l d)
        { d with free := d.free + 2 }) := by
  have same : pkgLink k { d with free := d.free + 2 } = l := pkgLink_of_get hl
  unfold keyLink
  simp only [if_neg hk]
  rw [← same]
  rfl

end

/-- Settles O31: flits and retrains do to a package link what R30 to R37 and R155 say. -/
theorem packageLinksCarryFlits : Obligations.PackageLinksCarryFlits := by
  refine ⟨fun s d k l toHub chan x c hd hl up there hx hc => ?_, fun s d k l hd hl hs => ?_⟩
  · subst hx
    have chan' : chanOf k.val toHub chan.val d = c := (chanOf_of_get hl).trans hc
    have out : d.out = [] := by rw [← hd]
    refine ⟨fun kind payload => ⟨fun h0 => ?_, fun w h0 hb hw => ?_, fun h0 hb => ?_⟩, fun seq w lost h => ?_,
      fun seq w lost n hn near fresh sound => ⟨fun hq ht ha => ?_, fun hq ht ha hb => ?_, fun hq ht hb => ?_, fun hq hr => ?_,
        fun hq hr => ?_⟩, fun seq w lost q near fresh sound hq => ⟨fun hr => ?_, fun n hr hn => ?_, fun hr => ?_⟩⟩
    · exact onDev_next hd (flitSend_waits up there chan' h0)
    · subst hw
      refine ⟨_, onDev_next hd ((flitSend_sends up there chan' h0).trans (congrArg _ (if_neg hb))), withDev_otp .., ?_, ?_⟩
      · rw [withDev_dev, sendFlit_out chan', out]
        rfl
      · rw [withDev_dev, sendFlit_get hl hc]
    · have opened := openBlock_get (kind := kind) (payload := payload) hl hc
      have openedOut := (openBlock_only (k := k.val) (t := toHub) (ch := chan.val) (kind := kind) (payload := payload) (d := d)).out
      have sent := (flitSend_sends (kind := kind) (payload := payload) up there chan' h0).trans (congrArg _ (if_pos hb))
      generalize openBlock k.val toHub chan.val kind payload d = e at opened openedOut sent
      have openedChan := flitChan_put chan.val { linkDir toHub l with
        iv := (openedIv k.val (linkDir toHub l) d + 1) % 2 ^ 96, blockAt := d.time.elapsed }
        (blockOpened k.val chan.val kind payload (linkDir toHub l) c d)
      have got := sendFlit_get opened ((congrArg _ (linkDir_setDir ..)).trans openedChan)
      refine ⟨_, _, _, _, _, Nat.le_of_lt_succ (Nat.mod_lt (Config.freeNat d.free) (Nat.succ_pos _)), rfl, rfl, rfl,
        onDev_next hd sent, withDev_otp .., ?_, ?_⟩
      · rw [withDev_dev, sendFlit_out ((chanOf_of_get opened).trans ((congrArg _ (linkDir_setDir ..)).trans openedChan)), openedOut, out]
        unfold blockOpened
        dsimp only
        rw [hb]
        rfl
      · rw [linkDir_setDir, setDir_setDir] at got
        rw [withDev_dev]
        refine ⟨_, got, rfl, rfl, rfl, (flitChan_put ..).trans ?_⟩
        unfold blockOpened
        dsimp only
        rw [hb]
        rfl
    · exact onDev_next hd (flitReceive_passes chan' h)
    · have good := ((flitReceive_judges (lost := lost) up there chan' (hn ▸ near) fresh).trans (if_neg (by rw [sound]; decide))).trans
        (if_pos hq.symm)
      obtain ⟨goes, taken⟩ := flitGood_goesOn (lost := lost) (n := 63) (w := w) hl hc ht ha
      refine ⟨_, onDev_next hd (good.trans goes), withDev_otp .., ?_, ?_⟩
      · rw [withDev_dev, takeCredit_only.out, out]
      · rw [withDev_dev]
        exact taken
    · have good := ((flitReceive_judges (lost := lost) up there chan' (hn ▸ near) fresh).trans (if_neg (by rw [sound]; decide))).trans
        (if_pos hq.symm)
      refine ⟨_, onDev_next hd (good.trans (flitGood_closes (n := 63) hl hc ht ha hb)), withDev_otp .., ?_, ?_⟩
      · rw [withDev_dev, (setChanOf_only _ _ _ _ _).out, takeCredit_only.out, out]
      · rw [withDev_dev, chanOf_setChanOf]
        rfl
    · have good := ((flitReceive_judges (lost := lost) up there chan' (hn ▸ near) fresh).trans (if_neg (by rw [sound]; decide))).trans
        (if_pos hq.symm)
      refine ⟨_, onDev_next hd good, withDev_otp .., ?_⟩
      rw [withDev_dev]
      exact flitGood_torn hl hc ht hb
    · refine onDev_next hd ((flitReceive_judges up there chan' (hn ▸ near) fresh).trans ?_)
      rw [sound, if_neg (by decide), if_neg (Ne.symm hq), holdAhead_has hl hq, hr, if_pos rfl]
    · refine onDev_next hd ((flitReceive_judges up there chan' (hn ▸ near) fresh).trans ?_)
      rw [sound, if_neg (by decide), if_neg (Ne.symm hq), holdAhead_has hl hq, hr, if_neg Bool.false_ne_true]
    · subst hq
      exact onDev_next hd ((flitReceive_judges up there chan' near fresh).trans
        ((if_pos (by rw [sound]; rfl)).trans (flitError_first hl hr)))
    · subst hq
      exact onDev_next hd ((flitReceive_judges up there chan' near fresh).trans
        ((if_pos (by rw [sound]; rfl)).trans (flitError_again hl hr hn)))
    · subst hq
      refine ⟨_, onDev_next hd ((flitReceive_judges up there chan' near fresh).trans
        ((if_pos (by rw [sound]; rfl)).trans (flitError_last hl hr))), ?_, withDev_otp ..⟩
      rw [withDev_dev]
      exact leaveLink_state _ _ _
  · refine ⟨fun h => ?_, fun h => ⟨onOtp_next hd (retrain_waits h).1, onDev_next hd (retrain_waits (o := s.otp) h).2⟩, fun h => ?_,
      fun h hn => onDev_next hd (retrainFail_again hl hs h hn), fun h hn => ?_⟩
    · have keys := retrainComplete_keys (o := s.otp) hl hs h
      have out : d.out = [] := by rw [← hd]
      by_cases hk : k.val < 4
      · rw [keyLink_die hl hk] at keys
        have got : Map.get? (retrainComplete k.val s.otp d).pkg.links k.val = _ :=
          (congrArg (fun p => Map.get? p.links k.val) keys.pkg).trans (setLink_get ..)
        refine ⟨_, _, _, _, _, onOtp_next hd rfl, withDev_otp .., rfl, rfl, fun _ => ⟨rfl, rfl⟩, fun h4 => absurd hk (by omega), ?_, ?_, ?_⟩
        · rw [withDev_dev]
          exact got
        · intro chan toHub
          rw [withDev_dev, chanOf_of_get got]
          exact linkKeyed_chan ..
        · rw [withDev_dev, keys.out, if_pos hk]
          exact congrArg (· ++ _) out
      · rw [keyLink_hub hl hk] at keys
        have got : Map.get? (retrainComplete k.val s.otp d).pkg.links k.val = _ :=
          (congrArg (fun p => Map.get? p.links k.val) keys.pkg).trans (setLink_get ..)
        refine ⟨_, _, _, _, _, onOtp_next hd rfl, withDev_otp .., rfl, rfl, fun h4 => absurd h4 hk, fun _ => ⟨rfl, rfl⟩, ?_, ?_, ?_⟩
        · rw [withDev_dev]
          exact got
        · intro chan toHub
          rw [withDev_dev, chanOf_of_get got]
          exact linkKeyed_chan ..
        · rw [withDev_dev, keys.out, if_neg hk]
          exact congrArg (· ++ _) out
    · exact (onOtp_next hd rfl).trans ((congrArg (fun e => Host.Outcome.next (s.withDev e)) (retrainComplete_failed hl hs h)).trans
        (onDev_next hd rfl).symm)
    · have third := retrainFail_third hl hs h hn
      obtain ⟨links, host⟩ := bringUpFailed_keeps k.val (linkOff k.val 1 (setLink k.val { l with retrainFails := 3 } d))
      have sys := linkOff_sys k.val 1 (setLink k.val { l with retrainFails := 3 } d)
      refine ⟨_, onDev_next hd third, withDev_otp .., ?_, ?_, fun hu h4 => ?_, fun hu h4 => ?_⟩
      · rw [withDev_dev]
        unfold linkState
        rw [links]
        exact linkOff_state k.val 1 _
      · rw [withDev_dev, host]
        exact linkOff_fault ..
      · rw [withDev_dev, h4]
        exact bringUpFailed_hub ((startingUp_of_sys (h4 ▸ sys)).trans hu)
      · rw [withDev_dev]
        exact bringUpFailed_die ((startingUp_of_sys sys).trans hu) h4

end Sys2Proof.Machine
end

section
/-! The beacons that discipline the islands (R268, R269). -/
namespace Sys2Proof.Machine

set_option Elab.async false

theorem island_setIsland_ne {k j : Nat} (x : IslandSt) (d : Dev) (h : j ≠ k) : island j (setIsland k x d) = island j d := by
  unfold island Map.get
  rw [show (setIsland k x d).time.islands = Map.put d.time.islands k x from rfl, Map.get?_put_ne _ _ _ _ h]

/-! ### Sending -/

/-- One beacon of the grand island. -/
def beaconTo (d : Dev) (k : Nat) : Dev :=
  if beaconReaches k d then setIsland k { island k d with t1 := some d.time.grand, t2 := none } d else d

/-- The island once its beacon has left. -/
def beaconed (g : Nat) (x : IslandSt) : IslandSt := { x with t1 := some g, t2 := none }

theorem beaconTo_keeps (d : Dev) (k : Nat) :
    (beaconTo d k).time.grand = d.time.grand ∧ ∀ j, beaconReaches j (beaconTo d k) = beaconReaches j d := by
  unfold beaconTo
  split
  · exact ⟨rfl, fun _ => rfl⟩
  · exact ⟨rfl, fun _ => rfl⟩

theorem beaconTo_island (d : Dev) (k j : Nat) :
    island j (beaconTo d k) = if j = k ∧ beaconReaches j d = true then beaconed d.time.grand (island j d) else island j d := by
  unfold beaconTo
  by_cases hj : j = k
  · subst hj
    by_cases hr : beaconReaches j d = true
    · rw [if_pos hr, if_pos ⟨rfl, hr⟩, island_setIsland]
      rfl
    · rw [if_neg hr, if_neg fun h => hr h.2]
  · refine Eq.trans ?_ (if_neg fun h => hj h.1).symm
    split
    · exact island_setIsland_ne _ _ hj
    · rfl

theorem beacons_island (l : List Nat) (d : Dev) (k : Nat) :
    (l.foldl beaconTo d).time.grand = d.time.grand ∧
      island k (l.foldl beaconTo d) =
        if k ∈ l ∧ beaconReaches k d = true then beaconed d.time.grand (island k d) else island k d := by
  induction l generalizing d with
  | nil => exact ⟨rfl, (if_neg fun h => List.not_mem_nil h.1).symm⟩
  | cons j l ih =>
    obtain ⟨grand, reach⟩ := beaconTo_keeps d j
    obtain ⟨hg, hi⟩ := ih (beaconTo d j)
    refine ⟨hg.trans grand, hi.trans ?_⟩
    rw [grand, reach, beaconTo_island]
    by_cases hr : beaconReaches k d = true
    · by_cases hj : k = j
      · simp only [hj ▸ hr, hj, and_self, if_true, List.mem_cons, true_or]
        exact ite_eq_right_iff.2 fun _ => rfl
      · simp only [hj, hr, false_and, if_false, List.mem_cons, false_or]
    · have not : beaconReaches k d = false := Bool.eq_false_iff.2 hr
      simp only [not, Bool.false_eq_true, and_false, if_false]

theorem beaconSend_eq (d : Dev) : beaconSend d = (List.range 18).foldl beaconTo d := rfl

theorem islandNum_lt (i : Island) : islandNum i < 18 := by
  cases i with
  | line die kind =>
    have h1 := die.isLt
    have h2 := kind.isLt
    change 4 * die.val + kind.val < 18
    omega
  | host => decide
  | twin => decide

/-! ### The reply -/

/-- The calibrated path of a beacon (R268). -/
def beaconPath (o : Otp) (k : Nat) (d : Dev) : Int :=
  match calPoint o 0x10 k none (prm d) d with | some (f, u) => (calSum f u).1 | none => 0

/-- What the grand island finds of an island's clock. -/
def beaconOffset (t1 t2 t4 : Nat) : Int := ((t2 : Int) - t1 - ((t4 : Int) - t2)) / 2

section
variable {o : Otp} {k t1 t2 : Nat} {d : Dev} {x : IslandSt} (hx : island k d = x) (h1 : x.t1 = some t1) (h2 : x.t2 = some t2)
  (hr : beaconReaches k d = true)
include hx h1 h2 hr

theorem beaconReply_late (h : (beaconPath o k d + 4 * 65536) * 65536 < ((d.time.grand - t1 : Nat) : Int)) :
    beaconReply k o d = if k < 16 then bump .pkg (pkgObj (k / 4) true) 6 (setIsland k { x with t1 := none, t2 := none } d)
      else setIsland k { x with t1 := none, t2 := none } d := by
  unfold beaconReply
  dsimp only
  rw [hx, h1, h2, hr]
  exact if_pos h

theorem beaconReply_far (h : ((d.time.grand - t1 : Nat) : Int) ≤ (beaconPath o k d + 4 * 65536) * 65536) (hl : x.locked = false)
    (hf : 1000000 * 2 ^ 32 < (beaconOffset t1 t2 d.time.grand).natAbs) :
    beaconReply k o d = setIsland k { x with t1 := none, t2 := none
                                             loadAt := some ((d.time.grand / (1000 * unitsPerNs) + 1) * (1000 * unitsPerNs)) } d := by
  unfold beaconReply
  dsimp only
  rw [hx, h1, h2, hr, hl]
  refine (if_neg (Int.not_lt.2 h)).trans (if_pos ⟨rfl, hf⟩)

theorem beaconReply_near (h : ((d.time.grand - t1 : Nat) : Int) ≤ (beaconPath o k d + 4 * 65536) * 65536)
    (hn : x.locked = true ∨ (beaconOffset t1 t2 d.time.grand).natAbs ≤ 1000000 * 2 ^ 32) :
    beaconReply k o d = setIsland k { x with
      t1 := none, t2 := none, inc := (nextInc d).1
      locked := x.locked || decide ((beaconOffset t1 t2 d.time.grand).natAbs ≤ 2 ^ 32), lastOk := d.time.elapsed
      corr := -beaconOffset t1 t2 d.time.grand, corrTicks := corrTicks x.locked (beaconOffset t1 t2 d.time.grand) } (nextInc d).2 := by
  have near : ¬((!x.locked) = true ∧ 1000000 * 2 ^ 32 < (beaconOffset t1 t2 d.time.grand).natAbs) := by
    rintro ⟨hl, hf⟩
    rcases hn with hn | hn
    · rw [hn] at hl
      exact Bool.false_ne_true hl
    · exact absurd hf (Nat.not_lt.2 hn)
  unfold beaconReply
  dsimp only
  rw [hx, h1, h2, hr]
  exact (if_neg (Int.not_lt.2 h)).trans (if_neg near)

end

/-! ### Unlock and load (R269, R339) -/

theorem setHeld_only (h : Held) (d : Dev) : Only [.act] d (setHeld h d) := .intro rfl

theorem eggSuspend_time (die : Nat) (d : Dev) : (eggSuspend die d).time = d.time := by
  unfold eggSuspend
  refine foldl_keeps (v := fun e => e.time) (fun e h => ?_) _ d
  dsimp only
  split
  · exact (setHeld_only _ _).time.trans ((bump_time .egg die 10 _).trans (bump_time .cd h.secy 4 e))
  · exact (bump_time .egg die 9 _).trans (bump_time .cd h.secy 4 e)

/-- What an island that is unlocked leaves of its time. -/
theorem islandUnlock_time {k : Nat} {d : Dev} (h : (island k d).locked = true) :
    ∃ e, e = waitTicks ((island k d).lastOk + ticksMs 1) d ∧
      (islandUnlock k d).time = (setIsland k { island k e with locked := false } e).time := by
  refine ⟨_, rfl, ?_⟩
  unfold islandUnlock
  dsimp only
  rw [h, if_neg (by decide)]
  split
  · rw [eggSuspend_time, record_time, bump_time]
  · rw [record_time, bump_time]

/-- Settles O32: beacons measure and discipline the islands as R268 and R269 say. -/
theorem beaconsDisciplineIslands : Obligations.BeaconsDisciplineIslands := by
  intro s d i x k hd hk hx
  subst hk
  refine ⟨⟨_, onDev_next hd (beaconSend_eq d), withDev_otp .., ?_⟩, fun hr h1 => onDev_next hd ?_,
    fun t1 t2 path off h1 h2 hr hp ho => ⟨fun hn hl => ?_, fun hn hl hf => ?_, fun hn hk => ?_, fun hn hk => ?_⟩, fun hl => ?_,
    fun g d1 hg hw => onDev_next hd ?_⟩
  · obtain ⟨grand, sent⟩ := beacons_island (List.range 18) d (islandNum i)
    rw [withDev_dev, sent]
    refine ⟨grand, fun hr => ?_, fun hr => ?_⟩
    · rw [if_pos ⟨List.mem_range.2 (islandNum_lt i), hr⟩, hx]
      rfl
    · rw [if_neg fun h => Bool.false_ne_true (hr ▸ h.2), hx]
  · unfold beaconReceive
    dsimp only
    rw [hx, hr, h1]
    rfl
  · have path' : beaconPath s.otp (islandNum i) d = path := hp
    subst path' ho
    refine ⟨_, (nextInc d).1, onOtp_next hd (beaconReply_near hx h1 h2 hr hn hl), withDev_otp .., ?_, ?_⟩
    · rw [withDev_dev, island_setIsland]
      rfl
    · rw [withDev_dev]
      rfl
  · have path' : beaconPath s.otp (islandNum i) d = path := hp
    subst path' ho
    exact onOtp_next hd (beaconReply_far hx h1 h2 hr hn hl hf)
  · have path' : beaconPath s.otp (islandNum i) d = path := hp
    subst path'
    exact onOtp_next hd ((beaconReply_late hx h1 h2 hr hn).trans (if_neg (Nat.not_lt.2 hk)))
  · have path' : beaconPath s.otp (islandNum i) d = path := hp
    subst path'
    exact onOtp_next hd ((beaconReply_late hx h1 h2 hr hn).trans (if_pos hk))
  · obtain ⟨e, he, time⟩ := islandUnlock_time (k := islandNum i) (d := d) (by rw [hx]; exact hl)
    refine ⟨_, onDev_next hd rfl, withDev_otp .., ?_, ?_⟩
    · rw [withDev_dev]
      unfold island
      rw [time]
      exact congrArg IslandSt.locked (island_setIsland (islandNum i) { island (islandNum i) e with locked := false } e)
    · rw [withDev_dev, time, he, hx]
      exact waitTicks_elapsed _ d
  · unfold islandHubLoad
    rw [hx, hg, ← hw]
    rfl

end Sys2Proof.Machine
end

section
/-! Counters that an operation leaves alone: one place of the counter store, over notifications, ports, and the making of a set
active (R84). -/
namespace Sys2Proof.Machine

set_option Elab.async false

/-- The counter at a place of the store is as it was. -/
def CntKept (q : Nat) (d e : Dev) : Prop := Map.get e.cnt q 0 = Map.get d.cnt q 0

section
variable {q : Nat} {d e f : Dev}

theorem CntKept.refl (q : Nat) (d : Dev) : CntKept q d d := rfl

theorem CntKept.trans (h : CntKept q d e) (g : CntKept q e f) : CntKept q d f := Eq.trans g h

theorem CntKept.foldl {α : Type} {f : Dev → α → Dev} (h : ∀ d x, CntKept q d (f d x)) (xs : List α) (d : Dev) :
    CntKept q d (xs.foldl f d) := by
  induction xs generalizing d with
  | nil => exact .refl q d
  | cons x xs ih => exact (h d x).trans (ih (f d x))

theorem CntKept.ite {c : Prop} [Decidable c] (he : CntKept q d e) (hf : CntKept q d f) : CntKept q d (if c then e else f) := by
  split
  · exact he
  · exact hf

theorem CntKept.of_only {l : List Part} (h : Only l d e) (hc : Part.cnt.inList l = false := by exact rfl) : CntKept q d e :=
  congrArg (fun m => Map.get m q 0) (h .cnt hc)

theorem CntKept.cntGet_eq {b : CntBlock} {i s : Nat} (h : CntKept (cntKey b i s) d e) : cntGet b i s e = cntGet b i s d := h

theorem bumpBy_kept {b : CntBlock} {i s : Nat} (n : Nat) (d : Dev) (h : q ≠ cntKey b i s) : CntKept q d (bumpBy b i s n d) := by
  change Map.get (Map.put d.cnt _ _) q 0 = _
  unfold Map.get
  rw [Map.get?_put_ne _ _ _ _ h]

theorem bump_kept {b : CntBlock} {i s : Nat} (d : Dev) (h : q ≠ cntKey b i s) : CntKept q d (bump b i s d) := bumpBy_kept 1 d h

end

/-! ### Notifications, records and answers -/

theorem signal_kept (q v : Nat) (d : Dev) : CntKept q d (signal v d) := by
  unfold signal
  split
  · exact .refl q d
  · split
    · rfl
    · rfl

theorem ringWrite_kept (q : Nat) (n : Notif) (d : Dev) : CntKept q d (ringWrite n d) := by
  unfold ringWrite
  exact (CntKept.of_only (l := [.host, .obs, .out]) (.intro rfl)).trans (signal_kept q 16 _)

theorem ringOverflow_kept (q : Nat) (d : Dev) : CntKept q d (ringOverflow d) := by
  unfold ringOverflow
  split
  · exact .refl q d
  · exact .ite ((CntKept.of_only (l := [.host]) (.intro rfl)).trans (ringWrite_kept q _ _)) (.refl q d)

/-- The place is none of those that records and notifications count at. -/
def Untold (q : Nat) : Prop := q ≠ cntKey .hostif 0 4 ∧ q ≠ cntKey .obs 0 2

section
variable {q : Nat} (hq : Untold q)
include hq

theorem record_kept (type source : Nat) (data : Bytes) (d : Dev) : CntKept q d (record type source data d) := by
  unfold record
  extract_lets e
  have perf : CntKept q d e := rfl
  clear_value e
  exact perf.trans (.ite rfl (bump_kept e hq.2))

theorem place_kept (n : Notif) (d : Dev) : CntKept q d (place n d) := .ite (ringWrite_kept q n d) (bump_kept d hq.1)

theorem notify_kept (type source : Nat) (data : Bytes) (d : Dev) : CntKept q d (notify type source data d) := by
  unfold notify
  split
  · exact .refl q d
  · split
    · dsimp only
      split
      · exact .of_only (l := [.host]) (.intro rfl)
      · exact (CntKept.of_only (l := [.host]) (e := (takeSeq d).2) (.intro rfl)).trans (bump_kept _ hq.1)
    · have numbered : CntKept q (ringOverflow d) (takeSeq (ringOverflow d)).2 := .of_only (l := [.host]) (.intro rfl)
      exact ((ringOverflow_kept q d).trans numbered).trans (place_kept hq _ _)

theorem notifyRecord_kept (type source : Nat) (data : Bytes) (d : Dev) : CntKept q d (notifyRecord type source data d) :=
  (record_kept hq _ _ _ d).trans (notify_kept hq _ _ _ _)

theorem complete_kept (h : Nat) (st : Status) (res : Bytes) (d : Dev) : CntKept q d (complete h st res d) := by
  unfold complete
  split
  · exact .refl q d
  · exact (CntKept.of_only (l := [.host]) (.intro rfl)).trans (notify_kept hq _ _ _ _)

theorem settle_kept (h mb : Option Nat) (st : Status) (res : Bytes) (d : Dev) : CntKept q d (settle h mb st res d) := by
  unfold settle
  cases h with
  | none =>
    cases mb with
    | none => exact .refl q d
    | some m => exact .of_only (finish_only _ _ _ _)
  | some h =>
    cases mb with
    | none => exact complete_kept hq _ _ _ _
    | some m => exact (complete_kept hq _ _ _ _).trans (.of_only (finish_only _ _ _ _))

theorem endScan_kept (l : Nat) (d : Dev) : CntKept q d (endScan l d) := by
  unfold endScan
  split
  · exact (CntKept.of_only (setLaneSt_only _ _ _)).trans (complete_kept hq _ _ _ _)
  · exact .refl q d

theorem timeEnter_kept (st : TimeState) (cause : Nat) (recorded : Bool) (d : Dev) : CntKept q d (timeEnter st cause recorded d) := by
  unfold timeEnter
  extract_lets old t e data
  have entered : CntKept q d e := rfl
  clear_value e
  exact entered.trans (.ite (notifyRecord_kept hq _ _ _ _) (notify_kept hq _ _ _ _))

end

/-! ### A set becomes active -/

/-- The place is one of the counters of the configuration sets. -/
def InCfg (q : Nat) : Prop := 2 * 2 ^ 38 ≤ q ∧ q < 3 * 2 ^ 38

theorem inCfg_cntKey {s : Nat} (h : s < 64) : InCfg (cntKey .cfg 0 s) := by
  have code : CntBlock.cfg.code = 2 := rfl
  unfold InCfg cntKey
  rw [code]
  omega

theorem InCfg.ne {q : Nat} (h : InCfg q) {b : CntBlock} {i s : Nat} (hb : 3 ≤ b.code) : q ≠ cntKey b i s := by
  have := h.2
  unfold cntKey
  omega

theorem InCfg.untold {q : Nat} (h : InCfg q) : Untold q := by
  refine ⟨?_, h.ne (by decide)⟩
  have above := h.1
  have code : CntBlock.hostif.code = 1 := rfl
  unfold cntKey
  rw [code]
  omega

/-- The place is none of those that a port that leaves UP counts at, with the records and the answers that follow. -/
def Unlost (q : Nat) : Prop := Untold q ∧ q ≠ cntKey .twin 0 4 ∧ q ≠ cntKey .twin 0 5

theorem InCfg.unlost {q : Nat} (h : InCfg q) : Unlost q := ⟨h.untold, h.ne (by decide), h.ne (by decide)⟩

section
variable {q : Nat} (hq : Unlost q)
include hq

theorem attachFail_kept (st : Status) (d : Dev) : CntKept q d (attachFail st d) := by
  unfold attachFail
  extract_lets h e f t g
  have counted : CntKept q d f := (bump_kept d hq.2.1).trans
    (.ite ((bump_kept e hq.2.2).trans (record_kept hq.1 _ _ _ _)) (.refl q e))
  clear_value f
  have ended : CntKept q f g := .of_only (l := [.twin, .prot]) (.intro rfl)
  cases h with
  | none => exact counted.trans ended
  | some h => exact (counted.trans ended).trans (complete_kept hq.1 _ _ _ _)

theorem linkLost_kept (d : Dev) : CntKept q d (linkLost d) :=
  .ite ((record_kept hq.1 _ _ _ d).trans (attachFail_kept hq _ _)) (.refl q d)

theorem leaveUp_kept (p : Nat) (d : Dev) : CntKept q d (leaveUp p d) := by
  have stomped (s : Map Sending) (e : Dev) : CntKept q e { e with que := { e.que with sending := s } } := rfl
  have lost : CntKept q d (if p = 96 then linkLost d else d) := .ite (linkLost_kept hq d) (.refl q d)
  exact .ite (.refl q d) ((lost.trans (stomped _ _)).trans (.foldl (fun d l => endScan_kept hq.1 l d) _ _))

theorem portTo_kept (st : LinkSt) (p : Nat) (d : Dev) : CntKept q d (portTo st p d) := by
  have left : CntKept q d (if st = .up then d else leaveUp p d) := .ite (.refl q d) (leaveUp_kept hq p d)
  exact left.trans (.of_only (portEnter_only _ _ _))

theorem portOff_kept (p : Nat) (d : Dev) : CntKept q d (portOff p d) :=
  ((portTo_kept hq .disabled p d).trans (.of_only (setPortSt_only _ _ _))).trans (.of_only (onLanes_only _ _ _))

theorem startTraining_kept (keep : Bool) (p : Nat) (d : Dev) : CntKept q d (startTraining keep p d) := by
  have lanes := Only.foldl (fun d l => trainLane_only keep l d) (lanesOf p (portTo .training p d)) (portTo .training p d)
  exact (portTo_kept hq .training p d).trans (.of_only lanes)

theorem portAgain_kept (keep : Bool) (p : Nat) (d : Dev) : CntKept q d (portAgain keep p d) := by
  unfold portAgain
  split
  · exact .refl q d
  next x _ =>
    unfold trunkStart
    split
    · exact .ite ((CntKept.of_only (anReset_only p d)).trans (portTo_kept hq _ _ _)) (startTraining_kept hq keep p d)
    · exact .ite ((CntKept.of_only (twinLanesStart_only d)).trans (portTo_kept hq _ _ _))
        ((CntKept.of_only (anReset_only p d)).trans (portTo_kept hq _ _ _))

theorem portStart_kept (keep : Bool) (p : Nat) (d : Dev) : CntKept q d (portStart keep p d) :=
  .ite (((CntKept.of_only (onLanes_only p _ d)).trans (portAgain_kept hq keep p _)).trans (.of_only (setPortSt_only _ _ _))) (.refl q d)

theorem portsStart_kept (keep : Bool) (d : Dev) : CntKept q d (portsStart keep d) :=
  CntKept.foldl (f := fun d p => portStart keep p d) (fun d p => portStart_kept hq keep p d) (formedPorts d) d

end

section
variable {q : Nat} (hq : InCfg q)
include hq

theorem analysisOff_kept (p : Nat) (d : Dev) : CntKept q d (analysisOff p d) := by
  unfold analysisOff
  extract_lets fb e here
  have flags : CntKept q d e := rfl
  refine flags.trans (.foldl (fun d e => ?_) _ e)
  exact ((CntKept.of_only (l := [.fab]) (.intro rfl)).trans (bumpBy_kept _ _ (hq.ne (by decide)))).trans
    (bumpBy_kept _ _ (hq.ne (by decide)))

theorem portReform_kept (d : Dev) (p : Nat) : CntKept q d (portReform d p) := by
  have off : CntKept q d (if (portSt p d).state = .disabled then d else portOff p d) := .ite (.refl q d) (portOff_kept hq.unlost p d)
  have loop (e : Dev) : CntKept q e { e with obs := { e.obs with loopback := Map.del e.obs.loopback p } } := rfl
  exact (off.trans (analysisOff_kept hq p _)).trans (loop _)

theorem enterHoldover_kept (cause : Nat) (d : Dev) : CntKept q d (enterHoldover cause d) := by
  have slewed : CntKept q d { d with time := { d.time with slew := 0 } } := rfl
  exact (slewed.trans (timeEnter_kept hq.untold _ _ _ _)).trans (bump_kept _ (hq.ne (by decide)))

theorem sourceChanged_kept (old new : Nat) (d : Dev) : CntKept q d (sourceChanged old new d) := by
  unfold sourceChanged
  split
  · exact .refl q d
  · extract_lets t e
    have cleared : CntKept q d e := rfl
    clear_value e
    refine cleared.trans ?_
    cases e.time.state with
    | freerun => exact .ite (.of_only (askAcquire_only 5 e)) (.refl q e)
    | acquire => exact .refl q e
    | track => exact enterHoldover_kept hq 5 e
    | locked => exact enterHoldover_kept hq 5 e
    | holdover => exact .refl q e

theorem cdJudge_kept (n : Nat) (d : Dev) : CntKept q d (cdJudge n d) := by
  unfold cdJudge
  split
  · exact .refl q d
  · extract_lets die cap newCap a e req f
    have missed : CntKept q d e := rfl
    have recorded : CntKept q e f := .ite ((bump_kept e (hq.ne (by decide))).trans (record_kept hq.untold _ _ _ _)) (.refl q e)
    have delayed (l : List Nat) : CntKept q f { f with act := { f.act with delayMis := l } } := rfl
    have first := missed.trans recorded
    clear_value f
    refine first.trans ?_
    split
    · exact delayed _
    · exact .ite (.refl q f) (((delayed _).trans (bump_kept _ (hq.ne (by decide)))).trans (notifyRecord_kept hq.untold _ _ _ _))

theorem setInstalled_kept (set : SetImg) (d : Dev) : CntKept q d (setInstalled set d) := by
  have kept : CntKept q d (keepSet (some set) d) := rfl
  have reform := CntKept.foldl (portReform_kept hq) (changedPorts (prm d) (setTaken set d).params) (keepSet (some set) d)
  have last (e : Dev) (c : Cfg) : CntKept q e { keepBuckets (prm d) (setTaken set d).params e with cfg := c } := rfl
  exact (kept.trans reform).trans (last _ _)

/-- A set that becomes active leaves the counters of the sets to the one who makes it so. -/
theorem activate_kept (set : SetImg) (d : Dev) : CntKept q d (activate set d) := by
  rw [activate_eq]
  have carried := (setInstalled_kept hq set d).trans (.of_only (setCarried_only set d))
  have disabled := carried.trans (CntKept.foldl (f := fun d p => portOff p d) (fun d p => portOff_kept hq.unlost p d) _ _ :
    CntKept q _ (portsDisabled _))
  have sourced := disabled.trans (sourceChanged_kept hq (prm d).timeSource (setTaken set d).params.timeSource _)
  have judged := sourced.trans (CntKept.foldl (f := fun d n => cdJudge n d) (fun d n => cdJudge_kept hq n d) _ _ :
    CntKept q _ (cdJudgeAll _))
  exact ((judged.trans (portsStart_kept hq.unlost false _)).trans (.of_only (milestone_only 7 _))).trans (.of_only (trafficCheck_only _))

end

end Sys2Proof.Machine
end

section
/-! Loads, swaps and the draining of the old set (R71, R73, R77, R81, R84). -/
namespace Sys2Proof.Machine

set_option Elab.async false

/-! ### A load ends (R71, R77) -/

section
variable {o : Otp} {d : Dev} {j : LoadJob} (hl : d.cfg.load = some j)
include hl

theorem loadComplete_cfg_ok {p : SetParams}
    (h : (if presentUp d then checkImage j.image j.stage d else .error (.badState, 0)) = .ok p) :
    (loadComplete o d).cfg = { d.cfg with
      load := none, shadow := some ⟨fld j.image 8 4, imageCrc j.image, j.image, p, 0⟩, shadowState := .ready } := by
  have checked : (if presentUp { d with cfg := { d.cfg with load := none } }
      then checkImage j.image j.stage { d with cfg := { d.cfg with load := none } } else .error (.badState, 0)) = .ok p := h
  unfold loadComplete
  rw [hl]
  dsimp only
  rw [checked]
  dsimp only
  rw [complete_cfg, twinPost_cfg, bumpBy_cfg]

theorem loadComplete_cfg_error {x : Status × Nat}
    (h : (if presentUp d then checkImage j.image j.stage d else .error (.badState, 0)) = .error x) :
    (loadComplete o d).cfg = { d.cfg with load := none, shadowState := .empty } := by
  have checked : (if presentUp { d with cfg := { d.cfg with load := none } }
      then checkImage j.image j.stage { d with cfg := { d.cfg with load := none } } else .error (.badState, 0)) = .error x := h
  unfold loadComplete
  rw [hl]
  dsimp only
  rw [checked]
  dsimp only
  rw [complete_cfg, record_cfg]

end

/-! ### A swap (R71, R73, R84) -/

/-- The sets are exchanged but for their states. -/
def setsExchanged (g : Nat) (old : Option SetImg) (e : Dev) : Dev :=
  { e with cfg := { e.cfg with
    shadow := old, shadowState := if old.isSome then .draining else .empty
    drainUntil := e.time.elapsed + ticksMs 100, lastSwap := tsOf g, swapEpoch := e.time.epoch } }

theorem exchange_eq {g : Nat} {d : Dev} {x : SetImg} (h : d.cfg.shadow = some x) :
    exchange g d = setsExchanged g d.cfg.active (activate x d) := by
  unfold exchange
  rw [h]
  rfl

/-- Device time has reached the instant and no swap waits any more. -/
def swapTaken (w : SwapPend) (d : Dev) : Dev :=
  { waitUntil w.at_ d with cfg := { (waitUntil w.at_ d).cfg with swap := none } }

theorem swapTaken_cfg (w : SwapPend) (d : Dev) : (swapTaken w d).cfg = { d.cfg with swap := none } := by
  unfold swapTaken
  rw [waitUntil_cfg]

/-- R407: the peer of a pair is told of the sets. -/
def swapTold (d : Dev) : Dev := if pairedSecondary d then d else twinPost (setRecord d) d

theorem swapTold_only (d : Dev) : Only [.twin] d (swapTold d) := .ite (fun _ => .refl _ d) (fun _ => twinPost_only _ d)

theorem recordedBump_count {type source : Nat} {data : Bytes} {d e : Dev} (h : CntKept (cntKey .cfg 0 0) d e) :
    cntGet .cfg 0 0 (record type source data (bump .cfg 0 0 e)) = (cntGet .cfg 0 0 d + 1) % 2 ^ 48 := by
  rw [(record_kept (inCfg_cntKey (by decide)).untold type source data _).cntGet_eq]
  unfold bump
  rw [cntGet_bumpBy, h.cntGet_eq]

section
variable {d : Dev} {w : SwapPend} {x : SetImg} (hw : d.cfg.swap = some w) (hx : d.cfg.shadow = some x)
include hw hx

theorem swapInstant_refused (hm : w.mailbox = none) (hc : swapConflict x.params (waitUntil w.at_ d) = true) :
    swapInstant d = settle w.handle none .badState [] (swapTaken w d) := by
  have conflict : (w.mailbox.isNone && swapConflict x.params (swapTaken w d)) = true := by
    rw [hm]
    exact hc
  unfold swapInstant
  rw [hw, hx]
  refine (if_pos conflict).trans ?_
  rw [hm]
  rfl

theorem swapInstant_swaps (h : w.mailbox.isSome = true ∨ swapConflict x.params (waitUntil w.at_ d) = false) :
    swapInstant d = settle w.handle w.mailbox .ok (swapResult w.at_ x.id) (swapTold (swapNow w.at_ x.id (swapTaken w d))) := by
  have free : ¬(w.mailbox.isNone && swapConflict x.params (swapTaken w d)) = true := by
    rw [Bool.and_eq_true]
    rintro ⟨hm, hc⟩
    rcases h with h | h
    · rw [Option.isNone_iff_eq_none] at hm
      rw [hm] at h
      exact Bool.false_ne_true h
    · exact Bool.false_ne_true (h.symm.trans hc)
  unfold swapInstant
  rw [hw, hx]
  exact if_neg free

omit hw

theorem swapNow_cfg : ∃ k t u, (swapNow w.at_ x.id (swapTaken w d)).cfg = { d.cfg with
    swap := none, kept := k, active := some { x with params := altParams d.twin.tookHome x.params, gen := d.cfg.nextGen }
    nextGen := d.cfg.nextGen + 1, shadow := d.cfg.active
    shadowState := if d.cfg.active.isSome then .draining else .empty
    drainUntil := t, lastSwap := tsOf w.at_, swapEpoch := u } := by
  have due := swapTaken_cfg w d
  have taken : setTaken x (swapTaken w d) = { x with params := altParams d.twin.tookHome x.params } :=
    congrArg (fun t => { x with params := altParams t.tookHome x.params }) (waitUntil_twin w.at_ d)
  obtain ⟨k, active⟩ := activate_cfg x (swapTaken w d)
  rw [taken, due] at active
  unfold swapNow
  rw [record_cfg, bump_cfg, exchange_eq (by rw [due, hx]), due]
  unfold setsExchanged
  rw [active]
  exact ⟨k, _, _, rfl⟩

theorem swapNow_count : cntGet .cfg 0 0 (swapNow w.at_ x.id (swapTaken w d)) = (cntGet .cfg 0 0 (waitUntil w.at_ d) + 1) % 2 ^ 48 := by
  refine recordedBump_count ?_
  have taken : CntKept (cntKey .cfg 0 0) (waitUntil w.at_ d) (swapTaken w d) := rfl
  rw [exchange_eq (x := x) (by rw [swapTaken_cfg, hx])]
  exact (taken.trans (activate_kept (inCfg_cntKey (by decide)) x _)).trans (.of_only (l := [.cfg]) (.intro rfl))

end

/-! ### Draining (R71) -/

/-- Every frame that waits in a queue satisfies `P`. -/
def Queued (P : Frame → Prop) (d : Dev) : Prop := ∀ e ∈ d.que.queues, ∀ f ∈ e.2.frames, P f

theorem wakeClass_only (x : QueuePrm) (d : Dev) : Only [.que] d (wakeClass x d) := .ite (fun _ => .refl _ d) (fun _ => .intro rfl)

theorem wakeClass_queues (x : QueuePrm) (d : Dev) : (wakeClass x d).que.queues = d.que.queues := by
  unfold wakeClass
  split
  · rfl
  · rfl

theorem joinClass_only (was : Option (Nat × Nat)) (q : Nat) (d : Dev) : Only [.que] d (joinClass was q d) := by
  unfold joinClass
  dsimp only
  split
  · exact .refl _ d
  · exact .ite (fun _ => .refl _ d) (fun _ => ((setQueue_only _ _ d).trans (wakeClass_only _ _)).trans (setQueue_only _ _ _))

theorem mem_of_get? {α : Type} {m : Map α} {k : Nat} {a : α} (h : Map.get? m k = some a) : (k, a) ∈ m := by
  induction m with
  | nil => exact nomatch h
  | cons e m ih =>
    obtain ⟨i, b⟩ := e
    unfold Map.get? at h
    split at h
    · next hk => rw [hk, Option.some.inj h]; exact List.mem_cons_self
    · exact List.mem_cons_of_mem _ (ih h)

theorem Queued.queueAt {P : Frame → Prop} {d : Dev} (h : Queued P d) (q : Nat) : ∀ f ∈ (queueAt q d).frames, P f := by
  unfold Machine.queueAt Map.get
  cases hq : Map.get? d.que.queues q with
  | none => exact fun f hf => absurd hf List.not_mem_nil
  | some y => exact h (q, y) (mem_of_get? hq)

theorem Queued.setQueue {P : Frame → Prop} {d : Dev} (h : Queued P d) {q : Nat} {y : Queue} (hy : ∀ f ∈ y.frames, P f) :
    Queued P (setQueue q y d) := by
  intro e he f hf
  rcases mem_put he with rfl | he
  · exact hy f hf
  · exact h e he f hf

theorem joinClass_queued {P : Frame → Prop} {d : Dev} (h : Queued P d) (was : Option (Nat × Nat)) (q : Nat) :
    Queued P (joinClass was q d) := by
  unfold joinClass
  dsimp only
  split
  · exact h
  next x _ =>
    split
    · exact h
    · have emptied : Queued P (wakeClass x (Machine.setQueue q { queueAt q d with frames := [] } d)) := by
        unfold Queued
        rw [wakeClass_queues]
        exact h.setQueue fun f hf => absurd hf List.not_mem_nil
      exact emptied.setQueue (h.queueAt q)

theorem rejoin_queued {P : Frame → Prop} {d : Dev} (h : Queued P d) (before : Dev) : Queued P (rejoin before d) := by
  unfold rejoin
  generalize before.que.queues = l
  induction l generalizing d with
  | nil => exact h
  | cons e l ih => exact ih (joinClass_queued h _ _)

theorem rejoin_only (before d : Dev) : Only [.que] d (rejoin before d) := by
  unfold rejoin
  exact Only.foldl (fun d e => joinClass_only _ _ d) _ d

/-- R71: what is left once the frames of a set are gone. -/
def setDrained (g : Nat) (d : Dev) : Dev :=
  rejoin d (stompSending (fun s => decide (s.frame.gen = g)) (keepFrames (fun f => decide (f.gen ≠ g)) d))

theorem keep_frames (p : Frame → Bool) (q : Queue) : ∀ f ∈ (q.keep p).frames, p f = true := by
  unfold Queue.keep
  dsimp only
  split
  · exact fun f hf => absurd hf List.not_mem_nil
  · exact fun f hf => (List.mem_filter.1 hf).2

theorem keepFrames_queued (p : Frame → Bool) (d : Dev) : Queued (fun f => p f = true) (keepFrames p d) := by
  intro e he f hf
  obtain ⟨x, hx, rfl⟩ := List.mem_map.1 he
  exact keep_frames p x.2 f hf

theorem setDrained_only (g : Nat) (d : Dev) : Only [.que, .fab] d (setDrained g d) :=
  ((keepFrames_only _ d).andThen (stompSending_only _ _)).andThen (rejoin_only d _)

theorem setDrained_fab (g : Nat) (d : Dev) : (setDrained g d).fab = (keepFrames (fun f => decide (f.gen ≠ g)) d).fab :=
  (rejoin_only d _).fab

/-- No frame that waits anywhere carries the set that has gone. -/
theorem setDrained_waiting (g : Nat) (d : Dev) : ∀ f ∈ waitingFrames (setDrained g d), f.gen ≠ g := by
  have queued : Queued (fun f => decide (f.gen ≠ g) = true) (setDrained g d) :=
    rejoin_queued (d := stompSending _ _) (keepFrames_queued _ d) d
  intro f hf
  have kept : decide (f.gen ≠ g) = true := by
    unfold waitingFrames at hf
    rw [setDrained_fab] at hf
    simp only [List.mem_append, List.mem_flatMap, List.mem_map] at hf
    rcases hf with (((⟨e, he, hf⟩ | ⟨e, he, hf⟩) | ⟨e, he, rfl⟩) | ⟨e, he, rfl⟩) | ⟨e, he, hf⟩
    · exact queued e he f hf
    · obtain ⟨y, hy, rfl⟩ := List.mem_map.1 (List.mem_filter.1 he).1
      exact (List.mem_filter.1 hf).2
    · exact (List.mem_filter.1 he).2
    · exact (List.mem_filter.1 he).2
    · obtain ⟨y, hy, rfl⟩ := List.mem_map.1 he
      exact (List.mem_filter.1 hf).2
  exact of_decide_eq_true kept

theorem drainingGen_eq {d : Dev} {x : SetImg} (hs : d.cfg.shadowState = .draining) (hx : d.cfg.shadow = some x) :
    drainingGen d = some x.gen := by
  unfold drainingGen
  rw [hs, hx]
  rfl

/-- The frames of a set for the firmware are gone, and the set is READY. -/
def drainDone (g : Nat) (d : Dev) : Dev :=
  { d with
    prot := { d.prot with fwBuf := d.prot.fwBuf.filter (fun f => decide (f.gen ≠ g)) }
    cfg := { d.cfg with shadowState := .ready } }

theorem drainTimeout_eq {d d1 : Dev} {x : SetImg} (hs : d.cfg.shadowState = .draining) (hx : d.cfg.shadow = some x)
    (hw : waitTicks d.cfg.drainUntil d = d1) :
    drainTimeout d = bumpBy .cfg 0 1 (genFrames x.gen d1) (drainDone x.gen (setDrained x.gen d1)) := by
  unfold drainTimeout
  rw [drainingGen_eq hs hx, ← hw]
  rfl

/-- Settles O33: loads, swaps and draining do to the sets what R71, R73, R77, R81 and R84 say. -/
theorem configurationSetsExchange : Obligations.ConfigurationSetsExchange := by
  refine fun s d hd => ⟨fun j hj => ⟨_, onOtp_next hd rfl, withDev_otp .., ?_⟩, fun w x hw hx hc => ?_,
    fun w x d1 hw hx hm hd1 hc => ?_, fun x hs hx hg => onDev_next hd ?_, fun x d1 hs hx hw => ?_⟩
  · rw [withDev_dev]
    cases h : (if presentUp d then checkImage j.image j.stage d else .error (.badState, 0)) with
    | ok p =>
      rw [loadComplete_cfg_ok hj h]
      exact ⟨rfl, rfl, rfl, rfl⟩
    | error x =>
      rw [loadComplete_cfg_error hj h]
      exact ⟨rfl, rfl, rfl, rfl⟩
  · refine ⟨_, onDev_next hd (swapInstant_swaps hw hx hc), withDev_otp .., ?_⟩
    obtain ⟨k, t, u, cfg⟩ := swapNow_cfg (w := w) hx
    have place := inCfg_cntKey (s := 0) (by decide)
    have told := (settle_kept place.untold w.handle w.mailbox .ok (swapResult w.at_ x.id)
      (swapTold (swapNow w.at_ x.id (swapTaken w d)))).cntGet_eq
    rw [withDev_dev, told, settle_cfg, (swapTold_only _).cfg, cfg]
    refine ⟨rfl, rfl, rfl, rfl, rfl, rfl, ?_⟩
    exact (CntKept.of_only (swapTold_only _)).cntGet_eq.trans (swapNow_count hx)
  · subst hd1
    exact onDev_next hd (swapInstant_refused hw hx hm hc)
  · unfold drainEnd
    rw [drainingGen_eq hs hx]
    exact if_neg (hg ▸ Bool.false_ne_true)
  · refine ⟨_, onDev_next hd (drainTimeout_eq hs hx hw), withDev_otp .., ?_⟩
    have cfg : (setDrained x.gen d1).cfg = d.cfg := by
      rw [(setDrained_only _ _).cfg, ← hw, waitTicks_cfg]
    have gone := setDrained_waiting x.gen d1
    have count : cntGet .cfg 0 1 (setDrained x.gen d1) = cntGet .cfg 0 1 d1 := (CntKept.of_only (setDrained_only _ _)).cntGet_eq
    rw [withDev_dev, cntGet_bumpBy, bumpBy_cfg, bumpBy_prot]
    generalize setDrained x.gen d1 = e at cfg gone count ⊢
    refine ⟨rfl, ?_, ?_, ?_, gone, ?_⟩
    · exact (congrArg Cfg.shadow cfg).trans hx
    · exact (congrArg Cfg.active cfg :)
    · exact congrArg (fun n => (n + genFrames x.gen d1) % 2 ^ 48) count
    · exact fun f hf => of_decide_eq_true (List.mem_filter.1 hf).2

end Sys2Proof.Machine
end

section
/-! The SA slots of the line dies under a switch (R114, R119, R124). -/
namespace Sys2Proof.Machine

set_option Elab.async false

/-! ### Slots -/

section
variable {k j : Nat} {x : SaSlot} {d e : Dev}

theorem sa_of_slots (h : e.prot.slots = d.prot.slots) (k : Nat) : sa k e = sa k d := by
  unfold sa
  rw [h]

theorem sa_of_prot (h : e.prot = d.prot) (k : Nat) : sa k e = sa k d := sa_of_slots (congrArg Prot.slots h) k

theorem sa_setSa_ne (h : j ≠ k) : sa j (setSa k x d) = sa j d := by
  change Map.get (Map.put d.prot.slots k x) j emptySa = _
  unfold Map.get
  rw [Map.get?_put_ne _ _ _ _ h]
  rfl

theorem sa_saEnter (st : SaState) (k : Nat) (d : Dev) :
    sa k (saEnter st k d) = { sa k d with state := st, since := now d, sinceTick := d.time.lineElapsed } := sa_setSa _ _ _

theorem sa_saEnter_ne {st : SaState} (h : j ≠ k) : sa j (saEnter st k d) = sa j d := sa_setSa_ne h

theorem sa_freeSa (k : Nat) (d : Dev) :
    sa k (freeSa k d) = { emptySa with since := now d, sinceTick := d.time.lineElapsed } := sa_setSa _ _ _

theorem sa_freeSa_ne (h : j ≠ k) : sa j (freeSa k d) = sa j d := sa_setSa_ne h

theorem setSa_only : Only [.prot] d (setSa k x d) := .intro rfl
theorem saEnter_only (st : SaState) (k : Nat) (d : Dev) : Only [.prot] d (saEnter st k d) := .intro rfl
theorem freeSa_only (k : Nat) (d : Dev) : Only [.prot, .cnt] d (freeSa k d) := .intro rfl

end

/-! ### The threshold (R115) -/

/-- The packet number at which a slot asks for its successor. -/
def thresholdAt (x : SaSlot) (p : SecyPrm) : Nat :=
  match x.limit with | some l => min p.threshold (l - 2 ^ 39) | none => p.threshold

/-- Does the slot pass its threshold now? -/
def overThreshold (k : Nat) (x : SaSlot) : Option SecyPrm → Bool
  | none => false
  | some p => !(saRx k || x.threshold || decide (x.nextPn < thresholdAt x p))

theorem wantSak_slots (n : Nat) (p : SecyPrm) (d : Dev) : (wantSak n p d).prot.slots = d.prot.slots := by
  unfold wantSak
  split
  · split
    · rfl
    · rfl
  · rfl

theorem wantSak_only (n : Nat) (p : SecyPrm) (d : Dev) : Only [.prot] d (wantSak n p d) := by
  unfold wantSak
  split
  · exact .ite (fun _ => .refl _ d) (fun _ => .intro rfl)
  · exact .refl _ d

theorem checkThreshold_cases (k : Nat) (d : Dev) :
    (overThreshold k (sa k d) (secyPrm (saDie k) (saSc k) d) = false ∧ checkThreshold k d = d) ∨
      (overThreshold k (sa k d) (secyPrm (saDie k) (saSc k) d) = true ∧ ∃ n p src data, checkThreshold k d =
        wantSak n p (notify 0x10 src data (bump .key (saDie k) 5 (setSa k { sa k d with threshold := true } d)))) := by
  unfold checkThreshold
  cases hp : secyPrm (saDie k) (saSc k) d with
  | none => exact .inl ⟨rfl, rfl⟩
  | some p =>
    cases hb : overThreshold k (sa k d) (some p) with
    | false => exact .inl ⟨rfl, if_pos ((Bool.not_eq_false' _).mp hb)⟩
    | true =>
      have passed := (Bool.not_eq_true' _).mp hb
      exact .inr ⟨rfl, _, _, _, _, if_neg (fun h => Bool.false_ne_true (passed.symm.trans h))⟩

theorem checkThreshold_only (k : Nat) (d : Dev) : Only [.prot, .host, .obs, .cnt, .out] d (checkThreshold k d) := by
  rcases checkThreshold_cases k d with ⟨-, h⟩ | ⟨-, n, p, src, data, h⟩
  · rw [h]
    exact .refl _ d
  · rw [h]
    exact (((setSa_only.mono.trans (bump_only _ _ _ _).mono).andThen (notify_only _ _ _ _)).andThen (wantSak_only _ _ _))

theorem sa_checkThreshold (k : Nat) (d : Dev) : sa k (checkThreshold k d) =
    { sa k d with threshold := (sa k d).threshold || overThreshold k (sa k d) (secyPrm (saDie k) (saSc k) d) } := by
  rcases checkThreshold_cases k d with ⟨hb, h⟩ | ⟨hb, n, p, src, data, h⟩
  · rw [h, hb, Bool.or_false]
  · rw [h, hb, Bool.or_true, sa_of_slots (wantSak_slots _ _ _), sa_of_prot (notify_prot _ _ _ _), sa_of_prot (bump_prot _ _ _ _),
      sa_setSa]

theorem sa_checkThreshold_ne {k j : Nat} {d : Dev} (hj : j ≠ k) : sa j (checkThreshold k d) = sa j d := by
  rcases checkThreshold_cases k d with ⟨-, h⟩ | ⟨-, n, p, src, data, h⟩
  · rw [h]
  · rw [h, sa_of_slots (wantSak_slots _ _ _), sa_of_prot (notify_prot _ _ _ _), sa_of_prot (bump_prot _ _ _ _), sa_setSa_ne hj]

/-! ### A switch (R119, R124) -/

/-- The SA in use retires: its frames are rebound where it is exhausted. -/
def retireOld (die idx k : Nat) (d : Dev) : Dev :=
  match txInUse die idx d with
  | none => d
  | some a => saEnter .retiring (saKey die false idx a)
    (if (sa (saKey die false idx a) d).state = .exhausted then rebindFrames (saKey die false idx a) k d else d)

theorem doSwitch_eq {die idx an : Nat} {d : Dev} (h : (sa (saKey die false idx an) d).state = .installed) :
    doSwitch die idx an d = bump .key die 3 (checkThreshold (saKey die false idx an)
      (saEnter .inUse (saKey die false idx an) (retireOld die idx (saKey die false idx an) d))) :=
  if_neg (not_not.2 h)

theorem txInUse_state {die idx a : Nat} {d : Dev} (h : txInUse die idx d = some a) :
    (sa (saKey die false idx a) d).state = .inUse ∨ (sa (saKey die false idx a) d).state = .exhausted :=
  of_decide_eq_true (List.find?_some h :)

/-- The slot of the SA in use before a switch. -/
def retires (die idx : Nat) (d : Dev) (k : Nat) : Prop := ∃ a, txInUse die idx d = some a ∧ k = saKey die false idx a

theorem retireOld_frame (die idx k : Nat) (d : Dev) :
    (retireOld die idx k d).time = d.time ∧ (retireOld die idx k d).cfg = d.cfg := by
  unfold retireOld
  split
  · exact ⟨rfl, rfl⟩
  · split
    · exact ⟨rfl, rfl⟩
    · exact ⟨rfl, rfl⟩

theorem sa_retireOld {die idx k j : Nat} {d : Dev} (h : retires die idx d j) :
    sa j (retireOld die idx k d) = { sa j d with state := .retiring, since := now d, sinceTick := d.time.lineElapsed } := by
  obtain ⟨a, ha, rfl⟩ := h
  unfold retireOld
  rw [ha]
  dsimp only
  rw [sa_saEnter]
  split
  · rfl
  · rfl

theorem sa_retireOld_ne {die idx k j : Nat} {d : Dev} (h : ¬retires die idx d j) : sa j (retireOld die idx k d) = sa j d := by
  unfold retireOld
  split
  · rfl
  next a ha =>
    refine (sa_saEnter_ne fun hj => h ⟨a, ha, hj⟩).trans ?_
    split
    · rfl
    · rfl

section
variable {die idx an : Nat} {d : Dev} (h : (sa (saKey die false idx an) d).state = .installed)
include h

theorem not_retires_installed : ¬retires die idx d (saKey die false idx an) := by
  rintro ⟨a, ha, heq⟩
  rw [heq] at h
  rcases txInUse_state ha with hs | hs
  · rw [hs] at h
    exact nomatch h
  · rw [hs] at h
    exact nomatch h

/-- The slot of the SA that takes over. -/
theorem sa_doSwitch : ∃ b, b = overThreshold (saKey die false idx an) { sa (saKey die false idx an) d with
      state := .inUse, since := now d, sinceTick := d.time.lineElapsed }
        (secyPrm (saDie (saKey die false idx an)) (saSc (saKey die false idx an)) d) ∧
    sa (saKey die false idx an) (doSwitch die idx an d) = { sa (saKey die false idx an) d with
      state := .inUse, since := now d, sinceTick := d.time.lineElapsed
      threshold := (sa (saKey die false idx an) d).threshold || b } := by
  obtain ⟨time, cfg⟩ := retireOld_frame die idx (saKey die false idx an) d
  have entered := sa_saEnter .inUse (saKey die false idx an) (retireOld die idx (saKey die false idx an) d)
  unfold now at entered
  rw [sa_retireOld_ne (not_retires_installed h), time] at entered
  have params : secyPrm (saDie (saKey die false idx an)) (saSc (saKey die false idx an))
      (saEnter .inUse (saKey die false idx an) (retireOld die idx (saKey die false idx an) d)) =
        secyPrm (saDie (saKey die false idx an)) (saSc (saKey die false idx an)) d := by
    unfold secyPrm
    rw [prm_of_cfg (d := d) ((saEnter_only _ _ _).cfg.trans cfg)]
  refine ⟨_, rfl, ?_⟩
  rw [doSwitch_eq h, sa_of_prot (bump_prot _ _ _ _), sa_checkThreshold, entered, params]
  rfl

theorem sa_doSwitch_ne {j : Nat} (hj : j ≠ saKey die false idx an) :
    sa j (doSwitch die idx an d) = sa j (retireOld die idx (saKey die false idx an) d) := by
  rw [doSwitch_eq h, sa_of_prot (bump_prot _ _ _ _), sa_checkThreshold_ne hj, sa_saEnter_ne hj]

end

/-- What a switch does to the slots does not depend on what is noted of it. -/
theorem sa_doSwitch_noted {die idx an : Nat} {d : Dev} (m : Map (Nat × Nat × Nat)) (j : Nat) :
    sa j (doSwitch die idx an { d with prot := { d.prot with switched := m } }) = sa j (doSwitch die idx an d) := by
  by_cases h : (sa (saKey die false idx an) d).state = .installed
  · have h' : (sa (saKey die false idx an) { d with prot := { d.prot with switched := m } }).state = .installed := h
    by_cases hj : j = saKey die false idx an
    · subst hj
      obtain ⟨b, hb, hs⟩ := sa_doSwitch h
      obtain ⟨b', hb', hs'⟩ := sa_doSwitch h'
      rw [hs, hs', hb, hb']
      rfl
    · rw [sa_doSwitch_ne h' hj, sa_doSwitch_ne h hj]
      by_cases hr : retires die idx d j
      · rw [sa_retireOld hr, sa_retireOld (d := { d with prot := { d.prot with switched := m } }) hr]
        rfl
      · rw [sa_retireOld_ne hr, sa_retireOld_ne (d := { d with prot := { d.prot with switched := m } }) hr]
        rfl
  · have noted : doSwitch die idx an { d with prot := { d.prot with switched := m } } = _ := if_pos h
    have plain : doSwitch die idx an d = d := if_pos h
    rw [noted, plain]
    rfl

theorem noteSwitch_eq (g die idx an : Nat) (d : Dev) :
    ∃ m, noteSwitch g die idx an d = { d with prot := { d.prot with switched := m } } := by
  unfold noteSwitch
  split
  · exact ⟨_, rfl⟩
  · dsimp only
    split
    · exact ⟨_, rfl⟩
    · split
      · exact ⟨_, rfl⟩
      · exact ⟨_, rfl⟩

theorem mkaEnable_slots (n : Nat) (d : Dev) : (mkaEnable n d).prot.slots = d.prot.slots := by
  unfold mkaEnable
  split
  · split
    · rfl
    · rfl
  · rfl

/-- Settles O34: a switch makes an INSTALLED slot the one in use, retires the one before it, and touches no other. -/
theorem switchMovesTransmit : Obligations.SwitchMovesTransmit := by
  intro die idx an d _ _ h
  obtain ⟨b, -, hs⟩ := sa_doSwitch h
  refine ⟨?_, ?_, ?_, fun a ha => ?_, fun k hk hne => ?_, fun g k => ?_⟩
  · rw [hs]
  · rw [hs]
  · rw [hs]
  · have other : saKey die false idx a ≠ saKey die false idx an := fun he => not_retires_installed h ⟨a, ha, he.symm⟩
    rw [sa_doSwitch_ne h other, sa_retireOld ⟨a, ha, rfl⟩]
  · rw [sa_doSwitch_ne h hk, sa_retireOld_ne fun ⟨a, ha, hj⟩ => hne a ha hj]
  · obtain ⟨m, hm⟩ := noteSwitch_eq g die idx an d
    unfold switchAt
    rw [sa_of_slots (mkaEnable_slots _ _), hm, sa_doSwitch_noted]

end Sys2Proof.Machine
end

section
/-! The ends of installations, and what a switch and a batch do at their instants (R115 to R117, R119, R122). -/
namespace Sys2Proof.Machine

set_option Elab.async false

/-! ### What an answer leaves of the slots -/

/-- The slots and the installations that wait are as they were. -/
def SlotsKept (d e : Dev) : Prop := e.prot.slots = d.prot.slots ∧ e.prot.loads = d.prot.loads

theorem SlotsKept.of_prot {d e : Dev} (h : e.prot = d.prot) : SlotsKept d e := ⟨congrArg Prot.slots h, congrArg Prot.loads h⟩

theorem SlotsKept.trans {d e f : Dev} (h : SlotsKept d e) (g : SlotsKept e f) : SlotsKept d f := ⟨g.1.trans h.1, g.2.trans h.2⟩

theorem bulkNote_kept (h idx : Nat) (st : Status) (d : Dev) : SlotsKept d (bulkNote h idx st d) := by
  unfold bulkNote
  split
  · exact .of_prot rfl
  · extract_lets b' e others
    have staged : SlotsKept d e := .of_prot rfl
    have noted (l : List Bulk) : SlotsKept e { e with prot := { e.prot with bulks := l } } := ⟨rfl, rfl⟩
    clear_value e
    split
    · exact (staged.trans (noted others)).trans (.of_prot (complete_prot _ _ _ _))
    · exact staged.trans (noted _)

theorem saAnswer_kept (w : SaWaiter) (st : Status) (res : Bytes) (d : Dev) : SlotsKept d (saAnswer w st res d) := by
  cases w with
  | mailbox m => exact .of_prot (finish_prot _ _ _ _)
  | handle h => exact .of_prot (complete_prot _ _ _ _)
  | bulk h i => exact bulkNote_kept h i st d
  | mka => exact .of_prot rfl

/-! ### An installation that fails (R117) -/

/-- What an installation that fails leaves of its slot. -/
structure SaUndone (x : SaLoad) (old : SaSlot) (e : Dev) : Prop where
  empty : x.replace = false → (sa (saKey x.die x.rx x.sc x.an) e).state = .empty
  kept : x.replace = true → (sa (saKey x.die x.rx x.sc x.an) e).key = old.key

theorem SaUndone.of_slots {x : SaLoad} {old : SaSlot} {d e : Dev} (h : SaUndone x old d) (g : SlotsKept d e) : SaUndone x old e := by
  have same := sa_of_slots g.1 (saKey x.die x.rx x.sc x.an)
  exact ⟨fun hr => same.symm ▸ h.empty hr, fun hr => same.symm ▸ h.kept hr⟩

theorem saUndo_undone (x : SaLoad) (d : Dev) :
    SaUndone x (sa (saKey x.die x.rx x.sc x.an) d) (saUndo x d) ∧ (saUndo x d).prot.loads = d.prot.loads := by
  unfold saUndo
  dsimp only
  split
  next hr =>
    exact ⟨⟨fun h => absurd (h.symm.trans hr) Bool.false_ne_true, fun _ => by rw [sa_setSa]⟩, rfl⟩
  next hr => exact ⟨⟨fun _ => congrArg SaSlot.state (sa_freeSa _ d), fun h => absurd h hr⟩, rfl⟩

theorem saReject_undone (x : SaLoad) (d : Dev) :
    SaUndone x (sa (saKey x.die x.rx x.sc x.an) d) (saReject x d) ∧ (saReject x d).prot.loads = d.prot.loads := by
  obtain ⟨undone, loads⟩ := saUndo_undone x d
  have counted : SlotsKept (saUndo x d) (saReject x d) :=
    (SlotsKept.of_prot (bump_prot _ _ _ _)).trans (saAnswer_kept x.waiter .keyRejected [] (bump .key x.die 1 (saUndo x d)))
  exact ⟨undone.of_slots counted, counted.2.trans loads⟩

/-! ### The oldest queued installation (R115, R117) -/

/-- The state with the oldest installation taken from the queue. -/
def saTakenOff (rest : List SaLoad) (d : Dev) : Dev := { d with prot := { d.prot with loads := rest } }

/-- The key that an installation's blob opens to. -/
def saOpened (x : SaLoad) (d : Dev) : Option Key :=
  if fld x.blob 1 1 = (if x.rx then 0x11 else 0x10) ∧ fld x.blob 4 4 = x.keyId then openBlob x.blob x.blob.length d else none

/-- The row ends start-up once nothing waits (R449), and that moves neither slots nor the queue. -/
theorem saKeyLoadRow_kept {ok : Bool} {d e : Dev} {x : SaLoad} {rest : List SaLoad} (hl : d.prot.loads = x :: rest)
    (he : saKeyLoad ok d = e) : SlotsKept e (saKeyLoadRow ok d) := by
  unfold saKeyLoadRow
  rw [hl]
  refine (if_neg Bool.false_ne_true : _ = _).symm ▸ ?_
  dsimp only
  rw [he]
  split
  · exact .of_prot ((trafficCheck_only _).prot.trans (milestone_only _ _).prot)
  · exact .of_prot rfl

section
variable {x : SaLoad} {rest : List SaLoad} {d : Dev} (hl : d.prot.loads = x :: rest)
include hl

theorem saKeyLoad_waits (ok : Bool) (hv : vaultUp d = true) (hu : linkUp 4 d = false) : saKeyLoad ok d = d := by
  unfold saKeyLoad
  rw [hl, hv, hu]
  rfl

theorem saKeyLoad_cut (ok : Bool) (hv : (vaultUp d && !linkUp 4 d) = false)
    (hc : (dieUp x.die d && tunnelOpen x.die d) = false) :
    saKeyLoad ok d = saAnswer x.waiter .badState [] (saUndo x (saTakenOff rest d)) := by
  have cut : (!(dieUp x.die (saTakenOff rest d) && tunnelOpen x.die (saTakenOff rest d))) = true := (congrArg (!·) hc :)
  unfold saKeyLoad
  rw [hl]
  exact (if_neg (hv ▸ Bool.false_ne_true)).trans (if_pos cut)

end

theorem sendSak_prot (die : Nat) (key : Bytes) (d : Dev) : (sendSak die key d).prot = d.prot := rfl

theorem countBlob_prot (ok : Bool) (d : Dev) : (countBlob ok d).prot = d.prot := bump_prot _ _ _ _

/-- The length of the key that the slot of an installation takes. -/
def saKeyBytes (x : SaLoad) (d : Dev) : Nat :=
  match secyPrm x.die (if x.rx then saSecy (saKey x.die x.rx x.sc x.an) d else x.sc) d with
  | some p => suiteKeyLen p.suite
  | none => 32

section
variable {x : SaLoad} {rest : List SaLoad} {d : Dev} {ok : Bool} (hl : d.prot.loads = x :: rest)
  (hv : (vaultUp d && !linkUp 4 d) = false) (hc : (dieUp x.die d && tunnelOpen x.die d) = true)
include hl hv hc

theorem saKeyLoad_shut (ho : saOpened x d = none) : saKeyLoad ok d = saReject x (countBlob false (saTakenOff rest d)) := by
  have through : (!(dieUp x.die (saTakenOff rest d) && tunnelOpen x.die (saTakenOff rest d))) = false := (congrArg (!·) hc :)
  have shut : saOpened x (saTakenOff rest d) = none := ho
  unfold saOpened saTakenOff at shut
  unfold saKeyLoad
  rw [hl]
  refine (if_neg (hv ▸ Bool.false_ne_true)).trans ((if_neg (through ▸ Bool.false_ne_true)).trans ?_)
  dsimp only
  rw [shut]
  rfl

section
variable {key : Key} (ho : saOpened x d = some key)
include ho

/-- The blob opens: its key is of the wrong length, or fails the die's check, or is placed. -/
theorem saKeyLoad_open : saKeyLoad ok d =
    if key.bytes.length ≠ saKeyBytes x d then saReject x (countBlob false (saTakenOff rest d))
    else if !ok then
      saReject x (record 0x111 (secySource x.die (saSecy (saKey x.die x.rx x.sc x.an)
          (bump .key x.die 2 (sendSak x.die key.bytes (countBlob true (saTakenOff rest d)))))
          (bump .key x.die 2 (sendSak x.die key.bytes (countBlob true (saTakenOff rest d)))))
        (le 1 (b2n x.rx) ++ le 1 x.an ++ le 2 x.sc ++ le 4 x.keyId)
        (bump .key x.die 2 (sendSak x.die key.bytes (countBlob true (saTakenOff rest d)))))
    else
      saAnswer x.waiter .ok (le 4 (Map.get d.prot.installSeq x.die 1) ++ le 4 x.keyId ++ zeros 8)
        (twinPost (.saBlob x.die (saPayload x)) (afterInstall (saKey x.die x.rx x.sc x.an)
          (saPlace x key.bytes (sendSak x.die key.bytes (countBlob true (saTakenOff rest d)))))) := by
  have through : (!(dieUp x.die (saTakenOff rest d) && tunnelOpen x.die (saTakenOff rest d))) = false := (congrArg (!·) hc :)
  have opened : saOpened x (saTakenOff rest d) = some key := ho
  unfold saOpened saTakenOff at opened
  unfold saKeyLoad
  rw [hl]
  refine (if_neg (hv ▸ Bool.false_ne_true)).trans ((if_neg (through ▸ Bool.false_ne_true)).trans ?_)
  dsimp only
  rw [opened]
  rfl

end

/-- An installation that the die's check fails leaves its slot as R117 says, whatever its blob holds. -/
theorem saKeyLoad_rejects (ok : Bool) (h : ok = false ∨ saOpened x d = none ∨ ∃ key, saOpened x d = some key ∧ key.bytes.length ≠ saKeyBytes x d) :
    ∃ e, saKeyLoad ok d = saReject x e ∧ e.prot = (saTakenOff rest d).prot := by
  have counted := countBlob_prot false (saTakenOff rest d)
  cases ho : saOpened x d with
  | none => exact ⟨_, saKeyLoad_shut hl hv hc ho, counted⟩
  | some key =>
    have opened := saKeyLoad_open (ok := ok) hl hv hc ho
    by_cases hk : key.bytes.length ≠ saKeyBytes x d
    · exact ⟨_, opened.trans (if_pos hk), counted⟩
    · rcases h with h | h | ⟨key', h, h'⟩
      · subst h
        refine ⟨_, (opened.trans (if_neg hk)).trans (if_pos rfl), ?_⟩
        rw [record_prot, bump_prot, sendSak_prot, countBlob_prot]
      · rw [h] at ho
        exact nomatch ho
      · rw [h] at ho
        exact absurd (Option.some.inj ho ▸ h') hk

end

/-! ### A slot is filled (R115) -/

/-- What a slot holds once a key is placed in it. -/
structure SaPlaced (x : SaLoad) (key : Bytes) (q : Nat) (y : SaSlot) : Prop where
  state : y.state = if x.rx then .inUse else .installed
  key : y.key = key
  nextPn : y.nextPn = x.nextPn
  keyId : y.keyId = x.keyId
  ssci : y.ssci = x.ssci
  salt : y.salt = x.salt
  installSeq : y.installSeq = q

theorem saPlace_placed (x : SaLoad) (key : Bytes) (d : Dev) :
    SaPlaced x key (Map.get d.prot.installSeq x.die 1) (sa (saKey x.die x.rx x.sc x.an) (saPlace x key d)) := by
  unfold saPlace
  dsimp only
  rw [sa_checkThreshold, sa_of_prot (bump_prot _ _ _ _), sa_setSa]
  exact ⟨rfl, rfl, rfl, rfl, rfl, rfl, rfl⟩

theorem checkThreshold_loads (k : Nat) (d : Dev) : (checkThreshold k d).prot.loads = d.prot.loads := by
  rcases checkThreshold_cases k d with ⟨-, h⟩ | ⟨-, n, p, src, data, h⟩
  · rw [h]
  · have wanted (e : Dev) : (wantSak n p e).prot.loads = e.prot.loads := by
      unfold wantSak
      split
      · split
        · rfl
        · rfl
      · rfl
    rw [h, wanted, notify_prot, bump_prot]
    rfl

theorem saPlace_loads (x : SaLoad) (key : Bytes) (d : Dev) : (saPlace x key d).prot.loads = d.prot.loads := by
  unfold saPlace
  dsimp only
  rw [checkThreshold_loads, bump_prot]
  rfl

/-- After an installation the slot learns whether it stamps, and may reserve numbers (R127, R414). -/
theorem afterInstall_slot (k : Nat) (d : Dev) :
    (∃ st rn, sa k (afterInstall k d) = { sa k d with stamps := st, renewing := rn }) ∧
      (afterInstall k d).prot.loads = d.prot.loads := by
  unfold afterInstall
  split
  · exact ⟨⟨_, _, rfl⟩, rfl⟩
  · dsimp only
    split
    · unfold reservePn
      rw [sa_of_prot (twinPost_prot _ _), sa_setSa, sa_setSa, twinPost_prot]
      exact ⟨⟨_, _, rfl⟩, rfl⟩
    · rw [sa_setSa]
      exact ⟨⟨_, _, rfl⟩, rfl⟩

/-- The key is placed and the slot is filled. -/
theorem saKeyLoad_placed {x : SaLoad} {rest : List SaLoad} {d : Dev} {key : Key} (hl : d.prot.loads = x :: rest)
    (hv : (vaultUp d && !linkUp 4 d) = false) (hc : (dieUp x.die d && tunnelOpen x.die d) = true) (ho : saOpened x d = some key)
    (hk : key.bytes.length = saKeyBytes x d) :
    SaPlaced x key.bytes (Map.get d.prot.installSeq x.die 1) (sa (saKey x.die x.rx x.sc x.an) (saKeyLoad true d)) ∧
      (saKeyLoad true d).prot.loads = rest := by
  have sent := (sendSak_prot x.die key.bytes (countBlob true (saTakenOff rest d))).trans (countBlob_prot true (saTakenOff rest d))
  rw [saKeyLoad_open hl hv hc ho, if_neg (not_not.2 hk), Bool.not_true, if_neg Bool.false_ne_true]
  generalize sendSak x.die key.bytes (countBlob true (saTakenOff rest d)) = e at sent
  have placed := saPlace_placed x key.bytes e
  have loads := saPlace_loads x key.bytes e
  rw [sent] at placed loads
  obtain ⟨⟨st, rn, slot⟩, after⟩ := afterInstall_slot (saKey x.die x.rx x.sc x.an) (saPlace x key.bytes e)
  have answered := saAnswer_kept x.waiter .ok (le 4 (Map.get d.prot.installSeq x.die 1) ++ le 4 x.keyId ++ zeros 8)
    (twinPost (.saBlob x.die (saPayload x)) (afterInstall (saKey x.die x.rx x.sc x.an) (saPlace x key.bytes e)))
  refine ⟨?_, ?_⟩
  · rw [sa_of_slots answered.1, sa_of_prot (twinPost_prot _ _), slot]
    exact ⟨placed.state, placed.key, placed.nextPn, placed.keyId, placed.ssci, placed.salt, placed.installSeq⟩
  · rw [answered.2, twinPost_prot, after, loads]
    rfl

/-! ### What the row leaves -/

theorem saReject_row {x : SaLoad} {rest : List SaLoad} {d e f : Dev} {ok : Bool} (hl : d.prot.loads = x :: rest)
    (h : saKeyLoad ok d = saReject x e ∨ ∃ st, saKeyLoad ok d = saAnswer x.waiter st [] (saUndo x e))
    (he : e.prot = (saTakenOff rest d).prot) (hf : saKeyLoadRow ok d = f) :
    f.prot.loads = rest ∧ SaUndone x (sa (saKey x.die x.rx x.sc x.an) d) f := by
  have slot : sa (saKey x.die x.rx x.sc x.an) e = sa (saKey x.die x.rx x.sc x.an) d := sa_of_slots (congrArg Prot.slots he :) _
  have done : SaUndone x (sa (saKey x.die x.rx x.sc x.an) d) (saKeyLoad ok d) ∧ (saKeyLoad ok d).prot.loads = rest := by
    rcases h with h | ⟨st, h⟩
    · obtain ⟨undone, loads⟩ := saReject_undone x e
      rw [slot, ← h] at undone
      rw [← h, he] at loads
      exact ⟨undone, loads⟩
    · obtain ⟨undone, loads⟩ := saUndo_undone x e
      have answered := saAnswer_kept x.waiter st [] (saUndo x e)
      rw [slot] at undone
      rw [he] at loads
      rw [h]
      exact ⟨undone.of_slots answered, answered.2.trans loads⟩
  have row := saKeyLoadRow_kept (ok := ok) hl rfl
  rw [hf] at row
  exact ⟨row.2.trans done.2, done.1.of_slots row⟩

theorem vaultUp_of_state {d : Dev} : vaultUp d = true ↔ linkState 4 d ≠ .down := by
  unfold vaultUp
  cases linkState 4 d <;> decide

theorem tunnelOpen_of_up {die : Nat} {d : Dev} (hd : dieUp die d = true) (hu : linkUp 4 d = true) :
    (vaultUp d && !linkUp 4 d) = false ∧ (dieUp die d && tunnelOpen die d) = true := by
  have die' := hd
  unfold dieUp at die'
  rw [Bool.and_eq_true] at die'
  unfold tunnelOpen
  rw [hd, hu, die'.2]
  exact ⟨Bool.and_false _, rfl⟩

/-- Settles O35: installations, switches and batches end as R115 to R117, R119 and R122 say. -/
theorem saEventsTakeEffect : Obligations.SaEventsTakeEffect := by
  refine fun s d hd => ⟨fun x rest k p hl hk hu hv hp => ?_, fun hne hr ok => onDev_next hd ?_, fun x rest ok hl hr hc => ?_,
    fun x rest hl hu hv => ?_, fun die idx n w d1 hn hw hd1 => onDev_next hd ?_, fun h b d1 d2 hb hd1 hd2 => onDev_next hd ?_⟩
  · subst hk
    obtain ⟨through, open'⟩ := tunnelOpen_of_up hu hv
    have bytes : saKeyBytes x d = suiteKeyLen p.suite := by
      unfold saKeyBytes
      rw [hp]
    have opens : (if fld x.blob 1 1 = (if x.rx then 0x11 else 0x10) ∧ fld x.blob 4 4 = x.keyId
      then openBlob x.blob x.blob.length d else none) = saOpened x d := rfl
    rw [opens]
    have rejected (h : saOpened x d = none ∨ ∃ key, saOpened x d = some key ∧ key.bytes.length ≠ saKeyBytes x d) :
        (saKeyLoadRow true d).prot.loads = rest ∧ SaUndone x (sa (saKey x.die x.rx x.sc x.an) d) (saKeyLoadRow true d) := by
      obtain ⟨e, he, prot⟩ := saKeyLoad_rejects hl through open' true (.inr h)
      exact saReject_row hl (.inl he) prot rfl
    cases ho : saOpened x d with
    | none =>
      obtain ⟨loads, undone⟩ := rejected (.inl ho)
      refine ⟨_, onDev_next hd rfl, withDev_otp .., ?_⟩
      rw [withDev_dev]
      exact ⟨loads, undone.empty, undone.kept⟩
    | some key =>
      refine ⟨_, onDev_next hd rfl, withDev_otp .., ?_⟩
      rw [withDev_dev]
      by_cases hlen : key.bytes.length = suiteKeyLen p.suite
      · obtain ⟨placed, loads⟩ := saKeyLoad_placed hl through open' ho (hlen.trans bytes.symm)
        have row := saKeyLoadRow_kept (ok := true) hl rfl
        refine ⟨row.2.trans loads, ?_⟩
        rw [sa_of_slots row.1]
        dsimp only
        rw [if_pos hlen]
        exact ⟨placed.state, placed.key, placed.nextPn, placed.keyId, placed.ssci, placed.salt, placed.installSeq⟩
      · obtain ⟨loads, undone⟩ := rejected (.inr ⟨key, ho, bytes ▸ hlen⟩)
        refine ⟨loads, ?_⟩
        dsimp only
        rw [if_neg hlen]
        exact ⟨undone.empty, undone.kept⟩
  · obtain ⟨x, rest, hl⟩ := List.exists_cons_of_ne_nil hne
    have waits := saKeyLoad_waits hl ok (vaultUp_of_state.2 (by rw [hr]; decide)) (not_linkUp_of_state (.inl hr))
    have busy : d.prot.loads.isEmpty = false := by rw [hl]; rfl
    unfold saKeyLoadRow
    simp only [busy, waits, Bool.false_eq_true, if_false]
  · have cut : (vaultUp d && !linkUp 4 d) = false ∧ (dieUp x.die d && tunnelOpen x.die d) = false := by
      cases hu : linkUp 4 d with
      | true =>
        refine ⟨Bool.and_false _, ?_⟩
        rcases hc with hc | hc
        · exact absurd (hc.symm.trans hu) Bool.false_ne_true
        · rw [hc, Bool.false_and]
      | false =>
        have down : linkState 4 d = .down := by
          unfold linkUp at hu
          cases hs : linkState 4 d with
          | up => rw [hs] at hu; exact nomatch hu
          | retry => rw [hs] at hu; exact nomatch hu
          | retrain => exact absurd hs hr
          | down => rfl
        have off : vaultUp d = false := Bool.eq_false_iff.2 fun h => vaultUp_of_state.1 h down
        unfold tunnelOpen
        rw [off, hu, Bool.false_and, Bool.false_and, Bool.and_false]
        exact ⟨rfl, rfl⟩
    obtain ⟨loads, undone⟩ := saReject_row hl (.inr ⟨_, saKeyLoad_cut hl ok cut.1 cut.2⟩) rfl rfl
    refine ⟨_, onDev_next hd rfl, withDev_otp .., ?_⟩
    rw [withDev_dev]
    exact ⟨loads, undone.empty, undone.kept⟩
  · obtain ⟨through, open'⟩ := tunnelOpen_of_up hu hv
    obtain ⟨e, he, prot⟩ := saKeyLoad_rejects hl through open' false (.inl rfl)
    obtain ⟨loads, undone⟩ := saReject_row hl (.inl he) prot rfl
    refine ⟨_, onDev_next hd rfl, withDev_otp .., ?_⟩
    rw [withDev_dev]
    exact ⟨loads, undone.empty, undone.kept⟩
  · subst hn hd1
    unfold saTxSwitchInstant
    rw [hw]
    rfl
  · subst hd1 hd2
    unfold saBatchInstant
    rw [hb]

end Sys2Proof.Machine
end

section
/-! SAs that no longer carry traffic: retire timers, drains and grace periods (R118, R121, R124). -/
namespace Sys2Proof.Machine

set_option Elab.async false

/-! ### Counters that are cleared -/

theorem Map.get?_filter {α : Type} (p : Nat → Bool) (m : Map α) (k : Nat) :
    Map.get? (m.filter (fun e => p e.1)) k = if p k then Map.get? m k else none := by
  induction m with
  | nil => exact (ite_self _).symm
  | cons e m ih =>
    obtain ⟨i, a⟩ := e
    rw [List.filter_cons]
    by_cases hi : i = k
    · subst hi
      by_cases hp : p i = true
      · simp only [hp, if_true, Map.get?]
      · have off : p i = false := Bool.eq_false_iff.2 hp
        rw [off, if_neg Bool.false_ne_true, ih, off]
        simp only [Bool.false_eq_true, if_false]
    · split
      · unfold Map.get?
        rw [if_neg hi, if_neg hi, ih]
      · rw [ih]
        simp only [Map.get?, if_neg hi]

section
variable {b : CntBlock} {i : Nat} {d : Dev}

theorem cntClear_get? (b : CntBlock) (i q : Nat) (d : Dev) :
    Map.get? (cntClear b i d).cnt q = if decide (q / 64 ≠ b.code * 2 ^ 32 + i) then Map.get? d.cnt q else none :=
  Map.get?_filter (fun q => decide (q / 64 ≠ b.code * 2 ^ 32 + i)) d.cnt q

theorem cntGet_cntClear {j : Nat} (hj : j < 64) : cntGet b i j (cntClear b i d) = 0 := by
  have place : cntKey b i j / 64 = b.code * 2 ^ 32 + i := by
    unfold cntKey
    omega
  unfold cntGet Map.get
  rw [cntClear_get?, place, decide_eq_false (not_not.2 rfl), if_neg Bool.false_ne_true]
  rfl

theorem cntClear_kept {q : Nat} (h : q / 64 ≠ b.code * 2 ^ 32 + i) : CntKept q d (cntClear b i d) := by
  unfold CntKept Map.get
  rw [cntClear_get?, decide_eq_true h, if_pos rfl]

end

/-- A slot of the line dies is below 2^17. -/
theorem saIdKey_lt (i : SaId) : saIdKey i < 131072 := by
  have h1 := i.die.isLt
  have h2 := i.sc.isLt
  have h3 := i.an.isLt
  have h4 : b2n i.rx ≤ 1 := by cases i.rx <;> decide
  unfold saIdKey saKey
  omega

/-! ### Frames that are dropped -/

theorem keepFrames_waiting (p : Frame → Bool) (d : Dev) : ∀ f ∈ waitingFrames (keepFrames p d), p f = true := by
  intro f hf
  unfold waitingFrames at hf
  simp only [List.mem_append, List.mem_flatMap, List.mem_map] at hf
  rcases hf with (((⟨e, he, hf⟩ | ⟨e, he, hf⟩) | ⟨e, he, rfl⟩) | ⟨e, he, rfl⟩) | ⟨e, he, hf⟩
  · exact keepFrames_queued p d e he f hf
  · obtain ⟨y, hy, rfl⟩ := List.mem_map.1 (List.mem_filter.1 he).1
    exact (List.mem_filter.1 hf).2
  · exact (List.mem_filter.1 he).2
  · exact (List.mem_filter.1 he).2
  · obtain ⟨y, hy, rfl⟩ := List.mem_map.1 he
    exact (List.mem_filter.1 hf).2

theorem waitingFrames_of_parts {d e : Dev} (hq : e.que = d.que) (hf : e.fab = d.fab) : waitingFrames e = waitingFrames d := by
  unfold waitingFrames
  rw [hq, hf]

/-- The frames being sent that are meant are stomped. -/
theorem stompSending_stomps {p : Sending → Bool} (d : Dev) :
    ∀ e ∈ (stompSending p d).que.sending, p e.2 = true → e.2.stomp = true := by
  intro e he
  obtain ⟨⟨i, x⟩, hx, rfl⟩ := List.mem_map.1 he
  dsimp only
  split
  · exact fun _ => rfl
  next h => exact fun hp' => absurd hp' h

/-! ### The clock of the line dies -/

theorem waitLine_reaches {e : Nat} {d : Dev} (hs : d.sys.power ≠ .sleep) (ho : d.sys.power ≠ .off) :
    e ≤ (waitLine e d).time.lineElapsed := by
  unfold waitLine
  cases hp : d.sys.power with
  | sleep => exact absurd hp hs
  | off => exact absurd hp ho
  | _ =>
    change e ≤ (if (match d.sys.power with | .sleep => false | .off => false | _ => true) then d.time.lineElapsed + (e - d.time.lineElapsed)
      else d.time.lineElapsed)
    rw [hp, if_pos rfl]
    omega

theorem waitLine_asleep {e : Nat} {d : Dev} (hs : d.sys.power = .sleep) : waitLine e d = d := by
  unfold waitLine
  rw [hs]

/-! ### A slot ends (R118) -/

section
variable {k n : Nat} {d : Dev}

theorem retireSlot_eq (k n : Nat) (d : Dev) : ∃ src data, retireSlot k n d = notify 0x12 src data (freeSa k d) := ⟨_, _, rfl⟩

theorem retireSlot_only (k n : Nat) (d : Dev) : Only [.prot, .host, .obs, .cnt, .out] d (retireSlot k n d) :=
  (freeSa_only k d).mono.andThen (notify_only _ _ _ _)

theorem sa_retireSlot (k n : Nat) (d : Dev) :
    sa k (retireSlot k n d) = { emptySa with since := tsOf d.time.grand, sinceTick := d.time.lineElapsed } := by
  obtain ⟨src, data, eq⟩ := retireSlot_eq k n d
  rw [eq, sa_of_prot (notify_prot _ _ _ _), sa_freeSa]
  rfl

theorem sa_retireSlot_ne {j : Nat} (h : j ≠ k) : sa j (retireSlot k n d) = sa j d := by
  obtain ⟨src, data, eq⟩ := retireSlot_eq k n d
  rw [eq, sa_of_prot (notify_prot _ _ _ _), sa_freeSa_ne h]

/-- The counters of the slot start again; those of another object go on. -/
theorem retireSlot_kept {q : Nat} (hq : Untold q) (h : q / 64 ≠ CntBlock.sa.code * 2 ^ 32 + k) : CntKept q d (retireSlot k n d) := by
  obtain ⟨src, data, eq⟩ := retireSlot_eq k n d
  have freed : CntKept q d (freeSa k d) :=
    (CntKept.of_only (setSa_only (k := k) (x := { emptySa with since := now d, sinceTick := d.time.lineElapsed }))).trans (cntClear_kept h)
  rw [eq]
  exact freed.trans (notify_kept hq _ _ _ _)

theorem retireSlot_cleared {j : Nat} (hk : k < 131072) (hj : j < 64) : cntGet .sa k j (retireSlot k n d) = 0 := by
  have untold : Untold (cntKey .sa k j) := by
    have c1 : CntBlock.sa.code = 6 := rfl
    have c2 : CntBlock.hostif.code = 1 := rfl
    have c3 : CntBlock.obs.code = 19 := rfl
    unfold Untold cntKey
    rw [c1, c2, c3]
    omega
  obtain ⟨src, data, eq⟩ := retireSlot_eq k n d
  rw [eq, (notify_kept untold _ _ _ _).cntGet_eq]
  exact cntGet_cntClear hj

theorem sa_waitLine (e k : Nat) (d : Dev) : sa k (waitLine e d) = sa k d := sa_of_prot (waitLine_prot e d) k

/-! ### The timers -/

theorem rxRetireExpiry_waits {t : Nat} (ht : (sa k d).retireAt = some t) (hs : d.sys.power = .sleep) (hl : d.time.lineElapsed < t) :
    rxRetireExpiry k d = d := by
  unfold rxRetireExpiry
  rw [ht]
  dsimp only
  rw [waitLine_asleep hs, decide_eq_true hl, Bool.or_true, if_pos rfl]

theorem rxRetireExpiry_retires {t : Nat} (hi : (sa k d).state = .inUse) (ht : (sa k d).retireAt = some t)
    (hs : d.sys.power ≠ .sleep) (ho : d.sys.power ≠ .off) :
    rxRetireExpiry k d = bump .key (saDie k) 7
      (saEnter .retiring k (setSa k { sa k d with retireAt := none } (waitLine t d))) := by
  have due : ¬((decide ((sa k (waitLine t d)).state ≠ .inUse) || decide ((waitLine t d).time.lineElapsed < t)) = true) := by
    rw [sa_waitLine, hi, decide_eq_false (Nat.not_lt.2 (waitLine_reaches hs ho))]
    decide
  unfold rxRetireExpiry
  rw [ht]
  dsimp only
  rw [if_neg due, sa_waitLine]

/-- The frames of a slot have gone, and their number is recorded where there were any. -/
def framesLost (k n : Nat) (d : Dev) : Dev :=
  if n = 0 then d else
    record 0x112 (secySource (saDie k) (saSecy k d) d)
      (le 1 (b2n (saRx k)) ++ le 1 (saAn k) ++ le 2 (saSc k) ++ le 4 (sa k d).keyId ++ le 4 n) d

theorem framesLost_only (k n : Nat) (d : Dev) : Only [.obs, .cnt] d (framesLost k n d) :=
  .ite (fun _ => .refl _ d) (fun _ => record_only _ _ _ _)

theorem saDrainLimit_eq {d1 : Dev} (hr : (sa k d).state = .retiring) (hs : d.sys.power ≠ .sleep) (ho : d.sys.power ≠ .off)
    (hw : waitLine ((sa k d).sinceTick + ticksMs (prm d).drainLimit) d = d1) :
    saDrainLimit k d = retireSlot k (framesBound k d1)
      (framesLost k (framesBound k d1) (bumpBy .key (saDie k) 4 (framesBound k d1) (dropBound k d1))) := by
  have reached := waitLine_reaches (e := (sa k d).sinceTick + ticksMs (prm d).drainLimit) hs ho
  have slot := sa_waitLine ((sa k d).sinceTick + ticksMs (prm d).drainLimit) k d
  rw [hw] at reached slot
  have due : ¬((decide ((sa k d1).state ≠ .retiring) || decide (d1.time.lineElapsed < (sa k d).sinceTick + ticksMs (prm d).drainLimit)) = true) := by
    rw [slot, hr, decide_eq_false (Nat.not_lt.2 reached)]
    decide
  unfold saDrainLimit
  dsimp only
  rw [if_pos hr, hw, if_neg due]
  rfl

theorem dropBound_only (k : Nat) (d : Dev) : Only [.que, .fab] d (dropBound k d) := .intro rfl

end

theorem switchGrace_eq {die idx a k : Nat} {p : SecyPrm} {d d1 : Dev} (ha : txInUse die idx d = some a) (hp : secyPrm die idx d = some p)
    (hk : saKey die false idx a = k) (hx : (sa k d).state = .exhausted) (hg : (sa k d).graceOver = false)
    (hs : d.sys.power ≠ .sleep) (ho : d.sys.power ≠ .off) (hw : waitLine ((sa k d).sinceTick + ticksMs p.switchGrace) d = d1) :
    switchGrace die idx d =
      setSa k { sa k d with graceOver := true } (bumpBy .secy (2048 * die + idx) 7 (framesWaiting k d1) (dropWaiting k d1)) := by
  have reached := waitLine_reaches (e := (sa k d).sinceTick + ticksMs p.switchGrace) hs ho
  have slot := sa_waitLine ((sa k d).sinceTick + ticksMs p.switchGrace) k d
  rw [hw] at reached slot
  have due : ¬((decide ((sa k d1).state ≠ .exhausted) || (sa k d1).graceOver ||
      decide (d1.time.lineElapsed < (sa k d).sinceTick + ticksMs p.switchGrace)) = true) := by
    rw [slot, hx, hg, decide_eq_false (Nat.not_lt.2 reached)]
    decide
  have dropped : sa k (bumpBy .secy (2048 * die + idx) 7 (framesWaiting k d1) (dropWaiting k d1)) = sa k d :=
    (sa_of_prot (bumpBy_prot _ _ _ _ _) k).trans slot
  unfold switchGrace
  rw [ha, hp]
  dsimp only
  rw [hk, hw, if_neg due, dropped]

theorem saDie_lt {k : Nat} (h : k < 131072) : saDie k < 4 := by
  unfold saDie
  omega

/-- Settles O36: SAs that no longer carry traffic end as R118, R121 and R124 say. -/
theorem saTimersExpire : Obligations.SaTimersExpire := by
  refine fun s d hd => ⟨fun i t0 ht hs hl => onDev_next hd (rxRetireExpiry_waits ht hs hl), fun i t0 d1 hi ht hs ho hw => ?_,
    fun i hr hn => ?_, fun i d1 hr hs ho hw => ?_, fun die idx a p k d1 ha hp hk hx hg hs ho hw => ?_⟩
  · subst hw
    refine onDev_next hd ((rxRetireExpiry_retires hi ht hs ho).trans ?_)
    unfold saEnter
    rw [sa_setSa]
    rfl
  · have drains : saDrained (saIdKey i) d = retireSlot (saIdKey i) 0 d := if_pos ⟨hr, hn⟩
    refine ⟨_, onDev_next hd drains, withDev_otp .., ?_⟩
    rw [withDev_dev]
    refine ⟨sa_retireSlot _ _ _, fun k hk => sa_retireSlot_ne hk, fun j => ?_⟩
    rcases Nat.lt_or_ge j 64 with hj | hj
    · exact .inl (retireSlot_cleared (saIdKey_lt i) hj)
    · exact .inr hj
  · refine ⟨_, onDev_next hd (saDrainLimit_eq hr hs ho hw), withDev_otp .., ?_⟩
    have bound := saIdKey_lt i
    have die := saDie_lt bound
    rw [withDev_dev]
    generalize saIdKey i = k at *
    have lost := framesLost_only k (framesBound k d1) (bumpBy .key (saDie k) 4 (framesBound k d1) (dropBound k d1))
    have only := retireSlot_only k (framesBound k d1)
      (framesLost k (framesBound k d1) (bumpBy .key (saDie k) 4 (framesBound k d1) (dropBound k d1)))
    have counted := bumpBy_only .key (saDie k) 4 (framesBound k d1) (dropBound k d1)
    refine ⟨?_, ?_, ?_, ?_⟩
    · rw [sa_retireSlot, lost.time, counted.time, (dropBound_only k d1).time]
    · rw [waitingFrames_of_parts (d := dropBound k d1) (only.que.trans (lost.que.trans counted.que))
        (only.fab.trans (lost.fab.trans counted.fab))]
      exact fun f hf => of_decide_eq_true (keepFrames_waiting (fun f => decide (f.slot ≠ some k)) d1 f hf)
    · rw [only.que, lost.que, counted.que]
      exact fun e he hk => stompSending_stomps (p := fun s => decide (s.frame.slot = some k)) _ e he (decide_eq_true hk)
    · have untold : Untold (cntKey .key (saDie k) 4) := by
        have c1 : CntBlock.key.code = 7 := rfl
        have c2 : CntBlock.hostif.code = 1 := rfl
        have c3 : CntBlock.obs.code = 19 := rfl
        unfold Untold cntKey
        rw [c1, c2, c3]
        omega
      have other : cntKey .key (saDie k) 4 / 64 ≠ CntBlock.sa.code * 2 ^ 32 + k := by
        have c1 : CntBlock.key.code = 7 := rfl
        have c2 : CntBlock.sa.code = 6 := rfl
        unfold cntKey
        rw [c1, c2]
        omega
      have recorded : CntKept (cntKey .key (saDie k) 4) (bumpBy .key (saDie k) 4 (framesBound k d1) (dropBound k d1))
          (framesLost k (framesBound k d1) (bumpBy .key (saDie k) 4 (framesBound k d1) (dropBound k d1))) :=
        .ite (.refl _ _) (record_kept untold _ _ _ _)
      rw [(recorded.trans (retireSlot_kept untold other)).cntGet_eq, cntGet_bumpBy, (CntKept.of_only (dropBound_only k d1)).cntGet_eq]
  · refine ⟨_, onDev_next hd (switchGrace_eq ha hp hk hx hg hs ho hw), withDev_otp .., ?_⟩
    rw [withDev_dev]
    refine ⟨sa_setSa _ _ _, ?_, ?_⟩
    · exact fun f hf => of_decide_eq_true (keepFrames_waiting (fun f => decide (f.slot ≠ some k)) d1 f hf)
    · exact cntGet_bumpBy _ _ _ _ _

end Sys2Proof.Machine
end

section
/-! MKA: what the firmware does with a frame, at a hello time, when a peer's life ends, and with a CAK (R94, R126 to R128, R138). -/
namespace Sys2Proof.Machine

set_option Elab.async false

theorem mkaSt_setMka (n : Nat) (m : MkaSession) (d : Dev) : Map.get? (setMka n m d).prot.mka n = some m := Map.get?_put _ _ _

/-! ### A frame (R94, R126 to R128) -/

section
variable {d d1 : Dev} {f : FwFrame} {n : Nat} {p : SecyPrm} (hr : fwRuns d = true)
  (hf : d.prot.fwBuf.find? (fun f => decide ((parse f.data).etype = 0x888E)) = some f) (hn : f.secy = some n)
  (hp : secyPrm (n / 2048) (n % 2048) d = some p)
  (h1 : { d with prot := { d.prot with fwBuf := d.prot.fwBuf.erase f } } = d1)
include hr hf hn hp h1

theorem mkaFrameProcess_host (hk : p.hostKeying = true) : mkaFrameProcess d = emit (.cpu f.port (tsOf f.tIn) f.data) d1 := by
  have same : secyPrm (n / 2048) (n % 2048) { d with prot := { d.prot with fwBuf := d.prot.fwBuf.erase f } } = some p := hp
  unfold mkaFrameProcess
  rw [hr, hf, ← h1]
  dsimp only
  rw [hn]
  dsimp only
  rw [same]
  exact if_pos hk

section
variable {m : MkaSession} (hk : p.hostKeying = false) (hm : Map.get? d.prot.mka n = some m)
include hk hm

theorem mkaFrameProcess_other (hx : readMkpdu f.data = none) : mkaFrameProcess d = d1 := by
  have same : secyPrm (n / 2048) (n % 2048) { d with prot := { d.prot with fwBuf := d.prot.fwBuf.erase f } } = some p := hp
  have session : mkaSt n { d with prot := { d.prot with fwBuf := d.prot.fwBuf.erase f } } = some m := hm
  unfold mkaFrameProcess
  rw [hr, hf, ← h1]
  dsimp only
  rw [hn]
  dsimp only
  rw [same, session, hx]
  dsimp only
  rw [hk]
  exact (if_neg (by decide : ¬(!true) = true)).trans (if_neg Bool.false_ne_true)

theorem mkaFrameProcess_mkpdu {x : Mkpdu} (hx : readMkpdu f.data = some x) :
    mkaFrameProcess d = if x.ckn ≠ m.ckn ∨ x.agility ≠ 0x0080C201 then d1
      else if aesCmac m.ick x.covered = x.icv then mkaReceive n p x m d1
      else setMka n { m with rxBad := (m.rxBad + 1) % 2 ^ 32 } d1 := by
  have same : secyPrm (n / 2048) (n % 2048) { d with prot := { d.prot with fwBuf := d.prot.fwBuf.erase f } } = some p := hp
  have session : mkaSt n { d with prot := { d.prot with fwBuf := d.prot.fwBuf.erase f } } = some m := hm
  unfold mkaFrameProcess
  rw [hr, hf, ← h1]
  dsimp only
  rw [hn]
  dsimp only
  rw [same, session, hx]
  dsimp only
  rw [hk]
  exact (if_neg (by decide : ¬(!true) = true)).trans (if_neg Bool.false_ne_true)

end

end

/-! ### A hello time (R124, R127) -/

/-- The session is sent: its message number runs on. -/
def helloSent (n : Nat) (p : SecyPrm) (m : MkaSession) (d : Dev) : Dev :=
  injectFrame false (some (secyCode p.port p.index)) 7 (mkpduBytes n p m d) none none
    (setMka n { m with lastHello := now d, helloAt := some d.time.elapsed, msgNumber := (m.msgNumber + 1) % 2 ^ 32 } d)

/-- Device time has reached the hello time. -/
def helloReached (m : MkaSession) (d : Dev) : Dev :=
  match m.helloAt with | some t => waitTicks (t + helloTime m) d | none => d

/-- A key server that was asked for a new SAK has generated it. -/
def helloAsked (n : Nat) (p : SecyPrm) (m : MkaSession) (d : Dev) : Dev :=
  if m.server && m.rekey then postMka n (generateSak n p (helloReached m d)) else helloReached m d

theorem helloReached_frame (m : MkaSession) (d : Dev) : (helloReached m d).prot = d.prot ∧ (helloReached m d).vault = d.vault := by
  unfold helloReached
  split
  · exact ⟨waitTicks_prot _ _, waitTicks_vault _ _⟩
  · exact ⟨rfl, rfl⟩

section
variable {d : Dev} {n : Nat} {p : SecyPrm} {m : MkaSession} (hm : mkaSt n d = some m) (hp : secyPrm (n / 2048) (n % 2048) d = some p)
include hm hp

theorem mkaHello_off (h : fwRuns d = false ∨ p.hostKeying = true) : mkaHello n d = d := by
  have off : (!fwRuns d || p.hostKeying) = true := by
    rcases h with h | h
    · rw [h]
      rfl
    · rw [h, Bool.or_true]
  unfold mkaHello
  rw [hm, hp]
  exact if_pos off

section
variable (hr : fwRuns d = true) (hk : p.hostKeying = false)
include hr hk

theorem mkaHello_on : mkaHello n d = helloSent n p ((mkaSt n (helloAsked n p m d)).getD m) (helloAsked n p m d) := by
  have on : (!fwRuns d || p.hostKeying) = false := by rw [hr, hk]; rfl
  unfold mkaHello
  rw [hm, hp]
  exact if_neg (on ▸ Bool.false_ne_true)

theorem mkaHello_sends (h : m.server = false ∨ m.rekey = false) : mkaHello n d = helloSent n p m (helloReached m d) := by
  have plain : (m.server && m.rekey) = false := by
    rcases h with h | h
    · rw [h, Bool.false_and]
    · rw [h, Bool.and_false]
  have asked : helloAsked n p m d = helloReached m d := if_neg (plain ▸ Bool.false_ne_true)
  have session : mkaSt n (helloReached m d) = some m := (congrArg (fun t : Prot => Map.get? t.mka n) (helloReached_frame m d).1).trans hm
  rw [mkaHello_on hm hp hr hk, asked, session]
  rfl

theorem mkaHello_rekeys (hs : m.server = true) (hq : m.rekey = true) {m' : MkaSession}
    (h : mkaSt n (postMka n (generateSak n p (helloReached m d))) = some m') :
    mkaHello n d = helloSent n p m' (postMka n (generateSak n p (helloReached m d))) := by
  have asked : helloAsked n p m d = postMka n (generateSak n p (helloReached m d)) := if_pos (by rw [hs, hq]; rfl)
  rw [mkaHello_on hm hp hr hk, asked, h]
  rfl

end

end

theorem postMka_only (n : Nat) (d : Dev) : Only [.twin] d (postMka n d) := by
  unfold postMka
  split
  · exact twinPost_only _ _
  · exact .refl _ d

theorem installSak_session {n : Nat} {p : SecyPrm} {s : DistSak} {key : Bytes} {d : Dev} {m : MkaSession} (hm : mkaSt n d = some m) :
    ∃ y, Map.get? (installSak n p s key d).prot.mka n = some y ∧ y.rekey = m.rekey ∧ y.keyNumber = s.keyNumber.toNat := by
  unfold installSak
  rw [hm]
  exact ⟨_, mkaSt_setMka _ _ _, rfl, rfl⟩

theorem generateSak_session {n : Nat} {p : SecyPrm} {d : Dev} {m : MkaSession} (hm : mkaSt n d = some m) (ht : d.vault.trng = 0) :
    ∃ y, Map.get? (generateSak n p d).prot.mka n = some y ∧ y.rekey = false ∧ y.keyNumber = (m.keyNumber + 1) % 2 ^ 32 := by
  have runs : ¬d.vault.trng ≠ 0 := not_not.2 ht
  unfold generateSak
  rw [hm]
  dsimp only
  rw [if_neg runs]
  obtain ⟨y, hy, rekey, number⟩ := installSak_session (p := p) (s := ⟨match m.latestAn with | some a => Fin.ofNat 4 (a + 1) | none => 0,
      BitVec.ofNat 32 (m.keyNumber + 1), kwWrap m.kek (freshBytes (suiteKeyLen p.suite) d).1, m.mi⟩)
    (key := (freshBytes (suiteKeyLen p.suite) d).1) (mkaSt_setMka n { m with rekey := false }
      { (freshBytes (suiteKeyLen p.suite) d).2 with vault := { d.vault with generates := d.vault.generates + 1 } })
  exact ⟨y, hy, rekey, number⟩

/-! ### The EtherType of an MKPDU -/

theorem length_le (n v : Nat) : (le n v).length = n := by
  induction n generalizing v with
  | zero => rfl
  | succ n ih => exact congrArg (· + 1) (ih (v / 256))

theorem length_be (n v : Nat) : (be n v).length = n := by
  unfold be
  rw [List.length_reverse, length_le]

/-- The field behind a head is read as it was written. -/
theorem fldBe_behind {a : Bytes} {k v : Nat} (n : Nat) (rest : Bytes) (ha : a.length = n) :
    fldBe (a ++ (be k v ++ rest)) n k = unbe (be k v) := by
  have read : ((a ++ (be k v ++ rest)).drop n).take k = be k v := by
    rw [List.drop_left' ha, List.take_left' (length_be k v)]
  unfold fldBe slice
  dsimp only
  rw [read, length_be, Nat.sub_self]
  exact congrArg unbe (List.append_nil _)

theorem mkpduBytes_etype (n : Nat) (p : SecyPrm) (m : MkaSession) (d : Dev) : fldBe (mkpduBytes n p m d) 12 2 = 0x888E := by
  obtain ⟨rest, h⟩ : ∃ rest, mkpduBytes n p m d = (be 6 0x0180C2000003 ++ be 6 (p.txSci / 65536)) ++ (be 2 0x888E ++ rest) := by
    unfold mkpduBytes
    simp only [List.append_assoc]
    exact ⟨_, rfl⟩
  rw [h, fldBe_behind 12 rest (by rw [List.length_append, length_be, length_be])]
  rfl

/-! ### A peer's life ends (R127) -/

theorem retirePeer_slots (die port sci : Nat) (d : Dev) :
    Only [.prot] d (retirePeer die port sci d) ∧ (retirePeer die port sci d).prot.mka = d.prot.mka ∧
      (retirePeer die port sci d).prot.enabled = d.prot.enabled := by
  unfold retirePeer
  split
  · exact ⟨.refl _ d, rfl, rfl⟩
  next sc _ =>
    refine ⟨Only.foldl (fun e a => .ite (fun _ => .intro rfl) (fun _ => .refl _ e)) _ d,
      foldl_keeps (v := fun e => e.prot.mka) (fun e a => ?_) _ d, foldl_keeps (v := fun e => e.prot.enabled) (fun e a => ?_) _ d⟩
    · dsimp only
      split
      · rfl
      · rfl
    · dsimp only
      split
      · rfl
      · rfl

/-- The session without the peers whose life has ended. -/
def peerGone (x : MkaPeer) (own : Nat) (m : MkaSession) (d : Dev) : MkaSession :=
  let m1 : MkaSession := { m with
    potential := m.potential.filter (fun y => decide (d.time.elapsed < y.deadline))
    peers := m.peers.filter (fun (y : MkaPeer) => decide (y.sci ≠ x.sci)) }
  { m1 with server := isServer own m1 }

theorem peerGone_peers (x : MkaPeer) (own : Nat) (m : MkaSession) (d : Dev) :
    (peerGone x own m d).peers = m.peers.filter (fun y => decide (y.sci ≠ x.sci)) := rfl

/-- The slots of the peer retire, and the constant delay is judged anew. -/
def peerLeft (n : Nat) (p : SecyPrm) (x : MkaPeer) (m : MkaSession) (d : Dev) : Dev :=
  cdJudge n (retirePeer (n / 2048) p.port x.sci (setMka n (peerGone x p.txSci m d) d))

theorem peerLeft_keeps (n : Nat) (p : SecyPrm) (x : MkaPeer) (m : MkaSession) (d : Dev) :
    (peerLeft n p x m d).time = d.time ∧ Map.get? (peerLeft n p x m d).prot.mka n = some (peerGone x p.txSci m d) := by
  obtain ⟨only, mka, -⟩ := retirePeer_slots (n / 2048) p.port x.sci (setMka n (peerGone x p.txSci m d) d)
  unfold peerLeft
  rw [(cdJudge_only _ _).time, (cdJudge_only _ _).prot, only.time, mka, mkaSt_setMka]
  exact ⟨rfl, rfl⟩

theorem mkaPeerTimeout_eq {n : Nat} {p : SecyPrm} {m : MkaSession} {x : MkaPeer} {d : Dev} (hm : mkaSt n d = some m)
    (hp : secyPrm (n / 2048) (n % 2048) d = some p) (hx : firstToDie m.peers = some x) :
    mkaPeerTimeout n d = postMka n (if (peerGone x p.txSci m (waitTicks x.deadline d)).peers.isEmpty
      then setPortEnabled n false (peerLeft n p x m (waitTicks x.deadline d)) else peerLeft n p x m (waitTicks x.deadline d)) := by
  unfold mkaPeerTimeout
  rw [hm, hp]
  dsimp only
  rw [hx]
  rfl

/-! ### A CAK (R138) -/

/-- The key that the blob of a CAK opens to. -/
def cakOpened (ld : CaLoad) (d : Dev) : Option Key :=
  if fld ld.blob 1 1 = 3 ∧ fld ld.blob 4 4 = ld.keyId then openBlob ld.blob ld.blob.length d else none

section
variable {d : Dev} {ld : CaLoad} {rest : List CaLoad} (hl : d.prot.caLoads = ld :: rest)
include hl

theorem mkaCaLoad_rejects (ho : cakOpened ld d = none) :
    (mkaCaLoad d).prot.caLoads = rest ∧ (mkaCaLoad d).prot.mka = d.prot.mka := by
  have shut : cakOpened ld { d with prot := { d.prot with caLoads := rest } } = none := ho
  unfold cakOpened at shut
  unfold mkaCaLoad
  rw [hl]
  dsimp only
  rw [shut]
  dsimp only
  rw [settle_prot, countBlob_prot]
  exact ⟨rfl, rfl⟩

theorem mkaCaLoad_takes {k : Key} (ho : cakOpened ld d = some k) :
    (mkaCaLoad d).prot.caLoads = rest ∧
      Map.get? (mkaCaLoad d).prot.mka (2048 * ld.die + ld.secy) = some (newSession ld k.bytes (le 12 (Config.freeNat d.free))) := by
  have opened : cakOpened ld { d with prot := { d.prot with caLoads := rest } } = some k := ho
  unfold cakOpened at opened
  unfold mkaCaLoad
  rw [hl]
  dsimp only
  rw [opened]
  dsimp only
  rw [settle_prot, (postMka_only _ _).prot, mkaSt_setMka]
  exact ⟨congrArg Prot.caLoads (countBlob_prot true _), rfl⟩

end

theorem secyNum_parts {die : Fin 4} {idx : Fin 2048} {n : Nat} (h : 2048 * die.val + idx.val = n) :
    n / 2048 = die.val ∧ n % 2048 = idx.val := by
  have := idx.isLt
  omega

/-- Settles O37: the firmware keeps the sessions of MKA as R94, R126 to R128 and R138 say. -/
theorem mkaEventsTakeEffect : Obligations.MkaEventsTakeEffect := by
  refine fun s d hd => ⟨fun f n p hr hf hn hp d1 h1 => ⟨fun hk => onDev_next hd (mkaFrameProcess_host hr hf hn hp h1 hk), fun m hk hm =>
      ⟨fun hx => onDev_next hd (mkaFrameProcess_other hr hf hn hp h1 hk hm hx), fun x hx => ?_⟩⟩,
    fun die idx n m p hn hm hp => ⟨fun h => ?_, fun hr hk d2 h2 => ?_, fun x hx => ?_⟩, fun ld rest n hl hn => ?_⟩
  · have judged := mkaFrameProcess_mkpdu hr hf hn hp h1 hk hm hx
    refine ⟨fun h => onDev_next hd (judged.trans (if_pos h)), fun hc ha => ?_⟩
    have ours : ¬(x.ckn ≠ m.ckn ∨ x.agility ≠ 0x0080C201) := not_or.2 ⟨not_not.2 hc, not_not.2 ha⟩
    exact ⟨fun hi => onDev_next hd (judged.trans ((if_neg ours).trans (if_neg hi))),
      fun hi => onDev_next hd (judged.trans ((if_neg ours).trans (if_pos hi)))⟩
  · obtain ⟨hdie, hidx⟩ := secyNum_parts hn
    rw [← hdie, ← hidx] at hp
    subst hn
    exact onDev_next hd (mkaHello_off hm hp h)
  · obtain ⟨hdie, hidx⟩ := secyNum_parts hn
    rw [← hdie, ← hidx] at hp
    subst hn
    have reached : helloReached m d = d2 := h2
    refine ⟨fun h => ⟨onDev_next hd ((mkaHello_sends hm hp hr hk h).trans ?_), mkpduBytes_etype _ _ _ _⟩, fun hs hq ht => ?_⟩
    · rw [reached]
      rfl
    · obtain ⟨prot, vault⟩ := helloReached_frame m d
      obtain ⟨y, hy, rekey, number⟩ := generateSak_session (p := p)
        ((congrArg (fun t : Prot => Map.get? t.mka _) prot).trans hm : mkaSt _ (helloReached m d) = some m) (vault ▸ ht)
      rw [← congrArg (fun t : Prot => Map.get? t.mka _) (postMka_only _ _).prot] at hy
      exact ⟨y, _, hy, rekey, number, onDev_next hd (mkaHello_rekeys hm hp hr hk hs hq hy)⟩
  · obtain ⟨hdie, hidx⟩ := secyNum_parts hn
    rw [← hdie, ← hidx] at hp
    subst hn
    refine ⟨_, onDev_next hd (mkaPeerTimeout_eq hm hp hx), withDev_otp .., ?_⟩
    have waited := waitTicks_elapsed x.deadline d
    generalize waitTicks x.deadline d = e at waited ⊢
    obtain ⟨time, session⟩ := peerLeft_keeps (2048 * die.val + idx.val) p x m e
    rw [withDev_dev, (postMka_only _ _).time, (postMka_only _ _).prot, peerGone_peers]
    generalize peerLeft (2048 * die.val + idx.val) p x m e = l at time session ⊢
    refine ⟨?_, fun m' hm' => ?_, fun hnone => ?_⟩
    · split
      · exact time ▸ waited
      · exact time ▸ waited
    · have same : Map.get? (if (m.peers.filter (fun y => decide (y.sci ≠ x.sci))).isEmpty = true
          then setPortEnabled (2048 * die.val + idx.val) false l else l).prot.mka (2048 * die.val + idx.val) =
            some (peerGone x p.txSci m e) := by
        split
        · exact session
        · exact session
      rw [← Option.some.inj (same.symm.trans hm')]
      rfl
    · rw [hnone]
      change (l.prot.enabled.filter (fun y => y != 2048 * die.val + idx.val)).contains _ = false
      simp
  · subst hn
    refine ⟨_, onDev_next hd rfl, withDev_otp .., ?_⟩
    rw [withDev_dev]
    have opens : (if fld ld.blob 1 1 = 3 ∧ fld ld.blob 4 4 = ld.keyId then openBlob ld.blob ld.blob.length d else none) =
      cakOpened ld d := rfl
    rw [opens]
    cases ho : cakOpened ld d with
    | none => exact mkaCaLoad_rejects hl ho
    | some k => exact mkaCaLoad_takes hl ho

end Sys2Proof.Machine
end

section
/-! Zeroization, and what a detected tamper leaves (R114, R118, R145, R147, R164, R165). -/
namespace Sys2Proof.Machine

set_option Elab.async false

/-! ### What waited for a key ends (R129, R164) -/

theorem cancelSwitches_prot (st : Status) (d : Dev) : (cancelSwitches false st d).prot = { d.prot with switches := [] } := by
  have none_left : d.prot.switches.filter (fun e => false && !e.2.handle.isSome) = [] :=
    List.filter_eq_nil_iff.2 fun _ _ => Bool.false_ne_true
  unfold cancelSwitches
  refine (foldl_keeps (v := fun e => e.prot) (fun e x => settle_prot _ _ _ _ e) _ _).trans ?_
  exact congrArg (fun l => { d.prot with switches := l }) none_left

theorem cancelSwitches_only (b : Bool) (st : Status) (d : Dev) : Only [.prot, .host, .obs, .cnt, .out] d (cancelSwitches b st d) := by
  unfold cancelSwitches
  extract_lets hit pr e
  have taken : Only [.prot, .host, .obs, .cnt, .out] d e := .intro rfl
  exact taken.trans (Only.foldl (fun e x => (settle_only _ _ _ _ e).mono) _ _)

theorem cancelBatches_prot (st : Status) (d : Dev) : (cancelBatches st d).prot = { d.prot with batches := [] } := by
  unfold cancelBatches
  exact foldl_keeps (v := fun e => e.prot) (fun e h => complete_prot _ _ _ e) _ _

theorem cancelBatches_only (st : Status) (d : Dev) : Only [.prot, .host, .obs, .cnt, .out] d (cancelBatches st d) := by
  unfold cancelBatches
  have taken : Only [.prot, .host, .obs, .cnt, .out] d { d with prot := { d.prot with batches := [] } } := .intro rfl
  exact taken.trans (Only.foldl (fun e h => (complete_only _ _ _ e).mono) _ _)

/-- An installation that waits ends: its bulk is answered as a whole, another waiter at once. -/
theorem endSaLoad_only (bulks : List Bulk) (e : Dev) (x : SaLoad) :
    Only [.host, .obs, .cnt, .out] e (match x.waiter with
      | .bulk h i => match bulks.find? (fun b => b.handle = h) with
        | some b => stagingWrite (b.stage + 112 * i + 108) (le 4 Status.tamperHeld.code) e
        | none => e
      | w => saAnswer w .tamperHeld [] e) := by
  cases x.waiter with
  | mailbox m => exact (finish_only _ _ _ e).mono
  | handle h => exact (complete_only _ _ _ e).mono
  | bulk h i =>
    dsimp only
    split
    · exact .intro rfl
    · exact .refl _ e
  | mka => exact .refl _ e

theorem endSaLoads_only (d : Dev) :
    Only [.host, .obs, .cnt, .out] { d with prot := { d.prot with loads := [], bulks := [] } } (endSaLoads d) := by
  unfold endSaLoads
  exact (Only.foldl (fun e x => endSaLoad_only _ e x) _ _).trans (Only.foldl (fun e b => (complete_only _ _ _ e).mono) _ _)

theorem keyAnswer_only (ld : KeyLoad) (st : Status) (res : Bytes) (d : Dev) : Only [.host, .obs, .cnt, .out] d (keyAnswer ld st res d) := by
  unfold keyAnswer
  split
  · exact complete_only _ _ _ _
  · exact .ite (fun _ => .refl _ d) (fun _ => (finish_only _ _ _ _).mono)

theorem endKeyLoads_only (d : Dev) :
    Only [.host, .obs, .cnt, .out] { d with vault := { d.vault with queue := [] }, prot := { d.prot with caLoads := [] } }
      (endKeyLoads d) := by
  unfold endKeyLoads
  exact (Only.foldl (fun e x => keyAnswer_only _ _ _ e) _ _).trans (Only.foldl (fun e x => (settle_only _ _ _ _ e).mono) _ _)

/-! ### The stores and the jobs (R153, R154, R161) -/

theorem cancelActivation_only (k : Nat) (st : Status) (d : Dev) : Only [.vault, .host, .obs, .cnt, .out] d (cancelActivation k st d) := by
  unfold cancelActivation
  split
  · extract_lets ks e
    have stored : Only [.vault, .host, .obs, .cnt, .out] d e := .intro rfl
    clear_value e
    split
    · exact stored.trans (complete_only _ _ _ e).mono
    · exact stored
  · exact .refl _ d

theorem cancelActivation_vault (k : Nat) (st : Status) (d : Dev) : ∃ m, (cancelActivation k st d).vault = { d.vault with store := m } := by
  unfold cancelActivation
  split
  · extract_lets ks e
    have stored : ∃ m, e.vault = { d.vault with store := m } := ⟨_, rfl⟩
    clear_value e
    split
    · rw [complete_vault]
      exact stored
    · exact stored
  · exact ⟨_, rfl⟩

/-- Operations that move one field of the vault move no other, however often they are done. -/
theorem foldl_store {α : Type} {f : Dev → α → Dev} (h : ∀ d x, ∃ m, (f d x).vault = { d.vault with store := m }) (l : List α) (d : Dev) :
    ∃ m, (l.foldl f d).vault = { d.vault with store := m } := by
  induction l generalizing d with
  | nil => exact ⟨_, rfl⟩
  | cons x l ih =>
    obtain ⟨m, hm⟩ := ih (f d x)
    obtain ⟨m', hm'⟩ := h d x
    exact ⟨m, hm.trans (by rw [hm'])⟩

theorem emptyStores_only (st : Status) (d : Dev) : Only [.vault, .prot, .host, .obs, .cnt, .out] d (emptyStores st d) := by
  unfold emptyStores
  have cancelled := Only.foldl (f := fun d k => cancelActivation k st d) (fun e k => cancelActivation_only k st e) (d.vault.store.map (·.1)) d
  exact cancelled.mono.trans (.intro rfl)

theorem emptyStores_vault (st : Status) (d : Dev) :
    (emptyStores st d).vault = { d.vault with store := [] } ∧ (emptyStores st d).prot = { d.prot with mka := [] } := by
  have cancelled := Only.foldl (f := fun d k => cancelActivation k st d) (fun e k => cancelActivation_only k st e) (d.vault.store.map (·.1)) d
  obtain ⟨m, hm⟩ := foldl_store (f := fun d k => cancelActivation k st d) (fun e k => cancelActivation_vault k st e) (d.vault.store.map (·.1)) d
  unfold emptyStores
  dsimp only
  rw [hm, cancelled.prot]
  exact ⟨rfl, rfl⟩

/-- What a job may reach as it ends. -/
abbrev jobParts : List Part := [.vault, .host, .obs, .cnt, .out]

theorem keyBlocked_only (a : Nat) (d : Dev) : Only [.cnt] d (keyBlocked a d) :=
  .ite (fun _ => bump_only _ _ _ d) (fun _ => .refl _ d)

theorem setChan_only (n : Nat) (c : DmaChan) (d : Dev) : Only [.host] d (setChan n c d) := .intro rfl

theorem signal_only (v : Nat) (d : Dev) : Only [.host, .out] d (signal v d) := by
  obtain ⟨_, _, e⟩ := signal_frame v d
  rw [e]
  exact .intro rfl

theorem descDone_only (ch : Nat) (x : DmaDesc) (code : Nat) (d : Dev) : Only [.host, .obs, .cnt, .out] d (descDone ch x code d) := by
  unfold descDone
  extract_lets c addr halt d1 d2 d3
  have written : Only [.host, .obs, .cnt, .out] d d2 := (emit_only _ _).comp (setChan_only _ _ _)
  have counted : Only [.host, .obs, .cnt, .out] d2 d3 :=
    .ite (fun _ => (((bump_only _ _ _ _).mono.trans (record_only _ _ _ _)).trans (keyBlocked_only _ _).mono).mono) (fun _ => .refl _ d2)
  clear_value d2 d3
  exact (written.trans counted).trans (.ite (fun _ => (signal_only _ _).mono) (fun _ => .refl _ d3))

theorem dropJob_only (n : Nat) (d : Dev) : Only [.vault] d (dropJob n d) := .intro rfl

theorem endJob_descDone_only {n : Nat} {j : LaJob} {st : Status} {d : Dev} (hj : Map.get? d.vault.jobs n = some j) :
    Only [.host, .obs, .cnt, .out] (dropJob n (zeroFill j d)) (endJob descDone n st d) := by
  unfold endJob
  rw [hj]
  dsimp -zeta only
  extract_lets d1 d2
  have held : Only [.host, .obs, .cnt, .out] d1 d2 := by
    unfold d2
    split
    · exact descDone_only _ _ _ d1
    · exact .refl _ d1
  exact held.trans (complete_only _ _ _ d2)

theorem failOutputs_parts (j : Nat) (d : Dev) :
    Only jobParts d (failOutputs j d) ∧ ∃ left, (failOutputs j d).vault = { d.vault with deadOut := left } := by
  unfold failOutputs
  extract_lets d1 left v
  have failed : Only [.host, .obs, .cnt, .out] d d1 := by
    refine Only.foldl (fun d e => ?_) _ d
    split
    · split
      · exact .ite (fun _ => descDone_only _ _ _ d) (fun _ => .refl _ d)
      · exact .refl _ d
    · exact .refl _ d
  refine ⟨failed.mono.trans (.intro rfl), d1.vault.deadOut.filter (fun e : Nat × Nat × Nat => decide (e.1 ≠ j)) ++ left, ?_⟩
  change { d1.vault with deadOut := d1.vault.deadOut.filter (fun e : Nat × Nat × Nat => decide (e.1 ≠ j)) ++ left } = _
  rw [failed.vault]

theorem Map.del_of_absent {α : Type} {m : Map α} {k : Nat} (h : Map.get? m k = none) : Map.del m k = m := by
  induction m with
  | nil => rfl
  | cons e m ih =>
    obtain ⟨i, a⟩ := e
    unfold Map.get? at h
    split at h
    · cases h
    next ne =>
      have rest := ih h
      unfold Map.del at rest ⊢
      rw [List.filter_cons_of_pos (by exact decide_eq_true ne), rest]

/-- A job that ends takes its own entry, and leaves a mark on the output ranges that still want it. -/
theorem endLaJob_parts (j : Nat) (st : Status) (d : Dev) : Only jobParts d (endLaJob j st d) ∧
    ∃ left, (endLaJob j st d).vault = { d.vault with jobs := Map.del d.vault.jobs j, deadOut := left } := by
  unfold endLaJob
  split
  next there =>
    obtain ⟨x, hx⟩ := Option.isSome_iff_exists.1 there
    have ended := endJob_descDone_only (st := st) hx
    have dropped : Only jobParts d (dropJob j (zeroFill x d)) := (zeroFill_only x d).mono.andThen (dropJob_only _ _)
    obtain ⟨failed, left, hv⟩ := failOutputs_parts j (endJob descDone j st d)
    refine ⟨(dropped.trans ended.mono).trans failed, left, hv.trans ?_⟩
    rw [ended.vault]
    change { (zeroFill x d).vault with jobs := Map.del (zeroFill x d).vault.jobs j, deadOut := left } = _
    rw [(zeroFill_only x d).vault]
  next gone =>
    have absent : Map.get? d.vault.jobs j = none := Option.not_isSome_iff_eq_none.1 gone
    refine ⟨.refl _ d, d.vault.deadOut, ?_⟩
    rw [Map.del_of_absent absent]

/-- Jobs that end one after another leave those that were not named. -/
theorem endLaJobs_parts (st : Status) (l : List Nat) (d : Dev) : Only jobParts d (l.foldl (fun d j => endLaJob j st d) d) ∧
    ∃ m left, (l.foldl (fun d j => endLaJob j st d) d).vault = { d.vault with jobs := m, deadOut := left } ∧
      ∀ e ∈ m, e ∈ d.vault.jobs ∧ e.1 ∉ l := by
  induction l generalizing d with
  | nil => exact ⟨.refl _ d, _, _, rfl, fun e he => ⟨he, List.not_mem_nil⟩⟩
  | cons j l ih =>
    obtain ⟨only, left, hv⟩ := endLaJob_parts j st d
    obtain ⟨rest, m, left', hv', hm⟩ := ih (endLaJob j st d)
    refine ⟨only.trans rest, m, left', hv'.trans (by rw [hv]), fun e he => ?_⟩
    obtain ⟨old, notIn⟩ := hm e he
    rw [hv] at old
    obtain ⟨there, ne⟩ := List.mem_filter.1 old
    have apart : e.1 ≠ j := of_decide_eq_true ne
    exact ⟨there, fun h => (List.mem_cons.1 h).elim apart notIn⟩

theorem endLaJobs_vault (st : Status) (d : Dev) :
    ∃ left, ((d.vault.jobs.map (·.1)).foldl (fun d j => endLaJob j st d) d).vault = { d.vault with jobs := [], deadOut := left } := by
  obtain ⟨-, m, left, hv, hm⟩ := endLaJobs_parts st (d.vault.jobs.map (·.1)) d
  have nothing : m = [] := List.eq_nil_iff_forall_not_mem.2 fun e he =>
    (hm e he).2 (List.mem_map.2 ⟨e, (hm e he).1, rfl⟩)
  exact ⟨left, nothing ▸ hv⟩

/-! ### The slots (R118) -/

/-- A slot that is emptied at the time of `d`. -/
def slotEmptied (d : Dev) : SaSlot := { emptySa with since := now d, sinceTick := d.time.lineElapsed }

theorem emptySlots_parts (l : List Nat) (d : Dev) :
    Only [.prot, .cnt, .que, .fab] d (l.foldl (fun d k => freeSa k (dropBound k d)) d) ∧
    (∃ m, (l.foldl (fun d k => freeSa k (dropBound k d)) d).prot = { d.prot with slots := m }) ∧
    ∀ k, sa k (l.foldl (fun d k => freeSa k (dropBound k d)) d) = if k ∈ l then slotEmptied d else sa k d := by
  induction l generalizing d with
  | nil => exact ⟨.refl _ d, ⟨_, rfl⟩, fun k => (if_neg List.not_mem_nil).symm⟩
  | cons j l ih =>
    obtain ⟨only, ⟨m, hm⟩, slots⟩ := ih (freeSa j (dropBound j d))
    have first : Only [.prot, .cnt, .que, .fab] d (freeSa j (dropBound j d)) := (dropBound_only j d).comp (freeSa_only j _)
    have at_j : sa j (freeSa j (dropBound j d)) = slotEmptied d := sa_freeSa j _
    have same : slotEmptied (freeSa j (dropBound j d)) = slotEmptied d := rfl
    refine ⟨first.trans only, ⟨m, hm⟩, fun k => (slots k).trans ?_⟩
    rw [same]
    by_cases hk : k ∈ l
    · rw [if_pos hk, if_pos (List.mem_cons_of_mem _ hk)]
    · rw [if_neg hk]
      by_cases hj : k = j
      · subst hj
        rw [at_j, if_pos List.mem_cons_self]
      · rw [if_neg (fun h => (List.mem_cons.1 h).elim hj hk), sa_freeSa_ne hj]
        rfl

theorem clearSlots_only (d : Dev) : Only [.prot, .cnt, .que, .fab] d (clearSlots d) := (emptySlots_parts _ d).1

theorem clearSlots_prot (d : Dev) : ∃ m, (clearSlots d).prot = { d.prot with slots := m } := (emptySlots_parts _ d).2.1

theorem sa_clearSlots (k : Nat) (d : Dev) : (sa k (clearSlots d)).state = .empty ∧
    ((sa k d).state ≠ .empty → (sa k (clearSlots d)).key = [] ∧ (sa k (clearSlots d)).since = now d) := by
  have slot : sa k (clearSlots d) = _ := (emptySlots_parts _ d).2.2 k
  have named (h : (sa k d).state ≠ .empty) :
      k ∈ (d.prot.slots.filter (fun e => decide (e.2.state ≠ .empty))).map (·.1) := by
    cases hg : Map.get? d.prot.slots k with
    | none =>
      have none_there : sa k d = emptySa := by
        unfold sa Map.get
        rw [hg]
        rfl
      exact absurd (by rw [none_there]; rfl) h
    | some x =>
      have is : sa k d = x := by
        unfold sa Map.get
        rw [hg]
        rfl
      rw [is] at h
      exact List.mem_map.2 ⟨(k, x), List.mem_filter.2 ⟨mem_of_get? hg, decide_eq_true h⟩, rfl⟩
  rw [slot]
  split
  · exact ⟨rfl, fun _ => ⟨rfl, rfl⟩⟩
  next out => exact ⟨Decidable.not_not.1 fun h => out (named h), fun h => absurd (named h) out⟩

/-! ### The stockpot (R346) -/

theorem drawPair_only (d : Dev) : Only [.free] d (drawPair d).2 :=
  (freshBytes_only 32 d).trans (freshBytes_only 32 _)

theorem setRegion_only (r : Nat) (x : Region) (d : Dev) : Only [.mem] d (setRegion r x d) := .intro rfl

theorem stockpotZero_only (d : Dev) :
    Only [.mem, .act, .que, .fab, .host, .obs, .cnt, .free, .out] d (stockpotZero d) := by
  unfold stockpotZero
  extract_lets n m d1 d2 act mem d3
  have counted : Only [.cnt] d d1 := (bumpBy_only _ _ _ _ _).trans (bumpBy_only _ _ _ _ _)
  have dropped : Only [.que, .fab] d1 d2 := (keepFrames_only _ d1).trans (stompSending_only _ _).mono
  have emptied : Only [.mem, .act] d2 d3 := .intro rfl
  have before : Only [.mem, .act, .que, .fab, .host, .obs, .cnt, .free, .out] d d3 :=
    (counted.mono.trans dropped.mono).trans emptied.mono
  clear_value d3
  refine before.trans (Only.foldl (fun d r => ?_) _ d3)
  split
  · exact .refl _ d
  next x _ =>
    extract_lets e
    have told : Only [.mem, .host, .obs, .cnt, .free, .out] d e := by
      unfold e
      split
      · exact (complete_only _ _ _ d).mono
      · exact .refl _ d
    clear_value e
    exact ((told.trans (drawPair_only e).mono).andThen (setRegion_only r _ _)).mono

/-! ### Zeroization (R164, R165) -/

/-- What zeroization may reach. -/
abbrev zeroParts : List Part := [.vault, .prot, .twin, .mem, .act, .que, .fab, .host, .obs, .cnt, .free, .out]

/-- What the zeroization of `d` makes of it, unit by unit. -/
theorem zeroize_parts (d : Dev) : Only zeroParts d (zeroize d) ∧
    (∃ left, (zeroize d).vault = { d.vault with queue := [], store := [], jobs := [], deadOut := left }) ∧
    (∃ m, (zeroize d).prot = { d.prot with
        slots := m, loads := [], bulks := [], switches := [], batches := [], mka := [], caLoads := [] }) ∧
    (∀ k, (sa k (zeroize d)).state = .empty ∧
      ((sa k d).state ≠ .empty → (sa k (zeroize d)).key = [] ∧ (sa k (zeroize d)).since = now d)) ∧
    (zeroize d).twin = { d.twin with keyOut := [], keyIn := [] } := by
  unfold zeroize
  extract_lets d1 d2 d3 d4 d5 tw
  have only1 : Only [.prot, .host, .obs, .cnt, .out] d d1 := (cancelSwitches_only _ _ d).trans (cancelBatches_only _ _)
  have prot1 : d1.prot = { d.prot with switches := [], batches := [] } := by
    unfold d1
    rw [cancelBatches_prot, cancelSwitches_prot]
  have loads := endSaLoads_only d1
  have keys := endKeyLoads_only (endSaLoads d1)
  have only2 : Only [.vault, .prot, .host, .obs, .cnt, .out] d1 d2 := by
    have taken : Only [.prot] d1 { d1 with prot := { d1.prot with loads := [], bulks := [] } } := .intro rfl
    have first : Only [.prot, .host, .obs, .cnt, .out] d1 (endSaLoads d1) := taken.comp loads
    have second : Only [.vault, .prot] (endSaLoads d1) { endSaLoads d1 with
        vault := { (endSaLoads d1).vault with queue := [] }, prot := { (endSaLoads d1).prot with caLoads := [] } } := .intro rfl
    exact first.comp (second.comp keys (n := [.vault, .prot, .host, .obs, .cnt, .out]))
  have vault2 : d2.vault = { d.vault with queue := [] } := by
    rw [show d2.vault = _ from keys.vault, loads.vault, only1.vault]
  have prot2 : d2.prot = { d.prot with switches := [], batches := [], loads := [], bulks := [], caLoads := [] } := by
    rw [show d2.prot = _ from keys.prot, loads.prot, prot1]
  clear_value d1 d2
  have only3 := emptyStores_only .tamperHeld d2
  obtain ⟨vault3, prot3⟩ := emptyStores_vault .tamperHeld d2
  change d3.vault = _ at vault3
  change d3.prot = _ at prot3
  change Only _ d2 d3 at only3
  clear_value d3
  have only4 := (endLaJobs_parts .tamperHeld (d3.vault.jobs.map (·.1)) d3).1
  obtain ⟨left, vault4⟩ := endLaJobs_vault .tamperHeld d3
  change Only _ d3 d4 at only4
  change d4.vault = _ at vault4
  clear_value d4
  obtain ⟨m, prot5⟩ := clearSlots_prot d4
  have pot : Only _ (clearSlots d4) d5 := stockpotZero_only (clearSlots d4)
  clear_value d5
  have before : Only zeroParts d d4 := (((only1.mono.trans only2.mono).trans only3.mono).trans only4.mono)
  have same : d4.prot.slots = d.prot.slots := by rw [only4.prot, prot3, prot2]
  have same_now : now d4 = now d := by
    unfold now
    rw [before.time]
  have keyless : Only [.twin] d5 { d5 with twin := { d5.twin with keyOut := [], keyIn := [] } } := .intro rfl
  refine ⟨((before.trans (clearSlots_only d4).mono).trans pot.mono).trans keyless.mono, ⟨left, ?_⟩, ⟨m, ?_⟩, fun k => ?_, ?_⟩
  · change d5.vault = _
    rw [pot.vault, (clearSlots_only d4).vault, vault4, vault3, vault2]
  · change d5.prot = _
    rw [pot.prot, prot5, only4.prot, prot3, prot2]
  · have cleared := sa_clearSlots k d4
    rw [same_now, sa_of_slots same, ← sa_of_prot pot.prot k] at cleared
    exact cleared
  · change { d5.twin with keyOut := [], keyIn := [] } = _
    have twin : d5.twin = d.twin := by
      rw [pot.twin, (clearSlots_only d4).twin, only4.twin, only3.twin, only2.twin, only1.twin]
    rw [twin]

/-- No key is left, nor anything that waited for one. -/
structure Zeroed (d e : Dev) : Prop where
  slots : ∀ k, (sa k e).state = .empty ∧ ((sa k d).state ≠ .empty → (sa k e).key = [] ∧ (sa k e).since = now d)
  loads : e.prot.loads = []
  switches : e.prot.switches = []
  batches : e.prot.batches = []
  mka : e.prot.mka = []
  caLoads : e.prot.caLoads = []
  store : e.vault.store = []
  queue : e.vault.queue = []
  jobs : e.vault.jobs = []
  keyOut : e.twin.keyOut = []
  keyIn : e.twin.keyIn = []

theorem zeroed_zeroize (d : Dev) : Zeroed d (zeroize d) := by
  obtain ⟨-, ⟨_, vault⟩, ⟨_, prot⟩, slots, twin⟩ := zeroize_parts d
  constructor
  case slots => exact slots
  case keyOut => rw [twin]
  case keyIn => rw [twin]
  case store => rw [vault]
  case queue => rw [vault]
  case jobs => rw [vault]
  all_goals rw [prot]

/-- Zeroization stays done as long as no operation writes what it emptied. -/
theorem Zeroed.stays {d e f : Dev} (h : Zeroed d e)
    (prot : f.prot = { e.prot with enabled := f.prot.enabled })
    (vault : f.vault = { e.vault with lc := f.vault.lc, derived := f.vault.derived })
    (twin : f.twin.keyOut = e.twin.keyOut ∧ f.twin.keyIn = e.twin.keyIn) : Zeroed d f := by
  constructor
  case slots =>
    intro k
    rw [sa_of_slots (show f.prot.slots = e.prot.slots by rw [prot])]
    exact h.slots k
  case keyOut => exact twin.1.trans h.keyOut
  case keyIn => exact twin.2.trans h.keyIn
  case store => rw [vault]; exact h.store
  case queue => rw [vault]; exact h.queue
  case jobs => rw [vault]; exact h.jobs
  case loads => rw [prot]; exact h.loads
  case switches => rw [prot]; exact h.switches
  case batches => rw [prot]; exact h.batches
  case mka => rw [prot]; exact h.mka
  case caLoads => rw [prot]; exact h.caLoads

/-! ### HELD and RETIRED (R145, R147) -/

theorem lcMove_parts (o : Otp) (d : Dev) : Only [.vault, .obs, .cnt] d (lcMove o d) ∧
    (lcMove o d).vault = { d.vault with lc := decodeLc o, derived := deriveAll (decodeLc o) o } := by
  unfold lcMove lcRecord
  refine ⟨?_, record_vault _ _ _ _⟩
  exact (Only.intro rfl : Only [.vault] d _).mono.trans (record_only _ _ _ _).mono

theorem Only.foldl_mem {α : Type} {l : List Part} {f : Dev → α → Dev} {xs : List α} (h : ∀ d, ∀ x ∈ xs, Only l d (f d x)) (d : Dev) :
    Only l d (xs.foldl f d) := by
  induction xs generalizing d with
  | nil => exact .refl _ d
  | cons x xs ih => exact (h d x List.mem_cons_self).trans (ih (fun e y hy => h e y (List.mem_cons_of_mem _ hy)) _)

/-- A port of the line dies that goes down leaves the twin and the protection of frames alone. -/
theorem portOff_line {p : Nat} (h : p ≠ 96) (d : Dev) : Only [.port, .que, .host, .obs, .cnt, .out] d (portOff p d) := by
  have left : Only [.port, .que, .host, .obs, .cnt, .out] d (leaveUp p d) := by
    unfold leaveUp
    refine .ite (fun _ => .refl _ d) fun _ => ?_
    have same : (if p = 96 then linkLost d else d) = d := if_neg h
    have stomped (s : Map Sending) : Only [.que] d { d with que := { d.que with sending := s } } := .intro rfl
    rw [same]
    exact (stomped _).comp (Only.foldl (fun d l => endScan_only l d) _ _)
  have down : Only [.port, .que, .host, .obs, .cnt, .out] d (portTo .disabled p d) := left.trans (portEnter_only _ _ _).mono
  exact (down.trans (setPortSt_only _ _ _).mono).trans (onLanes_only _ _ _).mono

/-- What the end of service may reach. -/
abbrev serviceParts : List Part := [.prot, .sys, .twin, .fab, .port, .que, .host, .obs, .cnt, .out]

/-- Service as it is stopped, the ports still as they were. -/
def serviceStopped (d : Dev) : Dev :=
  { d with
    prot := { d.prot with enabled := [] }
    sys := { d.sys with debug := false }
    twin := { d.twin with failOut := true, squelch := d.twin.squelch || standbyWaits d, serving := d.twin.serving && !standbyWaits d } }

theorem stopService_parts (d : Dev) : Only serviceParts d (stopService d) ∧
    (stopService d).prot = { d.prot with enabled := [] } ∧ (stopService d).twin.failOut = true ∧
    (stopService d).twin.keyOut = d.twin.keyOut ∧ (stopService d).twin.keyIn = d.twin.keyIn := by
  have off := Only.foldl (f := fun d p => analysisOff p d) (fun d p => analysisOff_only p d) d.fab.analysis d
  have eq : stopService d = (let e := serviceStopped (d.fab.analysis.foldl (fun d p => analysisOff p d) d)
    if e.vault.lc = 4 then (List.range 96).foldl (fun d p => if (portSt p d).state = .disabled then d else portOff p d) e else e) := rfl
  rw [eq]
  extract_lets e
  have stopped : Only serviceParts d e := off.mono.trans (.intro rfl)
  have prot : e.prot = { d.prot with enabled := [] } := by
    change { (d.fab.analysis.foldl (fun d p => analysisOff p d) d).prot with enabled := [] } = _
    rw [off.prot]
  have keys : e.twin.failOut = true ∧ e.twin.keyOut = d.twin.keyOut ∧ e.twin.keyIn = d.twin.keyIn :=
    ⟨rfl, (congrArg Twin.keyOut off.twin :), (congrArg Twin.keyIn off.twin :)⟩
  clear_value e
  have ports : Only [.port, .que, .host, .obs, .cnt, .out] e (if e.vault.lc = 4
      then (List.range 96).foldl (fun d p => if (portSt p d).state = .disabled then d else portOff p d) e else e) :=
    .ite (fun _ => Only.foldl_mem (fun d p hp => .ite (fun _ => .refl _ d)
      fun _ => portOff_line (Nat.ne_of_lt (List.mem_range.1 hp)) d) e) (fun _ => .refl _ e)
  rw [ports.prot, ports.twin]
  exact ⟨stopped.trans ports.mono, prot, keys⟩

/-! ### A notification clears no fault (R61) -/

theorem ringWrite_faultCause (n : Notif) (d : Dev) : (ringWrite n d).host.faultCause = d.host.faultCause := by
  obtain ⟨p, ph, h⟩ := ringWrite_host n d
  rw [h]

theorem ringOverflow_faultCause (d : Dev) : (ringOverflow d).host.faultCause = d.host.faultCause := by
  unfold ringOverflow
  split
  · rfl
  · split
    · exact ringWrite_faultCause _ _
    · rfl

theorem place_faultCause (n : Notif) (d : Dev) : (place n d).host.faultCause = d.host.faultCause := by
  unfold place
  split
  · exact ringWrite_faultCause _ _
  · rfl

theorem notify_faultCause (type source : Nat) (data : Bytes) (d : Dev) :
    (notify type source data d).host.faultCause = d.host.faultCause := by
  unfold notify
  split
  · rfl
  · split
    · dsimp only
      split <;> rfl
    · exact (place_faultCause _ _).trans (ringOverflow_faultCause d)

/-! ### What a tamper leaves -/

theorem Zeroed.told {d e f : Dev} (h : Zeroed d e) (only : Only [.host, .obs, .cnt, .out] e f) : Zeroed d f := by
  refine h.stays ?_ ?_ ⟨by rw [only.twin], by rw [only.twin]⟩
  · rw [only.prot]
  · rw [only.vault]

theorem Zeroed.derived {d e : Dev} (h : Zeroed d e) (o : Otp) : Zeroed d (derive o e) := h.stays rfl rfl ⟨rfl, rfl⟩

theorem tamperNotify_only (src : Nat) (o : Otp) (d : Dev) : Only [.host, .obs, .cnt, .out] d (tamperNotify src o d) :=
  notifyRecord_only _ _ _ _

theorem tamperNotify_faultCause (src : Nat) (o : Otp) (d : Dev) : (tamperNotify src o d).host.faultCause = d.host.faultCause := by
  unfold tamperNotify notifyRecord
  rw [notify_faultCause, record_host]

/-- The device once the sources of a tamper are latched. -/
def tamperLatched (src : Nat) (d : Dev) : Dev :=
  let d := bump .vault 0 6 d
  { d with vault := { d.vault with latch := d.vault.latch ||| src, lastTamper := now d
                                   startHeld := d.vault.startHeld || d.sys.starting } }

theorem tamper_eq {src : Nat} {o : Otp} {d : Dev} (hp : d.sys.porst = true) :
    tamper src o d = if (tamperLatched src d).vault.lc = 2
      then ((enterHeld o (tamperLatched src d)).1, tamperNotify src (enterHeld o (tamperLatched src d)).1 (enterHeld o (tamperLatched src d)).2)
      else (o, tamperNotify src o (derive o (zeroize (tamperLatched src d)))) := by
  have felt : (!sensed d) = false := by
    unfold sensed
    rw [hp]
    rfl
  unfold tamper
  rw [felt, hp]
  rfl

theorem tamper_of_owned {src : Nat} {o : Otp} {d : Dev} (hp : d.sys.porst = true) (hl : d.vault.lc = 2) :
    tamper src o d = (burnHeld o, tamperNotify src (burnHeld o) (enterHeld o (tamperLatched src d)).2) := by
  rw [tamper_eq hp, if_pos (show (tamperLatched src d).vault.lc = 2 from hl), enterHeld_otp]

theorem tamper_of_not_owned {src : Nat} {o : Otp} {d : Dev} (hp : d.sys.porst = true) (hl : d.vault.lc ≠ 2) :
    tamper src o d = (o, tamperNotify src o (derive o (zeroize (tamperLatched src d)))) := by
  rw [tamper_eq hp, if_neg (show (tamperLatched src d).vault.lc ≠ 2 from hl)]

theorem sa_tamperLatched (src k : Nat) (d : Dev) : sa k (tamperLatched src d) = sa k d := sa_of_prot rfl k

theorem now_tamperLatched (src : Nat) (d : Dev) : now (tamperLatched src d) = now d := by
  have time : (tamperLatched src d).time = d.time := rfl
  unfold now
  rw [time]

theorem zeroize_lc (d : Dev) : (zeroize d).vault.lc = d.vault.lc ∧ (zeroize d).vault.latch = d.vault.latch := by
  obtain ⟨-, ⟨_, vault⟩, -⟩ := zeroize_parts d
  rw [vault]
  exact ⟨rfl, rfl⟩

/-- What the entry to HELD leaves. -/
theorem enterHeld_parts {o : Otp} {d e : Dev} (he : (enterHeld o d).2 = e) : Zeroed d e ∧ e.prot.enabled = [] ∧
    e.vault.lc = decodeLc (burnHeld o) ∧ e.vault.derived = deriveAll e.vault.lc (burnHeld o) ∧ e.vault.latch = d.vault.latch ∧
    e.twin.failOut = true ∧ bit e.host.faultCause 2 = true := by
  have zeroed := zeroed_zeroize d
  obtain ⟨lc, latch⟩ := zeroize_lc d
  obtain ⟨moveOnly, moveVault⟩ := lcMove_parts (burnHeld o) (zeroize d)
  rw [enterHeld_dev] at he
  have fault : bit e.host.faultCause 2 = true := by
    rw [← he]
    exact bit_setFault 2 _
  have faulted : Only _ _ e := he ▸ setFault_only 2 _
  generalize zeroize d = z at *
  generalize lcMove (burnHeld o) z = m at *
  obtain ⟨stopOnly, stopProt, failOut, keyOut, keyIn⟩ := stopService_parts m
  generalize stopService m = s at *
  have vault : e.vault = { z.vault with lc := decodeLc (burnHeld o), derived := deriveAll (decodeLc (burnHeld o)) (burnHeld o) } := by
    rw [faulted.vault, stopOnly.vault, moveVault]
  have prot : e.prot = { z.prot with enabled := [] } := by
    rw [faulted.prot, stopProt, moveOnly.prot]
  have twin : e.twin = s.twin := faulted.twin
  have keys : e.twin.keyOut = z.twin.keyOut ∧ e.twin.keyIn = z.twin.keyIn := by
    rw [twin, keyOut, keyIn, moveOnly.twin]
    exact ⟨rfl, rfl⟩
  refine ⟨zeroed.stays (by rw [prot]) (by rw [vault]) keys, by rw [prot], by rw [vault], by rw [vault], ?_, by rw [twin, failOut], fault⟩
  rw [vault]
  exact latch

/-- Settles O38: zeroization empties the slots, the stores and what waited; the entry to HELD burns one bit more. -/
theorem tamperLeavesNoKeys : Obligations.TamperLeavesNoKeys := by
  intro src o d hp r hr
  have slots {e : Dev} (h : Zeroed (tamperLatched src d) e) (k : Nat) : (sa k e).state = .empty ∧
      ((sa k d).state ≠ .empty → (sa k e).key = [] ∧ (sa k e).since = now d) := by
    have was := h.slots k
    rw [sa_tamperLatched, now_tamperLatched] at was
    exact was
  have emptied {e : Dev} (h : Zeroed (tamperLatched src d) e) := And.intro (slots h) <| And.intro h.loads <| And.intro h.switches <|
    And.intro h.batches <| And.intro h.mka <| And.intro h.caLoads <| And.intro h.store <| And.intro h.queue <|
    And.intro h.jobs <| And.intro h.keyOut h.keyIn
  by_cases hl : d.vault.lc = 2
  · rw [tamper_of_owned hp hl] at hr
    generalize he : (enterHeld o (tamperLatched src d)).2 = e at hr
    obtain ⟨zeroed, enabled, lc, derived, latch, failOut, fault⟩ := enterHeld_parts he
    have told := tamperNotify_only src (burnHeld o) e
    rw [← tamperNotify_faultCause src (burnHeld o)] at fault
    generalize tamperNotify src (burnHeld o) e = f at *
    obtain ⟨h1, h2, h3, h4, h5, h6, h7, h8, h9, h10, h11⟩ := emptied (zeroed.told told)
    have otp : r.1 = burnHeld o := by rw [← hr]
    have dev : r.2 = f := by rw [← hr]
    rw [otp, dev]
    refine ⟨h1, h2, h3, h4, h5, h6, h7, h8, h9, h10, h11, ?_, fun h => absurd hl h, fun _ => ⟨rfl, ?_, ?_, ?_, ?_, fault⟩⟩
    · exact (congrArg Vault.latch told.vault).trans latch
    · exact (congrArg Vault.lc told.vault).trans lc
    · exact (congrArg Prot.enabled told.prot).trans enabled
    · rw [told.vault, derived]
    · exact (congrArg Twin.failOut told.twin).trans failOut
  · rw [tamper_of_not_owned hp hl] at hr
    have zeroed := zeroed_zeroize (tamperLatched src d)
    obtain ⟨lc, latch⟩ := zeroize_lc (tamperLatched src d)
    generalize zeroize (tamperLatched src d) = z at *
    have told := tamperNotify_only src o (derive o z)
    obtain ⟨h1, h2, h3, h4, h5, h6, h7, h8, h9, h10, h11⟩ := emptied ((zeroed.derived o).told told)
    have vaultLatch := (congrArg Vault.latch told.vault).trans latch
    have vaultLc := (congrArg Vault.lc told.vault).trans lc
    generalize tamperNotify src o (derive o z) = f at *
    subst hr
    exact ⟨h1, h2, h3, h4, h5, h6, h7, h8, h9, h10, h11, vaultLatch, fun _ => ⟨rfl, vaultLc⟩, fun h => absurd h hl⟩

end Sys2Proof.Machine
end

section
/-! The sensors: monitors, tamper loops, temperatures (R163, R165, R166). -/
namespace Sys2Proof.Machine

set_option Elab.async false

/-- An event whose one-time memory and device are named together. -/
theorem onAll_pair {s : State} {d : Dev} {f : Otp → Dev → Otp × Dev} {r : Otp × Dev} (hd : { s.dev with out := [] } = d)
    (he : f s.otp d = r) : onAll f s = .next ⟨s.pending, r.1, r.2⟩ := by
  subst hd he
  rfl

/-! ### A tamper in reset (R165) -/

theorem tamper_in_reset {src : Nat} {o : Otp} {d : Dev} (hp : d.sys.porst = false) :
    tamper src o d = (o, if d.vault.vstby then { d with vault := { d.vault with aonLatch := d.vault.aonLatch ||| src } } else d) := by
  have felt : sensed d = d.vault.vstby := by
    unfold sensed
    rw [hp, Bool.false_or]
  unfold tamper
  rw [felt, hp]
  cases d.vault.vstby with
  | true => rfl
  | false => rfl

/-! ### The monitors -/

theorem supplyMonitor_tampers {high : Bool} {dip : Nat} {o : Otp} {d : Dev} (hp : d.sys.porst = true) (h : high = true ∨ dip ≤ 10000) :
    supplyMonitor high dip o d = tamper 8 o d := by
  have short : (high || decide (dip ≤ 10000)) = true := by
    rw [Bool.or_eq_true, decide_eq_true_eq]
    exact h
  unfold supplyMonitor
  rw [hp, short]
  rfl

theorem supplyMonitor_loses {dip : Nat} {o : Otp} {d : Dev} (hp : d.sys.porst = true) (h : 10000 < dip) :
    supplyMonitor false dip o d = (o, powerLoss true d) := by
  unfold supplyMonitor
  rw [hp, decide_eq_false (Nat.not_le.2 h)]
  rfl

theorem supplyMonitor_in_reset {high : Bool} {dip : Nat} {o : Otp} {d : Dev} (hp : d.sys.porst = false) :
    supplyMonitor high dip o d = (o, d) := by
  unfold supplyMonitor
  rw [hp]
  rfl

/-! ### The loops (R163) -/

/-- A bit that is taken away leaves the lower ones. -/
theorem bit_sub_two_pow_lt {p j k : Nat} (h : bit p k = true) (hj : j < k) : bit (p - 2 ^ k) j = bit p j := by
  have large : 2 ^ k ≤ p := Nat.ge_two_pow_of_testBit h
  obtain ⟨m, rfl⟩ : ∃ m, k = j + 1 + m := ⟨k - (j + 1), by omega⟩
  have split : 2 ^ (j + 1 + m) = 2 ^ j * (2 * 2 ^ m) := by
    rw [Nat.pow_add, Nat.pow_succ]
    exact Nat.mul_assoc _ _ _
  have less : (p - 2 ^ (j + 1 + m)) / 2 ^ j = p / 2 ^ j - 2 * 2 ^ m := by
    rw [split]
    exact Nat.sub_mul_div p (2 ^ j) (2 * 2 ^ m)
  have fits : 2 * 2 ^ m ≤ p / 2 ^ j := by
    rw [Nat.le_div_iff_mul_le (Nat.two_pow_pos j), Nat.mul_comm, ← split]
    exact large
  unfold bit
  rw [Nat.testBit_eq_decide_div_mod_eq, Nat.testBit_eq_decide_div_mod_eq, less]
  congr 2
  omega

section
variable {need k : Nat} {en : Bool} {d : Dev} (hn : 0 < need)
include hn

/-- A loop that reads well is not live. -/
theorem loopNew_good (bad : Bool) (h : (bad && en) = false) : loopNew en need k bad d = ({ d with vault := { d.vault with
    loopBad := Map.put d.vault.loopBad k 0, live := if bit d.vault.live k then d.vault.live - 2 ^ k else d.vault.live } }, false) := by
  have calm : decide (need ≤ 0) = false := decide_eq_false (Nat.not_le.2 hn)
  unfold loopNew
  rw [h]
  dsimp only
  rw [if_neg Bool.false_ne_true, calm]
  rfl

theorem loopNew_good_live {bad : Bool} (h : (bad && en) = false) : bit (loopNew en need k bad d).1.vault.live k = false := by
  rw [loopNew_good hn bad h]
  dsimp only
  split
  next there => exact bit_sub_two_pow there
  next gone => exact Bool.eq_false_iff.2 gone

theorem loopNew_good_lower {j : Nat} {bad : Bool} (h : (bad && en) = false) (hj : j < k) :
    bit (loopNew en need k bad d).1.vault.live j = bit d.vault.live j := by
  rw [loopNew_good hn bad h]
  dsimp only
  split
  next there => exact bit_sub_two_pow_lt there hj
  · rfl

end

/-- The second bad sample of a loop is new. -/
theorem loopNew_second {d : Dev} {k : Nat} (once : Map.get d.vault.loopBad k 0 = 1) (quiet : bit d.vault.live k = false) :
    (loopNew true 2 k true d).2 = true := by
  unfold loopNew
  dsimp only
  rw [once, quiet]
  rfl

theorem loopNext_pattern (n : Nat) (d : Dev) : ∃ b : Bool, Map.get? (loopNext n d).vault.loopPattern n =
    some (Map.get d.vault.loopPattern n 0 <<< 1 ||| (if b then 1 else 0)) :=
  ⟨Config.loopTaps (Map.get d.vault.loopPattern n 0), Map.get?_put _ _ _⟩

theorem loopNext_pattern_ne {m n : Nat} (h : m ≠ n) (d : Dev) :
    Map.get? (loopNext n d).vault.loopPattern m = Map.get? d.vault.loopPattern m := Map.get?_put_ne _ _ _ _ h

/-- The first loop fails a second time, the rest reads well. -/
theorem loopSample_tampers {o : Otp} {d d1 : Dev} (hs : sensed d = true) (en : bit (otpByte o 0x253) 0 = true)
    (once : Map.get d.vault.loopBad 0 0 = 1) (quiet : bit d.vault.live 0 = false)
    (h1 : loopNext 1 (loopNext 0 (loopNew true 1 2 false
        (loopNew (bit (otpByte o 0x253) 1) 2 1 false (loopNew true 2 0 true d).1).1).1) = d1) :
    loopSample (!loopOut 0 d) (loopOut 1 d) false o d = tamper 1 o d1 := by
  have fails : ((!loopOut 0 d) != loopOut 0 d) = true := by cases loopOut 0 d <;> rfl
  have second := loopNew_second once quiet
  have other (e : Dev) : (loopNew (bit (otpByte o 0x253) 1) 2 1 false e).2 = false := by
    rw [loopNew_good (by decide) false rfl]
  have mesh (e : Dev) : (loopNew true 1 2 false e).2 = false := by
    rw [loopNew_good (by decide) false rfl]
  unfold loopSample
  rw [hs, fails, bne_self_eq_false]
  dsimp only
  rw [en, second, other, mesh, h1]
  rfl

/-- Both loops and the mesh read well: nothing is live, and the patterns change. -/
theorem loopSample_good {o : Otp} {d : Dev} (hs : sensed d = true) : ∃ e,
    loopSample (loopOut 0 d) (loopOut 1 d) false o d = (o, e) ∧ e.vault.latch = d.vault.latch ∧ e.prot = d.prot ∧
    (∀ k, k < 3 → bit e.vault.live k = false) ∧
    (∀ n, n < 2 → ∃ b : Bool, Map.get? e.vault.loopPattern n =
      some ((Map.get d.vault.loopPattern n 0) <<< 1 ||| (if b then 1 else 0))) := by
  have two : 0 < 2 := by decide
  have one : 0 < 1 := by decide
  generalize ha : loopNew (bit (otpByte o 0x253) 0) 2 0 false d = a
  generalize hb : loopNew (bit (otpByte o 0x253) 1) 2 1 false a.1 = b
  generalize hc : loopNew true 1 2 false b.1 = c
  have quiet : a.2 = false ∧ b.2 = false ∧ c.2 = false := by
    rw [← ha, ← hb, ← hc, loopNew_good two _ rfl, loopNew_good two _ rfl, loopNew_good one _ rfl]
    exact ⟨rfl, rfl, rfl⟩
  have live0 : bit a.1.vault.live 0 = false := ha ▸ loopNew_good_live two rfl
  have live1 : bit b.1.vault.live 1 = false := hb ▸ loopNew_good_live two rfl
  have live2 : bit c.1.vault.live 2 = false := hc ▸ loopNew_good_live one rfl
  have live01 : bit b.1.vault.live 0 = false := by
    rw [← hb, loopNew_good_lower two rfl (by decide), live0]
  have live02 : bit c.1.vault.live 0 = false := by
    rw [← hc, loopNew_good_lower one rfl (by decide), live01]
  have live12 : bit c.1.vault.live 1 = false := by
    rw [← hc, loopNew_good_lower one rfl (by decide), live1]
  have same : c.1.vault.loopPattern = d.vault.loopPattern ∧ c.1.vault.latch = d.vault.latch ∧ c.1.prot = d.prot := by
    rw [← hc, ← hb, ← ha]
    exact ⟨rfl, rfl, rfl⟩
  obtain ⟨pattern, latch, prot⟩ := same
  refine ⟨loopNext 1 (loopNext 0 c.1), ?_, latch, prot, fun k hk => ?_, fun n hn => ?_⟩
  · unfold loopSample
    rw [hs, bne_self_eq_false, bne_self_eq_false]
    dsimp only
    rw [ha, hb, hc, quiet.1, quiet.2.1, quiet.2.2]
    rfl
  · match k, hk with
    | 0, _ => exact live02
    | 1, _ => exact live12
    | 2, _ => exact live2
  · rw [← pattern]
    match n, hn with
    | 0, _ =>
      rw [loopNext_pattern_ne (by decide)]
      exact loopNext_pattern 0 c.1
    | 1, _ =>
      obtain ⟨t, ht⟩ := loopNext_pattern 1 (loopNext 0 c.1)
      refine ⟨t, ht.trans ?_⟩
      have kept : Map.get (loopNext 0 c.1).vault.loopPattern 1 0 = Map.get c.1.vault.loopPattern 1 0 := by
        unfold Map.get
        rw [loopNext_pattern_ne (by decide)]
      rw [kept]

/-! ### The temperatures (R163, R470) -/

/-- No sensor is out of range: nothing but the live bit changes. -/
def tempQuiet (d : Dev) : Dev :=
  { d with vault := { d.vault with live := if bit d.vault.live 5 then d.vault.live - 32 else d.vault.live } }

/-- The sensors in turn. -/
def sensorsRead (raw : List (BitVec 16)) (o : Otp) (d : Dev) : Dev :=
  (if d.sys.porst then List.range 15 else if d.vault.vstby then [14] else []).foldl
    (fun d k => match raw[k]? with | some r => tempSensor o k r d | none => d) d

theorem tempReading_quiet {raw : List (BitVec 16)} {o : Otp} {d e : Dev} (he : sensorsRead raw o d = e) (good : e.vault.tempBad = []) :
    tempReading raw o d = (o, tempQuiet e) := by
  have inRange : e.vault.tempBad.any (fun e => decide (3 ≤ e.2)) = false := by
    rw [good]
    rfl
  have eq : tempReading raw o d = (
    let d := sensorsRead raw o d
    let live := d.vault.tempBad.any (fun e => decide (3 ≤ e.2))
    let was := bit d.vault.live 5
    let lv := if live then d.vault.live ||| 32 else if was then d.vault.live - 32 else d.vault.live
    let d := { d with vault := { d.vault with live := lv } }
    if live && !was then tamper 32 o d else (o, d)) := rfl
  rw [eq, he]
  dsimp only
  rw [inRange]
  rfl

theorem sensorsRead_none (o : Otp) (d : Dev) : sensorsRead [] o d = d := by
  unfold sensorsRead
  exact foldl_keeps (v := fun e => e) (fun e k => rfl) _ _

theorem sensorsRead_one {r : BitVec 16} {o : Otp} {d : Dev} (hp : d.sys.porst = true) : sensorsRead [r] o d = tempSensor o 0 r d := by
  have rest (l : List Nat) (e : Dev) : (∀ k ∈ l, k ≠ 0) →
      l.foldl (fun d k => match [r][k]? with | some r => tempSensor o k r d | none => d) e = e := by
    intro h
    induction l with
    | nil => rfl
    | cons k l ih =>
      have past : [r][k]? = none := List.getElem?_eq_none (Nat.one_le_iff_ne_zero.2 (h k List.mem_cons_self))
      rw [List.foldl_cons, past]
      exact ih fun j hj => h j (List.mem_cons_of_mem _ hj)
  have ks : List.range 15 = 0 :: [1, 2, 3, 4, 5, 6, 7, 8, 9, 10, 11, 12, 13, 14] := rfl
  unfold sensorsRead
  rw [hp, if_pos rfl, ks, List.foldl_cons]
  exact rest _ _ (by decide)

theorem tempSensor_good {r : BitVec 16} {o : Otp} {d : Dev} (hw : awake d = true) (hb : d.vault.tempBad = [])
    (low : -5500 ≤ tempOf o 0 r) (high : tempOf o 0 r ≤ 12500) :
    (tempSensor o 0 r d).vault.tempBad = [] ∧ (tempSensor o 0 r d).prot = d.prot ∧
      Map.get? (tempSensor o 0 r d).obs.temp 0 = some (ofSigned 16 (tempOf o 0 r)) := by
  have powered : sensorPowered 0 d = true := by
    unfold sensorPowered
    rw [hw]
    rfl
  have inside : decide (tempOf o 0 r < -5500 ∨ 12500 < tempOf o 0 r) = false := decide_eq_false (by omega)
  unfold tempSensor
  rw [powered]
  dsimp only
  rw [inside, hb]
  exact ⟨rfl, rfl, Map.get?_put _ _ _⟩

/-- Settles O39, sensor by sensor. -/
theorem sensorsDetectTamper : Obligations.SensorsDetectTamper := by
  intro s d hd
  refine ⟨fun src hp => tamper_in_reset hp, fun hp => onAll_pair hd ?_, fun dip high hp h => onAll_pair hd (supplyMonitor_tampers hp h),
    fun dip hp h => onAll_same hd (supplyMonitor_loses hp h), fun hp high dip => onAll_same hd (supplyMonitor_in_reset hp),
    fun l0 l1 mesh hs => onAll_same hd ?_, fun d1 hs en once quiet h1 => onAll_pair hd (loopSample_tampers hs en once quiet h1),
    fun hs => ?_, ?_, fun raw hw hp hb low high => ?_⟩
  · unfold clockMonitor clockWatched
    rw [hp]
    rfl
  · unfold loopSample
    rw [hs]
    rfl
  · obtain ⟨e, he, latch, prot, live, pattern⟩ := loopSample_good (o := s.otp) hs
    refine ⟨_, onAll_same hd he, withDev_otp .., ?_⟩
    rw [withDev_dev]
    exact ⟨latch, prot, live, pattern⟩
  · refine ⟨_, onAll_pair hd rfl, fun hb => ?_⟩
    rw [tempReading_quiet (sensorsRead_none s.otp d) hb]
    exact ⟨rfl, rfl, rfl⟩
  · obtain ⟨good, prot, temp⟩ := tempSensor_good hw hb low high
    refine ⟨_, onAll_same hd (tempReading_quiet (sensorsRead_one hp) good), withDev_otp .., ?_⟩
    rw [withDev_dev]
    exact ⟨prot, temp⟩

end Sys2Proof.Machine
end

section
/-! The random generator and the nonce ceiling (R155, R159). -/
namespace Sys2Proof.Machine

set_option Elab.async false

/-- A repeat of the tests, recorded. -/
def retestRecorded (passed : Bool) (d : Dev) : Dev :=
  record 0x116 (dieTarget 9) (le 1 0 ++ le 1 (d.vault.trngFails + 1) ++ le 1 (b2n passed)) d

theorem trngRetest_passed {d : Dev} (h : d.vault.trng = 1) : trngRetest true d =
    { (fresh (retestRecorded true d)).2 with vault := { d.vault with
      trng := 0, trngFails := 0, generates := 0, reseedAt := d.time.elapsed } } := by
  have same := record_vault 0x116 (dieTarget 9) (le 1 0 ++ le 1 (d.vault.trngFails + 1) ++ le 1 (b2n true)) d
  have time := record_time 0x116 (dieTarget 9) (le 1 0 ++ le 1 (d.vault.trngFails + 1) ++ le 1 (b2n true)) d
  unfold trngRetest
  rw [if_neg (not_not.2 h)]
  dsimp only
  rw [if_pos rfl, same, time]
  rfl

theorem trngRetest_failed {d : Dev} (h : d.vault.trng = 1) : trngRetest false d =
    { retestRecorded false d with vault := { d.vault with
      trng := if d.vault.trngFails + 1 = 3 then 2 else 1, trngFails := d.vault.trngFails + 1 } } := by
  have same := record_vault 0x116 (dieTarget 9) (le 1 0 ++ le 1 (d.vault.trngFails + 1) ++ le 1 (b2n false)) d
  unfold trngRetest
  rw [if_neg (not_not.2 h)]
  dsimp only
  rw [if_neg Bool.false_ne_true, same]
  rfl

/-- R155: the DRBG waits for 10 s unless its requests have run out. -/
def reseedWaited (d : Dev) : Dev := if d.vault.generates < 65536 then waitTicks (d.vault.reseedAt + ticksMs 10000) d else d

theorem drbgReseed_eq {d : Dev} (h : d.vault.trng = 0) : drbgReseed d =
    { (fresh (reseedWaited d)).2 with vault := { (reseedWaited d).vault with generates := 0, reseedAt := (reseedWaited d).time.elapsed } } := by
  unfold drbgReseed
  rw [if_neg (not_not.2 h)]
  rfl

/-- R159: a ceiling is committed ahead of use. -/
theorem nonceCommit_due {d : Dev} (hv : d.sys.vaultDone = true) (hn : d.vault.ceiling ≤ d.vault.nonce + 32768) :
    nonceCommit d = commitCeiling d := if_pos ⟨hv, hn⟩

theorem nonceCommit_early {d : Dev} (h : d.sys.vaultDone = false ∨ d.vault.nonce + 32768 < d.vault.ceiling) : nonceCommit d = d := by
  refine if_neg fun ⟨hv, hn⟩ => ?_
  rcases h with h | h
  · rw [hv] at h
    cases h
  · omega

theorem commitCeiling_slot (d : Dev) :
    (commitCeiling d).vault.nonceSlots.any (fun e => decide (e.2.1 = d.vault.ceiling + 65536)) = true :=
  List.any_eq_true.2 ⟨_, mem_of_get? (Map.get?_put _ _ _), decide_eq_true rfl⟩

/-- Settles O40, event by event. -/
theorem randomAndNonces : Obligations.RandomAndNonces := by
  intro s d hd
  refine ⟨fun h => onDev_next hd ?_, fun h => ?_, fun h => ?_, fun h => ?_, fun hv hn => ?_, fun h => onDev_next hd (nonceCommit_early h)⟩
  · exact if_pos h
  · refine ⟨_, onDev_next hd (trngRetest_passed h), withDev_otp .., ?_⟩
    rw [withDev_dev]
    exact ⟨rfl, rfl, rfl, congrArg (· + 1) (record_free _ _ _ d)⟩
  · refine ⟨_, onDev_next hd (trngRetest_failed h), withDev_otp .., ?_⟩
    rw [withDev_dev]
    refine ⟨?_, rfl⟩
    by_cases two : d.vault.trngFails = 2
    · rw [if_pos two]
      exact if_pos (by rw [two])
    · rw [if_neg two]
      exact if_neg (by omega)
  · refine ⟨_, onDev_next hd (drbgReseed_eq h), withDev_otp .., ?_⟩
    rw [withDev_dev]
    refine ⟨rfl, rfl, fun few => ?_, fun many => ?_⟩
    · change _ ≤ (reseedWaited d).time.elapsed
      unfold reseedWaited
      rw [if_pos few]
      exact waitTicks_elapsed _ d
    · change (reseedWaited d).time = d.time
      unfold reseedWaited
      rw [if_neg (Nat.not_lt.2 many)]
  · refine ⟨_, onDev_next hd (nonceCommit_due hv hn), withDev_otp .., ?_⟩
    rw [withDev_dev]
    exact ⟨rfl, rfl, commitCeiling_slot d⟩

end Sys2Proof.Machine
end

section
/-! The vault's queued keys, scheduled activations and look-aside jobs (R153, R154, R158 to R161, R172). -/
namespace Sys2Proof.Machine

set_option Elab.async false

/-! ### One slot of the store -/

theorem Map.any_put {α : Type} {p : Nat × α → Bool} {k : Nat} (off : ∀ a, p (k, a) = false) (m : Map α) (a : α) :
    (Map.put m k a).any p = m.any p := by
  induction m with
  | nil => exact (Bool.or_false _).trans (off a)
  | cons e m ih =>
    obtain ⟨i, b⟩ := e
    unfold Map.put
    split
    next hi =>
      subst hi
      rw [List.any_cons, List.any_cons, off, off]
    · split
      · rw [List.any_cons, off, Bool.false_or]
      · rw [List.any_cons, List.any_cons, ih]

theorem Map.any_del {α : Type} {p : Nat × α → Bool} {k : Nat} (off : ∀ a, p (k, a) = false) (m : Map α) :
    (Map.del m k).any p = m.any p := by
  induction m with
  | nil => rfl
  | cons e m ih =>
    obtain ⟨i, b⟩ := e
    unfold Map.del at *
    rw [List.filter_cons]
    by_cases hi : i = k
    · rw [if_neg (by simpa using hi), ih, List.any_cons, hi, off, Bool.false_or]
    · rw [if_pos (by simpa using hi), List.any_cons, List.any_cons, ih]

section
variable {slot : Nat} {k : KeySlot} {d e : Dev}

theorem keySlot_of_store (h : e.vault.store = d.vault.store) (n : Nat) : keySlot n e = keySlot n d := by
  unfold keySlot
  rw [h]

theorem keySlot_setKeySlot (slot : Nat) (k : KeySlot) (d : Dev) :
    (keySlot slot (setKeySlot slot k d)).active = k.active ∧ (keySlot slot (setKeySlot slot k d)).pending = k.pending := by
  unfold keySlot setKeySlot Map.get
  dsimp only
  split
  next gone =>
    rw [Map.get?_del]
    obtain ⟨ha, hp⟩ := Bool.and_eq_true_iff.1 gone
    exact ⟨(Option.isNone_iff_eq_none.1 ha).symm, (Option.isNone_iff_eq_none.1 hp).symm⟩
  · rw [Map.get?_put]
    exact ⟨rfl, rfl⟩

/-- What the slot's neighbours and the queue keep as the slot changes. -/
structure OthersKept (slot : Nat) (d e : Dev) : Prop where
  elsewhere : ∀ id, idElsewhere id slot e = idElsewhere id slot d
  queue : e.vault.queue = d.vault.queue

theorem OthersKept.trans {f : Dev} (h : OthersKept slot d e) (g : OthersKept slot e f) : OthersKept slot d f :=
  ⟨fun id => (g.elsewhere id).trans (h.elsewhere id), g.queue.trans h.queue⟩

theorem OthersKept.of_store (hs : e.vault.store = d.vault.store) (hq : e.vault.queue = d.vault.queue) : OthersKept slot d e :=
  ⟨fun id => by unfold idElsewhere; rw [hs], hq⟩

theorem OthersKept.of_vault (h : e.vault = d.vault) : OthersKept slot d e := .of_store (by rw [h]) (by rw [h])

theorem setKeySlot_others (slot : Nat) (k : KeySlot) (d : Dev) : OthersKept slot d (setKeySlot slot k d) := by
  refine ⟨fun id => ?_, rfl⟩
  have off (a : KeySlot) : (decide (slot ≠ slot) && (match a.active with | some k => decide (k.id = id) | none => false)) = false := by
    rw [decide_eq_false (not_not.2 rfl), Bool.false_and]
  unfold idElsewhere setKeySlot
  dsimp only
  split
  · exact Map.any_del off _
  · exact Map.any_put off _ _

theorem cancelActivation_slot (slot : Nat) (st : Status) (d : Dev) : OthersKept slot d (cancelActivation slot st d) ∧
    (keySlot slot (cancelActivation slot st d)).active = (keySlot slot d).active := by
  unfold cancelActivation
  split
  next p _ =>
    extract_lets x e
    have others : OthersKept slot d e := setKeySlot_others slot _ d
    have active : (keySlot slot e).active = (keySlot slot d).active := (keySlot_setKeySlot slot _ d).1
    clear_value e
    split
    next h _ =>
      have same := complete_vault h st (keyResult p.key.id 0) e
      exact ⟨others.trans (.of_vault same), (congrArg KeySlot.active (keySlot_of_store (by rw [same]) slot)).trans active⟩
    · exact ⟨others, active⟩
  · exact ⟨.of_vault rfl, rfl⟩

theorem dropPending_slot (slot : Nat) (d : Dev) : OthersKept slot d (dropPending slot d) ∧
    (keySlot slot (dropPending slot d)).active = (keySlot slot d).active ∧ (keySlot slot (dropPending slot d)).pending = none := by
  obtain ⟨active, pending⟩ := keySlot_setKeySlot slot { keySlot slot d with pending := none } d
  exact ⟨(setKeySlot_others slot { keySlot slot d with pending := none } d).trans (.of_store rfl rfl), active, pending⟩

theorem activateSlot_slot {p : PendingKey} (hp : (keySlot slot d).pending = some p) : OthersKept slot d (activateSlot slot d) ∧
    (keySlot slot (activateSlot slot d)).active = some p.key ∧ (keySlot slot (activateSlot slot d)).pending = none := by
  obtain ⟨active, pending⟩ := keySlot_setKeySlot slot ⟨some p.key, none, now d⟩ d
  have others := setKeySlot_others slot ⟨some p.key, none, now d⟩ d
  unfold activateSlot
  extract_lets x
  rw [show x.pending = some p from hp]
  dsimp -zeta only
  extract_lets e
  split
  · exact ⟨others.trans (.of_store rfl rfl), active, pending⟩
  · exact ⟨others.trans (.of_store rfl rfl), active, pending⟩

end

/-! ### The oldest queued key (R153, R172) -/

section
variable {ld : KeyLoad} {rest : List KeyLoad} {d : Dev} (hq : d.vault.queue = ld :: rest)
include hq

/-- The queue without its oldest key. -/
def queueTaken (rest : List KeyLoad) (d : Dev) : Dev := { d with vault := { d.vault with queue := rest } }

/-- The outcome of opening the key's blob. -/
def keyOpened (ld : KeyLoad) (d : Dev) : Option Key := if fld ld.blob 4 4 = ld.keyId then openBlob ld.blob ld.blob.length d else none

/-- The device as a key that opened meets it: what waited in its slot is cancelled. -/
def keyCounted (ok : Bool) (ld : KeyLoad) (rest : List KeyLoad) (d : Dev) : Dev :=
  cancelActivation ld.slot .badState (countBlob ok (queueTaken rest d))

/-- The half that a key waits in until it is activated. -/
def keyPending (ld : KeyLoad) (k : Key) : PendingKey :=
  ⟨k, ld.mode, ld.handle.bind (fun _ => if ld.mode = 2 then some ld.at_ else none), if ld.mode = 2 then ld.handle else none⟩

/-- The key stands in its slot's pending half, and the twin is told. -/
def keyStored (ld : KeyLoad) (k : Key) (d : Dev) : Dev :=
  let d := setKeySlot ld.slot { keySlot ld.slot d with pending := some (keyPending ld k) } d
  let d := { d with vault := { d.vault with area := Map.put d.vault.area (areaKey ld.slot true) (false, ld.mode, ld.blob) } }
  if ld.slot = 1023 then d else twinPost (.keyBlob ld.slot ld.mode ld.blob) d

theorem keyLoad_rejected (hb : keyOpened ld d = none) :
    keyLoad d = keyAnswer ld .keyRejected [] (dropPending ld.slot (keyCounted false ld rest d)) := by
  have none_there : (if fld ld.blob 4 4 = ld.keyId then openBlob ld.blob ld.blob.length (queueTaken rest d) else none) = none := hb
  unfold queueTaken at none_there
  unfold keyLoad
  rw [hq]
  dsimp only at none_there ⊢
  rw [none_there]
  rfl

theorem keyLoad_opened {k : Key} (hb : keyOpened ld d = some k) :
    keyLoad d = if idElsewhere k.id ld.slot (keyCounted true ld rest d)
      then keyAnswer ld .badState [] (dropPending ld.slot (keyCounted true ld rest d))
      else if ld.mode = 0 then keyAnswer ld .ok (keyResult k.id 1) (activateSlot ld.slot (keyStored ld k (keyCounted true ld rest d)))
      else if ld.mode = 1 then keyAnswer ld .ok (keyResult k.id 0) (keyStored ld k (keyCounted true ld rest d))
      else keyStored ld k (keyCounted true ld rest d) := by
  have there : (if fld ld.blob 4 4 = ld.keyId then openBlob ld.blob ld.blob.length (queueTaken rest d) else none) = some k := hb
  unfold queueTaken at there
  unfold keyLoad
  rw [hq]
  dsimp only at there ⊢
  rw [there]
  rfl

end

section
variable {ld : KeyLoad} {rest : List KeyLoad} {d : Dev}

theorem keyCounted_slot (ok : Bool) (ld : KeyLoad) (rest : List KeyLoad) (d : Dev) :
    (∀ id, idElsewhere id ld.slot (keyCounted ok ld rest d) = idElsewhere id ld.slot d) ∧
      (keyCounted ok ld rest d).vault.queue = rest ∧
      (keySlot ld.slot (keyCounted ok ld rest d)).active = (keySlot ld.slot d).active := by
  obtain ⟨others, active⟩ := cancelActivation_slot ld.slot .badState (countBlob ok (queueTaken rest d))
  exact ⟨others.elsewhere, others.queue, active⟩

theorem keyStored_slot (ld : KeyLoad) (k : Key) (d : Dev) : OthersKept ld.slot d (keyStored ld k d) ∧
    (keySlot ld.slot (keyStored ld k d)).active = (keySlot ld.slot d).active ∧
    (keySlot ld.slot (keyStored ld k d)).pending = some (keyPending ld k) := by
  obtain ⟨active, pending⟩ := keySlot_setKeySlot ld.slot { keySlot ld.slot d with pending := some (keyPending ld k) } d
  have others := setKeySlot_others ld.slot { keySlot ld.slot d with pending := some (keyPending ld k) } d
  unfold keyStored
  extract_lets ks e v f
  have others' : OthersKept ld.slot d f := others.trans (.of_store rfl rfl)
  have active' : (keySlot ld.slot f).active = (keySlot ld.slot d).active := active
  have pending' : (keySlot ld.slot f).pending = some (keyPending ld k) := pending
  clear_value f
  split
  · exact ⟨others', active', pending'⟩
  · have same := (twinPost_only (.keyBlob ld.slot ld.mode ld.blob) f).vault
    have slot := keySlot_of_store (congrArg Vault.store same) ld.slot
    exact ⟨others'.trans (.of_vault same), slot ▸ active', slot ▸ pending'⟩

theorem keyPending_at (ld : KeyLoad) (k : Key) :
    (keyPending ld k).at_ = (if ld.mode = 2 ∧ ld.handle.isSome then some ld.at_ else none) := by
  unfold keyPending
  cases ld.handle with
  | none => exact (if_neg fun h => Bool.false_ne_true h.2).symm
  | some h =>
    dsimp only [Option.bind_some]
    by_cases hm : ld.mode = 2
    · rw [if_pos hm, if_pos ⟨hm, rfl⟩]
    · rw [if_neg hm, if_neg fun h => hm h.1]

/-- What the answer to an installation leaves of the vault. -/
theorem keyAnswer_slot {st : Status} {res : Bytes} {n : Nat} {e : Dev} : (keyAnswer ld st res e).vault.queue = e.vault.queue ∧
    keySlot n (keyAnswer ld st res e) = keySlot n e := by
  have same := (keyAnswer_only ld st res e).vault
  exact ⟨congrArg Vault.queue same, keySlot_of_store (congrArg Vault.store same) n⟩

/-- What the oldest key leaves in its slot, by the outcome of opening its blob. -/
def KeyOutcome (ld : KeyLoad) (d e : Dev) : Option Key → Prop
  | none => (keySlot ld.slot e).active = (keySlot ld.slot d).active ∧ (keySlot ld.slot e).pending = none
  | some k =>
    if idElsewhere k.id ld.slot d then
      (keySlot ld.slot e).active = (keySlot ld.slot d).active ∧ (keySlot ld.slot e).pending = none
    else if ld.mode = 0 then (keySlot ld.slot e).active = some k ∧ (keySlot ld.slot e).pending = none
    else (keySlot ld.slot e).active = (keySlot ld.slot d).active ∧
      (∃ p, (keySlot ld.slot e).pending = some p ∧ p.key = k ∧
        p.at_ = (if ld.mode = 2 ∧ ld.handle.isSome then some ld.at_ else none))

theorem keyOutcome_some (k : Key) (e : Dev) : KeyOutcome ld d e (some k) =
    if idElsewhere k.id ld.slot d then
      (keySlot ld.slot e).active = (keySlot ld.slot d).active ∧ (keySlot ld.slot e).pending = none
    else if ld.mode = 0 then (keySlot ld.slot e).active = some k ∧ (keySlot ld.slot e).pending = none
    else (keySlot ld.slot e).active = (keySlot ld.slot d).active ∧
      (∃ p, (keySlot ld.slot e).pending = some p ∧ p.key = k ∧
        p.at_ = (if ld.mode = 2 ∧ ld.handle.isSome then some ld.at_ else none)) := rfl

theorem keyLoad_slot (hq : d.vault.queue = ld :: rest) : (keyLoad d).vault.queue = rest ∧ KeyOutcome ld d (keyLoad d) (keyOpened ld d) := by
  cases hb : keyOpened ld d with
  | none =>
    obtain ⟨-, queue, was⟩ := keyCounted_slot false ld rest d
    obtain ⟨others, active, pending⟩ := dropPending_slot ld.slot (keyCounted false ld rest d)
    rw [keyLoad_rejected hq hb]
    unfold KeyOutcome
    rw [keyAnswer_slot.2, (keyAnswer_slot (n := 0)).1, active, pending, others.queue]
    exact ⟨queue, was, rfl⟩
  | some k =>
    obtain ⟨elsewhere, queue, was⟩ := keyCounted_slot true ld rest d
    rw [keyLoad_opened hq hb, elsewhere]
    generalize keyCounted true ld rest d = c at *
    obtain ⟨stored, sActive, sPending⟩ := keyStored_slot ld k c
    rw [keyOutcome_some]
    by_cases taken : idElsewhere k.id ld.slot d = true
    · obtain ⟨others, active, pending⟩ := dropPending_slot ld.slot c
      rw [if_pos taken, if_pos taken, keyAnswer_slot.2, (keyAnswer_slot (n := 0)).1, active, pending, others.queue]
      exact ⟨queue, was, rfl⟩
    · rw [if_neg taken, if_neg taken]
      by_cases h0 : ld.mode = 0
      · obtain ⟨others, active, pending⟩ := activateSlot_slot sPending
        rw [if_pos h0, if_pos h0, keyAnswer_slot.2, (keyAnswer_slot (n := 0)).1, active, pending, others.queue, stored.queue]
        exact ⟨queue, rfl, rfl⟩
      · have kept : (keyStored ld k c).vault.queue = rest ∧ (keySlot ld.slot (keyStored ld k c)).active = (keySlot ld.slot d).active ∧
            ∃ p, (keySlot ld.slot (keyStored ld k c)).pending = some p ∧ p.key = k ∧
              p.at_ = (if ld.mode = 2 ∧ ld.handle.isSome then some ld.at_ else none) :=
          ⟨stored.queue.trans queue, sActive.trans was, _, sPending, rfl, keyPending_at ld k⟩
        rw [if_neg h0, if_neg h0]
        split
        · rw [keyAnswer_slot.2, (keyAnswer_slot (n := 0)).1]
          exact kept
        · exact kept

/-! ### A scheduled activation (R172) -/

/-- The slot at the instant of its activation. -/
def keyActivated (slot : Nat) (p : PendingKey) (d : Dev) : Dev :=
  if idElsewhere p.key.id slot d then dropPending slot d else mirrorActive slot (activateSlot slot d)

theorem keyActivationInstant_eq {slot g : Nat} {p : PendingKey} (hp : (keySlot slot d).pending = some p) (hg : p.at_ = some g) :
    ∃ f : Dev → Dev, keyActivationInstant slot d = f (keyActivated slot p (waitUntil g d)) ∧ ∀ e, (f e).vault = e.vault := by
  unfold keyActivationInstant
  rw [hp]
  dsimp only
  rw [hg]
  cases p.handle with
  | none => exact ⟨fun e => e, rfl, fun _ => rfl⟩
  | some h => exact ⟨complete h _ _, rfl, fun e => complete_vault _ _ _ e⟩

theorem mirrorActive_vault (slot : Nat) (d : Dev) : (mirrorActive slot d).vault = d.vault := by
  unfold mirrorActive
  split
  · split
    · rfl
    · exact (twinPost_only _ _).vault
  · rfl

theorem keyActivated_slot {slot : Nat} {p : PendingKey} (hp : (keySlot slot d).pending = some p) :
    (keySlot slot (keyActivated slot p d)).pending = none ∧ (keySlot slot (keyActivated slot p d)).active =
      (if idElsewhere p.key.id slot d then (keySlot slot d).active else some p.key) := by
  unfold keyActivated
  by_cases taken : idElsewhere p.key.id slot d = true
  · obtain ⟨-, active, pending⟩ := dropPending_slot slot d
    rw [if_pos taken, if_pos taken]
    exact ⟨pending, active⟩
  · obtain ⟨-, active, pending⟩ := activateSlot_slot hp
    rw [if_neg taken, if_neg taken, keySlot_of_store (congrArg Vault.store (mirrorActive_vault slot _))]
    exact ⟨pending, active⟩

/-! ### Look-aside jobs (R158 to R161) -/

theorem nonceDue_of_vault {e : Dev} (h : e.vault = d.vault) : nonceDue e = nonceDue d := by
  unfold nonceDue
  rw [h]

section
variable {j : Nat} {x : LaJob} {o : Otp} (hj : Map.get? d.vault.jobs j = some x)
include hj

theorem laComplete_nonce (hm : x.mode = 1) (hi : x.iv = []) (hn : d.vault.nonce < d.vault.ceiling) :
    laComplete j o d = setJob j { x with iv := be 4 (otpFld o 0x0C 4) ++ be 8 d.vault.nonce }
      { waitTicks (nonceDue d) d with vault := { d.vault with
        nonce := d.vault.nonce + 1, nonceAt := some (waitTicks (nonceDue d) d).time.elapsed } } := by
  have same : (waitTicks (nonceDue d) d).vault = d.vault := (waitTicks_only _ d).vault
  have free : (waitTicks (nonceDue d) d).vault.nonce < (waitTicks (nonceDue d) d).vault.ceiling ∧
      nonceDue (waitTicks (nonceDue d) d) ≤ (waitTicks (nonceDue d) d).time.elapsed := by
    have due : nonceDue (waitTicks (nonceDue d) d) = nonceDue d := nonceDue_of_vault same
    rw [due, same]
    exact ⟨hn, waitTicks_elapsed _ d⟩
  have taken : takeNonce o (waitTicks (nonceDue d) d) = (be 4 (otpFld o 0x0C 4) ++ be 8 d.vault.nonce,
      { waitTicks (nonceDue d) d with vault := { d.vault with
        nonce := d.vault.nonce + 1, nonceAt := some (waitTicks (nonceDue d) d).time.elapsed } }) := by
    unfold takeNonce
    rw [if_pos free, same]
  unfold laComplete
  rw [hj]
  dsimp only
  rw [if_pos ⟨hm, by rw [hi]; rfl⟩, taken]

variable (ready : x.mode = 1 → x.iv ≠ [])
include ready

/-- A job that has its nonce, or needs none. -/
theorem laComplete_ready : laComplete j o d =
    if !laInputDone x then d
    else if x.hold && !x.verified then
      if !tagOk x then endLaJob j .keyRejected (bump .vault 0 4 d)
      else if laOutLen x = 0 then laSucceed x (dropJob j d)
      else setJob j { x with verified := true } d
    else if x.outOff < laOutLen x then d
    else if !tagOk x then endLaJob j .keyRejected (bump .vault 0 4 d)
    else
      let d := dropJob j d
      let d := match x.heldDesc with | some (ch, ds) => descDone ch ds 0 d | none => d
      laSucceed x d := by
  have has : ¬(x.mode = 1 ∧ x.iv.isEmpty = true) := fun ⟨hm, hi⟩ => ready hm (List.isEmpty_iff.1 hi)
  unfold laComplete
  rw [hj]
  exact if_neg has

theorem laComplete_waits (h : laInputDone x = false) : laComplete j o d = d := by
  rw [laComplete_ready hj ready, h]
  rfl

theorem laComplete_verifies (h : laInputDone x = true) (hold : x.hold = true) (new : x.verified = false) : laComplete j o d =
    if tagOk x = false then endLaJob j .keyRejected (bump .vault 0 4 d)
    else if laOutLen x = 0 then complete x.handle .ok (laResult x) (bump .vault 0 3 (dropJob j d))
    else setJob j { x with verified := true } d := by
  rw [laComplete_ready hj ready, h, hold, new]
  cases tagOk x with
  | true => rfl
  | false => rfl

variable (h : laInputDone x = true) (open_ : x.hold = false ∨ x.verified = true) (drained : laOutLen x ≤ x.outOff)
include h open_ drained

theorem laComplete_drained : laComplete j o d =
    if !tagOk x then endLaJob j .keyRejected (bump .vault 0 4 d)
    else
      let d := dropJob j d
      let d := match x.heldDesc with | some (ch, ds) => descDone ch ds 0 d | none => d
      laSucceed x d := by
  have past : (x.hold && !x.verified) = false := by
    rcases open_ with h | h
    · rw [h]; rfl
    · rw [h]; exact Bool.and_false _
  rw [laComplete_ready hj ready, h, past]
  exact if_neg (Nat.not_lt.2 drained)

end

end

/-- Settles O41, event by event. -/
theorem vaultEventsTakeEffect : Obligations.VaultEventsTakeEffect := by
  intro s d hd
  refine ⟨fun ld rest hq => ?_, fun slot p g hp hg => ?_, fun j x hj => ⟨fun hm hi hn => ?_, fun ready =>
    ⟨fun h => ?_, fun h hold new => ?_, fun h open_ drained => ⟨fun ok held => ?_, fun bad => ?_⟩⟩⟩, fun j x d1 hj h1 => onDev_next hd ?_⟩
  · refine ⟨_, onDev_next hd rfl, withDev_otp .., ?_⟩
    rw [withDev_dev]
    exact keyLoad_slot hq
  · obtain ⟨f, eq, kept⟩ := keyActivationInstant_eq hp hg
    have same := (waitUntil_only g d).vault
    have slots : keySlot slot.val (waitUntil g d) = keySlot slot.val d := keySlot_of_store (congrArg Vault.store same) _
    obtain ⟨pending, active⟩ := keyActivated_slot (d := waitUntil g d) (slots ▸ hp)
    refine ⟨_, onDev_next hd eq, withDev_otp .., ?_⟩
    rw [withDev_dev, keySlot_of_store (congrArg Vault.store (kept _)), pending, active, slots,
      (OthersKept.of_vault (slot := slot.val) same).elsewhere]
    exact ⟨rfl, rfl⟩
  · refine ⟨_, onOtp_next hd (laComplete_nonce hj hm hi hn), withDev_otp .., ?_⟩
    rw [withDev_dev]
    exact ⟨rfl, waitTicks_elapsed _ d, Map.get?_put _ _ _⟩
  · exact onOtp_next hd (laComplete_waits hj ready h)
  · exact onOtp_next hd (laComplete_verifies hj ready h hold new)
  · refine onOtp_next hd ((laComplete_drained hj ready h open_ drained).trans ?_)
    rw [ok, held]
    rfl
  · refine onOtp_next hd ((laComplete_drained hj ready h open_ drained).trans ?_)
    rw [bad]
    rfl
  · unfold laIdle
    rw [hj]
    dsimp only
    rw [h1]

end Sys2Proof.Machine
end

section
/-! The event recorder, the hours and the PRBS checkers (R464, R466 to R468, R472). -/
namespace Sys2Proof.Machine

set_option Elab.async false

/-! ### Records are written (R466, R467) -/

theorem padRing_nextSeq (n : Nat) (x : Submission) (d : Dev) : (padRing n x d).obs.nextSeq = d.obs.nextSeq := by
  unfold padRing
  dsimp only
  split <;> rfl

theorem writeRecord_nextSeq (x : Submission) (d : Dev) : (writeRecord x d).obs.nextSeq = nextRecSeq d.obs.nextSeq :=
  congrArg nextRecSeq (padRing_nextSeq (16 + x.body.length) x d)

theorem elapse_nextSeq (k : Nat) (d : Dev) : (elapse k d).obs.nextSeq = d.obs.nextSeq := rfl

section
variable {x : Submission} {rest : List Submission} {d d1 : Dev} {n : Nat} (hq : d.obs.subs = x :: rest) (hv : vhOpen d = true)
  (hn : 16 + x.body.length = n) (h1 : { d with obs := { d.obs with subs := rest } } = d1)
include hq hv hn h1

theorem recordWrite_eq : recordWrite d =
    if neverSuppressed x.type then writeRecord x d1
    else if n ≤ budgetNow d1 then writeRecord x { d1 with obs := { d1.obs with budget := budgetNow d1 - n, budgetAt := d.time.elapsed } }
    else { bump .obs 0 1 d1 with obs := { d1.obs with
      suppressed := d.obs.suppressed + 1
      firstSuppressed := if d.obs.suppressed = 0 then x.type else d.obs.firstSuppressed } } := by
  subst h1 hn
  unfold recordWrite
  rw [hq]
  dsimp only
  rw [hv]
  rfl

theorem recordWrite_never (h : neverSuppressed x.type = true) : recordWrite d = writeRecord x d1 := by
  rw [recordWrite_eq hq hv hn h1, if_pos h]

theorem recordWrite_budget (h : neverSuppressed x.type = false) (hb : n ≤ budgetNow d1) : recordWrite d =
    writeRecord x { d1 with obs := { d1.obs with budget := budgetNow d1 - n, budgetAt := d.time.elapsed } } := by
  rw [recordWrite_eq hq hv hn h1, h, if_neg Bool.false_ne_true, if_pos hb]

theorem recordWrite_suppressed (h : neverSuppressed x.type = false) (hb : budgetNow d1 < n) : recordWrite d =
    { bump .obs 0 1 d1 with obs := { d1.obs with
      suppressed := d.obs.suppressed + 1
      firstSuppressed := if d.obs.suppressed = 0 then x.type else d.obs.firstSuppressed } } := by
  rw [recordWrite_eq hq hv hn h1, h, if_neg Bool.false_ne_true, if_neg (Nat.not_le.2 hb)]

end

/-- R467: the report of a second's suppression. -/
def suppressionReport (d : Dev) : Submission :=
  ⟨0x150, hoursNow d, d.obs.powerCycles,
    pad16 ((now d).bytes ++ le 4 deviceTarget ++ le 4 d.obs.suppressed ++ le 2 d.obs.firstSuppressed)⟩

/-- The suppression is reported. -/
def suppressionCleared (d : Dev) : Dev :=
  { d with obs := { d.obs with suppressed := 0, firstSuppressed := 0, suppressedAt := d.time.elapsed } }

theorem recordsSuppressed_eq {d d1 : Dev} (h : d.obs.suppressed ≠ 0) (h1 : waitTicks (d.obs.suppressedAt + 1250000000) d = d1) :
    recordsSuppressed d = suppressionCleared (writeRecord (suppressionReport d1) d1) := by
  unfold recordsSuppressed suppressionCleared suppressionReport
  rw [if_neg h, h1]

/-! ### The hours (R468) -/

theorem hoursCommit_eq {d d1 : Dev} (hp : d.sys.porst = true) (h1 : waitTicks (d.obs.hoursAt + 450000000000) d = d1) :
    hoursCommit d = commitHours d1 := by
  unfold hoursCommit
  rw [if_pos hp, h1]

theorem commitHours_slot (d : Dev) :
    (commitHours d).obs.slots.any (fun e => decide (e.2.1 = hoursNow d ∧ e.2.2.1 = d.obs.powerCycles)) = true :=
  List.any_eq_true.2 ⟨_, mem_of_get? (Map.get?_put _ _ _), decide_eq_true ⟨rfl, rfl⟩⟩

/-! ### PRBS checkers (R472) -/

theorem prbsLock_searching {l : Nat} {x : Prbs} {d : Dev} (hx : prbs l d = x) (h : x.state = 1) :
    prbsLock l d = setPrbs l { x with state := 2, since := d.time.elapsed } d := by
  unfold prbsLock
  rw [hx]
  exact if_pos h

theorem prbsLockLoss_locked {l n : Nat} {x : Prbs} {d : Dev} (hx : prbs l d = x) (h : x.state = 2) :
    prbsLockLoss l n d = setPrbs l { x with
      state := 1, lockLosses := (x.lockLosses + 1) % 2 ^ 32, errors := (x.errors + n) % 2 ^ 48
      bits := x.bits + (d.time.elapsed - x.since) * laneBitsPer10 l d / 10, since := d.time.elapsed } d := by
  have run : prbsRun l d = { x with bits := x.bits + (d.time.elapsed - x.since) * laneBitsPer10 l d / 10, since := d.time.elapsed } := by
    unfold prbsRun
    rw [hx]
    exact if_pos h
  unfold prbsLockLoss
  rw [hx, if_pos h, run]

/-- Settles O42, event by event. -/
theorem recorderAndPrbs : Obligations.RecorderAndPrbs := by
  intro s d hd
  refine ⟨fun x rest n hq hv hn d1 h1 => ⟨fun h => onDev_next hd (recordWrite_never hq hv hn h1 h),
      fun h hb => onDev_next hd (recordWrite_budget hq hv hn h1 h hb), fun h hb => ?_⟩, fun h => ?_, fun d1 hp h1 => ?_,
    fun l x hx => ⟨fun h => onDev_next hd (prbsLock_searching hx h), fun n h => onDev_next hd (prbsLockLoss_locked hx h)⟩⟩
  · refine ⟨_, onDev_next hd (recordWrite_suppressed hq hv hn h1 h hb), withDev_otp .., ?_⟩
    rw [withDev_dev]
    subst h1
    exact ⟨rfl, rfl, cntGet_bumpBy .obs 0 1 1 { d with obs := { d.obs with subs := rest } }⟩
  · generalize h1 : waitTicks (d.obs.suppressedAt + 1250000000) d = d1
    have same : d1.obs.nextSeq = d.obs.nextSeq := h1 ▸ elapse_nextSeq _ d
    refine ⟨_, onDev_next hd (recordsSuppressed_eq h h1), withDev_otp .., ?_⟩
    have seq := writeRecord_nextSeq (suppressionReport d1) d1
    rw [same] at seq
    rw [withDev_dev]
    generalize writeRecord (suppressionReport d1) d1 = e at *
    exact ⟨rfl, rfl, seq⟩
  · refine ⟨_, onDev_next hd (hoursCommit_eq hp h1), withDev_otp .., ?_⟩
    rw [withDev_dev]
    have cycles : d1.obs.powerCycles = d.obs.powerCycles := h1 ▸ elapse_powerCycles _ d
    refine ⟨rfl, cycles, ?_⟩
    rw [← cycles]
    exact commitHours_slot d1

/-! ### A record stands whole (R466) -/

theorem memRead_one (dflt : Byte) (m : List (Nat × Byte)) (a : Nat) : memRead dflt m a 1 = [memByte dflt m a] := rfl

theorem slice_one {bs : Bytes} {i : Nat} (h : i < bs.length) : slice bs i 1 = [bs[i]] := by
  have rest : (bs.drop i).take 1 = [bs[i]] := by
    rw [List.drop_eq_getElem_cons h]
    rfl
  unfold slice
  rw [rest]
  rfl

theorem recHeader_length (n type q hours cycles : Nat) : (recHeader n type q hours cycles).length = 16 := by
  unfold recHeader
  simp only [List.length_append, length_le]

/-- A record is written where the ring has room for it. -/
def recordAt (n : Nat) (x : Submission) (d : Dev) : Dev :=
  let off := d.obs.nextOffset
  let d := retireOver off n d
  let q := d.obs.nextSeq
  let d := { d with obs := { d.obs with
      ring := memWrite 0 d.obs.ring off (recHeader n x.type q x.hours x.cycles ++ x.body)
      recs := d.obs.recs ++ [⟨off, n, q⟩]
      nextSeq := nextRecSeq q
      nextOffset := (off + n) % ringSize } }
  bump .obs 0 0 d

theorem writeRecord_eq (x : Submission) (d : Dev) :
    writeRecord x d = recordAt (16 + x.body.length) x (padRing (16 + x.body.length) x d) := rfl

theorem writeRecord_fits {x : Submission} {d : Dev} {n : Nat} (hn : 16 + x.body.length = n) (hf : d.obs.nextOffset + n ≤ ringSize) :
    writeRecord x d = recordAt n x d := by
  rw [writeRecord_eq, hn, show padRing n x d = d from if_pos hf]

/-- Settles O43: the bytes written are read back one by one. -/
theorem recordStandsInMemory : Obligations.RecordStandsInMemory := by
  intro x d n hn hf
  have length : (recHeader n x.type d.obs.nextSeq x.hours x.cycles ++ x.body).length = n := by
    rw [List.length_append, recHeader_length, hn]
  rw [writeRecord_fits hn hf]
  refine ⟨fun i hi => ?_, rfl, rfl, _, List.mem_append_right _ List.mem_cons_self, rfl⟩
  unfold ringBytes
  rw [memRead_one, slice_one (length ▸ hi)]
  exact congrArg (fun b => [b]) (memByte_memWrite 0 _ _ i _ (length ▸ hi))

end Sys2Proof.Machine
end

section
/-! Gates follow their lists (R320, R322, R326 to R328). -/
namespace Sys2Proof.Machine

set_option Elab.async false

section
variable {n : Nat} {g : GateSt} {d : Dev} (hg : gateSt n d = g)

theorem setGate_only (n : Nat) (g : GateSt) (d : Dev) : Only [.act] d (setGate n g d) := .intro rfl

theorem gateSt_setGate_ne {m : Nat} (h : m ≠ n) : gateSt m (setGate n g d) = gateSt m d := by
  change Map.get (Map.put d.act.gates n g) m GateSt.init = _
  unfold Map.get
  rw [Map.get?_put_ne _ _ _ _ h]
  rfl

theorem gateSt_of_act {e : Dev} (h : e.act = d.act) (m : Nat) : gateSt m e = gateSt m d := by
  unfold gateSt
  rw [h]

/-! ### The change time (R326 to R328) -/

/-- The gates of a port as the admin list takes effect. -/
def gateTaken (l : GateList) (t : Nat) (g : GateSt) : GateSt :=
  { g with
    oper := if l.enable then some l else none
    change := none
    cycleStart := if l.enable then t else 0
    entry := 0
    restart := none
    extended := false
    gates := if l.enable then (match gateSlots l with | (_, x) :: _ => x | [] => 0xFF) else 0xFF }

/-- A frame that the close overtakes is counted. -/
def overrunCounted (n t : Nat) (l : GateList) (d : Dev) : Dev := if overrun n t l d then bump .gate n 3 d else d

theorem overrunCounted_only (n t : Nat) (l : GateList) (d : Dev) : Only [.cnt] d (overrunCounted n t l d) :=
  .ite (fun _ => bump_only _ _ _ d) (fun _ => .refl _ d)

include hg

theorem gateChange_eq {t : Nat} {l : GateList} {d1 : Dev} (ht : g.change = some t) (hl : g.admin = some l) (h1 : waitPort n t d = d1) :
    gateChange n d = gateNotify n (gateTaken l t g) t .ok (bump .gate n 4 (setGate n (gateTaken l t g) (overrunCounted n t l d1))) := by
  subst h1
  obtain ⟨admin, oper, change, _, _, _, _, _, _, _⟩ := g
  dsimp only at ht hl
  subst ht hl
  unfold gateChange
  rw [hg]
  dsimp only
  cases he : l.enable with
  | true =>
    unfold gateTaken overrunCounted
    rw [he]
    rfl
  | false =>
    unfold gateTaken overrunCounted
    rw [he]
    rfl

theorem gateChange_gates {t : Nat} {l : GateList} {d1 : Dev} (ht : g.change = some t) (hl : g.admin = some l) (h1 : waitPort n t d = d1) :
    gateSt n (gateChange n d) = gateTaken l t g ∧ ∀ m, m ≠ n → gateSt m (gateChange n d) = gateSt m d := by
  rw [gateChange_eq hg ht hl h1]
  have told (e : Dev) : (gateNotify n (gateTaken l t g) t .ok e).act = e.act := notify_act _ _ _ _
  have waited : (overrunCounted n t l d1).act = d.act := by
    rw [(overrunCounted_only n t l d1).act, ← h1, (waitPort_only n t d).act]
  generalize overrunCounted n t l d1 = e at *
  refine ⟨(gateSt_of_act (told _) n).trans ?_, fun m hm => (gateSt_of_act (told _) m).trans ?_⟩
  · exact gateSt_setGate n _ e
  · exact (gateSt_setGate_ne hm).trans (gateSt_of_act waited m)

theorem gateChange_counts {t : Nat} {l : GateList} {d1 : Dev} (ht : g.change = some t) (hl : g.admin = some l) (h1 : waitPort n t d = d1) :
    cntGet .gate n 4 (gateChange n d) = (cntGet .gate n 4 d1 + 1) % 2 ^ 48 ∧
      cntGet .gate n 3 (gateChange n d) = cntGet .gate n 3 (overrunCounted n t l d1) := by
  have c1 : CntBlock.gate.code = 20 := rfl
  have c2 : CntBlock.hostif.code = 1 := rfl
  have c3 : CntBlock.obs.code = 19 := rfl
  have untold {k : Nat} (hk : k < 64) : Untold (cntKey .gate n k) := by
    unfold Untold cntKey
    rw [c1, c2, c3]
    omega
  have other : cntKey .gate n 4 ≠ cntKey .gate n 3 := by
    unfold cntKey
    omega
  have told {k : Nat} (hk : k < 64) (e : Dev) : cntGet .gate n k (gateNotify n (gateTaken l t g) t .ok e) = cntGet .gate n k e :=
    (notify_kept (untold hk) _ _ _ e).cntGet_eq
  have overrun : cntGet .gate n 4 (overrunCounted n t l d1) = cntGet .gate n 4 d1 :=
    CntKept.cntGet_eq (.ite (bump_kept d1 other) (.refl _ d1))
  rw [gateChange_eq hg ht hl h1, told (by decide), told (by decide)]
  generalize overrunCounted n t l d1 = e at *
  refine ⟨(cntGet_bumpBy .gate n 4 1 (setGate n _ e)).trans ?_, ?_⟩
  · rw [← overrun]
    rfl
  · exact CntKept.cntGet_eq (bump_kept (setGate n (gateTaken l t g) e) other.symm)

/-! ### The events of a cycle (R322, R326) -/

theorem gateEvent_next (hw : awake d = true) {e : Nat × Nat × Nat × Nat} {d1 : Dev} (he : nextGateEvent g = some e) (h1 : waitPort n e.1 d = d1) :
    gateEvent n d = if eventWithheld g e.2.1 then setGate n { g with extended := true } d1
      else setGate n { g with cycleStart := e.2.1, entry := e.2.2.1, gates := e.2.2.2 } d1 := by
  unfold gateEvent
  rw [hg, hw]
  dsimp only
  rw [he]
  dsimp only
  rw [h1]
  rfl

section
variable {l : GateList} (ho : g.operating = some l) (hx : g.extended = false)
include ho hx

omit hg in
theorem nextGateEvent_entry {o x : Nat} (hs : (gateSlots l)[g.entry + 1]? = some (o, x)) (hc : g.change = none) :
    nextGateEvent g = some (g.cycleStart + o, g.cycleStart, g.entry + 1, x) := by
  unfold nextGateEvent
  rw [ho]
  dsimp only
  rw [hx, hs, hc]
  rfl

omit hg in
theorem nextGateEvent_cycle {o x : Nat} {rest : List (Nat × Nat)} (hs : (gateSlots l)[g.entry + 1]? = none)
    (hl : gateSlots l = (o, x) :: rest) (hc : ∀ t, g.change = some t → g.cycleStart + l.cycle < t) :
    nextGateEvent g = some (g.cycleStart + l.cycle, g.cycleStart + l.cycle, 0, x) := by
  unfold nextGateEvent
  rw [ho]
  dsimp only
  rw [hx, hs, hl]
  cases h : g.change with
  | none => rfl
  | some t => exact if_pos (hc t h)

end

omit hg in
theorem eventWithheld_of_unchanged (c : Nat) (hc : g.change = none) : eventWithheld g c = false := by
  unfold eventWithheld
  rw [hc]
  cases g.operating with
  | none => rfl
  | some l =>
    cases g.admin with
    | none => rfl
    | some a => rfl

omit hg in
/-- R326: the cycle that the extension would swallow is the next one. -/
theorem eventWithheld_of_near {l a : GateList} {t : Nat} (ho : g.operating = some l) (ha : g.admin = some a) (ht : g.change = some t)
    (hc : 0 < l.cycle) (before : g.cycleStart + l.cycle < t) (near : t - (g.cycleStart + l.cycle) < a.ext * 65536) :
    eventWithheld g (g.cycleStart + l.cycle) = true := by
  have few : (t - a.ext * 65536 - g.cycleStart) / l.cycle = 0 := Nat.div_eq_of_lt (by omega)
  have next : withheldStart g l a t = some (g.cycleStart + l.cycle) := by
    unfold withheldStart
    dsimp only
    rw [Nat.max_eq_left hc, few, Nat.zero_add, Nat.max_self, Nat.one_mul]
    exact if_pos ⟨before, near⟩
  unfold eventWithheld
  rw [ho, ha, ht]
  dsimp only
  rw [next, decide_eq_true rfl, decide_eq_true (by omega)]
  rfl

theorem gateRestart_eq {t : Nat} {l : GateList} {d1 : Dev} (ht : g.restart = some t) (hl : g.oper = some l) (h1 : waitPort n t d = d1) :
    gateRestart n d = setGate n { g with
      restart := none
      cycleStart := t
      entry := 0
      extended := false
      gates := (match gateSlots l with | (_, x) :: _ => x | [] => 0xFF) } d1 := by
  subst h1
  obtain ⟨_, oper, _, _, _, _, _, restart, _, _⟩ := g
  dsimp only at ht hl
  subst ht hl
  unfold gateRestart
  rw [hg] <;> rfl

end

/-- Settles O44, event by event. -/
theorem gatesFollowTheirLists : Obligations.GatesFollowTheirLists := by
  intro s d p n g hd hn hg
  subst hn
  refine ⟨fun t l d1 ht hl h1 => ?_, fun l hw ho hx => ⟨fun o x d1 hs h1 hc => onDev_next hd ?_, fun o x rest d1 hs hl h1 =>
    ⟨fun hc => onDev_next hd ?_, fun t a pos ht ha before near => onDev_next hd ?_⟩⟩, fun t l d1 ht hl h1 => onDev_next hd (gateRestart_eq hg ht hl h1)⟩
  · obtain ⟨gates, others⟩ := gateChange_gates hg ht hl h1
    obtain ⟨changes, overruns⟩ := gateChange_counts hg ht hl h1
    refine ⟨_, onDev_next hd rfl, withDev_otp .., ?_⟩
    rw [withDev_dev]
    refine ⟨gates, others, changes, fun h => overruns.trans ?_, fun h => overruns.trans ?_⟩
    · unfold overrunCounted
      rw [if_pos h]
      exact cntGet_bumpBy _ _ _ _ _
    · unfold overrunCounted
      rw [h]
      rfl
  · rw [gateEvent_next hg hw (nextGateEvent_entry ho hx hs hc) h1, eventWithheld_of_unchanged _ hc]
    rfl
  · have unpressed (t : Nat) (h : g.change = some t) : g.cycleStart + l.cycle < t := by
      rw [hc] at h
      cases h
    rw [gateEvent_next hg hw (nextGateEvent_cycle ho hx hs hl unpressed) h1, eventWithheld_of_unchanged _ hc]
    rfl
  · have first (u : Nat) (h : g.change = some u) : g.cycleStart + l.cycle < u := by
      rw [ht] at h
      exact Option.some.inj h ▸ before
    rw [gateEvent_next hg hw (nextGateEvent_cycle ho hx hs hl first) h1, eventWithheld_of_near ho ha ht pos before near]
    rfl

end Sys2Proof.Machine
end

section
/-! The memory engine's frames, and the egg timer (R216, R336, R338, R353, R358). -/
namespace Sys2Proof.Machine

set_option Elab.async false

/-! ### What the stockpot's engine may reach (R353, R358) -/

theorem setNode_only (level n : Nat) (x : Node) (d : Dev) : Only [.mem] d (setNode level n x d) := .intro rfl

theorem writeBack_only (level n : Nat) (d : Dev) : Only [.mem] d (writeBack level n d) :=
  (setNode_only _ _ _ d).trans (setNode_only _ _ _ _)

theorem evictOne_only (keep : List Nat) (d : Dev) : Only [.mem, .free] d (evictOne keep d) := by
  unfold evictOne
  extract_lets cs
  have drawn : Only [.mem, .free] d (fresh d).2 := (fresh_only d).mono
  change Only _ d (match cs[(fresh d).1 % cs.length]? with
    | none => (fresh d).2
    | some k => if (node (k / 2 ^ 20) (k % 2 ^ 20) (fresh d).2).dirty then writeBack (k / 2 ^ 20) (k % 2 ^ 20) (fresh d).2
      else setNode (k / 2 ^ 20) (k % 2 ^ 20) { node (k / 2 ^ 20) (k % 2 ^ 20) (fresh d).2 with cached := false } (fresh d).2)
  split
  · exact drawn
  · exact drawn.trans (.ite (fun _ => (writeBack_only _ _ _).mono) (fun _ => (setNode_only _ _ _ _).mono))

/-- What bringing a node into the cache may reach. -/
abbrev fetchParts : List Part := [.mem, .obs, .cnt, .free]

theorem fetchPath_only (block : Nat) (d : Dev) : Only fetchParts d (fetchPath block d) := by
  unfold fetchPath
  refine Only.foldl (fun d k => ?_) _ d
  extract_lets x e
  refine .ite (fun _ => (perfEvent_only _ _ _ d).mono) fun _ => ?_
  have room : Only fetchParts d e := .ite (fun _ => (evictOne_only _ d).mono) (fun _ => .refl _ d)
  clear_value e
  have missed : Only [.obs, .cnt] e (perfEvent 4 0x213 1 (bump .mem 0 2 e)) := (bump_only _ _ _ e).comp (perfEvent_only _ _ _ _)
  exact room.andThen (missed.comp (setNode_only _ _ _ _) (n := fetchParts))

theorem carryOwed_only (n dt : Nat) (d : Dev) : Only [.mem] d (carryOwed n dt d) := by
  induction n generalizing dt d with
  | zero => exact .refl _ d
  | succ n ih =>
    unfold carryOwed
    extract_lets rs ends step owed
    refine .ite (fun _ => .refl _ d) fun _ => ?_
    have carried : Only [.mem] d { d with mem := { d.mem with owed := owed } } := .intro rfl
    exact carried.trans (ih _ _)

theorem settleSpill_only (d : Dev) : Only [.mem] d (settleSpill d) := (carryOwed_only _ _ d).trans (.intro rfl)

theorem oweSpill_only (die w r : Nat) (d : Dev) : Only [.mem] d (oweSpill die w r d) := (settleSpill_only d).trans (.intro rfl)

theorem readFrame_only (die : Nat) (f : Frame) (d : Dev) : Only fetchParts d (readFrame die f d).2 := by
  unfold readFrame
  extract_lets n e
  have fetched : Only fetchParts d e := Only.foldl (f := fun d b => fetchPath b d) (fun d b => fetchPath_only b d) _ d
  clear_value e
  have counted : Only fetchParts e (perfEvent die 0x093 (8 * n) (perfEvent 4 0x210 n (bumpBy .mem 0 1 n e))) :=
    ((bumpBy_only _ _ _ _ e).comp (perfEvent_only _ _ _ _) (n := fetchParts)).andThen (perfEvent_only _ _ _ _)
  exact fetched.trans (counted.andThen (oweSpill_only _ _ _ _))

/-! ### Is a timestamp stale (R273, R305)? -/

section
variable {d e : Dev} (hc : e.cfg = d.cfg) (ht : e.twin = d.twin)
include hc ht

theorem prmOf_of_parts (gen : Nat) : prmOf gen e = prmOf gen d := by
  unfold prmOf
  rw [prm_of_cfg hc, hc, ht]

theorem usesArrival_of_parts (f : Frame) (p : Nat) : usesArrival f p e = usesArrival f p d := by
  unfold usesArrival corrects
  rw [prmOf_of_parts hc ht]

theorem stale_of_parts (hq : e.time.epoch = d.time.epoch) (f : Frame) (p : Nat) : stale f p e = stale f p d := by
  unfold stale
  rw [usesArrival_of_parts hc ht, hq]

end

theorem waitIsland_epoch (k g : Nat) (d : Dev) : (waitIsland k g d).time.epoch = d.time.epoch := by
  unfold waitIsland
  dsimp only
  split <;> rfl

theorem waitUntil_epoch (g : Nat) (d : Dev) : (waitUntil g d).time.epoch = d.time.epoch := by
  unfold waitUntil
  split <;> rfl

theorem waitLane_epoch (p g : Nat) (d : Dev) : (waitLane p g d).time.epoch = d.time.epoch := by
  unfold waitLane
  split
  · exact waitIsland_epoch _ _ d
  · exact waitUntil_epoch _ d

theorem waitLane_loopback (p g : Nat) (d : Dev) : (waitLane p g d).obs.loopback = d.obs.loopback := by
  unfold waitLane
  split
  · unfold waitIsland
    dsimp only
    split <;> rfl
  · unfold waitUntil
    split <;> rfl

/-! ### Held frames (R336, R338) -/

theorem foldl_release (l : List Held) (a : Held) :
    let m := l.foldl (fun a x => if x.release < a.release then x else a) a
    (m = a ∨ m ∈ l) ∧ m.release ≤ a.release ∧ ∀ x ∈ l, m.release ≤ x.release := by
  induction l generalizing a with
  | nil => exact ⟨.inl rfl, Nat.le_refl _, fun x h => absurd h List.not_mem_nil⟩
  | cons y l ih =>
    obtain ⟨from_, least, all⟩ := ih (if y.release < a.release then y else a)
    have step : (if y.release < a.release then y else a).release ≤ a.release ∧
        (if y.release < a.release then y else a).release ≤ y.release := by
      split <;> omega
    refine ⟨?_, Nat.le_trans least step.1, fun x hx => ?_⟩
    · rcases from_ with h | h
      · dsimp only [List.foldl_cons]
        rw [h]
        split
        · exact .inr List.mem_cons_self
        · exact .inl rfl
      · exact .inr (List.mem_cons_of_mem _ h)
    · rcases List.mem_cons.1 hx with rfl | hx
      · exact Nat.le_trans least step.2
      · exact all x hx

/-- The earliest frame held is one of those held. -/
theorem firstHeld_least {l : List Held} {h : Held} (hl : firstHeld l = some h) : h ∈ l ∧ ∀ x ∈ l, h.release ≤ x.release := by
  match l, hl with
  | a :: l, hl =>
    obtain ⟨from_, least, all⟩ := foldl_release l a
    have is : l.foldl (fun a x => if x.release < a.release then x else a) a = h := Option.some.inj hl
    rw [is] at from_ least all
    refine ⟨?_, fun x hx => ?_⟩
    · rcases from_ with rfl | h
      · exact List.mem_cons_self
      · exact List.mem_cons_of_mem _ h
    · rcases List.mem_cons.1 hx with rfl | hx
      · exact least
      · exact all x hx

/-- The frame a port starts to send. -/
theorem startFrame_sending (o : Otp) (p c : Nat) (egg : Bool) (f : Frame) (d : Dev) : ∃ x pn,
    Map.get? (startFrame o p c egg f d).que.sending p = some x ∧ x.egg = egg ∧ x.frame = { f with pn := pn } :=
  ⟨_, _, Map.get?_put _ _ _, rfl, rfl⟩

section
variable {die : Nat} {h : Held} {d d1 : Dev} {o : Otp}

theorem eggReadback_eq (hh : firstHeld (d.act.egg.filter (fun x =>
      decide (x.die = die) && x.spilled && !x.readBack && !unwritten x.frame d)) = some h)
    (h1 : waitLane h.port (h.release - 20000 * unitsPerNs) d = d1) :
    eggReadback die d = setHeld { h with frame := { h.frame with readBack := true, unverified := h.frame.blocks }, readBack := true }
      (readFrame die h.frame d1).2 := by
  unfold eggReadback
  rw [hh]
  dsimp only
  rw [h1]
  rfl

section
variable (hh : firstHeld (d.act.egg.filter (fun x => decide (x.die = die) && canRelease x d)) = some h)
  (h1 : waitLane h.port h.release d = d1)
include hh h1

theorem eggRelease_eq : eggRelease die o d =
    if !portSends h.port d1 || decide (Map.get d1.obs.loopback h.port 0 = 2) then bump .egg die 13 (dropHeld h d1)
    else if Map.has d1.que.sending h.port then bump .egg die 12 (setHeld { h with collided := true } d1)
    else
      let d := dropHeld h d1
      if stale h.frame h.port d then bump .time 0 11 d
      else
        let d := if h.atOnce || h.collided then d else bump .egg die 2 d
        startFrame o h.port h.frame.cls true h.frame d := by
  unfold eggRelease
  rw [hh]
  dsimp only
  rw [h1]

theorem eggRelease_lost (hs : portSends h.port d1 = false) : eggRelease die o d = bump .egg die 13 (dropHeld h d1) := by
  rw [eggRelease_eq hh h1, hs]
  rfl

variable (hs : portSends h.port d1 = true) (hb : Map.get d.obs.loopback h.port 0 ≠ 2)
include hs hb

theorem eggRelease_sends : eggRelease die o d =
    if Map.has d.que.sending h.port then bump .egg die 12 (setHeld { h with collided := true } d1)
    else
      let d := dropHeld h d1
      if stale h.frame h.port d then bump .time 0 11 d
      else
        let d := if h.atOnce || h.collided then d else bump .egg die 2 d
        startFrame o h.port h.frame.cls true h.frame d := by
  have loop : Map.get d1.obs.loopback h.port 0 = Map.get d.obs.loopback h.port 0 := by
    rw [← h1, waitLane_loopback]
  have same : d1.que = d.que := by
    rw [← h1, waitLane_que]
  rw [eggRelease_eq hh h1, hs, loop, decide_eq_false hb, same]
  rfl

theorem eggRelease_collides (busy : Map.has d.que.sending h.port = true) :
    eggRelease die o d = bump .egg die 12 (setHeld { h with collided := true } d1) := by
  rw [eggRelease_sends hh h1 hs hb, if_pos busy]

theorem eggRelease_starts (free : Map.has d.que.sending h.port = false) (fresh : stale h.frame h.port d = false) :
    ∃ e, eggRelease die o d = startFrame o h.port h.frame.cls true h.frame e := by
  have timely : stale h.frame h.port (dropHeld h d1) = false := by
    rw [stale_of_parts (d := d) (e := dropHeld h d1), fresh]
    · exact h1 ▸ (waitLane_only _ _ d).cfg
    · exact h1 ▸ (waitLane_only _ _ d).twin
    · exact h1 ▸ waitLane_epoch _ _ d
  rw [eggRelease_sends hh h1 hs hb, free, if_neg Bool.false_ne_true]
  dsimp only
  rw [timely, if_neg Bool.false_ne_true]
  exact ⟨_, rfl⟩

end

end

/-- Settles O45, event by event. -/
theorem eggTimerReleases : Obligations.EggTimerReleases := by
  intro s d die hd
  refine ⟨fun h d1 hh h1 => ?_, fun h d1 hh h1 => ⟨fun hs => onOtp_next hd (eggRelease_lost hh h1 hs),
    fun hs hb busy => onOtp_next hd (eggRelease_collides hh h1 hs hb busy), fun hs hb free fresh => ?_⟩, fun l h hl => firstHeld_least hl⟩
  · have read := readFrame_only die.val h.frame d1
    have eggs : d1.act = d.act := h1 ▸ (waitLane_only _ _ d).act
    refine ⟨_, onDev_next hd (eggReadback_eq hh h1), withDev_otp .., ?_⟩
    rw [withDev_dev]
    generalize (readFrame die.val h.frame d1).2 = e at *
    refine ⟨read.time, ?_⟩
    rw [← eggs, ← read.act]
    rfl
  · obtain ⟨e, eq⟩ := eggRelease_starts (o := s.otp) hh h1 hs hb free fresh
    obtain ⟨x, pn, hx, egg, frame⟩ := startFrame_sending s.otp h.port h.frame.cls true h.frame e
    generalize startFrame s.otp h.port h.frame.cls true h.frame e = sent at *
    refine ⟨_, x, onOtp_next hd eq, withDev_otp .., ?_, egg, (congrArg Frame.id frame :)⟩
    rw [withDev_dev]
    exact hx

end Sys2Proof.Machine
end

section
/-! How frames enter and leave: reception, injection, selection and the end of a transmission (R177, R242, R252, R301). -/
namespace Sys2Proof.Machine

set_option Elab.async false

/-! ### The set a frame goes by -/

section
variable {d e : Dev} (hc : e.cfg = d.cfg) (hp : e.prot = d.prot)
include hc hp

theorem swapConflict_of_parts (x : SetParams) : swapConflict x e = swapConflict x d := by
  unfold swapConflict secyBusy saSecy
  rw [prm_of_cfg hc, hp]

theorem swapDue_of_parts (t : Nat) : swapDue t e = swapDue t d := by
  unfold swapDue
  rw [hc]
  simp only [swapConflict_of_parts hc hp]

theorem genAt_of_parts (hq : e.time.epoch = d.time.epoch) (t : Nat) : genAt t e = genAt t d := by
  unfold genAt activeGen
  rw [swapDue_of_parts hc hp, hc, hq]

end

theorem portTime_of_time {d e : Dev} (h : e.time = d.time) (p : Nat) : portTime p e = portTime p d := by
  unfold portTime island
  rw [h]

theorem portPrm_of_cfg {d e : Dev} (h : e.cfg = d.cfg) (p : Nat) : portPrm p e = portPrm p d := by
  unfold portPrm
  rw [prm_of_cfg h]

/-! ### Reception (R177, R389) -/

theorem countFec_only (p : Nat) (rx : RxFrame) (d : Dev) : Only [.cnt] d (countFec p rx d) := by
  unfold countFec
  refine .ite (fun _ => .refl _ d) fun _ => ?_
  have lanes := Only.foldl (f := fun d (e : Nat × Nat) => bumpBy .lane (laneOfPort p e.1) 0 e.2 d)
    (fun d e => bumpBy_only .lane (laneOfPort p e.1) 0 e.2 d) ((List.range (portLanes p d)).zip rx.rsSymbols) d
  exact lanes.trans ((bumpBy_only _ _ _ _ _).trans (bumpBy_only _ _ _ _ _))

/-- The lane of a port forgets a slip. -/
def slipCleared (p : Nat) (d : Dev) : Dev :=
  if (laneSt (laneOfPort p 0) d).slipped then
    setLaneSt (laneOfPort p 0) { laneSt (laneOfPort p 0) d with slipped := false } d
  else d

theorem slipCleared_only (p : Nat) (d : Dev) : Only [.port] d (slipCleared p d) :=
  .ite (fun _ => setLaneSt_only _ _ d) (fun _ => .refl _ d)

theorem frameReceive_closed {rx : RxFrame} {o : Otp} {d : Dev} {n : Nat} (hn : portNum rx.port = n)
    (h : portReceives n d = false ∨ Map.has d.obs.loopback n = true) : frameReceive rx o d = d := by
  have shut : (portReceives n d && !Map.has d.obs.loopback n) = false := by
    rcases h with h | h
    · rw [h, Bool.false_and]
    · rw [h, Bool.not_true, Bool.and_false]
  unfold frameReceive
  rw [hn]
  dsimp only
  rw [shut]
  rfl

section
variable {rx0 rx : RxFrame} {o : Otp} {n : Nat} {x : PortPrm} {data : Bytes} {d d0 : Dev} (hn : portNum rx0.port = n)
  (hr : portReceives n d = true) (hl : Map.has d.obs.loopback n = false) (hx : portPrm n d = some x)
  (hdata : rx0.bytes.take (rx0.bytes.length - 4) = data) (hrx : lineErrors n rx0 d = rx) (h0 : countFec n rx (slipCleared n d) = d0)
include hn hr hl hx hdata hrx h0

/-- The port takes the frame from its line. -/
theorem frameReceive_open : frameReceive rx0 o d = receiveOn o n rx d0 ∧ portPrm n d0 = some x ∧
    rx.bytes.take (rx.bytes.length - 4) = data := by
  have port : portPrm n d0 = some x := by
    rw [portPrm_of_cfg (d := d), hx]
    rw [← h0, (countFec_only _ _ _).cfg, (slipCleared_only _ _).cfg]
  have bytes : rx.bytes = rx0.bytes := by rw [← hrx]; rfl
  refine ⟨?_, port, by rw [bytes, hdata]⟩
  unfold frameReceive
  rw [hn]
  dsimp only
  rw [hr, hl]
  refine (if_pos rfl).trans ?_
  rw [hrx]
  exact congrArg (receiveOn o n rx) h0

theorem frameReceive_faulty {slot : Nat} {late : Bool} (hc : portCheck x rx.bytes rx.codeError = some (slot, late))
    (h : late = false ∨ (rx.early = false ∧ rx.head = false) ∨ n = 97) : frameReceive rx0 o d = bump .port n slot d0 := by
  have whole : (late && (rx.early || rx.head) && decide (n ≠ 97)) = false := by
    rcases h with h | ⟨h, h'⟩ | h
    · rw [h]; rfl
    · rw [h, h', Bool.or_false, Bool.and_false, Bool.false_and]
    · rw [decide_eq_false (not_not.2 h), Bool.and_false]
  obtain ⟨taken, port, -⟩ := frameReceive_open hn hr hl hx hdata hrx h0
  rw [taken]
  unfold receiveOn
  rw [port]
  dsimp only
  rw [hc]
  dsimp only
  rw [whole, if_neg Bool.false_ne_true]

theorem frameReceive_good (hc : portCheck x rx.bytes rx.codeError = none) :
    frameReceive rx0 o d = acceptFrame o n x rx data none (bumpBy .port n 1 rx.bytes.length (bump .port n 0 d0)) := by
  obtain ⟨taken, port, bytes⟩ := frameReceive_open hn hr hl hx hdata hrx h0
  rw [taken]
  unfold receiveOn
  rw [port]
  dsimp only
  rw [hc]
  dsimp only
  rw [bytes]

end

/-! ### A frame that the port's checks let through -/

theorem arrived_parts (o : Otp) (p : Nat) (data : Bytes) (early head : Bool) (stomp : Option Nat) (d : Dev) :
    Only [.fab] d (arrived o p data early head stomp d).2 ∧
      (arrived o p data early head stomp d).1.data = data ∧ (arrived o p data early head stomp d).1.inPort = p ∧
      (arrived o p data early head stomp d).1.gen =
        genAt (portTime p (arrived o p data early head stomp d).2) (arrived o p data early head stomp d).2 :=
  ⟨.intro rfl, rfl, rfl, rfl⟩

section
variable {o : Otp} {n : Nat} {x : PortPrm} {rx : RxFrame} {data : Bytes} {d d1 d2 : Dev} {f : Frame}

/-- What becomes of a frame from a line, by the side of its port. -/
def lineAccepted (x : PortPrm) (rx : RxFrame) (data : Bytes) (f : Frame) (d : Dev) : Dev :=
  if x.side = 1 then
    match cipherStage f x rx.noBuffer d with
    | .done d => d
    | .go f d => if (parse f.data).etype = 0x888E then mkaTaken x f d else classify f rx.lookupFull d
  else if (parse data).etype = 0x888E then mkaTaken x f d
  else classify f rx.lookupFull d

theorem acceptFrame_line (hn : n ≠ 97) (hm : (prmAt (portTime n d) d).mirrors = []) (h1 : Only [.port, .cnt] d d1)
    (ha : arrived o n data rx.early rx.head none d1 = (f, d2)) : acceptFrame o n x rx data none d1 = lineAccepted x rx data f d2 := by
  obtain ⟨only, -, -, gen⟩ := arrived_parts o n data rx.early rx.head none d1
  rw [ha] at only gen
  have line : decide (n ≠ 97) = true := decide_eq_true hn
  have both : Only [.port, .cnt, .fab] d d2 := h1.comp only
  have unseen (y : Seen) (hy : y.gen = f.gen) : mirrorAt y d2 = d2 := by
    have none_there : (prmOf f.gen d2).mirrors = [] := by
      rw [prmOf_of_parts both.cfg both.twin, gen]
      dsimp only
      rw [portTime_of_time both.time, genAt_of_parts both.cfg both.prot (by rw [both.time])]
      exact hm
    unfold mirrorAt
    rw [hy, none_there]
    rfl
  unfold acceptFrame
  rw [line, Bool.and_true, Bool.and_true, ha]
  dsimp only
  rw [if_neg hn, unseen _ rfl]
  rfl

/-- R88, R177: no SecY takes the frame's VLAN. -/
theorem cipherStage_unassigned {noBuffer : Bool} {v : Nat} (hf : (outerTag (if x.tpidAd then 0x88A8 else 0x8100) f.data).2 = v)
    (hv : v = 4095 ∨ Map.get? x.vlanSecy v = none) : cipherStage f x noBuffer d2 = .done (bump .cport f.inPort 0 d2) := by
  have unassigned : (if v = 4095 then none else Map.get? x.vlanSecy v) = none := by
    rcases hv with h | h
    · exact if_pos h
    · rw [h, ite_self]
  unfold cipherStage
  dsimp only
  rw [hf, unassigned]

theorem lineAccepted_plain (hs : x.side ≠ 1) (he : (parse data).etype ≠ 0x888E) :
    lineAccepted x rx data f d = classify f rx.lookupFull d := by
  unfold lineAccepted
  rw [if_neg hs, if_neg he]

theorem lineAccepted_mka (hs : x.side ≠ 1) (he : (parse data).etype = 0x888E) : lineAccepted x rx data f d = mkaTaken x f d := by
  unfold lineAccepted
  rw [if_neg hs, if_pos he]

theorem lineAccepted_done {e : Dev} (hs : x.side = 1) (hc : cipherStage f x rx.noBuffer d = .done e) :
    lineAccepted x rx data f d = e := by
  unfold lineAccepted
  rw [if_pos hs, hc]

theorem lineAccepted_go {g : Frame} {e : Dev} (hs : x.side = 1) (hc : cipherStage f x rx.noBuffer d = .go g e)
    (he : (parse g.data).etype ≠ 0x888E) : lineAccepted x rx data f d = classify g rx.lookupFull e := by
  unfold lineAccepted
  rw [if_pos hs, hc]
  exact if_neg he

end

/-! ### The hub (R242) -/

theorem retireTallies_parts (f : Frame) (d : Dev) : Only [.obs] d (retireTallies f d) ∧
    (retireTallies f d).obs.loopback = d.obs.loopback := by
  have step (e : Dev) (t : Tally) : Only [.obs] e (slotEvent t 0 e) := (perfEvent_only _ _ _ e).trans (perfEvent_only _ _ _ _)
  have cut : Only [.obs] d { d with obs := { d.obs with tallies := d.obs.tallies.filter (fun t => !t.of f) } } := .intro rfl
  unfold retireTallies
  refine ⟨cut.trans (Only.foldl (fun e t => step e t) _ _), ?_⟩
  exact foldl_keeps (v := fun e => e.obs.loopback) (f := fun d t => slotEvent t 0 d) (fun e t => rfl) _ _

theorem queueAt_setQueue_ne {q r : Nat} (h : r ≠ q) (y : Queue) (d : Dev) : queueAt r (setQueue q y d) = queueAt r d := by
  change Map.get (Map.put d.que.queues q y) r Queue.empty = _
  unfold Map.get
  rw [Map.get?_put_ne _ _ _ _ h]
  rfl

theorem hubEnter_room {q : Nat} {f : Frame} {d : Dev} (h : queueBytes q d + f.adm ≤ 262144) :
    hubEnter q f d = setQueue q { queueAt q d with frames := (queueAt q d).frames ++ [{ f with queue := q }] } d :=
  if_neg (Nat.not_lt.2 h)

theorem hubEnter_full {q : Nat} {f : Frame} {d : Dev} (h : 262144 < queueBytes q d + f.adm) : hubEnter q f d = bump .que 8 1 d := if_pos h

/-- One class of the firmware path. -/
def fwServeClass (d : Dev) (c : Nat) : Dev :=
  (queueAt (fwQueue c) d).frames.foldl (fun d f => fwArrive f d) (setQueue (fwQueue c) Queue.empty d)

theorem fwServe_eq (d : Dev) : fwServe d = [7, 6, 5, 4, 3, 2, 1, 0].foldl fwServeClass d := rfl

theorem upper_append : [7, 6, 5, 4, 3, 2, 1, 0] = [7, 6, 5, 4, 3, 2, 1] ++ [0] := rfl

/-- A class with nothing in its queue, and none after it. -/
theorem fwServeClass_empty {d : Dev} {c : Nat} (h : (queueAt (fwQueue c) d).frames = []) :
    fwServeClass d c = setQueue (fwQueue c) Queue.empty d := by
  unfold fwServeClass
  rw [h]
  rfl

theorem fwServeClass_one {d : Dev} {f : Frame} {c : Nat} (h : (queueAt (fwQueue c) d).frames = [f]) :
    fwServeClass d c = fwArrive f (setQueue (fwQueue c) Queue.empty d) := by
  unfold fwServeClass
  rw [h]
  rfl

theorem fwQueue_ne {b c : Nat} (h : b ≠ c) : fwQueue b ≠ fwQueue c := fun eq => h (Nat.add_left_cancel eq)

/-- Classes that are empty leave everything but the queues, and the queue of class 0, as it was. -/
theorem fwServe_idle {l : List Nat} {d : Dev} (hl : ∀ c ∈ l, c ≠ 0) (he : ∀ c ∈ l, (queueAt (fwQueue c) d).frames = []) :
    Only [.que] d (l.foldl fwServeClass d) ∧ queueAt (fwQueue 0) (l.foldl fwServeClass d) = queueAt (fwQueue 0) d := by
  induction l generalizing d with
  | nil => exact ⟨.refl _ d, rfl⟩
  | cons c l ih =>
    have first := fwServeClass_empty (he c List.mem_cons_self)
    have others (b : Nat) (hb : b ∈ l) : (queueAt (fwQueue b) (fwServeClass d c)).frames = [] := by
      rw [first]
      by_cases same : b = c
      · rw [same, queueAt_setQueue]
        rfl
      · rw [queueAt_setQueue_ne (fwQueue_ne same)]
        exact he b (List.mem_cons_of_mem _ hb)
    obtain ⟨only, zero⟩ := ih (fun b hb => hl b (List.mem_cons_of_mem _ hb)) others
    refine ⟨Only.trans ?_ only, zero.trans ?_⟩
    · rw [first]
      exact setQueue_only _ _ d
    · rw [first, queueAt_setQueue_ne (fwQueue_ne (Ne.symm (hl c List.mem_cons_self)))]

/-- A frame of the lowest class alone on the firmware path. -/
theorem fwServe_alone {d : Dev} {f : Frame} (h0 : (queueAt (fwQueue 0) d).frames = [f])
    (he : ∀ c, 0 < c → c < 8 → (queueAt (fwQueue c) d).frames = []) : ∃ e, fwServe d = fwArrive f e ∧ Only [.que] d e := by
  have upper (c : Nat) (hc : c ∈ [7, 6, 5, 4, 3, 2, 1]) : 0 < c ∧ c < 8 := by
    simp only [List.mem_cons, List.not_mem_nil, or_false] at hc
    omega
  obtain ⟨only, zero⟩ := fwServe_idle (l := [7, 6, 5, 4, 3, 2, 1]) (d := d) (fun c hc => Nat.ne_of_gt (upper c hc).1)
    (fun c hc => he c (upper c hc).1 (upper c hc).2)
  rw [fwServe_eq, upper_append, List.foldl_append]
  generalize [7, 6, 5, 4, 3, 2, 1].foldl fwServeClass d = e at only zero
  exact ⟨setQueue (fwQueue 0) Queue.empty e, fwServeClass_one (zero ▸ h0), only.trans (setQueue_only _ _ _)⟩

/-- R94: a frame that is neither MKA nor PTP passes to the host. -/
theorem fwArrive_passes {f : Frame} {d : Dev} (room : fwBufBytes d + f.data.length + 4 ≤ 1048576)
    (hm : (parse f.data).etype ≠ 0x888E) (ht : ptpRef f.data = none) (hr : d.host.fwRestarting = false) :
    fwArrive f d = emit (.cpu f.inPort (tsOf f.tIn) f.data) (retireTallies f d) := by
  have kept : (retireTallies f d).host.fwRestarting = false := by
    rw [(retireTallies_parts f d).1.host, hr]
  unfold fwArrive
  dsimp only
  rw [if_neg (Nat.not_lt.2 room), decide_eq_false hm, ht, kept]
  rfl

/-- R94, R242: a frame of the lowest class that finds the firmware path empty passes to the host. -/
theorem hubDeliver_passes {f : Frame} {d : Dev} (hd : f.dest = fwDest) (hc : f.cls = 0)
    (empty : ∀ c, c < 8 → (queueAt (fwQueue c) d).frames = []) (small : f.data.length + 4 ≤ 262144)
    (room : fwBufBytes d + f.data.length + 4 ≤ 1048576) (hm : (parse f.data).etype ≠ 0x888E) (ht : ptpRef f.data = none)
    (hr : d.host.fwRestarting = false) :
    ∃ e ts, hubDeliver f d = emit (.cpu f.inPort ts f.data) e ∧ Only [.que, .obs] d e := by
  have first := empty 0 (by decide)
  have none_there : queueBytes (fwQueue 0) d = 0 := by
    unfold queueBytes
    rw [first]
    rfl
  have fits : queueBytes (fwQueue f.cls) d + (f.data.length + 4) ≤ 262144 := by
    rw [hc, none_there]
    omega
  have eq : hubDeliver f d = fwServe (setQueue (fwQueue 0)
      { queueAt (fwQueue 0) d with frames := [{ f with adm := f.data.length + 4, queue := fwQueue 0 }] } d) := by
    unfold hubDeliver
    dsimp only
    rw [if_pos hd, hubEnter_room (f := { f with adm := f.data.length + 4 }) fits, hc, first]
    rfl
  rw [eq]
  generalize hg : ({ f with adm := f.data.length + 4, queue := fwQueue 0 } : Frame) = g
  have data : g.data = f.data := by rw [← hg]
  have inPort : g.inPort = f.inPort := by rw [← hg]
  obtain ⟨e, served, only⟩ := fwServe_alone (f := g) (d := setQueue (fwQueue 0) { queueAt (fwQueue 0) d with frames := [g] } d)
    (by rw [queueAt_setQueue]) (fun c h0 h8 => by rw [queueAt_setQueue_ne (fwQueue_ne (Nat.ne_of_gt h0))]; exact empty c h8)
  have before : Only [.que] d e := (setQueue_only _ _ d).trans only
  have buffer : fwBufBytes e = fwBufBytes d := by
    unfold fwBufBytes
    rw [before.prot]
  rw [served, fwArrive_passes (by rw [buffer, data]; exact room) (data ▸ hm) (data ▸ ht) (by rw [before.host, hr]), data, inPort]
  exact ⟨_, _, rfl, before.comp (retireTallies_parts g e).1⟩

theorem acceptFrame_mgt {o : Otp} {x : PortPrm} {rx : RxFrame} {data : Bytes} {d : Dev} (ht : ptpRef data = none) :
    ∃ f e, acceptFrame o 97 x rx data none d = hubDeliver f e ∧ f.dest = fwDest ∧ f.cls = 0 ∧ f.data = data ∧ f.inPort = 97 ∧
      Only [.fab] d e := by
  refine ⟨{ (arrived o 97 data false false none d).1 with dest := fwDest, source := 0 }, (arrived o 97 data false false none d).2, ?_,
    rfl, rfl, rfl, rfl, (arrived_parts o 97 data false false none d).1⟩
  have hub : decide (97 ≠ 97) = false := rfl
  unfold acceptFrame
  rw [hub, Bool.and_false, Bool.and_false]
  dsimp only
  rw [if_pos rfl, ht]

/-! ### Injection (R301) -/

section
variable {byHost : Bool} {cls : Nat} {data : Bytes} {stamp : Option Nat} {d : Dev}

theorem injectFrame_refused {dest : Option Nat} (h : awake d = false ∨ 9600 < data.length + 4) :
    injectFrame byHost dest cls data stamp none d = d := by
  refine if_pos ?_
  rcases h with h | h
  · rw [h]; rfl
  · rw [decide_eq_true h, Bool.or_true]

/-- R301: the frame that the firmware injects for MGT. -/
def injected (byHost : Bool) (cls : Nat) (data : Bytes) (stamp : Option Nat) (d : Dev) : Frame :=
  { plainFrame d.fab.nextFrame (genAt d.time.grand (takeFrameId d).2) 98 (padded data) (takeFrameId d).2 with
    cls := cls, stampFor := stamp.map (fun c => (byHost, c)), late := none, adm := (padded data).length + 4 }

theorem injectFrame_hub (hw : awake d = true) (hs : data.length + 4 ≤ 9600) :
    injectFrame byHost none cls data stamp none d =
      hubEnter (2 ^ 18 * 8 + cls) (injected byHost cls data stamp d) (takeFrameId d).2 := by
  have takes : (!awake d || decide (9600 < data.length + 4)) = false := by
    rw [hw, decide_eq_false (Nat.not_lt.2 hs)]
    rfl
  unfold injectFrame
  rw [takes]
  rfl

end

/-! ### Selection (R242, R252, R391) -/

section
variable {p : Port} {o : Otp} {n : Nat} {d d1 : Dev} (hn : portNum p = n) (hw : awake d = true) (h96 : n ≠ 96) (hf : formed n d = true)
  (hs : Map.has d.que.sending n = false)
include hn hw h96 hf hs

theorem transmitSelect_eq : transmitSelect p o d =
    if (portSt n d).state ≠ .up ∨ squelched n d = true ∨ portServed n d = false then dropPort n d
    else if (portSt n d).lossAt.isSome || decide (Map.get d.obs.loopback n 0 = 2) then d
    else if n = 97 then selectMgt o d
    else selectPort o n d := by
  have may : ¬(n = 96 ∨ (!awake d) = true ∨ (!formed n d) = true ∨ Map.has d.que.sending n = true) := by
    rw [hw, hf, hs]
    rintro (h | h | h | h)
    · exact h96 h
    all_goals cases h
  unfold transmitSelect
  rw [hn]
  dsimp only
  refine if_neg fun h => may ?_
  simpa only [Bool.or_eq_true, decide_eq_true_eq, or_assoc] using h

theorem transmitSelect_drops (h : (portSt n d).state ≠ .up ∨ squelched n d = true ∨ portServed n d = false) :
    transmitSelect p o d = dropPort n d := by
  rw [transmitSelect_eq hn hw h96 hf hs, if_pos h]

theorem transmitSelect_line (up : (portSt n d).state = .up) (sq : squelched n d = false) (served : portServed n d = true)
    (loss : (portSt n d).lossAt = none) (loop : Map.get d.obs.loopback n 0 ≠ 2) (hl : n < 96) :
    transmitSelect p o d = selectPort o n d := by
  have sends : ¬((portSt n d).state ≠ .up ∨ squelched n d = true ∨ portServed n d = false) := by
    rw [up, sq, served]
    decide
  rw [transmitSelect_eq hn hw h96 hf hs, if_neg sends, loss, decide_eq_false loop, if_neg (by omega : ¬n = 97)]
  rfl

end

theorem selectPort_none {o : Otp} {n : Nat} {d d1 : Dev} (h1 : noteWaits n (cleanPort n d) = d1) (hc : choose n d1 = none)
    (hm : mirrorHead n d1 = none) : selectPort o n d = d1 := by
  unfold selectPort sendMirror
  rw [h1]
  dsimp only
  rw [hc]
  dsimp only
  rw [hm]

theorem selectPort_some {o : Otp} {n : Nat} {d d1 : Dev} {c : Cand} (h1 : noteWaits n (cleanPort n d) = d1) (hc : choose n d1 = some c) :
    ∃ e, selectPort o n d = startFrame o n c.cls false c.f e := by
  unfold selectPort
  rw [h1]
  dsimp only
  rw [hc]
  exact ⟨_, rfl⟩

/-! ### The end of a transmission (R223, R301, R302) -/

/-- Places that what else is counted of a frame that leaves does not touch. -/
structure BesideSent (n q : Nat) : Prop where
  stomped : q ≠ cntKey .port n 9
  fabric : ∀ k, k < 64 → q ≠ cntKey .fab (portDie n) k
  mirrored : q ≠ cntKey .fport n 2
  lost : q ≠ cntKey .ts (portDie n) 8
  lostAt : q ≠ cntKey .ptp n 3

/-- R223, R224, R234: what is counted beside frames and octets. -/
def countFaults (n : Nat) (x : Sending) (d : Dev) : Dev :=
  let d := if x.stomp then bump .port n 9 d else d
  let d := match x.frame.stomp with | some slot => bump .fab (portDie n) slot d | none => d
  if x.frame.mirror.isSome then bump .fport n 2 (bump .fab (portDie n) 9 d) else d

theorem countFaults_only (n : Nat) (x : Sending) (d : Dev) : Only [.cnt] d (countFaults n x d) := by
  unfold countFaults
  extract_lets d1 d2
  have first : Only [.cnt] d d1 := .ite (fun _ => bump_only _ _ _ d) (fun _ => .refl _ d)
  have second : Only [.cnt] d1 d2 := by
    unfold d2
    split
    · exact bump_only _ _ _ d1
    · exact .refl _ d1
  clear_value d1 d2
  exact (first.trans second).trans (.ite (fun _ => (bump_only _ _ _ d2).trans (bump_only _ _ _ _)) (fun _ => .refl _ d2))

theorem countFaults_kept {n q : Nat} {x : Sending} (hq : BesideSent n q) (hx : ∀ k, x.frame.stomp = some k → k < 64) (d : Dev) :
    CntKept q d (countFaults n x d) := by
  unfold countFaults
  extract_lets d1 d2
  have first : CntKept q d d1 := .ite (bump_kept d hq.stomped) (.refl q d)
  have second : CntKept q d1 d2 := by
    unfold d2
    split
    next k hk => exact bump_kept d1 (hq.fabric k (hx k hk))
    · exact .refl q d1
  clear_value d1 d2
  exact (first.trans second).trans (.ite ((bump_kept d2 (hq.fabric 9 (by decide))).trans (bump_kept _ hq.mirrored)) (.refl q d2))

theorem pushStamp_parts {n q : Nat} (hq : BesideSent n q) (x : Sending) (d : Dev) :
    Only [.ts, .cnt] d (pushStamp n x d) ∧ CntKept q d (pushStamp n x d) := by
  unfold pushStamp
  split
  · exact ⟨.refl _ d, .refl q d⟩
  next host cookie _ =>
    extract_lets l l' d1 d2
    have one : Only [.ts, .cnt] d d1 := (bump_only _ _ _ d).mono
    have two : Only [.ts, .cnt] d1 d2 := (bump_only _ _ _ d1).mono
    have kept1 : CntKept q d d1 := bump_kept d hq.lost
    have kept2 : CntKept q d1 d2 := bump_kept d1 hq.lostAt
    clear_value d1 d2
    split
    · split
      · exact ⟨(one.trans two).trans (.intro rfl), (kept1.trans kept2).trans (.of_only (l := [.ts]) (.intro rfl))⟩
      · exact ⟨one, kept1⟩
    · split
      · exact ⟨.intro rfl, .of_only (l := [.ts]) (.intro rfl)⟩
      · exact ⟨.intro rfl, .of_only (l := [.ts]) (.intro rfl)⟩

/-- The frame leaves: counted, stamped, its blocks tallied and kept until verified. -/
def departed (n : Nat) (x : Sending) (d : Dev) : Dev :=
  let d := tallySent x (pushStamp n x (countSent n x d))
  if x.frame.unverified.isEmpty then d else { d with mem := { d.mem with departed := d.mem.departed ++ [x.frame] } }

theorem tallySent_parts (x : Sending) (d : Dev) : Only [.obs] d (tallySent x d) ∧ (tallySent x d).obs.loopback = d.obs.loopback := by
  unfold tallySent
  split
  · exact ⟨.refl _ d, rfl⟩
  · exact retireTallies_parts _ d

section
variable {n : Nat} {x : Sending} {d : Dev} (hn : n < 98) (hx : ∀ k, x.frame.stomp = some k → k < 64)

theorem departed_eq (n : Nat) (x : Sending) (d : Dev) : departed n x d =
    (let d := tallySent x (pushStamp n x (countFaults n x (bumpBy .port n 3 (x.wire.length + 4) (bump .port n 2 d))))
     if x.frame.unverified.isEmpty then d else { d with mem := { d.mem with departed := d.mem.departed ++ [x.frame] } }) := rfl

include hn

theorem portDie_lt : portDie n < 64 := by
  unfold portDie
  repeat' split
  all_goals omega

theorem besideSent_port {k : Nat} (hk : k = 2 ∨ k = 3) : BesideSent n (cntKey .port n k) := by
  have die := portDie_lt hn
  have c1 : CntBlock.port.code = 16 := rfl
  have c2 : CntBlock.fab.code = 10 := rfl
  have c3 : CntBlock.fport.code = 25 := rfl
  have c4 : CntBlock.ts.code = 13 := rfl
  have c5 : CntBlock.ptp.code = 26 := rfl
  constructor
  case fabric =>
    intro j hj
    unfold cntKey
    rw [c1, c2]
    omega
  all_goals
    unfold cntKey
    simp only [c1, c3, c4, c5]
    omega

theorem besideSent_ts : BesideSent n (cntKey .ts (portDie n) 9) := by
  have die := portDie_lt hn
  have c1 : CntBlock.port.code = 16 := rfl
  have c2 : CntBlock.fab.code = 10 := rfl
  have c3 : CntBlock.fport.code = 25 := rfl
  have c4 : CntBlock.ts.code = 13 := rfl
  have c5 : CntBlock.ptp.code = 26 := rfl
  constructor
  case fabric =>
    intro j hj
    unfold cntKey
    rw [c4, c2]
    omega
  all_goals
    unfold cntKey
    simp only [c1, c3, c4, c5]
    omega

theorem departed_only (x : Sending) (d : Dev) : Only [.cnt, .ts, .obs, .mem] d (departed n x d) := by
  have counted : Only [.cnt, .ts, .obs, .mem] d (bumpBy .port n 3 (x.wire.length + 4) (bump .port n 2 d)) :=
    (bump_only _ _ _ d).comp (bumpBy_only _ _ _ _ _)
  have faults := countFaults_only n x (bumpBy .port n 3 (x.wire.length + 4) (bump .port n 2 d))
  rw [departed_eq]
  generalize bumpBy .port n 3 (x.wire.length + 4) (bump .port n 2 d) = e at *
  have pushed := (pushStamp_parts (besideSent_ts hn) x (countFaults n x e)).1
  generalize pushStamp n x (countFaults n x e) = f at *
  have before : Only [.cnt, .ts, .obs, .mem] d (tallySent x f) :=
    ((counted.andThen faults).andThen pushed).andThen (tallySent_parts x f).1
  dsimp only
  generalize tallySent x f = g at *
  exact before.trans (.ite (fun _ => .refl _ g) (fun _ => .intro rfl))

theorem departed_loopback (x : Sending) (d : Dev) : (departed n x d).obs.loopback = d.obs.loopback := by
  have faults := countFaults_only n x (bumpBy .port n 3 (x.wire.length + 4) (bump .port n 2 d))
  have base : (bumpBy .port n 3 (x.wire.length + 4) (bump .port n 2 d)).obs = d.obs := rfl
  rw [departed_eq]
  generalize bumpBy .port n 3 (x.wire.length + 4) (bump .port n 2 d) = e at *
  have pushed := (pushStamp_parts (besideSent_ts hn) x (countFaults n x e)).1
  have same : (pushStamp n x (countFaults n x e)).obs = d.obs := by rw [pushed.obs, faults.obs, base]
  generalize pushStamp n x (countFaults n x e) = f at *
  have tallied := (tallySent_parts x f).2
  rw [same] at tallied
  dsimp only
  generalize tallySent x f = g at *
  split
  · exact tallied
  · exact tallied

include hx

omit hn in
/-- Of the places that stand beside, only those of frames and octets count. -/
theorem departed_kept {q : Nat} (hq : BesideSent n q) :
    CntKept q (bumpBy .port n 3 (x.wire.length + 4) (bump .port n 2 d)) (departed n x d) := by
  rw [departed_eq]
  generalize bumpBy .port n 3 (x.wire.length + 4) (bump .port n 2 d) = e
  have faults := countFaults_kept hq hx e
  have pushed := (pushStamp_parts hq x (countFaults n x e)).2
  generalize pushStamp n x (countFaults n x e) = f at *
  have tallied : CntKept q f (tallySent x f) := .of_only (tallySent_parts x f).1
  have before := (faults.trans pushed).trans tallied
  dsimp only
  generalize tallySent x f = g at *
  exact before.trans (.ite (.refl q g) (.of_only (l := [.mem]) (.intro rfl)))

theorem departed_counts : cntGet .port n 2 (departed n x d) = (cntGet .port n 2 d + 1) % 2 ^ 48 ∧
    cntGet .port n 3 (departed n x d) = (cntGet .port n 3 d + (x.wire.length + 4)) % 2 ^ 48 ∧
    cntGet .ts (portDie n) 9 (departed n x d) = cntGet .ts (portDie n) 9 d := by
  have die := portDie_lt hn
  have apart : cntKey .port n 2 ≠ cntKey .port n 3 := by unfold cntKey; omega
  have beside : cntKey .ts (portDie n) 9 ≠ cntKey .port n 2 ∧ cntKey .ts (portDie n) 9 ≠ cntKey .port n 3 := by
    have c1 : CntBlock.port.code = 16 := rfl
    have c2 : CntBlock.ts.code = 13 := rfl
    unfold cntKey
    rw [c1, c2]
    omega
  refine ⟨?_, ?_, ?_⟩
  · rw [(departed_kept hx (besideSent_port hn (.inl rfl))).cntGet_eq, (bumpBy_kept _ _ apart).cntGet_eq]
    exact cntGet_bumpBy _ _ _ _ _
  · rw [(departed_kept hx (besideSent_port hn (.inr rfl))).cntGet_eq, cntGet_bumpBy, (bump_kept d apart.symm).cntGet_eq]
  · rw [(departed_kept hx (besideSent_ts hn)).cntGet_eq, (bumpBy_kept _ _ beside.2).cntGet_eq, (bump_kept d beside.1).cntGet_eq]

end

/-- The port sends nothing any more. -/
def unsent (n : Nat) (d : Dev) : Dev := { d with que := { d.que with sending := Map.del d.que.sending n } }

theorem record_loopback (type source : Nat) (data : Bytes) (d : Dev) : (record type source data d).obs.loopback = d.obs.loopback := by
  unfold record
  dsimp only
  split <;> rfl

theorem frameTxEnd_eq {p : Port} {fault : Bool} {o : Otp} {n : Nat} {x y : Sending} {d d1 e : Dev} (hp : portNum p = n) (hn : n < 98)
    (hx : Map.get? d.que.sending n = some x) (h1 : waitTicks x.ends d = d1)
    (hy : (if fault && x.patched then patchFault n x d1 else (x, d1)) = (y, e)) (hl : Map.get e.obs.loopback n 0 ≠ 1) :
    frameTxEnd p fault o d = emit (.frame n (y.wire ++ sentFcs y) y.stomp) (departed n y (unsent n e)) := by
  have loop : Map.get (departed n y (unsent n e)).obs.loopback n 0 ≠ 1 := by
    rw [departed_loopback hn]
    exact hl
  unfold frameTxEnd
  rw [hp]
  dsimp only
  rw [hx]
  dsimp only
  rw [h1, hy]
  exact if_neg loop

theorem emit_cntGet (b : CntBlock) (i k : Nat) (x : Output) (d : Dev) : cntGet b i k (emit x d) = cntGet b i k d := rfl
theorem unsent_cntGet (b : CntBlock) (i k n : Nat) (d : Dev) : cntGet b i k (unsent n d) = cntGet b i k d := rfl

theorem patchFault_only (n : Nat) (x : Sending) (d : Dev) : Only [.obs, .cnt] d (patchFault n x d).2 :=
  (bump_only _ _ _ d).comp (record_only _ _ _ _)

theorem patchFault_loopback (n : Nat) (x : Sending) (d : Dev) : (patchFault n x d).2.obs.loopback = d.obs.loopback :=
  record_loopback _ _ _ _

theorem patchFault_counts {n : Nat} (hn : n < 98) (x : Sending) (d : Dev) :
    (∀ {k}, k = 2 ∨ k = 3 → cntGet .port n k (patchFault n x d).2 = cntGet .port n k d) ∧
      cntGet .ts (portDie n) 9 (patchFault n x d).2 = (cntGet .ts (portDie n) 9 d + 1) % 2 ^ 48 := by
  have die := portDie_lt hn
  have c1 : CntBlock.port.code = 16 := rfl
  have c2 : CntBlock.ts.code = 13 := rfl
  have c3 : CntBlock.hostif.code = 1 := rfl
  have c4 : CntBlock.obs.code = 19 := rfl
  refine ⟨fun {k} hk => ?_, ?_⟩
  · have untold : Untold (cntKey .port n k) := by
      unfold Untold cntKey
      rw [c1, c3, c4]
      omega
    have apart : cntKey .port n k ≠ cntKey .ts (portDie n) 9 := by
      unfold cntKey
      rw [c1, c2]
      omega
    exact ((bump_kept d apart).trans (record_kept untold _ _ _ _)).cntGet_eq
  · have untold : Untold (cntKey .ts (portDie n) 9) := by
      unfold Untold cntKey
      rw [c2, c3, c4]
      omega
    exact (record_kept untold _ _ _ _).cntGet_eq.trans (cntGet_bumpBy _ _ _ _ _)

theorem portNum_lt (p : Port) : portNum p < 98 := by
  cases p with
  | p i => have := i.isLt; change i.val < 98; omega
  | c i => have := i.isLt; change 16 + i.val < 98; omega
  | f i => have := i.isLt; change 32 + i.val < 98; omega
  | w => decide
  | mgt => decide

/-- Settles O46, event by event. -/
theorem framesEnterAndLeave : Obligations.FramesEnterAndLeave := by
  intro s d hd
  have silent : d.out = [] := by rw [← hd]
  refine ⟨fun rx n hn h => onOtp_next hd (frameReceive_closed hn h), fun rx0 rx n x data d0 hn hr hl hx hdata hrx h0 => ?_,
    fun inj h => onDev_next hd (injectFrame_refused h), fun inj q hw hs hdest hq => ⟨fun room => ?_, fun full => ?_⟩,
    fun p n hn hw h96 hf hs => ⟨fun h => onOtp_next hd (transmitSelect_drops hn hw h96 hf hs h),
      fun d1 up sq served loss loop hl h1 => ⟨fun hc hm => onOtp_next hd ?_, fun c hc => ?_⟩⟩,
    fun p n x d1 fault hn hx hl hk h1 => ?_⟩
  · change countFec n rx (slipCleared n d) = d0 at h0
    have arrives : Only [.port, .cnt] d d0 := by
      rw [← h0]
      exact (slipCleared_only n d).comp (countFec_only n rx _)
    refine ⟨fun slot late hc h => onOtp_next hd (frameReceive_faulty hn hr hl hx hdata hrx h0 hc h), fun h97 hc hm ht hfw empty small room => ?_,
      fun hmir h97 hc d1 h1 f d2 ha => ?_⟩
    · subst h97
      have good := frameReceive_good (o := s.otp) hn hr hl hx hdata hrx h0 hc
      have uncounted : d0.cnt = d.cnt := by
        rw [← h0, show countFec 97 rx (slipCleared 97 d) = slipCleared 97 d from rfl, (slipCleared_only 97 d).cnt]
      have first : cntGet .port 97 0 (bumpBy .port 97 1 rx.bytes.length (bump .port 97 0 d0)) = (cntGet .port 97 0 d0 + 1) % 2 ^ 48 := by
        rw [(bumpBy_kept _ _ (by decide)).cntGet_eq]
        exact cntGet_bumpBy _ _ _ _ _
      have second : cntGet .port 97 1 (bumpBy .port 97 1 rx.bytes.length (bump .port 97 0 d0)) = (cntGet .port 97 1 d0 + rx.bytes.length) % 2 ^ 48 := by
        rw [cntGet_bumpBy, (bump_kept d0 (by decide)).cntGet_eq]
      have counted : Only [.port, .cnt] d (bumpBy .port 97 1 rx.bytes.length (bump .port 97 0 d0)) :=
        (arrives.andThen (bump_only _ _ _ _)).andThen (bumpBy_only _ _ _ _ _)
      generalize bumpBy .port 97 1 rx.bytes.length (bump .port 97 0 d0) = c at *
      obtain ⟨f, e, accepted, dest, cls, fdata, inPort, numbered⟩ := acceptFrame_mgt (o := s.otp) (x := x) (rx := rx) (d := c) ht
      have parts : Only [.port, .cnt, .fab] d e := counted.comp numbered
      obtain ⟨g, ts, passed, last⟩ := hubDeliver_passes (f := f) (d := e) dest cls
        (fun c hc => by unfold queueAt; rw [parts.que]; exact empty c hc) (fdata ▸ small)
        (by unfold fwBufBytes; rw [parts.prot, fdata]; exact room) (fdata ▸ hm) (fdata ▸ ht) (by rw [parts.host, hfw])
      refine ⟨_, ts, onOtp_next hd ((good.trans accepted).trans passed), withDev_otp .., ?_⟩
      rw [withDev_dev, fdata, inPort]
      have quiet : g.out = [] := by rw [last.out, parts.out, silent]
      have same (k : Nat) : cntGet .port 97 k (emit (.cpu 97 ts data) g) = cntGet .port 97 k c := by
        unfold cntGet
        rw [show (emit (.cpu 97 ts data) g).cnt = g.cnt from rfl, last.cnt, numbered.cnt]
      have before (k : Nat) : cntGet .port 97 k d0 = cntGet .port 97 k d := by
        unfold cntGet
        rw [uncounted]
      refine ⟨?_, ?_, ?_⟩
      · change g.out ++ [.cpu 97 ts data] = _
        rw [quiet]
        rfl
      · rw [same, first, before]
      · rw [same, second, before]
    · have counted : Only [.port, .cnt] d d1 := by
        rw [← h1]
        exact (arrives.andThen (bump_only _ _ _ _)).andThen (bumpBy_only _ _ _ _ _)
      have good := frameReceive_good (o := s.otp) hn hr hl hx hdata hrx h0 hc
      rw [h1, acceptFrame_line h97 hmir counted ha] at good
      obtain ⟨-, fdata, inPort, -⟩ := arrived_parts s.otp n data rx.early rx.head none d1
      rw [ha] at fdata inPort
      refine ⟨fun hs he => onOtp_next hd (good.trans (lineAccepted_plain hs he)), fun hs he => onOtp_next hd (good.trans (lineAccepted_mka hs he)),
        fun hs hv => onOtp_next hd (good.trans ?_), fun g d3 hs hc he => onOtp_next hd (good.trans (lineAccepted_go hs hc he))⟩
      obtain ⟨v, hv, none_there⟩ := hv
      rw [← inPort]
      exact lineAccepted_done hs (cipherStage_unassigned (by rw [fdata, hv]) none_there)
  · subst hq
    have entered := (injectFrame_hub (byHost := inj.byHost) (cls := inj.cls.val) (stamp := inj.stamp.map BitVec.toNat) hw hs).trans
      (hubEnter_room room)
    rw [← Option.map_none (f := BitVec.toNat), ← hdest] at entered
    refine ⟨_, { injected inj.byHost inj.cls.val inj.bytes (inj.stamp.map BitVec.toNat) d with queue := 2 ^ 18 * 8 + inj.cls.val },
      onDev_next hd entered, withDev_otp .., ?_⟩
    rw [withDev_dev, queueAt_setQueue]
    exact ⟨rfl, rfl, rfl, rfl, Option.map_map .., rfl⟩
  · subst hq
    have entered := (injectFrame_hub (byHost := inj.byHost) (cls := inj.cls.val) (stamp := inj.stamp.map BitVec.toNat) hw hs).trans
      (hubEnter_full full)
    rw [← Option.map_none (f := BitVec.toNat), ← hdest] at entered
    refine ⟨_, onDev_next hd entered, ?_⟩
    rw [withDev_dev]
    exact ⟨rfl, cntGet_bumpBy .que 8 1 1 (takeFrameId d).2⟩
  · exact (transmitSelect_line hn hw h96 hf hs up sq served loss loop hl).trans (selectPort_none h1 hc hm)
  · obtain ⟨e, chosen⟩ := selectPort_some (o := s.otp) h1 hc
    obtain ⟨x, pn, hx, egg, frame⟩ := startFrame_sending s.otp n c.cls false c.f e
    have eq := (transmitSelect_line (o := s.otp) hn hw h96 hf hs up sq served loss loop hl).trans chosen
    generalize startFrame s.otp n c.cls false c.f e = sent at *
    refine ⟨_, x, onOtp_next hd eq, withDev_otp .., ?_, egg, (congrArg Frame.id frame :), (congrArg Frame.data frame :)⟩
    rw [withDev_dev]
    exact hx
  · have lt : n < 98 := hn ▸ portNum_lt p
    have waited := waitTicks_only x.ends d
    rw [h1] at waited
    have loops : Map.get d1.obs.loopback n 0 ≠ 1 := by
      rw [← h1]
      exact hl
    have same (b : CntBlock) (i k : Nat) : cntGet b i k d1 = cntGet b i k d := by
      unfold cntGet
      rw [waited.cnt]
    cases hfp : (fault && x.patched) with
    | false =>
      have eq := frameTxEnd_eq (o := s.otp) (fault := fault) hn lt hx h1 (by rw [hfp]; rfl) loops
      have only := departed_only lt x (unsent n d1)
      obtain ⟨frames, octets, -⟩ := departed_counts (d := unsent n d1) lt hk
      generalize departed n x (unsent n d1) = e at *
      refine ⟨_, onOtp_next hd eq, withDev_otp .., ?_⟩
      rw [withDev_dev]
      have quiet : e.out = [] := by rw [only.out, show (unsent n d1).out = d1.out from rfl, waited.out, silent]
      refine ⟨only.time, ?_, fun _ => by rw [emit_out, quiet]; rfl, fun h h' => ?_, ?_, ?_⟩
      · exact (congrArg (fun q : Que => Map.get? q.sending n) only.que).trans (Map.get?_del _ _)
      · rw [h, h'] at hfp
        cases hfp
      · rw [emit_cntGet, frames, unsent_cntGet, same]
      · rw [emit_cntGet, octets, unsent_cntGet, same]
    | true =>
      obtain ⟨hf, hpat⟩ := Bool.and_eq_true_iff.1 hfp
      have eq := frameTxEnd_eq (o := s.otp) (fault := fault) (y := { x with stomp := true }) hn lt hx h1 (by rw [hfp]; rfl)
        (patchFault_loopback n x d1 ▸ loops)
      have recorded := patchFault_only n x d1
      obtain ⟨kept, patched⟩ := patchFault_counts lt x d1
      generalize (patchFault n x d1).2 = c at *
      have only := departed_only lt { x with stomp := true } (unsent n c)
      obtain ⟨frames, octets, patches⟩ := departed_counts (d := unsent n c) (x := { x with stomp := true }) lt hk
      generalize departed n { x with stomp := true } (unsent n c) = e at *
      refine ⟨_, onOtp_next hd eq, withDev_otp .., ?_⟩
      rw [withDev_dev]
      have quiet : e.out = [] := by rw [only.out, show (unsent n c).out = c.out from rfl, recorded.out, waited.out, silent]
      refine ⟨only.time.trans recorded.time, ?_, fun h => ?_, fun _ _ => ⟨by rw [emit_out, quiet]; rfl, ?_⟩, ?_, ?_⟩
      · exact (congrArg (fun q : Que => Map.get? q.sending n) only.que).trans (Map.get?_del _ _)
      · rw [hf, hpat] at h
        rcases h with h | h <;> cases h
      · rw [emit_cntGet, patches, unsent_cntGet, patched, same]
      · rw [emit_cntGet, frames, unsent_cntGet, kept (.inl rfl), same]
      · rw [emit_cntGet, octets, unsent_cntGet, kept (.inr rfl), same]

end Sys2Proof.Machine
end

section
/-! The choice of a queue at a port (R18, R251, R252). -/
namespace Sys2Proof.Machine

set_option Elab.async false

theorem foldl_pick {α : Type} {f : α → α → α} (hf : ∀ a b, f a b = a ∨ f a b = b) (l : List α) (a : α) :
    l.foldl f a = a ∨ l.foldl f a ∈ l := by
  induction l generalizing a with
  | nil => exact .inl rfl
  | cons b l ih =>
    rcases ih (f a b) with h | h
    · rw [List.foldl_cons, h]
      exact (hf a b).imp id fun same => List.mem_cons.2 (.inl same)
    · exact .inr (List.mem_cons_of_mem _ h)

/-- The earliest of a list is one of its members. -/
theorem earliest_mem {α : Type} {tag : α → Nat} {l : List α} {x : α} (h : earliest tag l = some x) : x ∈ l := by
  match l, h with
  | a :: l, h =>
    have picks (b y : α) : (if precedes64 (tag y) (tag b) then y else b) = b ∨ (if precedes64 (tag y) (tag b) then y else b) = y := by
      split
      · exact .inr rfl
      · exact .inl rfl
    have pick := foldl_pick (f := fun b x => if precedes64 (tag x) (tag b) then x else b) picks l a
    rw [show l.foldl _ a = x from Option.some.inj h] at pick
    exact pick.elim (fun h => h ▸ List.mem_cons_self) (List.mem_cons_of_mem _)

theorem earliest_none {α : Type} {tag : α → Nat} {l : List α} (h : earliest tag l = none) : l = [] := by
  match l, h with
  | [], _ => rfl

/-- The first of a falling list that satisfies a predicate is its greatest that does. -/
theorem find?_falling {l : List Nat} (hl : l.Pairwise (fun a b => b ≤ a)) {q : Nat → Bool} {a b : Nat} (h : l.find? q = some a) (hb : b ∈ l)
    (hq : q b = true) : b ≤ a := by
  induction l with
  | nil => cases h
  | cons c l ih =>
    obtain ⟨first, rest⟩ := List.pairwise_cons.1 hl
    rw [List.find?_cons] at h
    split at h
    next hc =>
      cases h
      exact (List.mem_cons.1 hb).elim Nat.le_of_eq (first b)
    next hc =>
      refine ih rest h ((List.mem_cons.1 hb).resolve_left fun eq => ?_)
      rw [eq, hc] at hq
      cases hq

section
variable {p : Nat} {es : List Cand} {d : Dev}

/-- The classes that may be served, from the highest on. -/
def readyClasses (p : Nat) (es : List Cand) (d : Dev) : List Nat :=
  [7, 6, 5, 4, 3, 2, 1, 0].filter (fun c => es.any (fun e => decide (e.cls = c)) &&
    pReady (portDie p) (Map.get? (livePort p d).classShaper c) d)

theorem readyClasses_falling (p : Nat) (es : List Cand) (d : Dev) : (readyClasses p es d).Pairwise (fun a b => b ≤ a) :=
  List.Pairwise.filter _ (by decide)

theorem mem_readyClasses {c : Nat} : c ∈ readyClasses p es d ↔ c < 8 ∧ (∃ e ∈ es, e.cls = c) ∧
    pReady (portDie p) (Map.get? (livePort p d).classShaper c) d = true := by
  unfold readyClasses
  rw [List.mem_filter, Bool.and_eq_true, List.any_eq_true]
  have all : c ∈ [7, 6, 5, 4, 3, 2, 1, 0] ↔ c < 8 := by
    simp only [List.mem_cons, List.not_mem_nil, or_false]
    omega
  simp only [all, decide_eq_true_eq]

theorem chooseClass_eq : chooseClass p es d = ((readyClasses p es d).find? (fun c => bit (livePort p d).strictMask c)).or
    ((earliest (fun c => (classSt p c d).tag) ((readyClasses p es d).filter
      (fun c => es.any (fun e => decide (e.cls = c) && committed p d e)))).or
      (earliest (fun c => (classSt p c d).tag) (readyClasses p es d))) := by
  unfold chooseClass readyClasses
  dsimp only
  split
  next h =>
    rw [h]
    rfl
  next h =>
    rw [h]
    split
    next h' =>
      rw [h']
      rfl
    next h' =>
      rw [h']
      rfl

/-- The class served may be served, and none of the strict ones above it may. -/
theorem chooseClass_some {c : Nat} (h : chooseClass p es d = some c) : c ∈ readyClasses p es d ∧
    ∀ b ∈ readyClasses p es d, bit (livePort p d).strictMask b = true → b ≤ c := by
  rw [chooseClass_eq] at h
  cases hs : (readyClasses p es d).find? (fun c => bit (livePort p d).strictMask c) with
  | some a =>
    rw [hs] at h
    cases h
    exact ⟨List.mem_of_find?_eq_some hs, fun b hb strict => find?_falling (readyClasses_falling p es d) hs hb strict⟩
  | none =>
    refine ⟨?_, fun b hb strict => absurd strict (List.find?_eq_none.1 hs b hb)⟩
    rw [hs, Option.none_or] at h
    rcases Option.or_eq_some_iff.1 h with h | ⟨-, h⟩
    · exact (List.mem_filter.1 (earliest_mem h)).1
    · exact earliest_mem h

end

/-- Among a class's queues, one that is committed goes first. -/
def chooseIn (p : Nat) (qs : List Cand) (d : Dev) : Option Cand := (earliest Cand.tag (qs.filter (committed p d))).or (earliest Cand.tag qs)

theorem chooseIn_some {p : Nat} {qs : List Cand} {d : Dev} {c : Cand} (h : chooseIn p qs d = some c) :
    c ∈ qs ∧ ∀ e ∈ qs, committed p d e = true → committed p d c = true := by
  rcases Option.or_eq_some_iff.1 h with h | ⟨none_there, h⟩
  · obtain ⟨hc, com⟩ := List.mem_filter.1 (earliest_mem h)
    exact ⟨hc, fun _ _ _ => com⟩
  · refine ⟨earliest_mem h, fun e he com => ?_⟩
    have empty := earliest_none none_there
    exact absurd (List.mem_filter.2 ⟨he, com⟩) (by rw [empty]; exact List.not_mem_nil)

theorem choose_some {p : Nat} {d : Dev} {c : Cand} (h : choose p d = some c) : pReady (portDie p) (livePort p d).portShaper d = true ∧
    ∃ k, chooseClass p ((candidates p d).filter (eligible p d)) d = some k ∧
      chooseIn p (((candidates p d).filter (eligible p d)).filter (fun e => decide (e.cls = k))) d = some c := by
  unfold choose at h
  split at h
  · cases h
  next open_ =>
    refine ⟨by simpa using open_, ?_⟩
    dsimp only at h
    split at h
    · cases h
    next k hk =>
      refine ⟨k, hk, ?_⟩
      unfold chooseIn
      split at h
      next e he =>
        rw [he]
        exact h
      next he =>
        rw [he]
        exact h

/-- Settles O47: the class served is a ready one, the queue one of that class. -/
theorem selectionServesByClassAndColour : Obligations.SelectionServesByClassAndColour := by
  intro p d c hc
  obtain ⟨open_, k, hk, hin⟩ := choose_some hc
  obtain ⟨served, strict⟩ := chooseClass_some hk
  obtain ⟨mem, first⟩ := chooseIn_some hin
  obtain ⟨there, cls⟩ := List.mem_filter.1 mem
  obtain ⟨cand, elig⟩ := List.mem_filter.1 there
  have is : c.cls = k := of_decide_eq_true cls
  subst is
  refine ⟨cand, elig, open_, (mem_readyClasses.1 served).2.2, fun e he el h8 hs ready => ?_, fun e he el same com => ?_⟩
  · exact strict e.cls (mem_readyClasses.2 ⟨h8, ⟨e, List.mem_filter.2 ⟨he, el⟩, rfl⟩, ready⟩) hs
  · exact first e (List.mem_filter.2 ⟨List.mem_filter.2 ⟨he, el⟩, decide_eq_true same⟩) com

end Sys2Proof.Machine
end

section
/-! The fabric and the queues: the whisk, arrivals, residue, buckets and sweeps (R214, R217, R220, R228, R245, R254, R256). -/
namespace Sys2Proof.Machine

set_option Elab.async false

/-! ### Stalls leave credits alone (R30, R37) -/

theorem flitChan_put_ne {ch ch' : Nat} (h : ch' ≠ ch) (x : LinkDir) (c : FlitChan) :
    flitChan ch' { x with chans := Map.put x.chans ch c } = flitChan ch' x := by
  unfold flitChan Map.get
  rw [Map.get?_put_ne _ _ _ _ h]

theorem linkDir_setDir_ne {t t' : Bool} (h : t' ≠ t) (x : LinkDir) (l : PkgLink) : linkDir t' (setDir t x l) = linkDir t' l := by
  cases t <;> cases t' <;> first | exact absurd rfl h | rfl

theorem pkgLink_setLink_ne {k k' : Nat} (h : k' ≠ k) (l : PkgLink) (d : Dev) : pkgLink k' (setLink k l d) = pkgLink k' d := by
  change Map.get (Map.put d.pkg.links k l) k' _ = _
  unfold Map.get
  rw [Map.get?_put_ne _ _ _ _ h]
  rfl

/-- Another channel is as it was. -/
theorem chanOf_setChanOf_ne {k k' ch ch' : Nat} {t t' : Bool} (h : ¬(k' = k ∧ t' = t ∧ ch' = ch)) (c : FlitChan) (d : Dev) :
    chanOf k' t' ch' (setChanOf k t ch c d) = chanOf k' t' ch' d := by
  unfold setChanOf
  dsimp only
  by_cases hk : k' = k
  · subst hk
    rw [chanOf_of_get (setLink_get _ _ _)]
    unfold chanOf
    by_cases ht : t' = t
    · subst ht
      rw [linkDir_setDir]
      exact flitChan_put_ne (fun hc => h ⟨rfl, rfl, hc⟩) _ _
    · rw [linkDir_setDir_ne ht]
  · unfold chanOf
    rw [pkgLink_setLink_ne hk]

/-- Credits of every channel are as they were. -/
def CreditsKept (d e : Dev) : Prop := ∀ k t ch, (chanOf k t ch e).credits = (chanOf k t ch d).credits

theorem CreditsKept.trans {d e f : Dev} (h : CreditsKept d e) (g : CreditsKept e f) : CreditsKept d f :=
  fun k t ch => (g k t ch).trans (h k t ch)

theorem noteStall_kept (k : Nat) (t : Bool) (ch : Nat) (d : Dev) : CreditsKept d (noteStall k t ch d) := by
  intro k' t' ch'
  unfold noteStall
  by_cases same : k' = k ∧ t' = t ∧ ch' = ch
  · obtain ⟨rfl, rfl, rfl⟩ := same
    dsimp only
    rw [chanOf_setChanOf]
  · dsimp only
    rw [chanOf_setChanOf_ne same]

theorem noteStall_only (k : Nat) (t : Bool) (ch : Nat) (d : Dev) : Only [.pkg] d (noteStall k t ch d) := setChanOf_only _ _ _ _ _

theorem hasCredit_of_kept {d e : Dev} (h : CreditsKept d e) (k : Nat) (t : Bool) (ch : Nat) : hasCredit k t ch e = hasCredit k t ch d := by
  unfold hasCredit
  rw [h]

theorem entryCredit_of_kept {d e : Dev} (h : CreditsKept d e) (x : VoqEnt) : entryCredit x e = entryCredit x d := by
  unfold entryCredit
  simp only [hasCredit_of_kept h]

/-- One entry's stalls. -/
def noteEntry (d : Dev) (e : VoqEnt) : Dev :=
  let d := if hasCredit e.src true e.inChan d then d else noteStall e.src true e.inChan d
  e.dsts.foldl (fun d k => if hasCredit k false e.outChan d then d else noteStall k false e.outChan d) d

theorem noteEntry_parts (d : Dev) (e : VoqEnt) : Only [.pkg] d (noteEntry d e) ∧ CreditsKept d (noteEntry d e) := by
  unfold noteEntry
  extract_lets d1
  have first : Only [.pkg] d d1 := .ite (fun _ => .refl _ d) (fun _ => noteStall_only _ _ _ d)
  have kept : CreditsKept d d1 := by
    unfold d1
    split
    · exact fun _ _ _ => rfl
    · exact noteStall_kept _ _ _ d
  clear_value d1
  refine ⟨first.trans (Only.foldl (fun d k => .ite (fun _ => .refl _ d) (fun _ => noteStall_only _ _ _ d)) _ d1), kept.trans ?_⟩
  clear first kept
  generalize e.dsts = l
  induction l generalizing d1 with
  | nil => exact fun _ _ _ => rfl
  | cons k l ih =>
    refine CreditsKept.trans ?_ (ih _)
    dsimp only
    split
    · exact fun _ _ _ => rfl
    · exact noteStall_kept _ _ _ d1

theorem noteStalls_one {d : Dev} {e : VoqEnt} (h : d.fab.voq = [e]) : noteStalls d = noteEntry d e := by
  unfold noteStalls
  rw [h]
  rfl

/-! ### One entry in the whisk (R220) -/

/-- The better of a place and what has been found before it. -/
def betterPlace (prio : Nat → Nat) (best : Option Nat) (k : Nat) : Option Nat :=
  if prio k = 0 then best
  else match best with
    | none => some k
    | some b => if prio b < prio k then some k else best

theorem pickBest_eq (order : List Nat) (prio : Nat → Nat) : pickBest order prio = order.foldl (betterPlace prio) none := rfl

section
variable {prio : Nat → Nat} {a : Nat} (h : ∀ k, k ≠ a → prio k = 0)

theorem betterPlace_same {best : Option Nat} (hb : best = none ∨ best = some a) (h0 : prio a ≠ 0) :
    betterPlace prio best a = some a := by
  unfold betterPlace
  rw [if_neg h0]
  rcases hb with rfl | rfl
  · rfl
  · exact if_neg (Nat.lt_irrefl _)

include h

theorem foldl_betterPlace (l : List Nat) {best : Option Nat} (hb : best = none ∨ best = some a) :
    l.foldl (betterPlace prio) best = if best = some a ∨ (a ∈ l ∧ prio a ≠ 0) then some a else none := by
  induction l generalizing best with
  | nil =>
    rcases hb with rfl | rfl
    · rfl
    · rw [if_pos (.inl rfl)]
      rfl
  | cons k l ih =>
    rw [List.foldl_cons]
    by_cases h0 : prio k = 0
    · have stays : betterPlace prio best k = best := if_pos h0
      rw [stays, ih hb]
      by_cases hk : a = k
      · subst hk
        simp only [h0, ne_eq, not_true_eq_false, and_false, or_false]
      · simp only [List.mem_cons, hk, false_or]
    · have hk : k = a := Decidable.byContradiction fun ne => h0 (h k ne)
      subst hk
      rw [betterPlace_same hb h0, ih (.inr rfl), if_pos (.inl rfl), if_pos (.inr ⟨List.mem_cons_self, h0⟩)]

/-- The best of places of which only one may be asked for. -/
theorem pickBest_only {order : List Nat} : pickBest order prio = if a ∈ order ∧ prio a ≠ 0 then some a else none := by
  rw [pickBest_eq, foldl_betterPlace h _ (.inl rfl)]
  simp only [reduceCtorEq, false_or]

end

theorem mem_fromPtr {a : Nat} (h : a < 17) (p : Nat) : a ∈ fromPtr p :=
  List.mem_map.2 ⟨(a + 17 - p % 17) % 17, List.mem_range.2 (Nat.mod_lt _ (by decide)), by omega⟩

theorem filterMap_single {α : Type} {l : List Nat} {a : Nat} {x : α} (hl : l.Nodup) (ha : a ∈ l) :
    l.filterMap (fun k => if k = a then some x else none) = [x] := by
  induction l with
  | nil => cases ha
  | cons k l ih =>
    obtain ⟨notIn, rest⟩ := List.nodup_cons.1 hl
    rw [List.filterMap_cons]
    by_cases hk : k = a
    · subst hk
      have others : l.filterMap (fun j => if j = k then some x else none) = [] :=
        List.filterMap_eq_nil_iff.2 fun j hj => if_neg fun (eq : j = k) => notIn (eq ▸ hj)
      rw [if_pos rfl, others]
    · rw [if_neg hk]
      exact ih rest ((List.mem_cons.1 ha).resolve_left (Ne.symm hk))

/-- A request of one input for one output. -/
def oneRequest (I O w : Nat) (i o : Nat) : Nat := if I = i ∧ O = o then w else 0

theorem request_one (e : VoqEnt) (i o : Nat) : request [e] i o = oneRequest e.input e.output e.prio i o := by
  unfold request oneRequest
  rw [List.foldl_cons, List.foldl_nil, Nat.zero_max]

/-- The places that no pair of an earlier iteration holds. -/
def inFree (done : List (Nat × Nat)) (i : Nat) : Bool := done.all (fun e => decide (e.1 ≠ i))
def outFree (done : List (Nat × Nat)) (o : Nat) : Bool := done.all (fun e => decide (e.2 ≠ o))

/-- R220: what the outputs grant. -/
def grantsOf (req : Nat → Nat → Nat) (gp : Map Nat) (done : List (Nat × Nat)) : List (Nat × Nat) :=
  ((List.range 17).filter (outFree done)).filterMap (fun o =>
    (pickBest ((fromPtr (Map.get gp o 0)).filter (inFree done)) (fun i => req i o)).map (fun i => (i, o)))

theorem iterateMatch_eq (req : Nat → Nat → Nat) (gp ap : Map Nat) (done : List (Nat × Nat)) : iterateMatch req gp ap done =
    ((List.range 17).filter (inFree done)).filterMap (fun i =>
      (pickBest ((fromPtr (Map.get ap i 0)).filter
        (fun o => (((grantsOf req gp done).filter (fun g => decide (g.1 = i))).map (·.2)).contains o)) (fun o => req i o)).map (fun o => (i, o))) := rfl

theorem iterateMatch_idle {req : Nat → Nat → Nat} (h : ∀ i o, req i o = 0) (gp ap : Map Nat) (done : List (Nat × Nat)) :
    iterateMatch req gp ap done = [] := by
  rw [iterateMatch_eq]
  refine List.filterMap_eq_nil_iff.2 fun i _ => ?_
  rw [pickBest_only (a := 0) (fun k _ => h i k), if_neg fun hk => hk.2 (h i 0)]
  rfl

section
variable {I O w : Nat}

theorem oneRequest_input (o : Nat) : ∀ k, k ≠ I → oneRequest I O w k o = 0 := fun _ h => if_neg fun hk => h hk.1.symm
theorem oneRequest_output (i : Nat) : ∀ k, k ≠ O → oneRequest I O w i k = 0 := fun _ h => if_neg fun hk => h hk.2.symm
theorem oneRequest_self : oneRequest I O w I O = w := if_pos ⟨rfl, rfl⟩

/-- Without grants nothing is accepted. -/
theorem iterateMatch_ungranted {gp ap : Map Nat} {done : List (Nat × Nat)} (h : grantsOf (oneRequest I O w) gp done = []) :
    iterateMatch (oneRequest I O w) gp ap done = [] := by
  rw [iterateMatch_eq, h]
  refine List.filterMap_eq_nil_iff.2 fun i _ => ?_
  rw [pickBest_only (oneRequest_output i), if_neg fun hk => Bool.false_ne_true (List.mem_filter.1 hk.1).2]
  rfl

theorem grantsOf_second (gp : Map Nat) : grantsOf (oneRequest I O w) gp [(I, O)] = [] := by
  have held : inFree [(I, O)] I = false := by
    unfold inFree
    rw [List.all_cons, decide_eq_false (not_not.2 rfl)]
    rfl
  refine List.filterMap_eq_nil_iff.2 fun o _ => ?_
  rw [pickBest_only (oneRequest_input o), if_neg fun hk => ?_]
  · rfl
  · have free := (List.mem_filter.1 hk.1).2
    rw [held] at free
    cases free

variable (hI : I < 17) (hO : O < 17) (hw : w ≠ 0)
include hI hO hw

theorem grantsOf_first (gp : Map Nat) : grantsOf (oneRequest I O w) gp [] = [(I, O)] := by
  have each (o : Nat) : (pickBest ((fromPtr (Map.get gp o 0)).filter (inFree [])) (fun i => oneRequest I O w i o)).map (fun i => (i, o)) =
      if o = O then some (I, O) else none := by
    have there : I ∈ (fromPtr (Map.get gp o 0)).filter (inFree []) := List.mem_filter.2 ⟨mem_fromPtr hI _, rfl⟩
    rw [pickBest_only (oneRequest_input o)]
    by_cases ho : o = O
    · subst ho
      rw [if_pos ⟨there, by rw [oneRequest_self]; exact hw⟩, if_pos rfl]
      rfl
    · rw [if_neg fun hk => hk.2 (oneRequest_output I o ho), if_neg ho]
      rfl
  unfold grantsOf
  simp only [each]
  exact filterMap_single (List.Nodup.filter _ List.nodup_range) (List.mem_filter.2 ⟨List.mem_range.2 hO, rfl⟩)

theorem iterateMatch_first (gp ap : Map Nat) : iterateMatch (oneRequest I O w) gp ap [] = [(I, O)] := by
  have each (i : Nat) : (pickBest ((fromPtr (Map.get ap i 0)).filter
      (fun o => ((([(I, O)] : List (Nat × Nat)).filter (fun g => decide (g.1 = i))).map (·.2)).contains o))
      (fun o => oneRequest I O w i o)).map (fun o => (i, o)) = if i = I then some (I, O) else none := by
    rw [pickBest_only (oneRequest_output i)]
    by_cases hi : i = I
    · subst hi
      have mine : ((([(i, O)] : List (Nat × Nat)).filter (fun g => decide (g.1 = i))).map (·.2)).contains O = true := by simp
      rw [if_pos ⟨List.mem_filter.2 ⟨mem_fromPtr hO _, mine⟩, by rw [oneRequest_self]; exact hw⟩, if_pos rfl]
      rfl
    · rw [if_neg fun hk => hk.2 (oneRequest_input O i hi), if_neg hi]
      rfl
  rw [iterateMatch_eq, grantsOf_first hI hO hw]
  simp only [each]
  exact filterMap_single (List.Nodup.filter _ List.nodup_range) (List.mem_filter.2 ⟨List.mem_range.2 hI, rfl⟩)

end

theorem prio_ne_zero (e : VoqEnt) : e.prio ≠ 0 := by
  unfold VoqEnt.prio
  split <;> omega

theorem inOrder_one (e : VoqEnt) : inOrder [] [e] = [e] := rfl

/-- The pairs of a cell time. -/
def matched (req : Nat → Nat → Nat) (gp ap : Map Nat) : List (Nat × Nat) :=
  let it := iterateMatch req gp ap
  let m1 := it []
  let m2 := m1 ++ it m1
  m2 ++ it m2

/-- The pointers move on from the pairs of the first iteration. -/
def pointersMoved (m1 : List (Nat × Nat)) (d : Dev) : Dev :=
  { d with fab := { d.fab with
    grantPtr := m1.foldl (fun m e => Map.put m e.2 ((e.1 + 1) % 17)) d.fab.grantPtr
    acceptPtr := m1.foldl (fun m e => Map.put m e.1 ((e.2 + 1) % 17)) d.fab.acceptPtr } }

/-- What the whisk does with its pairs. -/
theorem whiskMatch_eq {d : Dev} (hw : awake d = true) : ∃ n, whiskMatch d =
    (matched (request (readyVoq (noteStalls d))) (noteStalls d).fab.grantPtr (noteStalls d).fab.acceptPtr).foldl (fun d io => carryCell io d)
      (perfEvent 4 0x201 n (pointersMoved (iterateMatch (request (readyVoq (noteStalls d))) (noteStalls d).fab.grantPtr
        (noteStalls d).fab.acceptPtr []) (noteStalls d))) := by
  unfold whiskMatch
  rw [hw]
  exact ⟨_, rfl⟩

theorem matched_idle {req : Nat → Nat → Nat} (h : ∀ i o, req i o = 0) (gp ap : Map Nat) : matched req gp ap = [] := by
  unfold matched
  simp only [iterateMatch_idle h, List.append_nil]

theorem matched_one {I O w : Nat} (hI : I < 17) (hO : O < 17) (hw : w ≠ 0) (gp ap : Map Nat) :
    matched (oneRequest I O w) gp ap = [(I, O)] := by
  unfold matched
  simp only [iterateMatch_first hI hO hw, iterateMatch_ungranted (grantsOf_second gp), List.append_nil]

section
variable {e : VoqEnt} {d : Dev}

theorem readyVoq_one (h : d.fab.voq = [e]) : readyVoq d = if entryCredit e d then [e] else [] := by
  unfold readyVoq
  rw [h, inOrder_one]
  split
  next hc => exact List.filter_cons_of_pos hc
  next hc => exact List.filter_cons_of_neg hc

/-- The only entry that waits has no credit: it stays. -/
theorem whiskMatch_blocked (hw : awake d = true) (h : d.fab.voq = [e]) (hc : entryCredit e d = false) :
    (whiskMatch d).que = d.que ∧ (whiskMatch d).fab.voq = [e] ∧ (whiskMatch d).fab.arrived = d.fab.arrived := by
  obtain ⟨n, eq⟩ := whiskMatch_eq hw
  obtain ⟨stalled, kept⟩ := noteEntry_parts d e
  rw [noteStalls_one h] at eq
  have voq : (noteEntry d e).fab.voq = [e] := by rw [stalled.fab, h]
  have none_ready : readyVoq (noteEntry d e) = [] := by
    rw [readyVoq_one voq, entryCredit_of_kept kept, hc]
    rfl
  have idle (i o : Nat) : request (readyVoq (noteEntry d e)) i o = 0 := by
    rw [none_ready]
    rfl
  rw [matched_idle idle, iterateMatch_idle idle] at eq
  rw [eq]
  generalize noteEntry d e = f at *
  refine ⟨stalled.que, voq, ?_⟩
  rw [← stalled.fab]
  rfl

theorem carry_one (e : VoqEnt) : carry e.sameVoq 240 [e] =
    (if e.left ≤ 240 then [] else [{ e with left := e.left - 240, started := true, frames := [] }], if e.started then [] else [e]) := by
  have mine : (!e.sameVoq e || decide (240 = 0)) = false := by
    unfold VoqEnt.sameVoq
    simp
  unfold carry
  rw [mine, if_neg Bool.false_ne_true]
  by_cases hl : e.left ≤ 240
  · rw [if_pos hl, Nat.min_eq_right hl]
    exact if_pos (Nat.le_refl _)
  · rw [if_neg hl, Nat.min_eq_left (Nat.le_of_not_le hl)]
    exact if_neg hl

theorem cellSeen_only (l : List Nat) (ev : Nat) (d : Dev) :
    Only [.obs] d (l.foldl (fun d k => if k = 8 then d else perfEvent k ev 1 d) d) :=
  Only.foldl (fun d _ => .ite (fun _ => .refl _ d) (fun _ => perfEvent_only _ _ _ d)) l d

/-- A cell of the only entry is carried. -/
theorem carryCell_one (h : d.fab.voq = [e]) (hc : entryCredit e d = true) :
    (carryCell (e.input, e.output) d).que = d.que ∧
    (carryCell (e.input, e.output) d).fab.voq = (if e.left ≤ 240 then [] else [{ e with left := e.left - 240, started := true, frames := [] }]) ∧
    (carryCell (e.input, e.output) d).fab.arrived = d.fab.arrived ++ (if e.started then [] else arrivals e) := by
  have ready : readyVoq d = [e] := by
    rw [readyVoq_one h, if_pos hc]
  have top : request [e] e.input e.output = e.prio := by
    rw [request_one, oneRequest_self]
  have found : [e].find? (fun x => decide (x.input = e.input ∧ x.output = e.output ∧ x.prio = e.prio)) = some e :=
    List.find?_cons_of_pos (by simp)
  have begun : (if e.started then [] else [e]).flatMap arrivals = if e.started then [] else arrivals e := by
    split
    · rfl
    · exact List.flatMap_singleton arrivals e
  unfold carryCell
  dsimp -zeta only
  extract_lets r t
  have isReady : r = [e] := ready
  have isTop : t = e.prio := (congrArg (fun l => request l e.input e.output) isReady).trans top
  rw [isReady, isTop, found]
  dsimp -zeta only
  extract_lets c d1 d2
  have is : c = carry e.sameVoq 240 [e] := congrArg (carry e.sameVoq 240) h
  have seen : Only [.obs] d1 d2 := .ite (fun _ => .refl _ d1) (fun _ => perfEvent_only _ _ _ d1)
  have told : Only [.obs] d2 (perfEvent 4 0x200 1 (e.dsts.foldl (fun d k => if k = 8 then d else perfEvent k 0x091 1 d) d2)) :=
    (cellSeen_only e.dsts 0x091 d2).trans (perfEvent_only _ _ _ _)
  rw [(seen.trans told).que, (seen.trans told).fab]
  refine ⟨rfl, ?_, ?_⟩
  · change c.1 = _
    rw [is, carry_one]
  · change d.fab.arrived ++ c.2.flatMap arrivals = _
    rw [is, carry_one]
    exact congrArg _ begun

/-- The only entry that waits is carried. -/
theorem whiskMatch_carries (hw : awake d = true) (h : d.fab.voq = [e]) (hc : entryCredit e d = true) (hI : e.input < 17) (hO : e.output < 17) :
    (whiskMatch d).que = d.que ∧
    (whiskMatch d).fab.voq = (if e.left ≤ 240 then [] else [{ e with left := e.left - 240, started := true, frames := [] }]) ∧
    (whiskMatch d).fab.arrived = d.fab.arrived ++ (if e.started then [] else arrivals e) := by
  obtain ⟨n, eq⟩ := whiskMatch_eq hw
  obtain ⟨stalled, kept⟩ := noteEntry_parts d e
  rw [noteStalls_one h] at eq
  have voq : (noteEntry d e).fab.voq = [e] := by rw [stalled.fab, h]
  have ready : readyVoq (noteEntry d e) = [e] := by
    rw [readyVoq_one voq, entryCredit_of_kept kept, if_pos hc]
  have asks : request (readyVoq (noteEntry d e)) = oneRequest e.input e.output e.prio := by
    rw [ready]
    exact funext fun i => funext fun o => request_one e i o
  rw [asks, matched_one hI hO (prio_ne_zero e), List.foldl_cons, List.foldl_nil] at eq
  rw [eq]
  generalize iterateMatch _ _ _ _ = m1
  have moved : (perfEvent 4 0x201 n (pointersMoved m1 (noteEntry d e))).fab.voq = [e] := voq
  have credit : entryCredit e (perfEvent 4 0x201 n (pointersMoved m1 (noteEntry d e))) = true :=
    (entryCredit_of_kept kept e).trans hc
  obtain ⟨que, left, arrived⟩ := carryCell_one moved credit
  refine ⟨que.trans stalled.que, left, arrived.trans ?_⟩
  rw [← stalled.fab]
  rfl

end

/-! ### Arrival and residue (R228, R245) -/

theorem fabricArrival_eq {die k : Nat} {f : Frame} {d : Dev} (hk : (if die = 4 then 8 else die) = k)
    (hf : d.fab.arrived.find? (fun e => decide (e.1 = k)) = some (k, f)) : fabricArrival die d =
      deliver k f { d with fab := { d.fab with arrived := d.fab.arrived.filter (fun e => !(decide (e.1 = k ∧ e.2.id = f.id))) } } := by
  subst hk
  unfold fabricArrival
  dsimp only
  rw [hf]

section
variable {die : Nat} {r : Residue} {x : QueuePrm} {d : Dev} (hr : d.fab.residues = [r]) (hd : r.die = die) (hx : frameQueue r.frame d = some x)
include hr hd hx

omit hx in
theorem residueHeads_one : residueHeads die d.fab.residues = [r] := by
  rw [hr]
  exact if_pos hd

theorem residueEnter_admitted {d1 : Dev} (h : admitColoured true r.frame.queue r.frame x (residueColour r.frame) d = .admitted d1) :
    residueEnter die d = { d1 with fab := { d1.fab with residues := d1.fab.residues.filter (fun e => e.frame.id ≠ r.frame.id) } } := by
  have tried : residueTry r d = some d1 := by
    unfold residueTry
    rw [hx]
    dsimp only
    rw [h]
  have found : [r].find? (fun r => (residueTry r d).isSome) = some r := List.find?_cons_of_pos (by rw [tried]; rfl)
  unfold residueEnter
  rw [residueHeads_one hr hd, found]
  dsimp only
  rw [tried]
  rfl

theorem residueEnter_refused (h : ∀ d2, admitColoured true r.frame.queue r.frame x (residueColour r.frame) d ≠ .admitted d2) :
    residueEnter die d = d := by
  have tried : residueTry r d = none := by
    unfold residueTry
    rw [hx]
    dsimp only
    split
    next d2 hd2 => exact absurd hd2 (h d2)
    · rfl
  have found : [r].find? (fun r => (residueTry r d).isSome) = none :=
    (List.find?_cons_of_neg (by rw [tried]; exact Bool.false_ne_true)).trans rfl
  unfold residueEnter
  rw [residueHeads_one hr hd, found]

end

/-! ### A lifetime ends (R228) -/

/-- The first of a die's copies to end. -/
def earlier (die : Nat) (a r : Residue) : Residue := if r.die = die ∧ r.deadline < a.deadline then r else a

theorem foldl_earlier (die : Nat) (l : List Residue) {a : Residue} (ha : a.die = die) :
    (l.foldl (earlier die) a = a ∨ l.foldl (earlier die) a ∈ l) ∧ (l.foldl (earlier die) a).die = die ∧
      (l.foldl (earlier die) a).deadline ≤ a.deadline ∧ ∀ x ∈ l, x.die = die → (l.foldl (earlier die) a).deadline ≤ x.deadline := by
  induction l generalizing a with
  | nil => exact ⟨.inl rfl, ha, Nat.le_refl _, fun x h => absurd h List.not_mem_nil⟩
  | cons y l ih =>
    rw [List.foldl_cons]
    by_cases hy : y.die = die ∧ y.deadline < a.deadline
    · rw [show earlier die a y = y from if_pos hy]
      obtain ⟨from_, there, least, all⟩ := ih hy.1
      refine ⟨.inr ?_, there, Nat.le_trans least (Nat.le_of_lt hy.2), fun x hx hd => ?_⟩
      · exact from_.elim (fun h => List.mem_cons.2 (.inl h)) (List.mem_cons_of_mem _)
      · exact (List.mem_cons.1 hx).elim (fun h => h ▸ least) (fun h => all x h hd)
    · rw [show earlier die a y = a from if_neg hy]
      obtain ⟨from_, there, least, all⟩ := ih ha
      refine ⟨from_.imp id (List.mem_cons_of_mem _), there, least, fun x hx hd => ?_⟩
      rcases List.mem_cons.1 hx with rfl | h
      · exact Nat.le_trans least (Nat.not_lt.1 fun h => hy ⟨hd, h⟩)
      · exact all x h hd

/-- A residue copy is dropped, and counted at its die and its port. -/
def residueDropped (die : Nat) (r : Residue) (d : Dev) : Dev :=
  let d := { d with fab := { d.fab with residues := d.fab.residues.filter (fun e => e.frame.id ≠ r.frame.id) } }
  bump .fab die 7 (match frameQueue r.frame d with | some x => bump .fport x.port 1 d | none => d)

theorem residueExpiry_eq {die : Nat} {d : Dev} {r0 : Residue} (h : d.fab.residues.find? (fun r => decide (r.die = die)) = some r0) :
    residueExpiry die d = residueDropped die (d.fab.residues.foldl (earlier die) r0)
      (waitTicks (d.fab.residues.foldl (earlier die) r0).deadline d) := by
  unfold residueExpiry
  rw [h]
  rfl

theorem residueDropped_residues (die : Nat) (r : Residue) (d : Dev) :
    (residueDropped die r d).fab.residues = d.fab.residues.filter (fun e => e.frame.id ≠ r.frame.id) := by
  unfold residueDropped
  dsimp only
  split <;> rfl

theorem residueDropped_counts (die : Nat) (r : Residue) (d : Dev) :
    cntGet .fab die 7 (residueDropped die r d) = (cntGet .fab die 7 d + 1) % 2 ^ 48 := by
  have c1 : CntBlock.fab.code = 10 := rfl
  have c2 : CntBlock.fport.code = 25 := rfl
  unfold residueDropped
  extract_lets left cut
  rw [show ∀ e, cntGet .fab die 7 (bump .fab die 7 e) = (cntGet .fab die 7 e + 1) % 2 ^ 48 from fun e => cntGet_bumpBy _ _ _ _ _]
  split
  next x _ =>
    have apart : cntKey .fab die 7 ≠ cntKey .fport x.port 1 := by
      unfold cntKey
      rw [c1, c2]
      omega
    rw [(bump_kept cut apart).cntGet_eq]
    rfl
  · rfl

/-! ### Buckets and sweeps (R254, R256) -/

section
variable {die k : Nat} {d : Dev}

/-- One shaper of the set, refilled. -/
def shaperRefilled (die : Nat) (d : Dev) (k : Nat) (b : Buckets) : Buckets :=
  if k / 65536 = die then
    match shaperPrm k d with
    | some p => ⟨(refill p.cir p.cbs b.c b.cRes).1, (refill p.pir p.pbs b.p b.pRes).1, (refill p.cir p.cbs b.c b.cRes).2,
        (refill p.pir p.pbs b.p b.pRes).2⟩
    | none => b
  else b

/-- One meter of the set, refilled. -/
def meterRefilled (die : Nat) (d : Dev) (k : Nat) (b : Buckets) : Buckets :=
  if k / 65536 = die then
    match Map.get? (prm d).meters k with
    | some p => ⟨(refill p.cir p.cbs b.c b.cRes).1, (refill p.rate2 p.burst2 b.p b.pRes).1, (refill p.cir p.cbs b.c b.cRes).2,
        (refill p.rate2 p.burst2 b.p b.pRes).2⟩
    | none => b
  else b

theorem refillDie_parts (die : Nat) (d : Dev) : Only [.que, .act] d (refillDie die d) ∧ (refillDie die d).que.queues = d.que.queues ∧
    (∀ k, Map.get? (refillDie die d).que.shapers k = (Map.get? d.que.shapers k).map (shaperRefilled die d k)) ∧
    (∀ k, Map.get? (refillDie die d).que.meters k = (Map.get? d.que.meters k).map (meterRefilled die d k)) := by
  have shaper (e : Nat × Buckets) : (if e.1 / 65536 = die then match shaperPrm e.1 d with
      | some p => (e.1, (⟨(refill p.cir p.cbs e.2.c e.2.cRes).1, (refill p.pir p.pbs e.2.p e.2.pRes).1, (refill p.cir p.cbs e.2.c e.2.cRes).2,
          (refill p.pir p.pbs e.2.p e.2.pRes).2⟩ : Buckets))
      | none => e
    else e) = (e.1, shaperRefilled die d e.1 e.2) := by
    unfold shaperRefilled
    split
    · split <;> rfl
    · rfl
  have meter (e : Nat × Buckets) : (if e.1 / 65536 = die then match Map.get? (prm d).meters e.1 with
      | some p => (e.1, (⟨(refill p.cir p.cbs e.2.c e.2.cRes).1, (refill p.rate2 p.burst2 e.2.p e.2.pRes).1, (refill p.cir p.cbs e.2.c e.2.cRes).2,
          (refill p.rate2 p.burst2 e.2.p e.2.pRes).2⟩ : Buckets))
      | none => e
    else e) = (e.1, meterRefilled die d e.1 e.2) := by
    unfold meterRefilled
    split
    · split <;> rfl
    · rfl
  refine ⟨.intro rfl, rfl, fun k => ?_, fun k => ?_⟩
  · rw [← Map.get?_map]
    exact congrArg (fun m : Map Buckets => Map.get? m k) (List.map_congr_left fun e _ => shaper e)
  · rw [← Map.get?_map]
    exact congrArg (fun m : Map Buckets => Map.get? m k) (List.map_congr_left fun e _ => meter e)

/-- One queue, swept. -/
def queueSwept (die : Nat) (d : Dev) (q : Nat) (y : Queue) : Queue :=
  if queueDie q = die && y.frames.isEmpty then
    match Map.get? (prm d).queues q, y.fprev with
    | some x, some f => if precedes64 (classSt x.port x.cls d).vc f then y else { y with fprev := none }
    | _, _ => y
  else y

theorem queueSwept_frames (q : Nat) (y : Queue) : (queueSwept die d q y).frames = y.frames := by
  unfold queueSwept
  split
  · split
    · split <;> rfl
    · rfl
  · rfl

theorem sfqIdleSweep_parts (die : Nat) (d : Dev) : Only [.que] d (sfqIdleSweep die d) ∧
    ∀ q, Map.get? (sfqIdleSweep die d).que.queues q = (Map.get? d.que.queues q).map (queueSwept die d q) := by
  have sweep (e : Nat × Queue) : (if queueDie e.1 = die && e.2.frames.isEmpty then
      match Map.get? (prm d).queues e.1, e.2.fprev with
      | some x, some f => if precedes64 (classSt x.port x.cls d).vc f then e else (e.1, { e.2 with fprev := none })
      | _, _ => e
    else e) = (e.1, queueSwept die d e.1 e.2) := by
    unfold queueSwept
    split
    · split
      · split <;> rfl
      · rfl
    · rfl
  refine ⟨.intro rfl, fun q => ?_⟩
  rw [← Map.get?_map]
  exact congrArg (fun m : Map Queue => Map.get? m q) (List.map_congr_left fun e _ => sweep e)

end

/-! ### Reading a spilled queue ahead (R214) -/

theorem readFrame_reads {die : Nat} {f : Frame} {d d1 : Dev} (h1 : f.blocks.foldl (fun e b => fetchPath b e) d = d1) :
    (readFrame die f d).1 = { f with readBack := true, unverified := f.blocks } ∧ (readFrame die f d).2.que = d.que ∧
      cntGet .mem 0 1 (readFrame die f d).2 = (cntGet .mem 0 1 d1 + f.blocks.length) % 2 ^ 48 := by
  refine ⟨rfl, (readFrame_only die f d).que, ?_⟩
  have eq : (readFrame die f d).2 = oweSpill die 0 (512 * f.blocks.length) (perfEvent die 0x093 (8 * f.blocks.length)
      (perfEvent 4 0x210 f.blocks.length (bumpBy .mem 0 1 f.blocks.length d1))) := by
    rw [← h1]
    rfl
  rw [eq]
  exact (CntKept.of_only (q := cntKey .mem 0 1) (oweSpill_only _ _ _ _)).cntGet_eq.trans (cntGet_bumpBy .mem 0 1 _ d1)

section
variable {q : Nat} {f : Frame} {d : Dev} (hq : (queueAt q d).frames = [f]) (hs : f.spilled = true) (hr : f.readBack = false)
  (hl : f.data.length + 4 ≤ 16384) (hu : unwritten f d = false)
include hq hs hr hl hu

theorem prefetchNext_one : prefetchNext q d = some f := by
  have held : [f].filter (fun f => f.readBack) = [] := List.filter_cons_of_neg (by rw [hr]; exact Bool.false_ne_true)
  have found : [f].find? (fun f => f.spilled && !f.readBack) = some f := List.find?_cons_of_pos (by rw [hs, hr]; rfl)
  unfold prefetchNext
  rw [hq]
  dsimp only
  rw [held, found]
  exact if_pos ⟨by simpa using hl, hu⟩

/-- The queue with its frame read. -/
def queueRead (q : Nat) (f g : Frame) (d : Dev) : Dev :=
  setQueue q { queueAt q d with frames := (queueAt q d).frames.map (fun x => if x.id = f.id then g else x) } d

theorem prefetch_one : prefetch q (queueAt q d).frames.length d =
    queueRead q f (readFrame (queueDie q) f d).1 (readFrame (queueDie q) f d).2 := by
  have length : (queueAt q d).frames.length = 1 := by rw [hq]; rfl
  rw [length]
  unfold prefetch
  rw [prefetchNext_one hq hs hr hl hu]
  rfl

end

/-- Settles O48, event by event. -/
theorem queuesAndFabricMove : Obligations.QueuesAndFabricMove := by
  intro s d hd
  refine ⟨fun hw => onDev_next hd ?_, fun e hw h hc => ⟨_, onDev_next hd rfl, withDev_otp .., ?_⟩,
    fun e hw hc h hI hO _ => ⟨_, onDev_next hd rfl, withDev_otp .., ?_⟩, fun die k f hk hf => onDev_next hd (fabricArrival_eq hk hf),
    fun die r x d1 hr hdie hx => ⟨fun h => ?_, fun h => onDev_next hd (residueEnter_refused hr hdie hx h)⟩, fun die h => ?_,
    fun die => ⟨_, onDev_next hd rfl, withDev_otp .., ?_⟩, fun die => ⟨_, onDev_next hd rfl, withDev_otp .., ?_⟩,
    fun h x hx => onDev_next hd ?_, fun die n q f d1 hq hfr hs hr hl hu serv h1 => ?_, fun die n q hq serv => onDev_next hd ?_⟩
  · unfold whiskMatch
    rw [hw]
    rfl
  · rw [withDev_dev]
    exact whiskMatch_blocked hw h hc
  · rw [withDev_dev]
    exact whiskMatch_carries hw h hc hI hO
  · refine ⟨_, onDev_next hd (residueEnter_admitted hr hdie hx h), withDev_otp .., ?_⟩
    rw [withDev_dev]
    exact ⟨rfl, rfl⟩
  · obtain ⟨r0, h0⟩ := Option.isSome_iff_exists.1 (List.find?_isSome.2 (List.any_eq_true.1 h))
    have hdie : r0.die = die.val := by simpa using List.find?_some h0
    have there : r0 ∈ d.fab.residues := List.mem_of_find?_eq_some h0
    obtain ⟨from_, fdie, -, least⟩ := foldl_earlier die.val d.fab.residues hdie
    refine ⟨_, d.fab.residues.foldl (earlier die.val) r0, onDev_next hd (residueExpiry_eq h0), withDev_otp .., ?_⟩
    rw [withDev_dev]
    generalize d.fab.residues.foldl (earlier die.val) r0 = first at *
    have waited := waitTicks_only first.deadline d
    refine ⟨from_.elim (fun h => h ▸ there) id, fdie, least, ?_, ?_⟩
    · rw [residueDropped_residues, waited.fab]
    · rw [residueDropped_counts]
      unfold cntGet
      rw [waited.cnt]
  · obtain ⟨only, queues, shapers, meters⟩ := refillDie_parts die.val d
    rw [withDev_dev]
    generalize refillDie die.val d = e at *
    refine ⟨only.fab, only.cnt, queues, fun k p b hk hp hb => ?_, fun k p b hk hp hb => ?_, fun k hk => ⟨?_, ?_⟩⟩
    · rw [shapers, hb, Option.map_some]
      unfold shaperRefilled
      rw [if_pos hk, hp]
    · rw [meters, hb, Option.map_some]
      unfold meterRefilled
      rw [if_pos hk, hp]
    · rw [shapers, show shaperRefilled die.val d k = id from funext fun b => if_neg hk, Option.map_id_fun]
      rfl
    · rw [meters, show meterRefilled die.val d k = id from funext fun b => if_neg hk, Option.map_id_fun]
      rfl
  · obtain ⟨only, queues⟩ := sfqIdleSweep_parts die.val d
    rw [withDev_dev]
    generalize sfqIdleSweep die.val d = e at *
    refine ⟨only.cnt, fun q x f y hq hy empty hf hx => ?_, fun q => ?_⟩
    · have swept : (decide (queueDie q = die.val) && y.frames.isEmpty) = true := by
        rw [decide_eq_true hq, empty]
        rfl
      rw [queues, hy, Option.map_some]
      unfold queueSwept
      rw [if_pos (by simpa using swept), hx, hf]
    · unfold queueAt Map.get
      rw [queues]
      cases Map.get? d.que.queues q with
      | none => rfl
      | some y => exact queueSwept_frames q y
  · unfold queueFlushComplete
    rw [hx]
  · subst hq
    obtain ⟨read, same, counted⟩ := readFrame_reads (die := queueDie (2 ^ 18 * die.val + n % 2 ^ 18)) h1
    have eq : spillReadback die.val n d = _ := (if_pos serv).trans (prefetch_one hfr hs hr hl hu)
    refine ⟨_, onDev_next hd eq, withDev_otp .., ?_⟩
    rw [withDev_dev]
    generalize readFrame (queueDie (2 ^ 18 * die.val + n % 2 ^ 18)) f d = g at *
    refine ⟨?_, counted⟩
    have frames : (queueAt (2 ^ 18 * die.val + n % 2 ^ 18) g.2).frames = [f] := by
      unfold queueAt
      rw [same]
      exact hfr
    unfold queueRead
    rw [queueAt_setQueue, frames, read, List.map_cons, if_pos rfl]
    rfl
  · subst hq
    unfold spillReadback
    dsimp only
    rw [serv]
    rfl

end Sys2Proof.Machine
end

section
/-! Frames cut out of the queues, and the quarantine of a region (R360, R366). -/
namespace Sys2Proof.Machine

set_option Elab.async false

/-! ### Frames that are cut (R360) -/

/-- No frame that has not started has data in the blocks meant. -/
def Dropped (hit : Nat → Bool) (d : Dev) : Prop := ∀ f ∈ notStarted d, touches hit f = false

/-- Every frame being sent with data in the blocks meant is stomped. -/
def Stomped (hit : Nat → Bool) (d : Dev) : Prop := ∀ e ∈ d.que.sending, touches hit e.2.frame = true → e.2.stomp = true

section
variable {l : List Part} {d e : Dev} (h : Only l d e)
include h

theorem Only.notStarted (hq : Part.que.inList l = false := by exact rfl) (hf : Part.fab.inList l = false := by exact rfl)
    (ha : Part.act.inList l = false := by exact rfl) : notStarted e = notStarted d := by
  unfold Machine.notStarted
  rw [waitingFrames_of_parts (h.que hq) (h.fab hf), h.act ha]

theorem Only.dropped {hit : Nat → Bool} (g : Dropped hit d) (hq : Part.que.inList l = false := by exact rfl)
    (hf : Part.fab.inList l = false := by exact rfl) (ha : Part.act.inList l = false := by exact rfl) : Dropped hit e := by
  unfold Dropped
  rw [h.notStarted hq hf ha]
  exact g

theorem Only.stomped {hit : Nat → Bool} (g : Stomped hit d) (hq : Part.que.inList l = false := by exact rfl) : Stomped hit e := by
  unfold Stomped
  rw [h.que hq]
  exact g

end

theorem cutFrames_only (p : Frame → Bool) (d : Dev) : Only [.que, .fab, .act] d (cutFrames p d) := .intro rfl

theorem keep_subset (p : Frame → Bool) (q : Queue) : (q.keep p).frames ⊆ q.frames := by
  unfold Queue.keep
  dsimp only
  split
  · exact List.nil_subset _
  · exact fun _ hf => (List.mem_filter.1 hf).1

theorem waitingFrames_keepFrames (p : Frame → Bool) (d : Dev) : waitingFrames (keepFrames p d) ⊆ waitingFrames d := by
  intro f hf
  unfold waitingFrames at hf ⊢
  simp only [List.mem_append, List.mem_flatMap, List.mem_map] at hf ⊢
  rcases hf with (((⟨e, he, hf⟩ | ⟨e, he, hf⟩) | ⟨e, he, hf⟩) | ⟨e, he, hf⟩) | ⟨e, he, hf⟩
  · obtain ⟨y, hy, rfl⟩ := List.mem_map.1 he
    exact .inl (.inl (.inl (.inl ⟨y, hy, keep_subset p y.2 hf⟩)))
  · obtain ⟨y, hy, rfl⟩ := List.mem_map.1 (List.mem_filter.1 he).1
    exact .inl (.inl (.inl (.inr ⟨y, hy, (List.mem_filter.1 hf).1⟩)))
  · exact .inl (.inl (.inr ⟨e, (List.mem_filter.1 he).1, hf⟩))
  · exact .inl (.inr ⟨e, (List.mem_filter.1 he).1, hf⟩)
  · obtain ⟨y, hy, rfl⟩ := List.mem_map.1 he
    exact .inr ⟨y, hy, (List.mem_filter.1 hf).1⟩

theorem mem_notStarted_cutFrames {p : Frame → Bool} {d : Dev} {f : Frame} (h : f ∈ notStarted (cutFrames p d)) :
    p f = false ∧ f ∈ notStarted d := by
  rcases List.mem_append.1 h with hw | he
  · have waits : f ∈ waitingFrames (keepFrames (fun f => !p f) d) := hw
    exact ⟨by simpa using keepFrames_waiting _ _ f waits, List.mem_append.2 (.inl (waitingFrames_keepFrames _ _ waits))⟩
  · obtain ⟨x, hx, rfl⟩ := List.mem_map.1 he
    obtain ⟨there, kept⟩ := List.mem_filter.1 hx
    exact ⟨by simpa using kept, List.mem_append.2 (.inr (List.mem_map.2 ⟨x, there, rfl⟩))⟩

theorem cutFrames_dropped (hit : Nat → Bool) (d : Dev) : Dropped hit (cutFrames (touches hit) d) :=
  fun _ hf => (mem_notStarted_cutFrames hf).1

theorem cutFrames_stomped (hit : Nat → Bool) (d : Dev) : Stomped hit (cutFrames (touches hit) d) := stompSending_stomps _

theorem Dropped.cut {hit : Nat → Bool} {d : Dev} (h : Dropped hit d) (p : Frame → Bool) : Dropped hit (cutFrames p d) :=
  fun f hf => h f (mem_notStarted_cutFrames hf).2

/-! ### Regions over other units -/

theorem region_of_parts {d e : Dev} (hc : e.cfg = d.cfg) (hm : e.mem = d.mem) (r : Nat) : region r e = region r d := by
  unfold region
  rw [prm_of_cfg hc, hm]

theorem Only.region {l : List Part} {d e : Dev} (h : Only l d e) (r : Nat) (hc : Part.cfg.inList l = false := by exact rfl)
    (hm : Part.mem.inList l = false := by exact rfl) : region r e = region r d := region_of_parts (h.cfg hc) (h.mem hm) r

/-! ### Quarantine (R366) -/

/-- Is the region out of service already? -/
def outAlready (r : Nat) (d : Dev) : Prop :=
  (region r d).state = .quarantined ∨ (region r d).state = .heldOut ∨ (region r d).state = .rebuilding

/-- Has a block its place in the region? -/
abbrev inRegion (r b : Nat) : Bool := decide (blockRegion b = r)

/-- A region as its quarantine leaves it. -/
def outOfService (x : Region) (d : Dev) : Region :=
  { x with state := .quarantined, quarantines := recentQuarantines x d ++ [d.time.elapsed], next := none, handle := none }

theorem quarantine_out {r cause : Nat} {d : Dev} (h : outAlready r d) : quarantine r cause d = d := if_pos h

/-- The counters that no quarantine and no alarm moves. -/
def Uncut (q : Nat) : Prop := Untold q ∧ ∀ k ∈ [7, 8, 9, 10], q ≠ cntKey .mem 0 k

theorem cntGet_bump (b : CntBlock) (i k : Nat) (d : Dev) : cntGet b i k (bump b i k d) = (cntGet b i k d + 1) % 2 ^ 48 :=
  cntGet_bumpBy b i k 1 d

theorem quarantine_in {r cause : Nat} {d : Dev} (h : ¬outAlready r d) :
    Only [.host, .obs, .cnt, .out, .mem] (cutFrames (touches (inRegion r)) d) (quarantine r cause d) ∧
    (quarantine r cause d).mem = { d.mem with regions := Map.put d.mem.regions r (outOfService (region r d) d)
                                              queue := d.mem.queue.filter (· ≠ r) } ∧
    (∀ q, Uncut q → q ≠ cntKey .mem 0 11 → CntKept q d (quarantine r cause d)) ∧
    cntGet .mem 0 11 (quarantine r cause d) = (cntGet .mem 0 11 d + 1) % 2 ^ 48 := by
  unfold quarantine
  extract_lets x p n m d1 qs d2 m2 d3 d4
  have serves : ¬(x.state = .quarantined ∨ x.state = .heldOut ∨ x.state = .rebuilding) := h
  rw [if_neg serves]
  have cut : Only [.que, .fab, .act] d (cutFrames p d) := cutFrames_only p d
  have counted : Only [.cnt] (cutFrames p d) d1 := (bumpBy_only _ _ _ _ _).comp (bumpBy_only _ _ _ _ _)
  have moved : Only [.mem] d1 d3 := .intro rfl
  have mem3 : d3.mem = { d.mem with regions := Map.put d.mem.regions r (outOfService x d), queue := d.mem.queue.filter (· ≠ r) } := rfl
  have cnt1 : ∀ q, q ≠ cntKey .mem 0 8 → q ≠ cntKey .mem 0 10 → CntKept q d d1 := fun q h8 h10 =>
    (CntKept.of_only cut).trans ((bumpBy_kept n _ h10).trans (bumpBy_kept m _ h8))
  have e4 : d4 = settle x.handle none .internalError [] d3 := rfl
  have told : Only [.host, .obs, .cnt, .out] d3 d4 := e4 ▸ settle_only x.handle none .internalError [] d3
  have cnt4 : ∀ q, Untold q → CntKept q d3 d4 := fun q hq => e4 ▸ settle_kept hq x.handle none .internalError [] d3
  clear_value d4 d3 d1 qs
  generalize le 1 r ++ le 1 cause ++ le 1 (b2n (decide (3 ≤ qs.length))) ++ zeros 1 ++ le 4 n = data
  have bumped := bump_only .mem 0 11 d4
  have noted := notifyRecord_only 0x61 (dieTarget 8) data (bump .mem 0 11 d4)
  have kept : ∀ q, Uncut q → CntKept q d d4 := fun q hq =>
    ((cnt1 q (hq.2 8 (by decide)) (hq.2 10 (by decide))).trans (.of_only moved)).trans (cnt4 q hq.1)
  have uncut : Uncut (cntKey .mem 0 11) := ⟨⟨by decide, by decide⟩, by decide⟩
  refine ⟨(counted.comp moved (n := [.host, .obs, .cnt, .out, .mem])).andThen
    ((told.comp bumped (n := [.host, .obs, .cnt, .out])).andThen noted), ?_, fun q hq h11 => ?_, ?_⟩
  · rw [noted.mem, bumped.mem, told.mem, mem3]
  · exact ((kept q hq).trans (bump_kept d4 h11)).trans (notifyRecord_kept hq.1 _ _ _ _)
  · rw [(notifyRecord_kept uncut.1 0x61 (dieTarget 8) data _).cntGet_eq, cntGet_bump, (kept _ uncut).cntGet_eq]

theorem region_of_put {r : Nat} {x : Region} {e : Dev} (h : Map.get? e.mem.regions r = some x) : region r e = x := by
  unfold region Map.get
  rw [h]
  rfl

theorem region_quarantine {r cause : Nat} {d : Dev} (h : ¬outAlready r d) :
    region r (quarantine r cause d) = outOfService (region r d) d := by
  obtain ⟨-, mem, -⟩ := quarantine_in (cause := cause) h
  exact region_of_put (by rw [mem]; exact Map.get?_put ..)

theorem regionOpen_quarantined {r : Nat} {d : Dev} (h : (region r d).state = .quarantined) (o : Nat) : regionOpen o r d = false := by
  unfold regionOpen shownState
  rw [h]
  rfl

/-- Settles O50: the frames are cut first; what follows touches no queue. -/
theorem quarantineTakesARegionOut : Obligations.QuarantineTakesARegionOut := by
  intro r cause d
  refine ⟨quarantine_out, fun hq hh hr => ?_⟩
  have serves : ¬outAlready r d := fun h => h.elim hq (·.elim hh hr)
  have state : (region r (quarantine r cause d)).state = .quarantined := congrArg Region.state (region_quarantine serves)
  obtain ⟨only, mem, -, counted⟩ := quarantine_in (cause := cause) serves
  exact ⟨state, regionOpen_quarantined state, only.dropped (cutFrames_dropped _ d), only.stomped (cutFrames_stomped _ d),
    by rw [mem], counted⟩

end Sys2Proof.Machine
end

section
/-! The stockpot's events (R353, R359, R360, R362 to R364, R366). -/
namespace Sys2Proof.Machine

set_option Elab.async false

/-! ### Writing a block (R353) -/

/-- The one node that an eviction writes back or lets go. -/
def evictNode (k : Nat) (d : Dev) : Dev :=
  if (node (k / 2 ^ 20) (k % 2 ^ 20) d).dirty then writeBack (k / 2 ^ 20) (k % 2 ^ 20) d
  else setNode (k / 2 ^ 20) (k % 2 ^ 20) { node (k / 2 ^ 20) (k % 2 ^ 20) d with cached := false } d

theorem evictOne_eq (keep : List Nat) (d : Dev) :
    evictOne keep d = (fresh d).2 ∨ ∃ k, evictOne keep d = evictNode k (fresh d).2 := by
  unfold evictOne
  extract_lets cs
  have eq : (match fresh d with
      | (v, d) => match cs[v % cs.length]? with
        | none => d
        | some k => evictNode k d) = (fresh d).2 ∨ ∃ k, (match fresh d with
      | (v, d) => match cs[v % cs.length]? with
        | none => d
        | some k => evictNode k d) = evictNode k (fresh d).2 := by
    dsimp only
    split
    · exact .inl rfl
    next k _ => exact .inr ⟨k, rfl⟩
  exact eq

theorem evictNode_writes (k : Nat) (d : Dev) : (evictNode k d).mem.writes = d.mem.writes := by
  unfold evictNode
  split <;> rfl

theorem evictOne_writes (keep : List Nat) (d : Dev) : (evictOne keep d).mem.writes = d.mem.writes := by
  rcases evictOne_eq keep d with h | ⟨k, h⟩
  · rw [h]
    rfl
  · rw [h, evictNode_writes]
    rfl

theorem fetchPath_writes (block : Nat) (d : Dev) : (fetchPath block d).mem.writes = d.mem.writes := by
  unfold fetchPath
  extract_lets path
  refine foldl_keeps (v := fun e => e.mem.writes) (fun d k => ?_) path d
  have evicted := evictOne_writes path d
  dsimp only
  generalize evictOne path d = e at *
  split
  · rfl
  · split
    · exact evicted
    · rfl

theorem counter_put (block w : Nat) (d : Dev) : blockCounter block (setNode 0 (block / 16)
    { node 0 (block / 16) d with counters := Map.put (node 0 (block / 16) d).counters (block % 16) w, dirty := true } d) = w := by
  unfold blockCounter nodeCounter
  generalize hx : ({ node 0 (block / 16) d with counters := Map.put (node 0 (block / 16) d).counters (block % 16) w, dirty := true } : Node) = x
  have there : node 0 (block / 16) (setNode 0 (block / 16) x d) = x := by
    unfold node Map.get
    rw [show (setNode 0 (block / 16) x d).mem.nodes = Map.put d.mem.nodes (nodePlace 0 (block / 16)) x from rfl, Map.get?_put]
    rfl
  rw [there, ← hx, if_neg (by decide)]
  unfold Map.get
  rw [Map.get?_put]
  rfl

theorem blockWrite_eq (block : Nat) (data : Bytes) {d d1 : Dev} (h1 : fetchPath block d = d1) {w : Nat} {c : Bytes}
    (hw : blockCounter block d1 + 1 = w) (hc : blockCrypt (region (blockRegion block) d1).ke block w (slice data 0 512) = c) :
    Only [.mem, .obs, .cnt] d1 (blockWrite block data d) ∧ blockCounter block (blockWrite block data d) = w ∧
    (blockWrite block data d).mem.writes = d1.mem.writes ∧
    (blockWrite block data d).mem.blocks = Map.put d1.mem.blocks block ⟨c, blockMacs (region (blockRegion block) d1).km block w c⟩ ∧
    cntGet .mem 0 0 (blockWrite block data d) = (cntGet .mem 0 0 d1 + 1) % 2 ^ 48 := by
  subst hw hc
  unfold blockWrite
  rw [h1]
  refine ⟨.intro rfl, ?_, rfl, rfl, cntGet_bump .mem 0 0 _⟩
  exact counter_put block _ d1

/-- The device that has taken the oldest gathered block. -/
def writing (rest : List (Nat × Bytes)) (d : Dev) : Dev := { d with mem := { d.mem with writes := rest } }

theorem stockpotBlockWrite_eq {d : Dev} {block : Nat} {data : Bytes} {rest : List (Nat × Bytes)}
    (h : d.mem.writes = (block, data) :: rest) : stockpotBlockWrite d =
      perfEvent (blockOwner block (writing rest d)) 0x092 8 (blockWrite block data (writing rest d)) := by
  unfold stockpotBlockWrite
  rw [h]
  rfl

/-! ### Alarms (R360) -/

/-- What alarms and quarantines may reach besides the frames. -/
abbrev alarmParts : List Part := [.host, .obs, .cnt, .out, .mem]

theorem raiseAlarm_only (block cause level outcome : Nat) (d : Dev) (f : Frame) :
    Only alarmParts d (raiseAlarm block cause level outcome d f) := by
  unfold raiseAlarm
  extract_lets e
  have counted : Only [.cnt] d e := (bump_only _ _ _ d).trans (bump_only _ _ _ _)
  clear_value e
  have marked : Only [.mem] e { e with mem := { e.mem with lastAlarm := now e } } := .intro rfl
  exact (counted.comp marked (n := alarmParts)).andThen (notifyRecord_only _ _ _ _)

theorem raiseAlarm_kept {q : Nat} (hq : Uncut q) (block cause level outcome : Nat) (d : Dev) (f : Frame) :
    CntKept q d (raiseAlarm block cause level outcome d f) := by
  obtain ⟨untold, apart⟩ := hq
  unfold raiseAlarm
  extract_lets e
  have slot : (match outcome with | 0 => 10 | 1 => 8 | _ => 9) ∈ [7, 8, 9, 10] := by split <;> decide
  have counted : CntKept q d e := (bump_kept d (apart 7 (by decide))).trans (bump_kept _ (apart _ slot))
  clear_value e
  have marked : CntKept q e { e with mem := { e.mem with lastAlarm := now e } } := .refl q e
  exact (counted.trans marked).trans (notifyRecord_kept untold _ _ _ _)

theorem lateAlarm_parts (block cause level : Nat) (hit : Nat → Bool) (d : Dev) :
    Only alarmParts (cutFrames (touches hit) d) (lateAlarm block cause level hit d) ∧
    ∀ q, Uncut q → CntKept q d (lateAlarm block cause level hit d) := by
  unfold lateAlarm
  extract_lets p waiting leaving gone d1 d2 d3 d4
  have raised : ∀ outcome (l : List Frame) e, Only alarmParts e (l.foldl (raiseAlarm block cause level outcome) e) :=
    fun _ l e => Only.foldl (raiseAlarm_only block cause level _) l e
  have kept : ∀ q, Uncut q → ∀ outcome (l : List Frame) e, CntKept q e (l.foldl (raiseAlarm block cause level outcome) e) :=
    fun q hq _ l e => CntKept.foldl (raiseAlarm_kept hq block cause level _) l e
  have cut : ∀ q, CntKept q d d1 := fun q => .of_only (cutFrames_only p d)
  have all : Only alarmParts d1 d4 := ((raised 0 waiting d1).trans (raised 1 leaving d2)).trans (raised 2 gone d3)
  have none : ∀ q, Uncut q → CntKept q d d4 := fun q hq =>
    (((cut q).trans (kept q hq 0 waiting d1)).trans (kept q hq 1 leaving d2)).trans (kept q hq 2 gone d3)
  have same : d1 = cutFrames (touches hit) d := rfl
  clear_value d4 d3 d2 d1
  subst same
  have left : Only [.mem] d4 { d4 with mem := { d4.mem with departed := d4.mem.departed.filter (fun f => !p f) } } := .intro rfl
  exact ⟨all.trans left.mono, fun q hq => none q hq⟩

theorem quarantine_dropped {hit : Nat → Bool} {d : Dev} (h : Dropped hit d) (r cause : Nat) : Dropped hit (quarantine r cause d) := by
  by_cases out : outAlready r d
  · rw [quarantine_out out]
    exact h
  · exact (quarantine_in out).1.dropped (h.cut _)

theorem quarantine_kept {q : Nat} (hq : Uncut q) (h11 : q ≠ cntKey .mem 0 11) (r cause : Nat) (d : Dev) :
    CntKept q d (quarantine r cause d) := by
  by_cases out : outAlready r d
  · rw [quarantine_out out]
    exact .refl q d
  · exact (quarantine_in out).2.2.1 q hq h11

theorem quarantines_dropped {hit : Nat → Bool} (cause : Nat) (rs : List Nat) {d : Dev} (h : Dropped hit d) :
    Dropped hit (rs.foldl (fun d r => quarantine r cause d) d) := by
  induction rs generalizing d with
  | nil => exact h
  | cons r rs ih => exact ih (quarantine_dropped h r cause)

/-! ### Verification (R359, R364) -/

/-- A frame that no longer waits for a block. -/
def unwaiting (block : Nat) (f : Frame) : Frame := { f with unverified := f.unverified.filter (· ≠ block) }

theorem unwaiting_unverified (block : Nat) (f : Frame) : (unwaiting block f).unverified.contains block = false := by
  simp [unwaiting]

theorem waitingFrames_mapFrames (g : Frame → Frame) (d : Dev) : waitingFrames (mapFrames g d) = (waitingFrames d).map g := by
  unfold waitingFrames mapFrames Map.mapVals
  simp only [List.map_append, List.map_map, List.flatMap_map, List.map_flatMap]
  rfl

theorem notStarted_blockPassed (block : Nat) (d : Dev) : notStarted (blockPassed block d) = (notStarted d).map (unwaiting block) := by
  have waits : waitingFrames (blockPassed block d) = (waitingFrames d).map (unwaiting block) := waitingFrames_mapFrames _ d
  have held : (blockPassed block d).act.egg.map (·.frame) = (d.act.egg.map (·.frame)).map (unwaiting block) := by
    unfold blockPassed
    simp only [List.map_map]
    rfl
  unfold notStarted
  rw [waits, held, List.map_append]

theorem sending_blockPassed (block : Nat) (d : Dev) : (blockPassed block d).que.sending =
    Map.mapVals d.que.sending (fun x => { x with frame := unwaiting block x.frame }) := rfl

theorem blockPassed_dropped {hit : Nat → Bool} {d : Dev} (h : Dropped hit d) (block : Nat) : Dropped hit (blockPassed block d) := by
  intro f hf
  rw [notStarted_blockPassed] at hf
  obtain ⟨g, hg, rfl⟩ := List.mem_map.1 hf
  exact h g hg

theorem blockPassed_stomped {hit : Nat → Bool} {d : Dev} (h : Stomped hit d) (block : Nat) : Stomped hit (blockPassed block d) := by
  intro e he
  rw [sending_blockPassed] at he
  obtain ⟨x, hx, rfl⟩ := List.mem_map.1 he
  exact h x hx

theorem verifying_blockPassed (block : Nat) (d : Dev) : verifying block (blockPassed block d) = false := by
  have waits : ∀ f ∈ notStarted (blockPassed block d), f.unverified.contains block = false := fun f hf => by
    rw [notStarted_blockPassed] at hf
    obtain ⟨g, -, rfl⟩ := List.mem_map.1 hf
    exact unwaiting_unverified block g
  unfold verifying allFrames
  refine List.any_eq_false.2 fun f hf => ?_
  rw [Bool.not_eq_true]
  simp only [List.mem_append] at hf
  rcases hf with ((hw | hs) | he) | hg
  · exact waits f (List.mem_append_left _ hw)
  · rw [sending_blockPassed] at hs
    obtain ⟨x, hx, rfl⟩ := List.mem_map.1 hs
    obtain ⟨y, -, rfl⟩ := List.mem_map.1 hx
    exact unwaiting_unverified block y.2.frame
  · exact waits f (List.mem_append_right _ he)
  · obtain ⟨g, -, rfl⟩ := List.mem_map.1 (List.mem_filter.1 hg).1
    exact unwaiting_unverified block g

theorem blockPassed_only (block : Nat) (d : Dev) : Only [.que, .fab, .act, .mem] d (blockPassed block d) := .intro rfl

/-! ### Rebuilds and re-keys (R362, R363, R366) -/

/-- The device without the gathered blocks of a region. -/
def unwrite (r : Nat) (d : Dev) : Dev :=
  { d with mem := { d.mem with writes := d.mem.writes.filter (fun w => decide (blockRegion w.1 ≠ r)) } }

section
variable {r : Nat} {d : Dev} (hq : (region r d).state = .quarantined) (free : regionReferred r (unwrite r d) = false)
include hq free

theorem regionRebuild_eq : regionRebuild r d =
    if 3 ≤ (recentQuarantines (region r d) d).length then setRegion r { region r d with state := .heldOut } (unwrite r d)
    else if d.vault.trng ≠ 0 then unwrite r d else freshRegion r .rebuilding (unwrite r d) := by
  unfold regionRebuild
  dsimp only
  rw [if_neg (fun h => by rw [hq] at h; exact nomatch h.1), if_neg (fun h => h hq)]
  exact if_neg (by rw [Bool.not_eq_true]; exact free)

end

theorem maxCounter_clearNodes (r : Nat) (d : Dev) : maxCounter r (clearNodes r d) = 0 := by
  have none : ∀ e ∈ (clearNodes r d).mem.nodes, nodeRegion (e.1 / 2 ^ 20) (e.1 % 2 ^ 20) ≠ r := fun e he =>
    of_decide_eq_true (List.mem_filter.1 he).2
  unfold maxCounter
  generalize (clearNodes r d).mem.nodes = l at none
  induction l with
  | nil => rfl
  | cons e l ih =>
    rw [List.foldl_cons, if_neg (none e List.mem_cons_self)]
    exact ih fun e he => none e (List.mem_cons_of_mem _ he)

theorem rebuildPassed_eq {r : Nat} {d : Dev} (h : (region r d).state = .rebuilding) : ∃ res, regionRebuildComplete r true d =
    settle (region r d).handle none .ok res (setRegion r { region r d with state := .inService, handle := none } d) := by
  unfold regionRebuildComplete
  dsimp only
  rw [if_neg (fun g => g h), if_pos rfl]
  exact ⟨_, rfl⟩

theorem rebuildFailed_eq {r : Nat} {d : Dev} (h : (region r d).state = .rebuilding) : regionRebuildComplete r false d =
    quarantine r 2 (setRegion r { region r d with state := .inService } d) := (if_neg (fun g => g h)).trans (if_neg Bool.false_ne_true)

theorem rekeyStart_eq {r : Nat} {rest : List Nat} {d : Dev} (hq : d.mem.queue = r :: rest) (hr : rekeying d = none)
    (ht : d.vault.trng = 0) : ∃ m, rekeyStart d = { d with mem := m, free := d.free + 2 } ∧ m.queue = rest ∧
      Map.get? m.regions r = some { region r d with
        state := .rekeying, epoch := (region r d).epoch + 1,
        next := some (le 32 (Config.freeNat d.free), le 32 (Config.freeNat (d.free + 1))) } := by
  unfold rekeyStart
  rw [hq]
  dsimp only
  rw [hr, ht]
  exact ⟨_, rfl, rfl, Map.get?_put ..⟩

section
variable {r : Nat} {d : Dev} (hr : rekeying d = some r)
include hr

theorem rekeyComplete_failed
    (bad : ((usedBlocks d).filter (fun b => decide (blockRegion b = r))).any (fun b => !blockVerifies b d) = true) :
    rekeyComplete d = quarantine r 1 (bump .mem 0 6 d) := by
  unfold rekeyComplete
  rw [hr]
  exact if_pos bad

theorem rekeyComplete_eq {k : Bytes × Bytes} (hn : (region r d).next = some k)
    (good : ((usedBlocks d).filter (fun b => decide (blockRegion b = r))).any (fun b => !blockVerifies b d) = false) :
    ∃ res, rekeyComplete d = settle (region r d).handle none .ok res (bump .mem 0 12
      (setRegion r { region r d with state := .inService, ke := k.1, km := k.2, next := none, handle := none } (rewriteRegion r k d))) := by
  unfold rekeyComplete
  rw [hr]
  dsimp only
  rw [good, hn]
  exact ⟨_, rfl⟩

end

theorem rewriteRegion_only (r : Nat) (k : Bytes × Bytes) (d : Dev) : Only [.mem] d (rewriteRegion r k d) := by
  unfold rewriteRegion
  extract_lets held plain d1 d2
  have cleared : Only [.mem] d d1 := .intro rfl
  have written : Only [.mem] d1 d2 := Only.foldl (fun e x => .intro rfl) plain d1
  clear_value d2 d1
  exact (cleared.trans written).trans (.intro rfl)

/-- Settles O49, event by event. -/
theorem stockpotEventsTakeEffect : Obligations.StockpotEventsTakeEffect := by
  intro s d hd
  refine ⟨fun block data rest d1 hw h1 => ?_, fun block out hv => onDev_next hd (if_pos (by rw [hv]; rfl)),
    fun block hv => ?_, fun r x hx hq free => ?_, fun r x hx hh hhandle ht => onDev_next hd ?_, fun r x hx hs => ?_,
    fun r hs hm => ?_, fun r rest hq hr ht => ?_, fun r k hr hn good => ?_, fun r hr bad => onDev_next hd (rekeyComplete_failed hr bad)⟩
  · obtain ⟨w, hw'⟩ : ∃ w, blockCounter block d1 + 1 = w := ⟨_, rfl⟩
    obtain ⟨c, hc⟩ : ∃ c, blockCrypt (region (blockRegion block) d1).ke block w (slice data 0 512) = c := ⟨_, rfl⟩
    have fetched : fetchPath block (writing rest d) = d1 := h1
    obtain ⟨-, counter, writes, blocks, counted⟩ := blockWrite_eq block data fetched hw' hc
    have kept : d1.mem.writes = rest := fetched ▸ fetchPath_writes block _
    refine ⟨_, w, c, onDev_next hd (stockpotBlockWrite_eq hw), withDev_otp .., ?_⟩
    rw [withDev_dev]
    generalize blockWrite block data (writing rest d) = e at *
    generalize blockOwner block (writing rest d) = o
    refine ⟨writes.trans kept, hw'.symm, hc.symm, counter, ?_, fun b hb => ?_, counted⟩
    · exact (congrArg (fun m => Map.get? m block) blocks).trans (Map.get?_put ..)
    · exact (congrArg (fun m => Map.get? m b) blocks).trans (Map.get?_put_ne _ _ _ _ hb)
  · have verified : ¬(!verifying block d) = true := by rw [hv]; decide
    refine ⟨onDev_next hd (if_neg verified), verifying_blockPassed block d, onDev_next hd (if_neg verified),
      ⟨_, onDev_next hd (if_neg verified), withDev_otp .., ?_⟩, fun l => ⟨_, onDev_next hd (if_neg verified), withDev_otp .., ?_⟩,
      onDev_next hd (if_neg verified), fun l => onDev_next hd (if_neg verified)⟩
    · rw [withDev_dev]
      have cut : ∀ p e, CntKept (cntKey .mem 0 4) e (blockPassed block (cutFrames p e)) := fun p e =>
        .of_only ((cutFrames_only p e).comp (blockPassed_only block _) (n := [.que, .fab, .act, .mem]))
      refine ⟨blockPassed_dropped (cutFrames_dropped _ _) block, blockPassed_stomped (cutFrames_stomped _ _) block, ?_⟩
      rw [(cut _ _).cntGet_eq, cntGet_bump]
    · rw [withDev_dev]
      obtain ⟨only, kept⟩ := lateAlarm_parts block 3 l.val (under l.val block) (bump .mem 0 5 d)
      have uncut : Uncut (cntKey .mem 0 5) := ⟨⟨by decide, by decide⟩, by decide⟩
      refine ⟨quarantines_dropped 3 _ (only.dropped (cutFrames_dropped _ _)), ?_⟩
      have counted := (kept _ uncut).trans
        (CntKept.foldl (fun e r => quarantine_kept uncut (by decide) r 3 e) (regionsUnder l.val block) _)
      rw [counted.cntGet_eq, cntGet_bump]
  · subst hx
    have eq := regionRebuild_eq hq free
    refine ⟨fun hn => ⟨_, onDev_next hd (eq.trans (if_pos hn)), ?_⟩,
      fun hn ht => ⟨_, onDev_next hd (eq.trans ((if_neg (by omega)).trans (if_pos ht))), rfl⟩,
      fun hn ht => ⟨_, onDev_next hd (eq.trans ((if_neg (by omega)).trans (if_neg (fun h => h ht)))), withDev_otp .., rfl, ?_⟩⟩
    · exact region_of_put (Map.get?_put ..)
    · rw [withDev_dev]
      have fresh : region r.val (freshRegion r.val .rebuilding (unwrite r.val d)) =
          { region r.val d with state := .rebuilding, ke := le 32 (Config.freeNat d.free),
                                km := le 32 (Config.freeNat (d.free + 1)), epoch := (region r.val d).epoch + 1, next := none } :=
        region_of_put (Map.get?_put ..)
      rw [fresh]
      exact ⟨rfl, rfl, rfl, maxCounter_clearNodes r.val _⟩
  · exact if_pos ⟨hx ▸ hh, hx ▸ hhandle, ht⟩
  · subst hx
    obtain ⟨res, passed⟩ := rebuildPassed_eq hs
    refine ⟨⟨_, onDev_next hd passed, withDev_otp .., ?_⟩, ⟨_, onDev_next hd (rebuildFailed_eq hs), withDev_otp .., ?_⟩⟩
    · rw [withDev_dev, (settle_only _ _ _ _ _).region]
      exact region_of_put (Map.get?_put ..)
    · have serving : region r.val (setRegion r.val { region r.val d with state := .inService } d) =
        { region r.val d with state := .inService } := region_of_put (Map.get?_put ..)
      have serves : ¬outAlready r.val (setRegion r.val { region r.val d with state := .inService } d) := by
        unfold outAlready
        rw [serving]
        exact fun h => h.elim nofun (·.elim nofun nofun)
      rw [withDev_dev, region_quarantine serves]
      exact ⟨rfl, rfl⟩
  · refine ⟨_, onDev_next hd (if_pos ⟨hs, hm⟩), withDev_otp .., rfl, ?_⟩
    rw [withDev_dev]
    exact region_of_put (Map.get?_put ..)
  · obtain ⟨m, eq, queue, there⟩ := rekeyStart_eq hq hr ht
    refine ⟨_, onDev_next hd eq, withDev_otp .., queue, ?_⟩
    rw [withDev_dev]
    exact region_of_put there
  · have verifies : ((usedBlocks d).filter (fun b => decide (blockRegion b = r))).any (fun b => !blockVerifies b d) = false := by
      rw [← List.not_all_eq_any_not, good]
      rfl
    obtain ⟨res, eq⟩ := rekeyComplete_eq hr hn verifies
    have untold : Untold (cntKey .mem 0 12) := ⟨by decide, by decide⟩
    refine ⟨_, onDev_next hd eq, withDev_otp .., ?_⟩
    rw [withDev_dev, (settle_only _ _ _ _ _).region, (settle_kept untold _ _ _ _ _).cntGet_eq, cntGet_bump]
    refine ⟨region_of_put (Map.get?_put ..), ?_⟩
    have written := (rewriteRegion_only r k d).comp (setRegion_only r { region r d with
      state := .inService, ke := k.1, km := k.2, next := none, handle := none } _) (n := [.mem])
    rw [(CntKept.of_only written).cntGet_eq]

end Sys2Proof.Machine
end

section
/-! Learning and its state table (R195, R197, R200, R201). -/
namespace Sys2Proof.Machine

set_option Elab.async false

/-! ### What learning may reach -/

theorem mirrorLearned_only (die : Nat) (e : LogEv) (d : Dev) : Only [.twin] d (mirrorLearned die e d) := by
  unfold mirrorLearned
  split
  · exact .ite (fun _ => twinPost_only _ d) (fun _ => .refl _ d)
  · exact .refl _ d

theorem logAdd_only (die : Nat) (e : LogEv) (d : Dev) : Only [.cls, .twin] d (logAdd die e d) := by
  unfold logAdd
  extract_lets d1 l
  have told : Only [.twin] d d1 := mirrorLearned_only die e d
  clear_value d1
  refine .ite (fun _ => told.mono) fun _ => ?_
  exact told.comp (.ite (fun _ => .intro rfl) (fun _ => .intro rfl) : Only [.cls] d1 _)

/-- A log takes the event, or is lost; the tables stand. -/
theorem logAdd_cls (die : Nat) (e : LogEv) (d : Dev) : ∃ l m, (logAdd die e d).cls = { d.cls with logs := l, logLost := m } := by
  unfold logAdd
  extract_lets d1 l
  have told : d1.cls = d.cls := (mirrorLearned_only die e d).cls
  clear_value d1
  obtain ⟨_⟩ := d
  obtain ⟨_⟩ := d1
  subst told
  split
  · exact ⟨_, _, rfl⟩
  · split
    · exact ⟨_, _, rfl⟩
    · exact ⟨_, _, rfl⟩

theorem logAdd_mac (die : Nat) (e : LogEv) (d : Dev) : (logAdd die e d).cls.mac = d.cls.mac := by
  obtain ⟨l, m, h⟩ := logAdd_cls die e d
  rw [h]

theorem macSet_only (die pos : Nat) (e : MacEntry) (d : Dev) : Only [.cls] d (macSet die pos e d) := .intro rfl

theorem get?_macSet (die pos : Nat) (e : MacEntry) (d : Dev) : Map.get? (macSet die pos e d).cls.mac (tblPos die pos) = some e :=
  Map.get?_put ..

theorem get?_macSet_ne {die pos k : Nat} (h : k ≠ tblPos die pos) (e : MacEntry) (d : Dev) :
    Map.get? (macSet die pos e d).cls.mac k = Map.get? d.cls.mac k := Map.get?_put_ne _ _ _ _ h

/-! ### A learned address meets an entry (R197) -/

/-- The entry after a source address arrived from `src` at `t` ms. -/
def meets (p : SetParams) (src t : Nat) (e : MacEntry) : MacEntry :=
  if e.lock || e.static || e.pinned then e
  else if e.dest = src then { e with age := 0 }
  else if p.moveHold ≤ msSince t e.lastUpdate then { e with dest := src, lastUpdate := t, remote := false }
  else if e.conflicts = 0 ∨ 10000 ≤ msSince t e.firstConflict then { e with conflicts := 1, firstConflict := t, firstDest := e.dest }
  else if e.conflicts = 1 then { e with conflicts := 2 }
  else { e with dest := e.firstDest, pinned := true, pinUntil := (t + 1000 * p.pinTime) % 2 ^ 32 }

section
variable {die pos src t : Nat} {e : MacEntry} {d : Dev}

theorem learnMeets_fixed (h : (e.lock || e.static || e.pinned) = true) : (learnMeets die pos src t e d).cls = d.cls := by
  unfold learnMeets
  split
  · split <;> rfl
  · split
    · rfl
    · split
      · rfl
      next hs hl hp =>
        rw [Bool.not_eq_true] at hs hl hp
        rw [hs, hl, hp] at h
        exact absurd h (by decide)

/-- What waits for the answers of a move: the counters, the log and the notification leave the tables alone. -/
theorem learnMeets_mac (h : (e.lock || e.static || e.pinned) = false) :
    (learnMeets die pos src t e d).cls.mac = Map.put d.cls.mac (tblPos die pos) (meets (prm d) src t e) := by
  obtain ⟨hls, hp⟩ := Bool.or_eq_false_iff.1 h
  obtain ⟨hl, hs⟩ := Bool.or_eq_false_iff.1 hls
  have free : ∀ {α : Type} (x y : α), (if (e.lock || e.static || e.pinned) = true then x else y) = y := fun x y =>
    if_neg (by rw [h]; decide)
  unfold learnMeets meets
  rw [free, hs, hl, hp, if_neg Bool.false_ne_true, if_neg Bool.false_ne_true, if_neg Bool.false_ne_true]
  by_cases same : e.dest = src
  · rw [if_pos same, if_pos same]
    rfl
  · rw [if_neg same, if_neg same]
    by_cases moved : (prm d).moveHold ≤ msSince t e.lastUpdate
    · rw [if_pos moved, if_pos moved, logAdd_mac]
      rfl
    · rw [if_neg moved, if_neg moved]
      dsimp only
      by_cases first : e.conflicts = 0 ∨ 10000 ≤ msSince t e.firstConflict
      · rw [if_pos first, if_pos first]
        rfl
      · rw [if_neg first, if_neg first]
        by_cases second : e.conflicts = 1
        · rw [if_pos second, if_pos second]
          rfl
        · rw [if_neg second, if_neg second, (notifyRecord_only _ _ _ _).cls]
          rfl

end

theorem learnApply_found {die fid mac src t pos : Nat} {d : Dev} {e : MacEntry} (hp : macFind die fid mac d = some pos)
    (he : Map.get? d.cls.mac (tblPos die pos) = some e) :
    learnApply die (.learn fid mac src t) d = learnMeets die pos src t e d := by
  unfold learnApply
  dsimp only
  rw [hp]
  dsimp only
  rw [he]

/-- Settles O52: what `learnMeets` writes, by whether the entry may change. -/
theorem learningFollowsItsStateTable : Obligations.LearningFollowsItsStateTable := by
  intro die fid mac src t pos d e hp he
  rw [learnApply_found hp he]
  refine ⟨?_, fun k hk => ?_, fun hs hd => ?_, fun hs hl => ?_⟩
  · change _ = some (meets (prm d) src t e)
    by_cases fixed : (e.lock || e.static || e.pinned) = true
    · rw [learnMeets_fixed fixed, he, meets, if_pos fixed]
    · rw [learnMeets_mac (Bool.eq_false_iff.2 fixed), Map.get?_put]
  · by_cases fixed : (e.lock || e.static || e.pinned) = true
    · rw [learnMeets_fixed fixed]
    · rw [learnMeets_mac (Bool.eq_false_iff.2 fixed), Map.get?_put_ne _ _ _ _ hk]
  · unfold learnMeets
    rw [if_pos hs, if_neg hd]
    exact cntGet_bump .cls die 21 d
  · unfold learnMeets
    rw [hs, if_neg Bool.false_ne_true, if_pos hl]
    exact cntGet_bump .cls die 12 d

end Sys2Proof.Machine
end

section
/-! The engines of the tables (R189, R190, R194 to R198, R200, R209, R273). -/
namespace Sys2Proof.Machine

set_option Elab.async false

/-! ### Visiting the entries of a table -/

theorem get?_of_mem {α : Type} {m : Map α} (hm : m.Pairwise (·.1 < ·.1)) {k : Nat} {a : α} (h : (k, a) ∈ m) :
    Map.get? m k = some a := by
  induction m with
  | nil => exact absurd h List.not_mem_nil
  | cons e m ih =>
    obtain ⟨i, b⟩ := e
    obtain ⟨first, rest⟩ := List.pairwise_cons.1 hm
    rcases List.mem_cons.1 h with same | later
    · obtain ⟨rfl, rfl⟩ := Prod.mk.inj same
      exact if_pos rfl
    · exact (if_neg (Nat.ne_of_lt (first _ later))).trans (ih rest later)

theorem mem_ofDie {α : Type} {die k : Nat} {a : α} {m : Map α} : (k, a) ∈ ofDie die m ↔ (k, a) ∈ m ∧ k / 2 ^ 20 = die := by
  unfold ofDie
  rw [List.mem_filter, decide_eq_true_eq]

section
variable {α : Type} {v : Dev → Map α} {f : Dev → Nat × α → Dev}
  (other : ∀ d x j, j ≠ x.1 → Map.get? (v (f d x)) j = Map.get? (v d) j)
include other

/-- Visits to other entries leave an entry alone. -/
theorem foldl_unvisited {j : Nat} {l : List (Nat × α)} (h : ∀ x ∈ l, j ≠ x.1) (d : Dev) :
    Map.get? (v (l.foldl f d)) j = Map.get? (v d) j := by
  induction l generalizing d with
  | nil => rfl
  | cons x l ih => exact (ih (fun y hy => h y (List.mem_cons_of_mem _ hy)) (f d x)).trans (other d x j (h x List.mem_cons_self))

/-- Each entry of a list of places that rise is visited once, as it stood. -/
theorem foldl_visits {g : α → Option α} (own : ∀ d x, Map.get? (v d) x.1 = some x.2 → Map.get? (v (f d x)) x.1 = g x.2)
    {l : List (Nat × α)} (hl : l.Pairwise (·.1 < ·.1)) {k : Nat} {a : α} (h : (k, a) ∈ l) (d : Dev)
    (hd : Map.get? (v d) k = some a) : Map.get? (v (l.foldl f d)) k = g a := by
  induction l generalizing d with
  | nil => exact absurd h List.not_mem_nil
  | cons x l ih =>
    obtain ⟨first, rest⟩ := List.pairwise_cons.1 hl
    rcases List.mem_cons.1 h with rfl | later
    · exact (foldl_unvisited other (fun y hy => Nat.ne_of_lt (first y hy)) (f d (k, a))).trans (own d (k, a) hd)
    · exact ih rest later (f d x) ((other d x k (Nat.ne_of_gt (first _ later))).trans hd)

end

/-! ### Learning by the queue (R189, R273) -/

theorem learnInsert_eq {die : Nat} {d : Dev} {ev : LearnEv} {rest : List LearnEv} (h : Map.get d.cls.learnQ die [] = ev :: rest) :
    learnInsert die d = learnApply die ev
      { (if d.time.rebase = 0 then d else learnTimeRebase d) with
        cls := { (if d.time.rebase = 0 then d else learnTimeRebase d).cls with
          learnQ := Map.put (if d.time.rebase = 0 then d else learnTimeRebase d).cls.learnQ die rest } } := by
  unfold learnInsert
  rw [h]

/-! ### The stash (R189) -/

/-- The table after the retry of a stash entry. -/
def retried {α : Type} (g : Engine α) (m : Map α) (at_ : Nat) : Map α :=
  match (g.drainNext m at_).bind (g.retry m) with
  | some r => r.map
  | none => m

/-- The places where the next retry of each table begins. -/
def nextRetry {α : Type} (g : Engine α) (m : Map α) (n : Map Nat) : Map Nat :=
  match g.drainNext m (Map.get n (16 * g.die + g.t.code) 0) with
  | some k => Map.put n (16 * g.die + g.t.code) ((k + 1) % 64)
  | none => n

theorem nextRetry_ne {α : Type} (g : Engine α) (m : Map α) (n : Map Nat) {j : Nat} (h : j ≠ 16 * g.die + g.t.code) :
    Map.get? (nextRetry g m n) j = Map.get? n j := by
  unfold nextRetry
  split
  · exact Map.get?_put_ne _ _ _ _ h
  · rfl

theorem get_nextRetry_ne {α : Type} (g : Engine α) (m : Map α) (n : Map Nat) {j : Nat} (h : j ≠ 16 * g.die + g.t.code) :
    Map.get (nextRetry g m n) j 0 = Map.get n j 0 := congrArg (Option.getD · 0) (nextRetry_ne g m n h)

theorem get?_nextRetry {α : Type} {g : Engine α} {m : Map α} {n : Map Nat} {k : Nat}
    (h : g.drainNext m (Map.get n (16 * g.die + g.t.code) 0) = some k) :
    Map.get? (nextRetry g m n) (16 * g.die + g.t.code) = some ((k + 1) % 64) := by
  unfold nextRetry
  rw [h]
  exact Map.get?_put ..

theorem countPlaced_only {α : Type} (die : Nat) (r : Placed α) (d : Dev) : Only [.cnt] d (countPlaced die r d) := by
  unfold countPlaced
  extract_lets e
  have moved : Only [.cnt] d e := bumpBy_only _ _ _ _ d
  clear_value e
  exact .ite (fun _ => moved.trans (bump_only _ _ _ _)) (fun _ => moved)

/-- A retry stores its table, and the place where the next begins. -/
theorem drain_cls {α : Type} (g : Engine α) {m : Map α} {set : Map α → Dev → Dev} {put : Map α → Cls → Cls}
    (stores : ∀ m d, (set m d).cls = put m d.cls) {d : Dev}
    (same : ∀ n, put m { d.cls with drainAt := n } = { d.cls with drainAt := n }) :
    (g.drain m set d).cls = put (retried g m (Map.get d.cls.drainAt (16 * g.die + g.t.code) 0))
      { d.cls with drainAt := nextRetry g m d.cls.drainAt } := by
  unfold Engine.drain retried nextRetry
  dsimp only
  cases g.drainNext m (Map.get d.cls.drainAt (16 * g.die + g.t.code) 0) with
  | none => exact (same d.cls.drainAt).symm
  | some k =>
    dsimp only [Option.bind_some]
    cases g.retry m k with
    | none => exact (same _).symm
    | some r => exact (countPlaced_only _ _ _).cls.trans (stores _ _)

theorem Tid.code_injective : Function.Injective Tid.code := by
  intro t u
  cases t <;> cases u <;> decide

theorem stashDrain_parts {die : Nat} {d : Dev} (h : Map.get d.cls.learnQ die [] = []) :
    (stashDrain die d).cls.mac = retried (macEngine die d) d.cls.mac (Map.get d.cls.drainAt (16 * die + Tid.mac.code) 0) ∧
    (stashDrain die d).cls.sci = retried (sciEngine die d) d.cls.sci (Map.get d.cls.drainAt (16 * die + Tid.sci.code) 0) ∧
    (stashDrain die d).cls.pfx4 = retried (pfxEngine false die d) d.cls.pfx4 (Map.get d.cls.drainAt (16 * die + Tid.ipv4.code) 0) ∧
    (stashDrain die d).cls.pfx6 = retried (pfxEngine true die d) d.cls.pfx6 (Map.get d.cls.drainAt (16 * die + Tid.ipv6.code) 0) ∧
    Map.get? (stashDrain die d).cls.drainAt (16 * die + Tid.mac.code) =
      Map.get? (nextRetry (macEngine die d) d.cls.mac d.cls.drainAt) (16 * die + Tid.mac.code) := by
  unfold stashDrain
  rw [h]
  dsimp only [List.isEmpty_nil]
  rw [if_neg (by decide : ¬(!true) = true)]
  have c1 : ((macEngine die d).drain d.cls.mac setMacMap d).cls = _ :=
    drain_cls (macEngine die d) (put := fun m c => { c with mac := m }) (fun _ _ => rfl) (fun _ => rfl)
  generalize (macEngine die d).drain d.cls.mac setMacMap d = e1 at *
  have c2 : ((sciEngine die e1).drain e1.cls.sci setSciMap e1).cls = _ :=
    drain_cls (sciEngine die e1) (put := fun m c => { c with sci := m }) (fun _ _ => rfl) (fun _ => rfl)
  generalize (sciEngine die e1).drain e1.cls.sci setSciMap e1 = e2 at *
  have c3 : ((pfxEngine false die e2).drain e2.cls.pfx4 (setPfxMap false) e2).cls = _ :=
    drain_cls (pfxEngine false die e2) (put := fun m c => { c with pfx4 := m }) (fun _ _ => rfl) (fun _ => rfl)
  generalize (pfxEngine false die e2).drain e2.cls.pfx4 (setPfxMap false) e2 = e3 at *
  have c4 : ((pfxEngine true die e3).drain e3.cls.pfx6 (setPfxMap true) e3).cls = _ :=
    drain_cls (pfxEngine true die e3) (put := fun m c => { c with pfx6 := m }) (fun _ _ => rfl) (fun _ => rfl)
  generalize (pfxEngine true die e3).drain e3.cls.pfx6 (setPfxMap true) e3 = e4 at *
  have g2 : sciEngine die e1 = sciEngine die d := by unfold sciEngine seedOf holesOf; rw [c1]
  have g3 : pfxEngine false die e2 = pfxEngine false die d := by unfold pfxEngine seedOf holesOf; rw [c2, c1]
  have g4 : pfxEngine true die e3 = pfxEngine true die d := by unfold pfxEngine seedOf holesOf; rw [c3, c2, c1]
  have code (t u : Tid) (h : t ≠ u) : 16 * die + t.code ≠ 16 * die + u.code := fun g => h (Tid.code_injective (Nat.add_left_cancel g))
  rw [g2] at c2
  rw [g3] at c3
  rw [g4] at c4
  rw [c4, c3, c2, c1]
  dsimp only
  refine ⟨rfl, ?_, ?_, ?_, ?_⟩
  · exact congrArg (retried _ _) (get_nextRetry_ne _ _ _ (code .sci .mac nofun))
  · exact congrArg (retried _ _) ((get_nextRetry_ne _ _ _ (code .ipv4 .sci nofun)).trans (get_nextRetry_ne _ _ _ (code .ipv4 .mac nofun)))
  · exact congrArg (retried _ _) ((get_nextRetry_ne _ _ _ (code .ipv6 .ipv4 nofun)).trans
      ((get_nextRetry_ne _ _ _ (code .ipv6 .sci nofun)).trans (get_nextRetry_ne _ _ _ (code .ipv6 .mac nofun))))
  · exact (nextRetry_ne _ _ _ (code .mac .ipv6 nofun)).trans
      ((nextRetry_ne _ _ _ (code .mac .ipv4 nofun)).trans (nextRetry_ne _ _ _ (code .mac .sci nofun)))

/-! ### Held-back writes of prefixes (R194) -/

/-- What a held-back write leaves of its entry. -/
def released (e : PfxEntry) : Option PfxEntry := if e.held = some .deleted then none else some { e with held := none }

theorem sieveUp_tables (die k : Nat) (d : Dev) : ∃ m, (sieveUp die k d).cls = { d.cls with sieve := m } := by
  unfold sieveUp
  dsimp only
  split
  · split
    · exact ⟨_, rfl⟩
    · exact ⟨_, rfl⟩
  · exact ⟨_, rfl⟩

theorem sieveDown_tables (k : Nat) (d : Dev) : ∃ m, (sieveDown k d).cls = { d.cls with sieve := m } := by
  unfold sieveDown
  dsimp only
  split
  · exact ⟨_, rfl⟩
  · split
    · exact ⟨_, rfl⟩
    · exact ⟨_, rfl⟩

theorem sieveAdd_tables (v6 : Bool) (die : Nat) (e : PfxEntry) (d : Dev) : ∃ m, (sieveAdd v6 die e d).cls = { d.cls with sieve := m } := by
  unfold sieveAdd
  split
  · exact ⟨_, rfl⟩
  · obtain ⟨_, h⟩ := sieveUp_tables die (sieveKey v6 die e.fid e.len e.prefix_ 0 d) d
    obtain ⟨m, g⟩ := sieveUp_tables die (sieveKey v6 die e.fid e.len e.prefix_ 1 d) (sieveUp die (sieveKey v6 die e.fid e.len e.prefix_ 0 d) d)
    exact ⟨m, g.trans (by rw [h])⟩

theorem sieveDel_tables (v6 : Bool) (die : Nat) (e : PfxEntry) (d : Dev) : ∃ m, (sieveDel v6 die e d).cls = { d.cls with sieve := m } := by
  unfold sieveDel
  split
  · exact ⟨_, rfl⟩
  · obtain ⟨_, h⟩ := sieveDown_tables (sieveKey v6 die e.fid e.len e.prefix_ 0 d) d
    obtain ⟨m, g⟩ := sieveDown_tables (sieveKey v6 die e.fid e.len e.prefix_ 1 d) (sieveDown (sieveKey v6 die e.fid e.len e.prefix_ 0 d) d)
    exact ⟨m, g.trans (by rw [h])⟩

theorem pfxMap_setPfxMap (v6 : Bool) (m : Map PfxEntry) (d : Dev) : pfxMap v6 (setPfxMap v6 m d) = m := by cases v6 <;> rfl

theorem pfxMap_setPfxMap_not (v6 : Bool) (m : Map PfxEntry) (d : Dev) : pfxMap (!v6) (setPfxMap v6 m d) = pfxMap (!v6) d := by
  cases v6 <;> rfl

theorem setPfxMap_mac (v6 : Bool) (m : Map PfxEntry) (d : Dev) : (setPfxMap v6 m d).cls.mac = d.cls.mac := by cases v6 <;> rfl

theorem pfxMap_of_sieve {d e : Dev} (h : ∃ m, e.cls = { d.cls with sieve := m }) (v6 : Bool) : pfxMap v6 e = pfxMap v6 d := by
  obtain ⟨m, h⟩ := h
  unfold pfxMap
  rw [h]

/-- A held-back write stores or removes its own entry of its own family. -/
theorem pfxApply_parts (v6 : Bool) (k : Nat) (e : PfxEntry) (d : Dev) :
    (pfxApply v6 k e d).cls.mac = d.cls.mac ∧ pfxMap (!v6) (pfxApply v6 k e d) = pfxMap (!v6) d ∧
    pfxMap v6 (pfxApply v6 k e d) = (if e.held = none then pfxMap v6 d else match released e with
      | some x => Map.put (pfxMap v6 d) k x
      | none => Map.del (pfxMap v6 d) k) := by
  have stored (m : Map PfxEntry) {f : Dev} (h : ∃ x, f.cls = { (setPfxMap v6 m d).cls with sieve := x }) :
      f.cls.mac = d.cls.mac ∧ pfxMap (!v6) f = pfxMap (!v6) d ∧ pfxMap v6 f = m := by
    refine ⟨?_, (pfxMap_of_sieve h _).trans (pfxMap_setPfxMap_not v6 m d), (pfxMap_of_sieve h _).trans (pfxMap_setPfxMap v6 m d)⟩
    obtain ⟨x, h⟩ := h
    rw [h]
    exact setPfxMap_mac v6 m d
  unfold pfxApply released
  cases h : e.held with
  | none => exact ⟨rfl, rfl, rfl⟩
  | some w =>
    cases w with
    | deleted => exact stored _ (sieveDel_tables ..)
    | added => exact stored _ (sieveAdd_tables ..)
    | changed => exact stored _ ⟨_, rfl⟩

theorem pfxApply_other (v6 : Bool) (d : Dev) (x : Nat × PfxEntry) (j : Nat) (h : j ≠ x.1) :
    Map.get? (pfxMap v6 (pfxApply v6 x.1 x.2 d)) j = Map.get? (pfxMap v6 d) j := by
  rw [(pfxApply_parts v6 x.1 x.2 d).2.2]
  split
  · rfl
  · split
    · exact Map.get?_put_ne _ _ _ _ h
    · exact Map.get?_del_ne _ _ _ h

theorem pfxApply_own (v6 : Bool) (d : Dev) (x : Nat × PfxEntry) (h : Map.get? (pfxMap v6 d) x.1 = some x.2) :
    Map.get? (pfxMap v6 (pfxApply v6 x.1 x.2 d)) x.1 = released x.2 := by
  rw [(pfxApply_parts v6 x.1 x.2 d).2.2]
  obtain ⟨k, e⟩ := x
  dsimp only at h ⊢
  split
  next none =>
    rw [h, released, none, if_neg nofun]
    exact congrArg some (by rw [← none])
  · split
    next x hx => rw [Map.get?_put, hx]
    next hx => rw [Map.get?_del, hx]

/-- The held-back writes of a family on a die. -/
def applyHeld (v6 : Bool) (die : Nat) (d : Dev) : Dev := (ofDie die (pfxMap v6 d)).foldl (fun d e => pfxApply v6 e.1 e.2 d) d

theorem applyHeld_parts (v6 : Bool) (die : Nat) (d : Dev) :
    (applyHeld v6 die d).cls.mac = d.cls.mac ∧ pfxMap (!v6) (applyHeld v6 die d) = pfxMap (!v6) d :=
  ⟨foldl_keeps (v := fun e => e.cls.mac) (f := fun d (e : Nat × PfxEntry) => pfxApply v6 e.1 e.2 d)
      (fun d e => (pfxApply_parts v6 e.1 e.2 d).1) _ d,
    foldl_keeps (v := fun e => pfxMap (!v6) e) (f := fun d (e : Nat × PfxEntry) => pfxApply v6 e.1 e.2 d)
      (fun d e => (pfxApply_parts v6 e.1 e.2 d).2.1) _ d⟩

theorem applyHeld_releases {v6 : Bool} {die k : Nat} {e : PfxEntry} {d : Dev} (sorted : (pfxMap v6 d).Pairwise (·.1 < ·.1))
    (hk : k / 2 ^ 20 = die) (he : Map.get? (pfxMap v6 d) k = some e) : Map.get? (pfxMap v6 (applyHeld v6 die d)) k = released e :=
  foldl_visits (v := pfxMap v6) (pfxApply_other v6) (pfxApply_own v6) (sorted.sublist List.filter_sublist)
    (mem_ofDie.2 ⟨mem_of_get? he, hk⟩) d he

theorem prefixWriteApply_eq (die : Nat) (d : Dev) : prefixWriteApply die d = applyHeld true die (applyHeld false die d) := rfl

/-! ### Aging, clamp and pins (R196 to R198) -/

/-- What a visit of the aging sweeper leaves of an entry. -/
def aged (e : MacEntry) : Option MacEntry :=
  if (e.static || e.lock || e.pinned || e.remote) = true then some e
  else if e.age < 3 then some { e with age := e.age + 1 } else none

theorem tblPos_posOf (k : Nat) : tblPos (k / 2 ^ 20) (posOf k) = k := by
  unfold tblPos posOf
  omega

theorem macRemove_parts (die pos : Nat) (d : Dev) : Only [.cls, .twin] d (macRemove die pos d) ∧
    (macRemove die pos d).cls.sweptAt = d.cls.sweptAt ∧ (macRemove die pos d).cls.learnQ = d.cls.learnQ ∧
    (∀ k, k ≠ tblPos die pos → Map.get? (macRemove die pos d).cls.mac k = Map.get? d.cls.mac k) ∧
    Map.get? (macRemove die pos d).cls.mac (tblPos die pos) = none := by
  unfold macRemove
  cases h : Map.get? d.cls.mac (tblPos die pos) with
  | none => exact ⟨.refl _ d, rfl, rfl, fun _ _ => rfl, h⟩
  | some e =>
    dsimp only
    have removed : Only [.cls] d (setMacMap (Map.del d.cls.mac (tblPos die pos)) d) := .intro rfl
    split
    · exact ⟨removed.mono, rfl, rfl, fun k hk => Map.get?_del_ne _ _ _ hk, Map.get?_del ..⟩
    · obtain ⟨l, m, logged⟩ := logAdd_cls die ⟨e.fid, e.mac, none⟩ (setMacMap (Map.del d.cls.mac (tblPos die pos)) d)
      refine ⟨removed.mono.trans (logAdd_only _ _ _), ?_⟩
      rw [logged]
      exact ⟨rfl, rfl, fun k hk => Map.get?_del_ne _ _ _ hk, Map.get?_del ..⟩

theorem ageVisit_only (k : Nat) (e : MacEntry) (d : Dev) : Only [.cls, .twin, .cnt] d (ageVisit k e d) := by
  unfold ageVisit
  refine .ite (fun _ => .refl _ d) fun _ => .ite (fun _ => (macSet_only _ _ _ d).mono) fun _ => ?_
  exact (macRemove_parts _ _ d).1.comp (bump_only _ _ _ _)

theorem ageVisit_sweptAt (k : Nat) (e : MacEntry) (d : Dev) : (ageVisit k e d).cls.sweptAt = d.cls.sweptAt := by
  unfold ageVisit
  dsimp only
  split
  · rfl
  · split
    · rfl
    · exact (macRemove_parts _ _ d).2.1

theorem ageVisit_other (d : Dev) (x : Nat × MacEntry) (j : Nat) (h : j ≠ x.1) :
    Map.get? (ageVisit x.1 x.2 d).cls.mac j = Map.get? d.cls.mac j := by
  have off : j ≠ tblPos (x.1 / 2 ^ 20) (posOf x.1) := by rw [tblPos_posOf]; exact h
  unfold ageVisit
  dsimp only
  split
  · rfl
  · split
    · exact get?_macSet_ne off _ d
    · exact (macRemove_parts _ _ d).2.2.2.1 j off

theorem ageVisit_own (d : Dev) (x : Nat × MacEntry) (h : Map.get? d.cls.mac x.1 = some x.2) :
    Map.get? (ageVisit x.1 x.2 d).cls.mac x.1 = aged x.2 := by
  have set (e : MacEntry) : Map.get? (macSet (x.1 / 2 ^ 20) (posOf x.1) e d).cls.mac x.1 = some e := by
    have there := get?_macSet (x.1 / 2 ^ 20) (posOf x.1) e d
    rwa [tblPos_posOf] at there
  have removed : Map.get? (macRemove (x.1 / 2 ^ 20) (posOf x.1) d).cls.mac x.1 = none := by
    have there := (macRemove_parts (x.1 / 2 ^ 20) (posOf x.1) d).2.2.2.2
    rwa [tblPos_posOf] at there
  unfold ageVisit aged
  dsimp only
  split
  · exact h
  · split
    · exact set _
    · exact removed

/-- The time at which a sweep begins. -/
def sweepBegun (die : Nat) (d : Dev) : Dev :=
  { waitLine (sweepDue die d) d with
    cls := { (waitLine (sweepDue die d) d).cls with
      sweptAt := Map.put (waitLine (sweepDue die d) d).cls.sweptAt die (waitLine (sweepDue die d) d).time.lineElapsed } }

theorem agingSweep_eq {die : Nat} {d : Dev} (ha : (prm d).agingTime ≠ 0) (hw : awake d = true) :
    agingSweep die d = (ofDie die d.cls.mac).foldl (fun d e => ageVisit e.1 e.2 d) (sweepBegun die d) := by
  have waited := waitLine_only (sweepDue die d) d
  unfold agingSweep sweepBegun
  rw [if_neg (fun h => h.elim ha (fun g => by rw [hw] at g; exact absurd g (by decide)))]
  dsimp only
  rw [waited.cls]

theorem agingSweep_parts {die : Nat} {d : Dev} (ha : (prm d).agingTime ≠ 0) (hw : awake d = true) :
    (agingSweep die d).time = (waitLine (sweepDue die d) d).time ∧
    Map.get? (agingSweep die d).cls.sweptAt die = some (waitLine (sweepDue die d) d).time.lineElapsed := by
  rw [agingSweep_eq ha hw]
  have visited : Only [.cls, .twin, .cnt] (sweepBegun die d) _ :=
    Only.foldl (f := fun d (e : Nat × MacEntry) => ageVisit e.1 e.2 d) (fun d e => ageVisit_only _ _ d) (ofDie die d.cls.mac) _
  refine ⟨visited.time, ?_⟩
  rw [foldl_keeps (v := fun e => e.cls.sweptAt) (fun d e => ageVisit_sweptAt _ _ d)]
  exact Map.get?_put ..

theorem agingSweep_ages {die k : Nat} {e : MacEntry} {d : Dev} (ha : (prm d).agingTime ≠ 0) (hw : awake d = true)
    (sorted : d.cls.mac.Pairwise (·.1 < ·.1)) (he : Map.get? d.cls.mac k = some e) :
    Map.get? (agingSweep die d).cls.mac k = if k / 2 ^ 20 = die then aged e else some e := by
  have begun : Map.get? (sweepBegun die d).cls.mac k = some e := by
    change Map.get? (waitLine (sweepDue die d) d).cls.mac k = some e
    rw [(waitLine_only (sweepDue die d) d).cls]
    exact he
  rw [agingSweep_eq ha hw]
  split
  next here =>
    exact foldl_visits (v := fun d => d.cls.mac) ageVisit_other ageVisit_own (sorted.sublist List.filter_sublist)
      (mem_ofDie.2 ⟨mem_of_get? he, here⟩) (sweepBegun die d) begun
  next away =>
    refine (foldl_unvisited (v := fun d => d.cls.mac) ageVisit_other (fun x hx same => ?_) (sweepBegun die d)).trans begun
    exact away (same ▸ (mem_ofDie.1 hx).2)

theorem pinExpiry_eq {die w : Nat} {d d1 : Dev} (hw : awake d = true) (hn : nextPin die d = some w)
    (h1 : (if w = 0 then d else waitUntil ((d.time.grand / (1000000 * unitsPerNs) + w) * 1000000 * unitsPerNs) d) = d1) :
    pinExpiry die d = setMacMap (d1.cls.mac.map (fun e =>
      if e.1 / 2 ^ 20 = die ∧ pinPassed (msNow d1) e.2 = true then (e.1, unpin (msNow d1) e.2) else e)) d1 := by
  subst h1
  unfold pinExpiry
  rw [hw, hn]
  rfl

/-- A table in which every entry is visited at its place. -/
theorem get?_visited {α : Type} {m : Map α} {k : Nat} {a : α} (h : Map.get? m k = some a) (c : Nat → α → Prop)
    [∀ k a, Decidable (c k a)] (g : α → α) :
    Map.get? (m.map (fun e => if c e.1 e.2 then (e.1, g e.2) else e)) k = some (if c k a then g a else a) := by
  have same : (fun e : Nat × α => if c e.1 e.2 then (e.1, g e.2) else e) = fun e => (e.1, if c e.1 e.2 then g e.2 else e.2) := by
    funext e
    split <;> rfl
  rw [same, Map.get?_map m (fun k a => if c k a then g a else a), h]
  rfl

/-! ### A step of device time (R273) -/

/-- An entry whose times have moved with a step. -/
def rebased (by_ : Int) (e : MacEntry) : MacEntry :=
  { e with lastUpdate := (((e.lastUpdate : Int) + by_) % 4294967296).toNat
           firstConflict := (((e.firstConflict : Int) + by_) % 4294967296).toNat
           pinUntil := (((e.pinUntil : Int) + by_) % 4294967296).toNat }

theorem learnTimeRebase_mac (d : Dev) : (learnTimeRebase d).cls.mac = Map.mapVals d.cls.mac (rebased d.time.rebase) := rfl

/-! ### Unification (R200) -/

/-- The event that the other dies' engines get of a logged one. -/
def unified (e : LogEv) : LearnEv := match e.dest with
  | some x => .copy e.fid e.mac x
  | none => .remove e.fid e.mac

theorem get_postEngine (k : Nat) (ev : LearnEv) (d : Dev) :
    Map.get (postEngine k ev d).cls.learnQ k [] = Map.get d.cls.learnQ k [] ++ [ev] := by
  change Map.get (Map.put _ _ _) _ _ = _
  rw [Map.get, Map.get?_put]
  rfl

theorem get_postEngine_ne {j k : Nat} (h : j ≠ k) (ev : LearnEv) (d : Dev) :
    Map.get (postEngine k ev d).cls.learnQ j [] = Map.get d.cls.learnQ j [] :=
  congrArg (Option.getD · []) (Map.get?_put_ne _ _ _ _ h)

theorem foldl_postEngine {ks : List Nat} (nodup : ks.Nodup) (ev : LearnEv) (d : Dev) (k : Nat) :
    Map.get (ks.foldl (fun d k => postEngine k ev d) d).cls.learnQ k [] =
      Map.get d.cls.learnQ k [] ++ (if k ∈ ks then [ev] else []) := by
  induction ks generalizing d with
  | nil => exact (List.append_nil _).symm
  | cons j ks ih =>
    obtain ⟨apart, rest⟩ := List.nodup_cons.1 nodup
    rw [List.foldl_cons, ih rest]
    by_cases h : k = j
    · subst h
      rw [get_postEngine, if_neg apart, if_pos List.mem_cons_self, List.append_nil]
    · have same : k ∈ j :: ks ↔ k ∈ ks := by rw [List.mem_cons, or_iff_right h]
      rw [get_postEngine_ne h, if_congr same rfl rfl]

theorem unifyPropagate_one {die : Nat} {d : Dev} {e : LogEv} (hu : (prm d).learnUnify = true) (hd : dieUp die d = true)
    (hf : d.host.fwRestarting = false) (hl : Map.get d.cls.logs die [] = [e]) :
    unifyPropagate die d = (otherDies die d).foldl (fun d k => postEngine k (unified e) d)
      { d with cls := { d.cls with logs := Map.put d.cls.logs die [] } } := by
  unfold unifyPropagate
  rw [hu, hd, hf, hl]
  rfl

/-- The resyncs of a die are counted at slot 20. -/
theorem slot_ne {q : Nat} (hq : q % 64 = 20) {slot : Nat} (hs : slot < 20) (b : CntBlock) (k : Nat) : q ≠ cntKey b k slot := by
  unfold cntKey
  generalize b.code * 2 ^ 32 + k = n
  omega

section
variable {q : Nat} (hq : q % 64 = 20)
include hq

theorem countPlaced_kept {α : Type} (die : Nat) (r : Placed α) (d : Dev) : CntKept q d (countPlaced die r d) := by
  have moved := bumpBy_kept r.moves d (slot_ne hq (by decide) .cls die : q ≠ cntKey .cls die 17)
  exact .ite (moved.trans (bump_kept _ (slot_ne hq (by decide) .cls die))) moved

theorem learnApply_copy_kept (k fid mac dest : Nat) (d : Dev) : CntKept q d (learnApply k (.copy fid mac dest) d) := by
  have full : CntKept q d (bump .cls k 10 d) := bump_kept d (slot_ne hq (by decide) .cls k)
  unfold learnApply
  dsimp only
  split
  · split
    · exact .ite (.refl q d) rfl
    · exact .refl q d
  · split
    next x placed =>
      unfold macPlace at placed
      split at placed
      · exact nomatch placed
      · obtain ⟨-, rfl⟩ := Prod.mk.inj (Option.some.inj placed)
        exact countPlaced_kept hq k _ _
    · exact full

theorem resyncCopies_kept (die : Nat) (l : List (Nat × MacEntry)) (d : Dev) :
    CntKept q d (l.foldl (fun d e => (otherDies die d).foldl (fun d k => learnApply k (.copy e.2.fid e.2.mac e.2.dest) d) d) d) :=
  CntKept.foldl (fun d _ => CntKept.foldl (fun d _ => learnApply_copy_kept hq _ _ _ _ d) _ d) l d

end

/-- A resync is a copy of the die's own entries once the stale ones are gone, and is counted. -/
theorem resyncDie_eq (die : Nat) (d : Dev) : ∃ e, resyncDie die d = bump .cls die 20 e ∧ ∀ q, q % 64 = 20 → CntKept q d e := by
  unfold resyncDie
  extract_lets stale d1 own
  have removed : Only [.cls, .twin] d d1 :=
    Only.foldl (f := fun d (e : Nat × MacEntry) => macRemove die (posOf e.1) d) (fun d _ => (macRemove_parts _ _ d).1) stale d
  exact ⟨_, rfl, fun q hq => (CntKept.of_only removed).trans (resyncCopies_kept hq die own d1)⟩

theorem resyncs_count {ks : List Nat} (nodup : ks.Nodup) (k : Nat) (d : Dev) :
    cntGet .cls k 20 (ks.foldl (fun d k => resyncDie k d) d) =
      if k ∈ ks then (cntGet .cls k 20 d + 1) % 2 ^ 48 else cntGet .cls k 20 d := by
  induction ks generalizing d with
  | nil => rfl
  | cons j ks ih =>
    obtain ⟨apart, rest⟩ := List.nodup_cons.1 nodup
    obtain ⟨e, eq, kept⟩ := resyncDie_eq j d
    have slot : cntKey .cls k 20 % 64 = 20 := by
      unfold cntKey
      omega
    rw [List.foldl_cons, ih rest, eq]
    by_cases h : k = j
    · subst h
      rw [if_neg apart, if_pos List.mem_cons_self, cntGet_bump, (kept _ slot).cntGet_eq]
    · have same : k ∈ j :: ks ↔ k ∈ ks := by rw [List.mem_cons, or_iff_right h]
      have away : cntKey .cls k 20 ≠ cntKey .cls j 20 := by
        unfold cntKey
        omega
      rw [if_congr same rfl rfl, ((kept _ slot).trans (bump_kept e away)).cntGet_eq]

/-- Settles O51, engine by engine. -/
theorem tableEnginesTakeEffect : Obligations.TableEnginesTakeEffect := by
  intro s d hd
  refine ⟨fun die ev rest d1 hq h1 => onDev_next hd ?_, fun die hq => ⟨_, onDev_next hd rfl, withDev_otp .., ?_⟩,
    fun die h4 h6 => ⟨_, onDev_next hd (prefixWriteApply_eq _ d), withDev_otp .., ?_⟩,
    fun die ha hw sorted => ⟨_, onDev_next hd rfl, withDev_otp .., ?_⟩,
    fun die hw => ⟨_, onDev_next hd (if_neg (by rw [hw]; decide)), withDev_otp .., ?_⟩,
    fun die w d1 hw hn h1 => ⟨_, onDev_next hd (pinExpiry_eq hw hn h1), withDev_otp .., rfl, ?_⟩,
    ⟨_, onDev_next hd rfl, withDev_otp .., rfl, rfl, ?_⟩,
    fun die e hu up hf hl => ⟨_, onDev_next hd (unifyPropagate_one hu up hf hl), withDev_otp .., ?_⟩,
    fun hu lost hf => ?_, fun h f r hf hr => onDev_next hd ?_⟩
  · subst h1
    exact learnInsert_eq hq
  · obtain ⟨mac, sci, pfx4, pfx6, at_⟩ := stashDrain_parts hq
    rw [withDev_dev]
    refine ⟨mac.trans ?_, sci.trans ?_, pfx4.trans ?_, pfx6.trans ?_, fun k hk => at_.trans (get?_nextRetry hk)⟩
    all_goals
      unfold retried
      generalize Option.bind _ _ = o
      cases o <;> rfl
  · rw [withDev_dev]
    obtain ⟨mac4, other4⟩ := applyHeld_parts false die.val d
    obtain ⟨mac6, other6⟩ := applyHeld_parts true die.val (applyHeld false die.val d)
    refine ⟨mac6.trans mac4, fun k e hk => ⟨fun he => ?_, fun he => ?_⟩⟩
    · exact (congrArg (Map.get? · k) other6).trans (applyHeld_releases (v6 := false) h4 hk he)
    · exact applyHeld_releases (v6 := true) (other4 ▸ h6) hk ((congrArg (Map.get? · k) other4).trans he)
  · obtain ⟨time, swept⟩ := agingSweep_parts (die := die.val) ha hw
    have on : d.sys.power ≠ .sleep ∧ d.sys.power ≠ .off := by
      unfold awake at hw
      constructor <;> intro h <;> rw [h] at hw <;> exact absurd hw (by decide)
    rw [withDev_dev, time]
    refine ⟨waitLine_reaches on.1 on.2, swept, fun k e he => ?_⟩
    rw [agingSweep_ages ha hw sorted he]
    by_cases away : k / 2 ^ 20 = die.val
    · rw [if_pos away, aged, if_congr (or_iff_right (not_not_intro away)) rfl rfl]
    · rw [if_neg away, if_pos (.inl away)]
  · rw [withDev_dev]
    exact fun k e he => get?_visited he (fun k _ => k / 2 ^ 20 = die.val) (clampVisit (msNow d))
  · have same : d1.cls = d.cls := by
      subst h1
      split
      · rfl
      · exact (waitUntil_only _ d).cls
    rw [withDev_dev]
    exact fun k e he => get?_visited (m := d1.cls.mac) (a := e) ((congrArg (fun c : Cls => Map.get? c.mac k) same).trans he)
      (fun k e => k / 2 ^ 20 = die.val ∧ pinPassed (msNow d1) e = true) (unpin (msNow d1))
  · rw [withDev_dev]
    refine fun k e he => ⟨rebased d.time.rebase e, ?_, rfl, rfl, rfl, rfl⟩
    rw [learnTimeRebase_mac, Map.get?_mapVals, he]
    rfl
  · rw [withDev_dev]
    have nodup : (otherDies die.val d).Nodup := List.nodup_range.filter _
    refine ⟨?_, fun k hk => ?_⟩
    · rw [foldl_keeps (f := fun d k => postEngine k (unified e) d) (v := fun e => e.cls.logs) (fun _ _ => rfl)]
      exact congrArg (Option.getD · []) (Map.get?_put ..)
    · rw [foldl_postEngine nodup, if_pos hk]
      rfl
  · have due : ¬(!(prm d).learnUnify || d.cls.logLost.isEmpty || d.host.fwRestarting) = true := by
      rw [hu, hf, Bool.not_eq_true, Bool.or_eq_false_iff, Bool.or_eq_false_iff]
      exact ⟨⟨rfl, by simpa using lost⟩, rfl⟩
    refine ⟨_, onDev_next hd (if_neg due), withDev_otp .., rfl, rfl, fun k hk up => ?_⟩
    rw [withDev_dev]
    have there : k ∈ (List.range 4).filter (fun k => dieUp k d) := List.mem_filter.2 ⟨List.mem_range.2 hk, up⟩
    exact (resyncs_count (List.nodup_range.filter _) k d).trans (if_pos there)
  · subst hr
    unfold tableFlushComplete
    rw [hf]

end Sys2Proof.Machine
end

section
/-! How events move the state of a port (R377 to R379, R390, R391). -/
namespace Sys2Proof.Machine

set_option Elab.async false

/-! ### What leaves the state of a port alone -/

theorem portSt_of_ports {d e : Dev} (h : e.port.ports = d.port.ports) (p : Nat) : portSt p e = portSt p d := by
  unfold portSt
  rw [h]

theorem Only.portSt {l : List Part} {d e : Dev} (h : Only l d e) (p : Nat) (hp : Part.port.inList l = false := by exact rfl) :
    portSt p e = portSt p d := portSt_of_ports (congrArg Ports.ports (h.port hp)) p

theorem onLanes_ports (p : Nat) (g : LaneSt → LaneSt) (d : Dev) : (onLanes p g d).port.ports = d.port.ports :=
  foldl_keeps (f := fun d l => setLaneSt l (g (laneSt l d)) d) (v := fun d => d.port.ports) (fun _ _ => rfl) _ d

theorem endScan_ports (l : Nat) (d : Dev) : (endScan l d).port.ports = d.port.ports := by
  unfold endScan
  split
  · rw [(complete_only _ _ _ _).port]
    rfl
  · rfl

theorem leaveUp_ports (p : Nat) (d : Dev) : (leaveUp p d).port.ports = d.port.ports := by
  unfold leaveUp
  split
  · rfl
  · have lost : Only [.twin, .prot, .host, .obs, .cnt, .out] d (if p = 96 then linkLost d else d) :=
      .ite (fun _ => linkLost_only d) (fun _ => .refl _ d)
    dsimp only
    rw [foldl_keeps (f := fun d l => endScan l d) (v := fun d => d.port.ports) (fun d l => endScan_ports l d)]
    exact congrArg Ports.ports lost.port

/-! ### A port enters a state -/

theorem now_of_time {d e : Dev} (h : e.time = d.time) : now e = now d := by
  unfold now
  rw [h]

/-- A port that has entered a state. -/
def entered (st : LinkSt) (x : PortSt) (d : Dev) : PortSt :=
  { x with state := st, since := now d, sinceTick := d.time.elapsed, lossAt := none }

theorem portSt_portTo (st : LinkSt) (p : Nat) (d : Dev) : portSt p (portTo st p d) = entered st (portSt p d) d := by
  unfold portTo portEnter
  rw [portSt_setPortSt]
  have left : Only [.port, .que, .twin, .prot, .host, .obs, .cnt, .out] d (if st = .up then d else leaveUp p d) :=
    .ite (fun _ => .refl _ d) (fun _ => leaveUp_only p d)
  have same : portSt p (if st = .up then d else leaveUp p d) = portSt p d := by
    split
    · rfl
    · exact portSt_of_ports (leaveUp_ports p d) p
  generalize (if st = .up then d else leaveUp p d) = e at *
  unfold entered
  rw [same, now_of_time left.time, left.time]

theorem startTraining_ports (keep : Bool) (p : Nat) (d : Dev) :
    portSt p (startTraining keep p d) = entered .training (portSt p d) d := by
  have trained (l : Nat) (e : Dev) : (
      let (t, d) := if keep then ((laneSt l e).taps, e) else presetTaps l e
      setLaneSt l { laneSt l d with taps := t, trained := false, readyRun := 0, since := d.time.elapsed } d).port.ports = e.port.ports := by
    cases keep with
    | true => rfl
    | false =>
      have drawn : (presetTaps l e).2.port.ports = e.port.ports := congrArg Ports.ports (presetTaps_only l e).port
      exact drawn
  have lanes := foldl_keeps (v := fun d => d.port.ports) (fun d l => trained l d) (lanesOf p (portTo .training p d)) (portTo .training p d)
  exact (portSt_of_ports lanes p).trans (portSt_portTo .training p d)

theorem trunkStart_state (keep : Bool) (x : PortPrm) (p : Nat) (d : Dev) :
    (portSt p (trunkStart keep x p d)).state = if x.anEnable = true then .an else .training := by
  unfold trunkStart
  split
  · rw [portSt_portTo]
    rfl
  · rw [startTraining_ports]
    rfl

theorem trunkStart_only (keep : Bool) (x : PortPrm) (p : Nat) (d : Dev) : Only portParts d (trunkStart keep x p d) :=
  .ite (fun _ => (anReset_only p d).comp (portTo_only _ _ _)) (fun _ => startTraining_only keep p d)

theorem trunkStart_kept {q : Nat} (hq : Unlost q) (keep : Bool) (x : PortPrm) (p : Nat) (d : Dev) : CntKept q d (trunkStart keep x p d) :=
  .ite ((CntKept.of_only (anReset_only p d)).trans (portTo_kept hq _ _ _)) (startTraining_kept hq keep p d)

theorem portAgain_state {keep : Bool} {x : PortPrm} {p : Nat} {d : Dev} (hx : portPrm p d = some x) :
    (portSt p (portAgain keep p d)).state =
      if x.form ≤ 3 then (if x.anEnable = true then .an else .training) else .aligning := by
  unfold portAgain
  rw [hx]
  dsimp only
  split
  · exact trunkStart_state keep x p d
  · split
    · rw [portSt_portTo]
      rfl
    · rw [portSt_portTo]
      rfl

/-- A port that is up: no loss, no fault. -/
def cameUp (x : PortSt) (d : Dev) : PortSt := { entered .up x d with localFault := false, remoteFault := false }

theorem portSt_portUp (p : Nat) (d : Dev) : portSt p (portUp p d) = cameUp (portSt p d) d := by
  unfold portUp
  extract_lets e1 x e2 e3 e4 e5
  have up : portSt p e1 = entered .up (portSt p d) d := portSt_portTo .up p d
  have clear : portSt p e2 = { portSt p e1 with localFault := false, remoteFault := false } := portSt_setPortSt ..
  have lanes : portSt p e3 = portSt p e2 := portSt_of_ports (onLanes_ports p _ e2) p
  have mile : Only [.sys] e3 e4 := .ite (fun _ => milestone_only 8 e3) (fun _ => .refl _ e3)
  have told : Only [.twin] e4 e5 := .ite
    (fun _ => Only.foldl (f := fun d l => twinPost (.portTaps l (laneSt l d).taps) d) (fun _ _ => twinPost_only _ _) _ e4)
    (fun _ => .refl _ e4)
  clear_value e5 e4 e3 e2 e1
  rw [(trafficCheck_only e5).portSt, told.portSt, mile.portSt, lanes, clear, up]
  rfl

/-! ### Counting on lanes, links that go down -/

theorem bumpLanes_only (p slot : Nat) (d : Dev) : Only [.cnt] d (bumpLanes p slot d) :=
  Only.foldl (f := fun d l => bump .lane l slot d) (fun d _ => bump_only _ _ _ d) _ d

theorem bumpLanes_kept {q p slot : Nat} (h : ∀ l, q ≠ cntKey .lane l slot) (d : Dev) : CntKept q d (bumpLanes p slot d) :=
  CntKept.foldl (f := fun d l => bump .lane l slot d) (fun d l => bump_kept d (h l)) _ d

theorem linkDown_only (p cause : Nat) (d : Dev) : Only [.host, .obs, .cnt, .out] d (linkDown p cause d) :=
  (bump_only .port p 11 d).comp (notifyRecord_only _ _ _ _)

theorem cntKey_mod (b : CntBlock) (i s : Nat) : cntKey b i s % 64 = s % 64 := Nat.mul_add_mod_self_right _ 64 s

theorem cntKey_ne_of_slot {b c : CntBlock} {i j s t : Nat} (h : s % 64 ≠ t % 64) : cntKey b i s ≠ cntKey c j t := fun same =>
  h (by rw [← cntKey_mod b i s, same, cntKey_mod])

/-- Slots 11 and 12 of a port are not those of what follows when it goes down. -/
theorem unlost_of_slot {b : CntBlock} {i s : Nat} (h : s = 11 ∨ s = 12) : Unlost (cntKey b i s) := by
  have away (c : CntBlock) (j t : Nat) (ht : t < 6) : cntKey b i s ≠ cntKey c j t := cntKey_ne_of_slot (by omega)
  exact ⟨⟨away _ _ _ (by decide), away _ _ _ (by decide)⟩, away _ _ _ (by decide), away _ _ _ (by decide)⟩

theorem linkDown_count (p cause : Nat) (d : Dev) : cntGet .port p 11 (linkDown p cause d) = (cntGet .port p 11 d + 1) % 2 ^ 48 := by
  unfold linkDown
  rw [(notifyRecord_kept (unlost_of_slot (.inl rfl)).1 _ _ _ _).cntGet_eq, cntGet_bump]

theorem portIn_of {st : LinkSt} {p : Nat} {d : Dev} (h : (portSt p d).state = st) : portIn st p d = true := decide_eq_true h

/-! ### The events (R377, R378, R390) -/

section
variable {n : Nat} {x : PortPrm} {d : Dev} (hx : portPrm n d = some x)
include hx

theorem portAnComplete_eq {ability : Nat} {agreed : Bool} (ha : (portSt n d).state = .an) (h7 : x.form ≠ 7) :
    portAnComplete n ability agreed d = if (!(agreed && abilityOk x ability)) = true then bump .port n 13 d
      else if x.form ≤ 3 then startTraining false n (setPortSt n { portSt n d with
          anComplete := true, lpAbility := ability, speed := if x.form = 5 then sgmiiSpeed ability else 0 } d)
      else portUp n (setPortSt n { portSt n d with
          anComplete := true, lpAbility := ability, speed := if x.form = 5 then sgmiiSpeed ability else 0 } d) := by
  unfold portAnComplete
  rw [hx]
  dsimp only
  rw [portIn_of ha, decide_eq_false h7, if_neg (by decide)]

theorem portTrainingTimeout_eq (ht : (portSt n d).state = .training) : portTrainingTimeout n d =
    trunkStart false x n (bumpLanes n 6 (bump .port n 12 (waitTicks ((portSt n d).sinceTick + ticksMs 450) d))) := by
  unfold portTrainingTimeout
  rw [hx]
  dsimp only
  rw [portIn_of ht, if_neg (by decide)]

theorem portAligned_eq (ha : (portSt n d).state = .aligning) : ∃ g, portAligned n d =
    if (decide (3 < x.form) && (negotiates x || decide (x.form = 7))) = true then portTo .an n (onLanes n g d)
    else portUp n (onLanes n g d) := by
  unfold portAligned
  rw [hx]
  dsimp only
  rw [portIn_of ha, if_neg (by decide)]
  exact ⟨_, rfl⟩

theorem holdExpiry_eq {t : Nat} {d1 : Dev} (hl : portLinked n d = true) (ht : (portSt n d).lossAt = some t)
    (h1 : waitTicks (t + ticksMs x.linkDownHold) d = d1) :
    holdExpiry n d = portAgain false n (linkDown n (portSt n d1).lossCause d1) := by
  unfold holdExpiry
  rw [ht, hx]
  dsimp only
  rw [hl, h1]
  rfl

theorem partnerRestart_eq (hl : portLinked n d = true) (hn : negotiates x = true) :
    partnerRestart n d = portTo .an n (anReset n (linkDown n 4 d)) := by
  unfold partnerRestart
  rw [hx]
  dsimp only
  rw [hl, hn]
  rfl

end

theorem portAlignTimeout_eq {n : Nat} {d : Dev} (ha : (portSt n d).state = .aligning) : portAlignTimeout n d =
    portAgain false n (bumpLanes n 5 (waitTicks ((portSt n d).sinceTick + ticksMs 10) d)) :=
  if_neg (by rw [portIn_of ha]; decide)

theorem portSt_signalLoss {n : Nat} {d : Dev} (cause : Nat) (hl : portLinked n d = true) (h0 : (portSt n d).lossAt = none) :
    portSt n (signalLoss n cause d) =
      { portSt n d with lossAt := some d.time.elapsed, lossCause := cause, localFault := true } := by
  have due : ¬(!portLinked n d || (portSt n d).lossAt.isSome) = true := by rw [hl, h0]; decide
  unfold signalLoss
  dsimp only
  rw [if_neg due]
  split
  · rw [portSt_of_ports (onLanes_ports _ _ _), portSt_setPortSt]
  · rw [(bumpLanes_only _ _ _).portSt, portSt_of_ports (onLanes_ports _ _ _), portSt_setPortSt]

theorem portSt_signalRestored {n t : Nat} {d : Dev} (hl : portLinked n d = true) (ht : (portSt n d).lossAt = some t) :
    portSt n (signalRestored n d) = { portSt n d with lossAt := none, localFault := false } := by
  have due : ¬(!portLinked n d || (portSt n d).lossAt.isNone) = true := by rw [hl, ht]; exact Bool.false_ne_true
  unfold signalRestored
  dsimp only
  rw [if_neg due, portSt_of_ports (onLanes_ports _ _ _), portSt_setPortSt]

theorem portTo_stomps {n : Nat} {d : Dev} {st : LinkSt} (hs : st ≠ .up) (hu : (portSt n d).state = .up) :
    ∀ e ∈ (portTo st n d).que.sending, e.1 = n → e.2.stomp = true := by
  have left : (portTo st n d).que.sending =
      d.que.sending.map (fun (e : Nat × Sending) => if e.1 = n then (e.1, { e.2 with stomp := true }) else e) := by
    unfold portTo
    rw [if_neg hs, (portEnter_only _ _ _).que]
    unfold leaveUp
    rw [if_neg (fun h => h hu)]
    dsimp only
    exact congrArg Que.sending (Only.foldl (fun d l => endScan_only l d) _ _).que
  rw [left]
  intro e he hn
  obtain ⟨y, -, rfl⟩ := List.mem_map.1 he
  split
  · rfl
  next h => exact absurd (by rwa [if_neg h] at hn) h

/-- Settles O53, event by event. -/
theorem portStatesMove : Obligations.PortStatesMove := by
  intro s d p n x hd hp hx
  subst hp
  generalize hn : portNum p = n at *
  have named {f : Nat → Dev → Dev} {e : Dev} (h : f n d = e) : onDev (f (portNum p)) s = .next (s.withDev e) :=
    onDev_next hd (hn ▸ h)
  refine ⟨fun ability agreed ha h7 => ⟨fun bad => ?_, fun good => ?_⟩,
    fun ht trained => ⟨_, named (f := portTrainingComplete) rfl, withDev_otp .., ?_⟩,
    fun d1 ht h1 => ⟨_, named (portTrainingTimeout_eq hx ht), withDev_otp .., ?_⟩, fun ha => ?_,
    fun d1 ha h1 => ⟨_, named (portAlignTimeout_eq ha), withDev_otp .., ?_⟩,
    fun hu => ⟨_, named (f := remoteFault) (if_pos (portIn_of hu)), withDev_otp .., ?_⟩,
    fun hf => ⟨_, named (f := remoteFaultCleared) (if_pos (portIn_of hf)), withDev_otp .., ?_⟩,
    fun c hl h0 => ⟨_, named (f := fun n => signalLoss n (c.val + 1)) rfl, withDev_otp .., ?_⟩,
    fun t hl ht => ⟨_, named (f := signalRestored) rfl, withDev_otp .., ?_⟩,
    fun t d1 hl ht h1 => ⟨_, named (holdExpiry_eq hx hl ht h1), withDev_otp .., ?_⟩,
    fun hl hneg => ⟨_, named (partnerRestart_eq hx hl hneg), withDev_otp .., ?_⟩⟩
  · exact named (f := fun n => portAnComplete n ability.toNat agreed) ((portAnComplete_eq hx ha h7).trans (if_pos (by rw [bad]; rfl)))
  · have eq := (portAnComplete_eq (ability := ability.toNat) (agreed := agreed) hx ha h7).trans (if_neg (by rw [good]; decide))
    refine ⟨_, named (f := fun n => portAnComplete n ability.toNat agreed) eq, withDev_otp .., ?_⟩
    rw [withDev_dev]
    by_cases trunk : x.form ≤ 3
    · rw [if_pos trunk, if_pos trunk, startTraining_ports, portSt_setPortSt]
      exact ⟨rfl, rfl, rfl⟩
    · rw [if_neg trunk, if_neg trunk, portSt_portUp, portSt_setPortSt]
      exact ⟨rfl, rfl, rfl⟩
  · have all : (lanesOf n d).all (fun l => (laneSt l d).trained) = true := List.all_eq_true.2 trained
    have eq : portTrainingComplete n d = portTo .aligning n d := if_pos (by rw [portIn_of ht, all]; rfl)
    rw [withDev_dev, eq, portSt_portTo]
    exact ⟨rfl, rfl⟩
  · rw [withDev_dev, h1, trunkStart_state]
    have waited := waitTicks_only ((portSt n d).sinceTick + ticksMs 450) d
    rw [h1] at waited
    have counted := (bump_only .port n 12 d1).comp (bumpLanes_only n 6 _) (n := [.cnt])
    have unlost : Unlost (cntKey .port n 12) := unlost_of_slot (.inr rfl)
    refine ⟨(trunkStart_only _ _ _ _).time.trans counted.time, rfl, ?_⟩
    rw [(trunkStart_kept unlost _ _ _ _).cntGet_eq, (bumpLanes_kept (fun _ => cntKey_ne_of_slot (by decide)) _).cntGet_eq,
      cntGet_bump, (CntKept.of_only waited).cntGet_eq]
  · obtain ⟨g, eq⟩ := portAligned_eq hx ha
    refine ⟨_, named eq, withDev_otp .., ?_⟩
    rw [withDev_dev]
    by_cases speaks : 3 < x.form ∧ (negotiates x = true ∨ x.form = 7)
    · rw [if_pos speaks, if_pos (by simpa using speaks), portSt_portTo]
      rfl
    · rw [if_neg speaks, if_neg (by simpa using speaks), portSt_portUp]
      rfl
  · have waited := waitTicks_only ((portSt n d).sinceTick + ticksMs 10) d
    rw [h1] at waited
    have counted := bumpLanes_only n 5 d1
    rw [withDev_dev, h1, portAgain_state ((portPrm_of_cfg (counted.cfg.trans waited.cfg) n).trans hx)]
    exact ⟨(portAgain_only _ _ _).time.trans counted.time, rfl⟩
  · rw [withDev_dev, portSt_setPortSt, portSt_portTo]
    exact ⟨rfl, rfl, portTo_stomps nofun hu⟩
  · rw [withDev_dev, portSt_portUp]
    exact ⟨rfl, rfl⟩
  · have lost := portSt_signalLoss (c.val + 1) hl h0
    rw [withDev_dev]
    refine ⟨lost, ?_⟩
    unfold portSends
    rw [lost]
    simp
  · rw [withDev_dev]
    exact portSt_signalRestored hl ht
  · have waited := waitTicks_only (t + ticksMs x.linkDownHold) d
    rw [h1] at waited
    have down := linkDown_only n (portSt n d1).lossCause d1
    have state := portAgain_state (keep := false) ((portPrm_of_cfg (down.cfg.trans waited.cfg) n).trans hx)
    rw [withDev_dev]
    refine ⟨(portAgain_only _ _ _).time.trans down.time, ?_, state, ?_⟩
    · unfold portIsUp
      rw [state]
      split
      · split <;> rfl
      · rfl
    · rw [(portAgain_kept (unlost_of_slot (.inl rfl)) _ _ _).cntGet_eq, linkDown_count, (CntKept.of_only waited).cntGet_eq]
  · rw [withDev_dev, portSt_portTo]
    refine ⟨rfl, ?_⟩
    rw [(portTo_kept (unlost_of_slot (.inl rfl)) _ _ _).cntGet_eq, (CntKept.of_only (anReset_only _ _)).cntGet_eq, linkDown_count]

end Sys2Proof.Machine
end

section
/-! Lanes: training, adaptation and scans (R378, R382, R385 to R388). -/
namespace Sys2Proof.Machine

set_option Elab.async false

/-! ### Lanes and their operations -/

theorem laneSt_setLaneSt_ne {l k : Nat} (h : k ≠ l) (x : LaneSt) (d : Dev) : laneSt k (setLaneSt l x d) = laneSt k d := by
  unfold laneSt Map.get
  exact congrArg (Option.getD · LaneSt.init) (Map.get?_put_ne _ _ _ _ h)

theorem Only.laneSt {l : List Part} {d e : Dev} (h : Only l d e) (k : Nat) (hp : Part.port.inList l = false := by exact rfl) :
    laneSt k e = laneSt k d := by
  unfold Machine.laneSt
  rw [h.port hp]

/-- What a change of every lane of a port keeps of a lane. -/
theorem onLanes_keeps {α : Type} {v : LaneSt → α} {g : LaneSt → LaneSt} (h : ∀ x, v (g x) = v x) (p k : Nat) (d : Dev) :
    v (laneSt k (onLanes p g d)) = v (laneSt k d) := by
  refine foldl_keeps (f := fun d l => setLaneSt l (g (laneSt l d)) d) (v := fun d => v (laneSt k d)) (fun d l => ?_) _ d
  by_cases same : k = l
  · subst same
    rw [laneSt_setLaneSt]
    exact h _
  · rw [laneSt_setLaneSt_ne same]

/-- What a port that comes up keeps of a lane. -/
theorem portUp_keeps {α : Type} {v : LaneSt → α} (h : ∀ x : LaneSt, v { x with signal := true, cdr := true, lock := true } = v x)
    (p k : Nat) (d : Dev) : v (laneSt k (portUp p d)) = v (laneSt k d) := by
  unfold portUp
  extract_lets e1 x e2 e3 e4 e5
  have lane2 : laneSt k e2 = laneSt k d := rfl
  have lanes : v (laneSt k e3) = v (laneSt k e2) := onLanes_keeps h p k e2
  have mile : Only [.sys] e3 e4 := .ite (fun _ => milestone_only 8 e3) (fun _ => .refl _ e3)
  have told : Only [.twin] e4 e5 := .ite
    (fun _ => Only.foldl (f := fun d l => twinPost (.portTaps l (laneSt l d).taps) d) (fun _ _ => twinPost_only _ _) _ e4)
    (fun _ => .refl _ e4)
  clear_value e5 e4 e3 e2 e1
  rw [(trafficCheck_only e5).laneSt, told.laneSt, mile.laneSt, lanes, lane2]

/-! ### Taps (R378, R501) -/

theorem tapStep_range (req : Nat) (r : Int × Int) (t : Int) (lo : r.1 ≤ t) (hi : t ≤ r.2) :
    r.1 ≤ (tapStep req r t).1 ∧ (tapStep req r t).1 ≤ r.2 := by
  unfold tapStep
  by_cases up : req = 1
  · rw [if_pos up]
    split
    · exact ⟨lo, hi⟩
    next h => exact ⟨by dsimp only; omega, by dsimp only; omega⟩
  · rw [if_neg up]
    split
    · split
      · exact ⟨lo, hi⟩
      next h => exact ⟨by dsimp only; omega, by dsimp only; omega⟩
    · exact ⟨lo, hi⟩

/-- A tap drawn within its range. -/
def drawTap (a : List Int × Dev) (r : Int × Int) : List Int × Dev :=
  (a.1 ++ [r.1 + (((fresh a.2).1 % ((r.2 - r.1).toNat + 1) : Nat) : Int)], (fresh a.2).2)

/-- Each tap lies within its range. -/
def Within : List (Int × Int) → List Int → Prop := List.Forall₂ (fun r t => r.1 ≤ t ∧ t ≤ r.2)

theorem foldl_drawTap {rs : List (Int × Int)} (h : ∀ r ∈ rs, r.1 ≤ r.2) (a : List Int × Dev) :
    ∃ ts, (rs.foldl drawTap a).1 = a.1 ++ ts ∧ Within rs ts := by
  induction rs generalizing a with
  | nil => exact ⟨[], (List.append_nil _).symm, .nil⟩
  | cons r rs ih =>
    obtain ⟨ts, eq, within⟩ := ih (fun r hr => h r (List.mem_cons_of_mem _ hr)) (drawTap a r)
    have ordered := h r List.mem_cons_self
    have below : (fresh a.2).1 % ((r.2 - r.1).toNat + 1) < (r.2 - r.1).toNat + 1 := Nat.mod_lt _ (Nat.succ_pos _)
    refine ⟨_ :: ts, eq.trans (List.append_assoc _ _ _), .cons ?_ within⟩
    generalize (fresh a.2).1 % ((r.2 - r.1).toNat + 1) = v at below
    omega

theorem tapRange_ordered (l : Nat) : (tapRange l).length = 5 ∧ ∀ r ∈ tapRange l, r.1 ≤ r.2 := by
  unfold tapRange
  split
  · decide
  · split <;> decide

theorem presetTaps_within (l : Nat) (d : Dev) : Within (tapRange l) (presetTaps l d).1 := by
  obtain ⟨ts, eq, within⟩ := foldl_drawTap (tapRange_ordered l).2 ([], d)
  have drawn : (presetTaps l d).1 = [] ++ ts := eq
  rw [drawn]
  exact within

theorem Within.zip {rs : List (Int × Int)} {ts : List Int} (h : Within rs ts) : ∀ e ∈ rs.zip ts, e.1.1 ≤ e.2 ∧ e.2 ≤ e.1.2 := by
  induction h with
  | nil => exact fun e he => absurd he List.not_mem_nil
  | cons first _ ih =>
    intro e he
    rcases List.mem_cons.1 he with rfl | later
    · exact first
    · exact ih e later

/-! ### Training (R378, R386) -/

/-- A trunk lane that has received a training frame, with the taps and the statuses it answers. -/
def frameTrained (l : Nat) (taps : List Int) (trained : Bool) (status : List (BitVec 8)) (d : Dev) : Dev :=
  emit (.lane l status) (setLaneSt l { laneSt l d with taps := taps, trained := trained, signal := true, cdr := true } d)

section
variable {l : Nat} {req : TapRequest} {d : Dev} (hl : l < 32) (ht : (portSt (portOfLane l d) d).state = .training)
include hl ht

theorem trainingFrame_steps (hp : req.preset = none) (trained : Bool) {r : List (Int × Nat)}
    (hr : tapSteps l (req.taps.map (·.val)) (laneSt l d).taps = r) :
    trainingFrame l req trained d = frameTrained l (r.map (·.1)) trained (r.map (fun e => BitVec.ofNat 8 e.2)) d := by
  subst hr
  unfold trainingFrame
  dsimp only
  rw [portIn_of ht, hp, decide_eq_false (by omega), if_neg (by decide)]
  rfl

theorem trainingFrame_preset (hp : req.preset.isSome = true) (trained : Bool) : ∃ st, trainingFrame l req trained d =
    frameTrained l (presetTaps l d).1 trained st (presetTaps l d).2 := by
  obtain ⟨k, hk⟩ := Option.isSome_iff_exists.1 hp
  unfold trainingFrame
  dsimp only
  rw [portIn_of ht, hk, decide_eq_false (by omega), if_neg (by decide)]
  exact ⟨_, rfl⟩

end

/-- A twin lane's run of sets with the receiver ready. -/
def readyRun (t : Bytes) (x : LaneSt) : Nat := if bit (fld t 4 1) 6 then x.readyRun + 1 else 0

/-- What a training ordered set tells of a lane. -/
def setTold (x : LaneSt) : Nat × Nat × Bool := (x.readyRun, x.rxId, x.trained)

/-- A twin lane that has received a training ordered set, with the set it answers. -/
def setHeard (l : Nat) (t : Bytes) (x : LaneSt) (taps : List Int) (answer : Bytes) (d : Dev) : Dev :=
  emit (.lane l answer) (setLaneSt l { laneSt l d with
    taps := taps, rxId := fld t 1 1, readyRun := readyRun t x, trained := x.trained || decide (8 ≤ readyRun t x)
    signal := true, cdr := true, lock := true } d)

theorem twinTrainingSet_eq {i : Nat} {t : Bytes} {d : Dev} (ht : tosOk t = true) (ha : (portSt 96 d).state = .an) :
    ∃ taps answer e, twinTrainingSet i t d = setHeard (96 + i) t (laneSt (96 + i) d) taps answer e ∨
      twinTrainingSet i t d = portUp 96 (setHeard (96 + i) t (laneSt (96 + i) d) taps answer e) := by
  have away : portIn .aligning 96 d = false := by unfold portIn; rw [ha]; decide
  have due : ¬(!tosOk t || !(portIn .aligning 96 d || portIn .an 96 d)) = true := by rw [ht, away, portIn_of ha]; decide
  unfold twinTrainingSet
  rw [if_neg due]
  extract_lets e0 l x req r
  have same : e0 = d := if_neg (by rw [away]; decide)
  clear_value e0
  subst same
  generalize (if bit req 6 = true then presetTaps l e0 else (r.map (·.1), e0)) = a
  obtain ⟨taps, e⟩ := a
  dsimp only
  split
  · exact ⟨taps, _, e, .inr rfl⟩
  · exact ⟨taps, _, e, .inl rfl⟩

theorem twinTrainingSet_told {i : Nat} {t : Bytes} {d : Dev} (ht : tosOk t = true) (ha : (portSt 96 d).state = .an) :
    setTold (laneSt (96 + i) (twinTrainingSet i t d)) = (readyRun t (laneSt (96 + i) d), fld t 1 1,
      (laneSt (96 + i) d).trained || decide (8 ≤ readyRun t (laneSt (96 + i) d))) := by
  obtain ⟨taps, answer, e, heard⟩ := twinTrainingSet_eq (i := i) ht ha
  have lane : laneSt (96 + i) (setHeard (96 + i) t (laneSt (96 + i) d) taps answer e) = _ := laneSt_setLaneSt _ _ e
  rcases heard with eq | eq
  · rw [eq, lane]
    rfl
  · rw [eq, portUp_keeps (v := setTold) (fun _ => rfl), lane]
    rfl

theorem twinLaneTimeout_eq {i : Nat} {d d1 : Dev} (hx : (laneSt (96 + i) d).trained = false)
    (hs : (portSt 96 d).state = .aligning ∨ (portSt 96 d).state = .an)
    (h1 : waitTicks ((laneSt (96 + i) d).since + ticksMs 5) d = d1) : ∃ t e, Only [.free] d1 e ∧ twinLaneTimeout i d =
      setLaneSt (96 + i) { laneSt (96 + i) (bump .lane (96 + i) 6 (bump .port 96 12 e)) with
        taps := t, readyRun := 0, since := e.time.elapsed } (bump .lane (96 + i) 6 (bump .port 96 12 e)) := by
  have starting : (portIn .aligning 96 d || portIn .an 96 d) = true := by
    rcases hs with h | h
    · rw [portIn_of h]
      rfl
    · rw [portIn_of h, Bool.or_true]
  have due : ¬((laneSt (96 + i) d).trained || !(portIn .aligning 96 d || portIn .an 96 d)) = true := by
    rw [hx, starting]
    decide
  unfold twinLaneTimeout
  dsimp only
  rw [if_neg due, h1]
  have drawn := presetTaps_only (96 + i) d1
  generalize presetTaps (96 + i) d1 = a at *
  exact ⟨a.1, a.2, drawn, rfl⟩

/-! ### Windows of an 8b/10b lane (R381, R382, R385, R387) -/

/-- Is a window idle enough for adaptation to stop? -/
abbrev idles (w : LaneWindow) : Prop := 7 * w.codes < 8 * w.idleCodes

/-- The lane once the errors of a window are counted and adaptation is judged. -/
def judged (l : Nat) (w : LaneWindow) (d : Dev) : Dev :=
  bumpBy .lane l 1 w.disparityErrors (bumpBy .lane l 0 w.symbolErrors (adaptStep l w.idleCodes w.codes d))

/-- A lane whose adaptation is judged. -/
def frozenBy (w : LaneWindow) (x : LaneSt) : LaneSt := { x with frozen := decide (idles w) }

theorem adaptStep_parts (l idle codes : Nat) (d : Dev) :
    (adaptStep l idle codes d).port = (setLaneSt l { laneSt l d with frozen := decide (7 * codes < 8 * idle) } d).port ∧
    Only [.port, .cnt] d (adaptStep l idle codes d) ∧ (∀ q, q ≠ cntKey .lane l 4 → CntKept q d (adaptStep l idle codes d)) ∧
    cntGet .lane l 4 (adaptStep l idle codes d) = if (laneSt l d).frozen = false ∧ 7 * codes < 8 * idle
      then (cntGet .lane l 4 d + 1) % 2 ^ 48 else cntGet .lane l 4 d := by
  unfold adaptStep
  dsimp only
  by_cases h : 7 * codes < 8 * idle
  · rw [if_pos h, decide_eq_true h]
    by_cases hf : (laneSt l d).frozen = true
    · rw [if_pos hf, if_neg (fun g => absurd (g.1.symm.trans hf) (by decide))]
      exact ⟨rfl, .intro rfl, fun q _ => .refl q d, rfl⟩
    · rw [if_neg hf, if_pos ⟨by simpa using hf, h⟩]
      exact ⟨rfl, .intro rfl, fun q hq => bump_kept (q := q) (setLaneSt l _ d) hq, cntGet_bump .lane l 4 (setLaneSt l _ d)⟩
  · rw [if_neg h, decide_eq_false h, if_neg (fun g => h g.2)]
    exact ⟨rfl, .intro rfl, fun q _ => .refl q d, rfl⟩

theorem laneSlot_ne {l s t : Nat} (h : s % 64 ≠ t % 64) : cntKey .lane l s ≠ cntKey .lane l t := cntKey_ne_of_slot h

theorem judged_parts (l : Nat) (w : LaneWindow) (d : Dev) :
    (judged l w d).port = (setLaneSt l (frozenBy w (laneSt l d)) d).port ∧ Only [.port, .cnt] d (judged l w d) ∧
    (∀ k, k = 2 ∨ k = 3 ∨ k = 5 → cntGet .lane l k (judged l w d) = cntGet .lane l k d) ∧
    cntGet .lane l 4 (judged l w d) = (if (laneSt l d).frozen = false ∧ idles w
      then (cntGet .lane l 4 d + 1) % 2 ^ 48 else cntGet .lane l 4 d) ∧
    cntGet .lane l 0 (judged l w d) = (cntGet .lane l 0 d + w.symbolErrors) % 2 ^ 48 ∧
    cntGet .lane l 1 (judged l w d) = (cntGet .lane l 1 d + w.disparityErrors) % 2 ^ 48 := by
  obtain ⟨port, only, kept, count⟩ := adaptStep_parts l w.idleCodes w.codes d
  unfold judged
  generalize adaptStep l w.idleCodes w.codes d = e at *
  have first := bumpBy_only .lane l 0 w.symbolErrors e
  have counted (k : Nat) (h0 : k % 64 ≠ 0) (h1 : k % 64 ≠ 1) :
      cntGet .lane l k (bumpBy .lane l 1 w.disparityErrors (bumpBy .lane l 0 w.symbolErrors e)) = cntGet .lane l k e :=
    ((bumpBy_kept _ _ (laneSlot_ne h0)).trans (bumpBy_kept _ _ (laneSlot_ne h1))).cntGet_eq
  refine ⟨port, only.andThen (first.comp (bumpBy_only _ _ _ _ _) (n := [.cnt])), fun k hk => ?_, ?_, ?_, ?_⟩
  · rw [counted k (by omega) (by omega), (kept _ (laneSlot_ne (by omega))).cntGet_eq]
  · rw [counted 4 (by decide) (by decide), count]
  · rw [(bumpBy_kept _ _ (laneSlot_ne (by decide))).cntGet_eq, cntGet_bumpBy, (kept _ (laneSlot_ne (by decide))).cntGet_eq]
  · rw [cntGet_bumpBy, (bumpBy_kept _ _ (laneSlot_ne (by decide))).cntGet_eq, (kept _ (laneSlot_ne (by decide))).cntGet_eq]

/-- A lane `y` written, and at most slot 2 or 3 of the lane counted. -/
def Refilled (l : Nat) (y : LaneSt) (d e : Dev) : Prop :=
  e.port = (setLaneSt l y d).port ∧ ∀ k, k % 64 ≠ 2 → k % 64 ≠ 3 → cntGet .lane l k e = cntGet .lane l k d

theorem refilled_set (l : Nat) (y : LaneSt) (d : Dev) : Refilled l y d (setLaneSt l y d) := ⟨rfl, fun _ _ _ => rfl⟩

theorem refilled_count {k : Nat} (hk : k = 2 ∨ k = 3) (l n : Nat) (y : LaneSt) (d : Dev) :
    Refilled l y d (bumpBy .lane l k n (setLaneSt l y d)) :=
  ⟨rfl, fun j h2 h3 => (bumpBy_kept n (setLaneSt l y d) (laneSlot_ne (by omega)) : CntKept (cntKey .lane l j) _ _).cntGet_eq⟩

/-- What the elastic buffer of a lane does with its fill `f` (R382). -/
def Elastic (l : Nat) (w : LaneWindow) (f : Int) (x y : LaneSt) (d e : Dev) : Prop :=
  (16 < f.natAbs → y.fill = 0 ∧ y.slipped = (x.slipped || decide (w.idleCodes < w.codes))) ∧
  (f.natAbs ≤ 16 → w.idleCodes < 2 → y = { x with fill := f }) ∧
  (∀ n : Nat, f.natAbs ≤ 16 → 2 ≤ w.idleCodes → 0 ≤ f → min (w.idleCodes / 2) (f.natAbs / 2) = n →
    y = { x with fill := f - 2 * n } ∧ cntGet .lane l 3 e = (cntGet .lane l 3 d + n) % 2 ^ 48) ∧
  (∀ n : Nat, f.natAbs ≤ 16 → 2 ≤ w.idleCodes → f < 0 → f.natAbs / 2 = n →
    y = { x with fill := f + 2 * n } ∧ cntGet .lane l 2 e = (cntGet .lane l 2 d + n) % 2 ^ 48)

theorem elasticStep_elastic (l : Nat) (w : LaneWindow) (d : Dev) : ∃ y, Refilled l y d (elasticStep l w d) ∧
    y.frozen = (laneSt l d).frozen ∧ y.taps = (laneSt l d).taps ∧
    Elastic l w ((laneSt l d).fill + w.drift) (laneSt l d) y d (elasticStep l w d) := by
  unfold elasticStep Elastic
  dsimp only
  generalize laneSt l d = x
  generalize x.fill + w.drift = f
  by_cases far : 16 < f.natAbs
  · rw [if_pos far]
    exact ⟨_, refilled_set l _ d, rfl, rfl, fun _ => ⟨rfl, rfl⟩, by omega, by omega, by omega⟩
  · rw [if_neg far]
    by_cases few : w.idleCodes < 2
    · rw [if_pos few]
      exact ⟨_, refilled_set l _ d, rfl, rfl, by omega, fun _ _ => rfl, by omega, by omega⟩
    · rw [if_neg few]
      by_cases above : 0 ≤ f
      · rw [if_pos above]
        refine ⟨_, refilled_count (.inr rfl) l _ _ d, rfl, rfl, by omega, by omega, fun n _ _ _ hn => ?_, by omega⟩
        subst hn
        exact ⟨rfl, cntGet_bumpBy ..⟩
      · rw [if_neg above]
        refine ⟨_, refilled_count (.inl rfl) l _ _ d, rfl, rfl, by omega, by omega, by omega, fun n _ _ _ hn => ?_⟩
        subst hn
        exact ⟨rfl, cntGet_bumpBy ..⟩

/-- What a twin lane does with the skip ordered sets of a window (R385), by its fill `f`. -/
def Skipped (l : Nat) (f : Int) (y : LaneSt) (d e : Dev) : Prop :=
  e.out = d.out ++ (if portIsUp 96 d then [.lane l skipSet] else []) ∧
  y.fill = (if 0 ≤ f then f - min 2 f.natAbs else f + min 2 f.natAbs) ∧
  (0 ≤ f → cntGet .lane l 3 e = (cntGet .lane l 3 d + min 2 f.natAbs) % 2 ^ 48) ∧
  (f < 0 → cntGet .lane l 2 e = (cntGet .lane l 2 d + min 2 f.natAbs) % 2 ^ 48)

theorem Refilled.before {l : Nat} {y : LaneSt} {c d e : Dev} (h : Refilled l y d e) (before : Only [.out] c d) : Refilled l y c e := by
  obtain ⟨port, counts⟩ := h
  refine ⟨port.trans ?_, fun k h2 h3 => (counts k h2 h3).trans (CntKept.of_only before).cntGet_eq⟩
  unfold setLaneSt
  rw [before.port]

theorem skipStep_skipped (l : Nat) (w : LaneWindow) (d : Dev) : ∃ n,
    Refilled l { laneSt l d with fill := n } d (skipStep l w d) ∧
    Skipped l ((laneSt l d).fill + w.drift) { laneSt l d with fill := n } d (skipStep l w d) := by
  unfold skipStep Skipped
  dsimp only
  generalize laneSt l d = x
  generalize x.fill + w.drift = f
  have sent : Only [.out] d (if portIsUp 96 d = true then emit (.lane l skipSet) d else d) :=
    .ite (fun _ => emit_only _ d) (fun _ => .refl _ d)
  have out : (if portIsUp 96 d = true then emit (.lane l skipSet) d else d).out =
      d.out ++ (if portIsUp 96 d = true then [.lane l skipSet] else []) := by
    split
    · rfl
    · exact (List.append_nil _).symm
  generalize (if portIsUp 96 d = true then emit (.lane l skipSet) d else d) = e at *
  have same (k : Nat) : cntGet .lane l k e = cntGet .lane l k d := (CntKept.of_only sent).cntGet_eq
  by_cases above : 0 ≤ f
  · simp only [if_pos above]
    refine ⟨_, (refilled_count (.inr rfl) l _ _ e).before sent, out, by push_cast; rfl, fun _ => ?_, by omega⟩
    rw [cntGet_bumpBy, ← same]
    rfl
  · simp only [if_neg above]
    refine ⟨_, (refilled_count (.inl rfl) l _ _ e).before sent, out, by push_cast; rfl, fun h => absurd h above, fun _ => ?_⟩
    rw [cntGet_bumpBy, ← same]
    rfl

theorem skipLoss_only (l : Nat) (d : Dev) : Only [.port, .cnt] d (skipLoss l d) := by
  unfold skipLoss
  extract_lets x e
  refine .ite (fun _ => .refl _ d) fun _ => ?_
  have marked : Only [.port] d e := .ite (fun _ => .refl _ d) (fun _ => .intro rfl)
  clear_value e
  exact (marked.trans (setLaneSt_only l _ e)).comp (bump_only _ _ _ _)

theorem skipLoss_parts {l : Nat} {d : Dev} (hl : portLinked 96 d = true) :
    laneSt l (skipLoss l d) = { laneSt l d with lock := false } ∧ (portSt 96 (skipLoss l d)).lossAt.isSome = true ∧
    cntGet .lane l 5 (skipLoss l d) = (cntGet .lane l 5 d + 1) % 2 ^ 48 ∧
    ∀ k, k % 64 ≠ 5 → cntGet .lane l k (skipLoss l d) = cntGet .lane l k d := by
  unfold skipLoss
  dsimp only
  rw [hl, if_neg (by decide)]
  by_cases known : (portSt 96 d).lossAt.isSome = true
  · rw [if_pos known]
    exact ⟨laneSt_setLaneSt .., known, cntGet_bump .., fun k hk => (bump_kept _ (laneSlot_ne hk)).cntGet_eq⟩
  · rw [if_neg known]
    refine ⟨laneSt_setLaneSt .., ?_, cntGet_bump .., fun k hk => (bump_kept _ (laneSlot_ne hk)).cntGet_eq⟩
    exact congrArg (fun x : PortSt => x.lossAt.isSome) (portSt_setPortSt 96 _ d)

theorem adaptWindow_eq {l : Nat} (h : 32 ≤ l) (w : LaneWindow) (d : Dev) : adaptWindow l w d =
    if 96 ≤ l ∧ l < 100 then
      if w.skipMissing = true then skipLoss l (skipStep l w (judged l w d)) else skipStep l w (judged l w d)
    else elasticStep l w (judged l w d) := if_neg (Nat.not_lt.2 h)

theorem Map.put_put {α : Type} (m : Map α) (k : Nat) (a b : α) : Map.put (Map.put m k a) k b = Map.put m k b := by
  induction m with
  | nil => exact if_pos rfl
  | cons e m ih =>
    obtain ⟨i, c⟩ := e
    simp only [Map.put]
    by_cases here : i = k
    · rw [if_pos here, if_pos here]
      exact if_pos rfl
    · rw [if_neg here, if_neg here]
      by_cases after : k < i
      · rw [if_pos after, if_pos after]
        exact if_pos rfl
      · rw [if_neg after, if_neg after]
        simp only [Map.put]
        rw [if_neg here, if_neg after, ih]

theorem laneSt_of_port {l : Nat} {y : LaneSt} {d e : Dev} (h : e.port = (setLaneSt l y d).port) : laneSt l e = y := by
  have there := laneSt_setLaneSt l y d
  unfold laneSt at *
  rw [h]
  exact there

theorem port_of_setLaneSt {l : Nat} {y z : LaneSt} {d e : Dev} (h : e.port = (setLaneSt l z d).port) :
    (setLaneSt l y e).port = (setLaneSt l y d).port := by
  unfold setLaneSt
  rw [h]
  exact congrArg (fun m => { d.port with lanes := m }) (Map.put_put d.port.lanes l z y)

/-! ### Points of a scan (R388, R399) -/

theorem signal_pend (v : Nat) (d : Dev) : (signal v d).host.pend = d.host.pend := by
  unfold signal
  split
  · rfl
  · split <;> rfl

theorem ringWrite_pend (n : Notif) (d : Dev) : (ringWrite n d).host.pend = d.host.pend := signal_pend _ _

theorem ringOverflow_pend (d : Dev) : (ringOverflow d).host.pend = d.host.pend := by
  unfold ringOverflow
  split
  · rfl
  · split
    · exact ringWrite_pend _ _
    · rfl

theorem place_pend (n : Notif) (d : Dev) : (place n d).host.pend = d.host.pend := by
  unfold place
  split
  · exact ringWrite_pend n d
  · rfl

theorem notify_pend (type source : Nat) (data : Bytes) (d : Dev) : (notify type source data d).host.pend = d.host.pend := by
  unfold notify
  split
  · rfl
  · split
    · dsimp only
      split <;> rfl
    · exact (place_pend _ _).trans (ringOverflow_pend d)

theorem complete_pend (h : Nat) (st : Status) (res : Bytes) (d : Dev) :
    (complete h st res d).host.pend = d.host.pend.filter (fun q => q.handle ≠ h) := by
  unfold complete
  split
  next none =>
    have all : ∀ q ∈ d.host.pend, decide (q.handle ≠ h) = true := fun q hq => by
      simpa using List.find?_eq_none.1 none q hq
    exact (List.filter_eq_self.2 all).symm
  · exact notify_pend _ _ _ _

section
variable {l errors : Nat} {d d1 : Dev} {x : EyeScan} (hx : (laneSt l d).scan = some x)
  (h1 : waitTicks (x.start + ticksNs (scanNs l x.dwell (x.done + 1) d)) d = d1)
include hx h1

theorem eyeScanPoint_more (more : x.done + 1 < x.nH * x.nV) : ∃ e, eyeScanPoint l errors d =
    setLaneSt l { laneSt l e with scan := some { x with done := x.done + 1 } } e ∧ Only [.host] d1 e := by
  unfold eyeScanPoint
  rw [hx]
  dsimp only
  rw [h1, if_pos more]
  exact ⟨_, rfl, .intro rfl⟩

theorem eyeScanPoint_last (last : x.nH * x.nV ≤ x.done + 1) : ∃ e res, eyeScanPoint l errors d =
    complete x.handle .ok res (setLaneSt l { laneSt l e with scan := none } e) ∧ Only [.host] d1 e ∧ e.host.pend = d1.host.pend := by
  unfold eyeScanPoint
  rw [hx]
  dsimp only
  rw [h1, if_neg (Nat.not_lt.2 last)]
  exact ⟨_, _, rfl, .intro rfl, rfl⟩

end

/-- What every window of an 8b/10b lane leaves (R381, R387). -/
def Windowed (l : Nat) (w : LaneWindow) (y : LaneSt) (d e : Dev) : Prop :=
  laneSt l e = y ∧ y.frozen = decide (idles w) ∧ y.taps = (laneSt l d).taps ∧
  cntGet .lane l 4 e = (if (laneSt l d).frozen = false ∧ idles w then (cntGet .lane l 4 d + 1) % 2 ^ 48 else cntGet .lane l 4 d) ∧
  cntGet .lane l 0 e = (cntGet .lane l 0 d + w.symbolErrors) % 2 ^ 48 ∧
  cntGet .lane l 1 e = (cntGet .lane l 1 d + w.disparityErrors) % 2 ^ 48

theorem laneSt_judged (l : Nat) (w : LaneWindow) (d : Dev) : laneSt l (judged l w d) = frozenBy w (laneSt l d) :=
  laneSt_of_port (judged_parts l w d).1

theorem Refilled.windowed {l : Nat} {w : LaneWindow} {y : LaneSt} {d e : Dev} (h : Refilled l y (judged l w d) e)
    (frozen : y.frozen = (frozenBy w (laneSt l d)).frozen) (taps : y.taps = (frozenBy w (laneSt l d)).taps) : Windowed l w y d e := by
  obtain ⟨-, -, -, c4, c0, c1⟩ := judged_parts l w d
  obtain ⟨port, counts⟩ := h
  exact ⟨laneSt_of_port port, frozen, taps, (counts 4 (by decide) (by decide)).trans c4,
    (counts 0 (by decide) (by decide)).trans c0, (counts 1 (by decide) (by decide)).trans c1⟩

theorem Refilled.portSt {l p : Nat} {w : LaneWindow} {y : LaneSt} {d e : Dev} (h : Refilled l y (judged l w d) e) :
    portSt p e = portSt p d := by
  have before : (judged l w d).port.ports = d.port.ports := (congrArg Ports.ports (judged_parts l w d).1 :)
  exact portSt_of_ports ((congrArg Ports.ports h.1).trans before) p

/-- A window of a feeder or MGT lane (R382). -/
theorem adaptWindow_elastic {l : Nat} (h32 : 32 ≤ l) (other : ¬(96 ≤ l ∧ l < 100)) (w : LaneWindow) (d : Dev) :
    ∃ y, Windowed l w y d (adaptWindow l w d) ∧ (adaptWindow l w d).port = (setLaneSt l y d).port ∧
      Elastic l w ((laneSt l d).fill + w.drift) (frozenBy w (laneSt l d)) y d (adaptWindow l w d) := by
  rw [adaptWindow_eq h32, if_neg other]
  obtain ⟨port, -, counts, -⟩ := judged_parts l w d
  obtain ⟨y, refilled, frozen, taps, moved⟩ := elasticStep_elastic l w (judged l w d)
  rw [laneSt_judged] at frozen taps moved
  refine ⟨y, refilled.windowed frozen taps, refilled.1.trans (port_of_setLaneSt port), ?_⟩
  unfold Elastic at *
  rw [counts 2 (.inl rfl), counts 3 (.inr (.inl rfl))] at moved
  exact moved

/-- A window of a twin lane (R385): the skip ordered sets, before a loss is seen. -/
theorem skipStep_judged (l : Nat) (w : LaneWindow) (d : Dev) : ∃ y, Windowed l w y d (skipStep l w (judged l w d)) ∧
    portSt 96 (skipStep l w (judged l w d)) = portSt 96 d ∧
    Skipped l ((laneSt l d).fill + w.drift) y d (skipStep l w (judged l w d)) ∧
    cntGet .lane l 5 (skipStep l w (judged l w d)) = cntGet .lane l 5 d := by
  obtain ⟨port, only, counts, -⟩ := judged_parts l w d
  obtain ⟨n, refilled, skipped⟩ := skipStep_skipped l w (judged l w d)
  rw [laneSt_judged] at refilled skipped
  have up : portIsUp 96 (judged l w d) = portIsUp 96 d := by
    unfold portIsUp
    rw [portSt_of_ports (congrArg Ports.ports port)]
    rfl
  refine ⟨_, refilled.windowed rfl rfl, refilled.portSt, ?_, (refilled.2 5 (by decide) (by decide)).trans (counts 5 (.inr (.inr rfl)))⟩
  unfold Skipped at *
  rw [only.out, up, counts 2 (.inl rfl), counts 3 (.inr (.inl rfl))] at skipped
  exact skipped

theorem Windowed.lost {l : Nat} {w : LaneWindow} {y : LaneSt} {d e : Dev} (h : Windowed l w y d e) (hl : portLinked 96 e = true) :
    Windowed l w { y with lock := false } d (skipLoss l e) := by
  obtain ⟨lane, -, -, kept⟩ := skipLoss_parts (l := l) hl
  obtain ⟨there, frozen, taps, c4, c0, c1⟩ := h
  subst there
  exact ⟨lane, frozen, taps, (kept 4 (by decide)).trans c4, (kept 0 (by decide)).trans c0, (kept 1 (by decide)).trans c1⟩

theorem Skipped.lost {l : Nat} {f : Int} {y : LaneSt} {d e : Dev} (h : Skipped l f y d e) (hl : portLinked 96 e = true) :
    Skipped l f { y with lock := false } d (skipLoss l e) := by
  obtain ⟨-, -, -, kept⟩ := skipLoss_parts (l := l) hl
  obtain ⟨out, fill, c3, c2⟩ := h
  exact ⟨(skipLoss_only l e).out.trans out, fill, fun h => (kept 3 (by decide)).trans (c3 h), fun h => (kept 2 (by decide)).trans (c2 h)⟩

theorem portLinked_of {p : Nat} {d e : Dev} (h : portSt p e = portSt p d) : portLinked p e = portLinked p d := by
  unfold portLinked portIn
  rw [h]

/-- A window of a twin lane (R385). -/
theorem adaptWindow_skips {l : Nat} (twin : 96 ≤ l ∧ l < 100) (w : LaneWindow) (d : Dev) :
    ∃ y, Windowed l w y d (adaptWindow l w d) ∧ Skipped l ((laneSt l d).fill + w.drift) y d (adaptWindow l w d) ∧
      ((w.skipMissing = false ∨ portLinked 96 d = false) → portSt 96 (adaptWindow l w d) = portSt 96 d) ∧
      (w.skipMissing = true → portLinked 96 d = true → y.lock = false ∧ (portSt 96 (adaptWindow l w d)).lossAt.isSome = true ∧
        cntGet .lane l 5 (adaptWindow l w d) = (cntGet .lane l 5 d + 1) % 2 ^ 48) := by
  obtain ⟨y, windowed, port, skipped, c5⟩ := skipStep_judged l w d
  rw [adaptWindow_eq (Nat.le_trans (by decide) twin.1), if_pos twin]
  generalize skipStep l w (judged l w d) = e at *
  have linked := portLinked_of port
  cases missing : w.skipMissing with
  | false =>
    rw [if_neg Bool.false_ne_true]
    exact ⟨y, windowed, skipped, fun _ => port, nofun⟩
  | true =>
    rw [if_pos rfl]
    cases up : portLinked 96 d with
    | false =>
      have same : skipLoss l e = e := if_pos (by rw [linked, up]; rfl)
      rw [same]
      exact ⟨y, windowed, skipped, fun _ => port, nofun⟩
    | true =>
      obtain ⟨-, known, counted, -⟩ := skipLoss_parts (l := l) (linked.trans up)
      exact ⟨_, windowed.lost (linked.trans up), skipped.lost (linked.trans up), fun h => absurd h (by decide),
        fun _ _ => ⟨rfl, known, counted.trans (by rw [c5])⟩⟩

/-- Settles O54, input by input. -/
theorem lanesFollowTheirInputs : Obligations.LanesFollowTheirInputs := by
  intro s d hd
  have quiet : d.out = [] := by rw [← hd]
  refine ⟨fun lane l req trained r hl h32 ht hp hr => ?_, fun lane l req trained hl h32 ht hp => ?_,
    fun req r t lo hi => tapStep_range req r t lo hi, fun i t bad => onDev_next hd (if_pos (by rw [bad]; rfl)),
    fun i t run ok han hrun => ⟨_, onDev_next hd rfl, withDev_otp .., ?_⟩, fun i d1 hx hs h1 => ?_,
    fun lane w trunk => onDev_next hd (if_pos trunk), fun lane l w x f hl h32 hx hf => ?_, fun lane l errors x d1 hl hx h1 => ⟨fun more => ?_, fun last => ?_⟩⟩
  · subst hl
    refine ⟨_, onDev_next hd (trainingFrame_steps h32 ht hp trained hr), withDev_otp .., ?_⟩
    rw [withDev_dev]
    refine ⟨laneSt_setLaneSt .., ?_⟩
    change d.out ++ _ = _
    rw [quiet]
    rfl
  · subst hl
    obtain ⟨st, eq⟩ := trainingFrame_preset h32 ht hp trained
    have within := presetTaps_within (laneNum lane) d
    have same := (presetTaps_only (laneNum lane) d).laneSt (laneNum lane)
    generalize presetTaps (laneNum lane) d = a at *
    refine ⟨_, a.1, onDev_next hd eq, withDev_otp .., ?_, within.length_eq.symm.trans (tapRange_ordered _).1, within.zip⟩
    rw [withDev_dev, ← same]
    exact laneSt_setLaneSt ..
  · have told := twinTrainingSet_told (i := i.val) ok han
    rw [show readyRun t (laneSt (96 + i.val) d) = run from hrun] at told
    rw [withDev_dev]
    generalize laneSt (96 + i.val) (twinTrainingSet i.val t d) = y at *
    exact ⟨congrArg (·.1) told, congrArg (·.2.1) told, congrArg (·.2.2) told⟩
  · obtain ⟨t, e, drawn, eq⟩ := twinLaneTimeout_eq hx hs h1
    have waited := waitTicks_only ((laneSt (96 + i.val) d).since + ticksMs 5) d
    rw [h1] at waited
    have same (k : Nat) : CntKept k d e := (CntKept.of_only waited).trans (.of_only drawn)
    refine ⟨_, onDev_next hd eq, withDev_otp .., ?_⟩
    rw [withDev_dev, laneSt_setLaneSt, (CntKept.of_only (setLaneSt_only _ _ _)).cntGet_eq,
      (CntKept.of_only (setLaneSt_only _ _ _)).cntGet_eq]
    refine ⟨drawn.time, rfl, congrArg (·.elapsed) drawn.time, ?_, ?_⟩
    · rw [cntGet_bump, (bump_kept e (cntKey_ne_of_slot (by decide))).cntGet_eq, (same _).cntGet_eq]
    · rw [(bump_kept _ (cntKey_ne_of_slot (by decide))).cntGet_eq, cntGet_bump, (same _).cntGet_eq]
  · subst hl hx hf
    by_cases twin : 96 ≤ laneNum lane ∧ laneNum lane < 100
    · obtain ⟨y, ⟨there, frozen, taps, c4, c0, c1⟩, ⟨out, fill, c3, c2⟩, stays, lost⟩ := adaptWindow_skips twin w d
      rw [quiet] at out
      refine ⟨_, y, onDev_next hd rfl, withDev_otp .., ?_⟩
      rw [withDev_dev]
      exact ⟨there, frozen, taps, c4, c0, c1, fun away => absurd twin (by omega), fun _ _ => ⟨out, fill, c3, c2, stays, lost⟩⟩
    · obtain ⟨y, ⟨there, frozen, taps, c4, c0, c1⟩, port, far, few, above, below⟩ := adaptWindow_elastic h32 twin w d
      refine ⟨_, y, onDev_next hd rfl, withDev_otp .., ?_⟩
      rw [withDev_dev]
      refine ⟨there, frozen, taps, c4, c0, c1, fun _ => ⟨port, far, ?_, ?_, ?_⟩, fun lo hi => absurd ⟨lo, hi⟩ twin⟩
      all_goals
        rw [frozen]
        assumption
  · subst hl
    obtain ⟨e, eq, written⟩ := eyeScanPoint_more (errors := errors) hx h1 more
    have waited := waitTicks_only (x.start + ticksNs (scanNs (laneNum lane) x.dwell (x.done + 1) d)) d
    rw [h1] at waited
    refine ⟨_, onDev_next hd eq, withDev_otp .., ?_⟩
    rw [withDev_dev, laneSt_setLaneSt, written.laneSt, waited.laneSt]
    exact ⟨written.time, rfl⟩
  · subst hl
    obtain ⟨e, res, eq, written, pend⟩ := eyeScanPoint_last (errors := errors) hx h1 last
    have waited := waitTicks_only (x.start + ticksNs (scanNs (laneNum lane) x.dwell (x.done + 1) d)) d
    rw [h1] at waited
    refine ⟨_, onDev_next hd eq, withDev_otp .., ?_⟩
    have told := complete_only x.handle .ok res (setLaneSt (laneNum lane) { laneSt (laneNum lane) e with scan := none } e)
    have ended := told.laneSt (laneNum lane)
    rw [laneSt_setLaneSt] at ended
    rw [withDev_dev]
    refine ⟨told.time.trans written.time, ended.trans ?_, (complete_pend ..).trans ?_⟩
    · rw [written.laneSt, waited.laneSt]
    · change e.host.pend.filter _ = _
      rw [pend, waited.host]

end Sys2Proof.Machine
end

section
/-! The code of an error rate (R388). -/
namespace Sys2Proof.Machine

set_option Elab.async false

/-- A code is not too high for a rate. -/
def reached (b e n : Nat) : Prop := n = 0 ∨ 10 ^ (2 * n - 1) * e ≤ b

/-- A code is too high for a rate, or for its field. -/
def beyond (b e n : Nat) : Prop := n = 65536 ∨ b < 10 ^ (2 * n - 1) * e

/-- The search keeps the code between one reached and one beyond, and halves what lies between. -/
theorem berSearch_between {b e k lo : Nat} (below : reached b e lo) (above : beyond b e (lo + 2 ^ k)) (fits : lo + 2 ^ k ≤ 65536) :
    reached b e (berSearch b e k lo) ∧ beyond b e (berSearch b e k lo + 1) := by
  induction k generalizing lo with
  | zero => exact ⟨below, above⟩
  | succ k ih =>
    have half : lo + 2 ^ k + 2 ^ k = lo + 2 ^ (k + 1) := by rw [Nat.pow_succ]; omega
    have small : lo + 2 ^ k ≤ 65535 := by
      have := Nat.two_pow_pos k
      omega
    unfold berSearch
    by_cases h : 10 ^ (2 * (lo + 2 ^ k) - 1) * e ≤ b
    · rw [if_pos ⟨small, h⟩]
      exact ih (.inr h) (half ▸ above) (half ▸ fits)
    · rw [if_neg (fun g => h g.2)]
      exact ih below (.inr (Nat.lt_of_not_le h)) (by omega)

/-- Settles O55: the search over the 512th powers. -/
theorem berCodeIsTheRoundedLogarithm : Obligations.BerCodeIsTheRoundedLogarithm := by
  intro errors bits e n he hn
  have code : berSearch (bits ^ 512) (e ^ 512) 16 0 = n := by
    rw [← hn, ← he]
    rfl
  obtain ⟨below, above⟩ := berSearch_between (b := bits ^ 512) (e := e ^ 512) (k := 16) (.inl rfl) (.inl rfl) (by decide)
  rw [code] at below above
  exact ⟨below, fun hn => above.elim (fun h => by omega) id⟩

end Sys2Proof.Machine
end

section
/-! The PTP clocks of the firmware (R297, R303 to R305). -/
namespace Sys2Proof.Machine

set_option Elab.async false

theorem setInst_only (i : Nat) (x : PtpSt) (d : Dev) : Only [.ts] d (setInst i x d) := .intro rfl

theorem powerTlvs_only (x : PtpPrm) (d : Dev) : Only [.free] d (powerTlvs x d).2 := by
  unfold powerTlvs
  split
  · exact .refl _ d
  · exact (freshBytes_only 12 d).trans (freshBytes_only 15 _)

theorem powerTlvs_plain {x : PtpPrm} (h : x.profile ≠ 2) (d : Dev) : powerTlvs x d = ([], d) := if_pos h

theorem fwTarget_of_cfg {d e : Dev} (h : e.cfg = d.cfg) (p : Nat) : fwTarget p e = fwTarget p d := by
  unfold fwTarget
  rw [portPrm_of_cfg h]

/-- Where a PTP frame goes to (R300, Annex F). -/
theorem ptpSend_eq {p : Nat} {peer : Bool} {dest : Option Nat} {d e : Dev} (h : fwTarget p d = some dest) (he : e.cfg = d.cfg)
    (msg : Bytes) (stamp : Option Nat) (late : Option (Nat × Nat)) : ptpSend p peer msg stamp late e =
      injectFrame false dest 7 (be 6 (if peer = true then 0x0180C200000E else 0x011B19000000) ++ le 6 (Config.freeNat e.free) ++
        be 2 0x88F7 ++ msg) stamp late { e with free := e.free + 1 } := by
  unfold ptpSend
  rw [fwTarget_of_cfg he, h]
  rfl

/-- The PTP clock with its next sequence number taken. -/
def seqTaken (i : Nat) (d : Dev) : Dev := setInst i { inst i d with nextSeq := ((inst i d).nextSeq + 1) % 65536 } d

theorem inst_seqTaken (i : Nat) (d : Dev) :
    inst i (seqTaken i d) = { inst i d with nextSeq := ((inst i d).nextSeq + 1) % 65536 } := inst_setInst ..

section
variable {i n : Nat} {x : PtpPrm} {dest : Option Nat} {d d1 : Dev} (hx : instPrm i d = some x) (ht : fwTarget n d = some dest)
include hx

theorem ptpSync_acquire (ha : d.time.state = .acquire) : ptpSync i n d = d := by
  unfold ptpSync
  rw [hx]
  exact if_pos (by rw [ha]; simp)

include ht

theorem ptpSync_eq (hm : masterPort i n x d = true) (ha : d.time.state ≠ .acquire) {one : Bool}
    (h1 : (x.oneStep && decide (x.role ≠ 3)) = one) : ptpSync i n d =
      injectFrame false dest 7
        (be 6 (if x.profile = 3 then 0x0180C200000E else 0x011B19000000) ++ le 6 (Config.freeNat d.free) ++ be 2 0x88F7 ++
          ptpMessage 0 (instSdo x) x.domain (if one then 0 else 0x0200) 0 n (inst i d).nextSeq x.logSync (zeros 10))
        (if one then none else some (inst i d).nextSeq) (if one then some (1, 0) else none)
        { seqTaken i d with free := d.free + 1 } := by
  unfold ptpSync
  rw [hx]
  dsimp only
  rw [hm, decide_eq_false ha, if_neg (by decide), h1]
  refine (ptpSend_eq (e := seqTaken i d) ht rfl _ _ _).trans ?_
  rw [if_congr decide_eq_true_iff rfl rfl]
  rfl

theorem ptpAnnounce_eq (hm : masterPort i n x d = true) {a : PtpParent} (ha : announced i x d = a) {tlvs : Bytes} {d2 : Dev}
    (h2 : powerTlvs x (seqTaken i d) = (tlvs, d2)) : ptpAnnounce i n d =
      injectFrame false dest 7
        (be 6 (if x.profile = 3 then 0x0180C200000E else 0x011B19000000) ++ le 6 (Config.freeNat d2.free) ++ be 2 0x88F7 ++
          ptpMessage 0xB (instSdo x) x.domain (utcInfo i d).1 0 n (inst i d).nextSeq x.logAnnounce
            (zeros 10 ++ be 2 (utcInfo i d).2 ++ zeros 1 ++ be 1 a.priority1 ++ be 1 a.clockClass ++ be 1 a.clockAccuracy
              ++ be 2 a.variance ++ be 1 a.priority2 ++ be 8 a.grandmaster ++ be 2 a.stepsRemoved ++ be 1 0xA0 ++ tlvs))
        none none { d2 with free := d2.free + 1 } := by
  have told : announced i x (seqTaken i d) = a := by
    rw [← ha]
    unfold announced
    rw [inst_seqTaken]
    rfl
  have utc : utcInfo i (seqTaken i d) = utcInfo i d := by
    unfold utcInfo
    rw [inst_seqTaken]
    rfl
  have drawn : d2.cfg = d.cfg := by
    have only := powerTlvs_only x (seqTaken i d)
    rw [h2] at only
    exact only.cfg
  have taken : takeInstSeq i d = ((inst i d).nextSeq, seqTaken i d) := rfl
  unfold ptpAnnounce
  rw [hx]
  dsimp only
  rw [hm, if_neg (by decide), taken]
  dsimp only
  rw [told, utc, h2]
  dsimp only
  refine (ptpSend_eq ht drawn _ _ _).trans ?_
  rw [if_congr decide_eq_true_iff rfl rfl]

theorem ptpDelayReq_eq (hf : fwRuns d = true) (hw : awake d = true) (hp : x.p2p = false) (hs : (inst i d).slavePort = some n) :
    ∃ d1, (inst i d1).delayReq = some ((inst i d).nextSeq, none) ∧ (inst i d1).nextSeq = ((inst i d).nextSeq + 1) % 65536 ∧
      d1.que = d.que ∧ ptpDelayReq i n d = injectFrame false dest 7
        (be 6 0x011B19000000 ++ le 6 (Config.freeNat d.free) ++ be 2 0x88F7 ++
          ptpMessage 1 0 x.domain 0 0 n (inst i d).nextSeq 0x7F (zeros 10)) (some (inst i d).nextSeq) none d1 := by
  have due : ¬(!fwRuns d || !awake d || x.p2p || decide ((inst i d).slavePort ≠ some n)) = true := by
    rw [hf, hw, hp, decide_eq_false (not_not_intro hs)]
    decide
  have taken : takeInstSeq i d = ((inst i d).nextSeq, seqTaken i d) := rfl
  unfold ptpDelayReq
  rw [hx]
  dsimp only
  rw [if_neg due, taken]
  dsimp only
  rw [ptpSend_eq (e := setInst i { inst i (seqTaken i d) with delayReq := some ((inst i d).nextSeq, none) } (seqTaken i d)) ht rfl]
  have there (e : Dev) (y : PtpSt) : inst i { setInst i y e with free := e.free + 1 } = y := inst_setInst i y e
  refine ⟨_, ?_, ?_, ?_, rfl⟩
  · exact congrArg PtpSt.delayReq (there _ _)
  · refine (congrArg PtpSt.nextSeq (there _ _)).trans ?_
    dsimp only
    rw [inst_seqTaken]
  · rfl

end

theorem ptpPdelayReq_eq {n q : Nat} {dest : Option Nat} {d : Dev} (ht : fwTarget n d = some dest) (hf : fwPeerDelay n d = true)
    (hq : (Map.get? d.ts.pdelay n).elim 0 (fun y => (y.seq + 1) % 65536) = q) : ptpPdelayReq n d =
      injectFrame false dest 7 (be 6 0x0180C200000E ++ le 6 (Config.freeNat d.free) ++ be 2 0x88F7 ++
        ptpMessage 2 (peerSdo n d).1 (peerSdo n d).2 0 0 n q 0 (zeros 20)) (some q) none
        { d with ts := { d.ts with pdelay := Map.put d.ts.pdelay n ⟨q, none, none, 0⟩ }, free := d.free + 1 } := by
  unfold ptpPdelayReq
  rw [hf, if_neg (by decide)]
  extract_lets k m e
  have next : k = q := by
    rw [← hq]
    change (match Map.get? d.ts.pdelay n with | some y => (y.seq + 1) % 65536 | none => 0) = _
    cases Map.get? d.ts.pdelay n <;> rfl
  clear_value k
  subst next
  exact ptpSend_eq (e := e) ht rfl _ _ _

/-! ### Messages that wait (R303) -/

/-- The device that has taken a message from the firmware's buffer. -/
def messageTaken (f : FwFrame) (d : Dev) : Dev := { d with prot := { d.prot with fwBuf := d.prot.fwBuf.erase f } }

section
variable {f : FwFrame} {r : PtpRef} {d d1 : Dev} (hf : fwRuns d = true) (h1 : readStamps d = d1)
  (hb : d1.prot.fwBuf.find? (fun f => (ptpRef f.data).isSome) = some f) (hr : ptpRef f.data = some r)
include hf h1 hb hr

theorem ptpProcess_malformed (hw : ptpWellFormed f.data r = false) :
    ptpProcess d = emit (.cpu f.port (tsOf f.tIn) f.data) (messageTaken f d1) := by
  unfold ptpProcess
  rw [hf, if_neg (by decide), h1]
  dsimp only
  rw [hb]
  dsimp only
  rw [hr]
  exact if_pos (by rw [hw]; rfl)

section
variable (hw : ptpWellFormed f.data r = true)
include hw

theorem ptpProcess_peer (ht : ptpType f.data r = 2 ∨ ptpType f.data r = 3 ∨ ptpType f.data r = 10) (hp : fwPeerDelay f.port d1 = true) :
    ptpProcess d = peerMessage f r (messageTaken f d1) := by
  have same : fwPeerDelay f.port (messageTaken f d1) = true := hp
  unfold ptpProcess
  rw [hf, if_neg (by decide), h1]
  dsimp only
  rw [hb]
  dsimp only
  rw [hr]
  dsimp only
  rw [hw, if_neg (by decide), if_pos ht]
  exact if_pos same

theorem ptpProcess_inst {i : Nat} {x : PtpPrm} (ht : ¬(ptpType f.data r = 2 ∨ ptpType f.data r = 3 ∨ ptpType f.data r = 10))
    (hi : instOfPort f.port d1 = some (i, x)) (hx : x.domain = fld f.data (r.off + 4) 1) :
    ptpProcess d = instMessage i x f r (messageTaken f d1) := by
  have same : instOfPort f.port (messageTaken f d1) = some (i, x) := hi
  unfold messageTaken at same
  unfold ptpProcess
  rw [hf, if_neg (by decide), h1]
  dsimp only
  rw [hb]
  dsimp only
  rw [hr]
  dsimp only
  rw [hw, if_neg (by decide), if_neg ht, same]
  exact if_pos hx

end

end

/-! ### Announces that do not come, and offsets (R304) -/

/-- A PTP clock that has lost its parent. -/
def orphaned (y : PtpSt) : PtpSt :=
  { y with parent := none, slavePort := none, meanPathDelay := none, sync := none, masterToSlave := none,
           delayReq := none, relay := none, announceTimeouts := (y.announceTimeouts + 1) % 2 ^ 32 }

theorem announceTimeout_eq {i : Nat} {x : PtpPrm} {d : Dev} (hx : instPrm i d = some x) (hp : (inst i d).parent.isSome = true)
    (hf : fwRuns d = true) : ∃ t, announceTimeout i d = parentLost x (setInst i (orphaned (inst i d)) (waitTicks t d)) := by
  have due : ¬((inst i d).parent.isNone || !fwRuns d) = true := by
    rw [hf, ← Option.not_isSome, hp]
    decide
  unfold announceTimeout
  rw [hx]
  dsimp only
  rw [if_neg due]
  exact ⟨_, rfl⟩

theorem timeSourceNow_of_parts {d e : Dev} (hc : e.cfg = d.cfg) (ht : e.twin = d.twin) : timeSourceNow e = timeSourceNow d := by
  unfold timeSourceNow pairedSecondary paired
  rw [prm_of_cfg hc, ht]

theorem inst_of_ts {d e : Dev} (h : e.ts = d.ts) (i : Nat) : inst i e = inst i d := by
  unfold inst
  rw [h]

theorem parentLost_ts (x : PtpPrm) (d : Dev) : (parentLost x d).ts = d.ts := by
  unfold parentLost
  split
  · unfold sourceLost
    split
    · exact (enterHoldover_only 4 d).ts
    · exact (enterHoldover_only 4 d).ts
    · rfl
  · rfl

theorem parentLost_locked {x : PtpPrm} {d : Dev} (ht : x.timeSource = true) (hs : timeSourceNow d = 1) (hl : d.time.state = .locked) :
    (parentLost x d).time.state = .holdover := by
  unfold parentLost
  rw [ht, hs, if_pos (by decide), sourceLost_of_locked 4 (.inr hl)]
  unfold enterHoldover
  rw [bump_time, timeEnter_time]

/-- A PTP clock whose Sync is complete. -/
def syncDone (t1 : Nat) (corr : Int) (t2 : Nat) (y : PtpSt) : PtpSt :=
  { y with masterToSlave := some (((t2 / 65536 : Nat) : Int) - ((t1 * 65536 : Nat) : Int) - corr), sync := none }

theorem pathDelay_syncDone (i p : Nat) (x : PtpPrm) (t1 : Nat) (corr : Int) (t2 : Nat) (d : Dev) :
    pathDelay i p x (setInst i (syncDone t1 corr t2 (inst i d)) d) = pathDelay i p x d := by
  unfold pathDelay
  rw [inst_setInst]
  rfl

section
variable {i p : Nat} {x : PtpPrm} {d : Dev} (t1 : Nat) (corr : Int) (t2 : Nat)

theorem syncComplete_unknown (h : pathDelay i p x d = none) :
    syncComplete i p x t1 corr t2 d = setInst i (syncDone t1 corr t2 (inst i d)) d := by
  have same := (pathDelay_syncDone i p x t1 corr t2 d).trans h
  unfold syncDone at same
  unfold syncComplete
  dsimp only
  rw [same]
  rfl

theorem syncComplete_known {mpd : Int} (h : pathDelay i p x d = some mpd) :
    ∃ e, (syncComplete i p x t1 corr t2 d = if (x.timeSource && decide (timeSourceNow e = 1)) = true
        then measure t2 ((t2 : Int) + ptpOffset t1 corr mpd t2 * 65536).toNat e else e) ∧
      inst i e = { syncDone t1 corr t2 (inst i d) with
          lastOffset := ptpOffset t1 corr mpd t2, lastSync := tsOf t2, syncRx := ((inst i d).syncRx + 1) % 2 ^ 32 } ∧
      Only [.ts] d e := by
  have same := (pathDelay_syncDone i p x t1 corr t2 d).trans h
  unfold syncDone at same
  unfold syncComplete
  dsimp only
  rw [same]
  exact ⟨_, rfl, inst_setInst i _ _, .intro rfl⟩

end

/-- Settles O57: a Sync of the slave port whose path delay is known. -/
theorem syncMeasuresTheOffset : Obligations.SyncMeasuresTheOffset := by
  intro i p t1 t2 x corr d
  refine ⟨fun h => ?_, fun mpd h => ?_⟩
  · rw [syncComplete_unknown t1 corr t2 h, inst_setInst]
    exact ⟨rfl, rfl⟩
  · obtain ⟨e, eq, there, only⟩ := syncComplete_known t1 corr t2 h
    have offset : ptpOffset t1 corr mpd t2 = (t1 : Int) * 65536 + corr + mpd - (t2 / 65536 : Nat) := by
      unfold ptpOffset
      push_cast
      rfl
    rw [offset] at there eq
    rw [timeSourceNow_of_parts only.cfg only.twin] at eq
    exact ⟨e, by rw [there], by rw [there], by rw [there], by rw [there]; rfl, only.time, eq⟩

/-- Settles O56, event by event. -/
theorem ptpClocksSpeak : Obligations.PtpClocksSpeak := by
  intro s d hd
  refine ⟨fun i p n x dest y d1 hp hx ht hy h1 hm => ⟨fun one ha ho => ?_, fun a tlvs d2 ha h2 => ⟨fun plain => ?_, ?_⟩, fun ha => ?_⟩,
    fun i p n x dest hp hx ht hf hw p2p hs => ?_, fun p n dest q hp ht hf hq => ?_,
    fun f r d1 hf h1 hb hr => ⟨fun hw => onDev_next hd (ptpProcess_malformed hf h1 hb hr hw),
      fun hw ht hp => onDev_next hd (ptpProcess_peer hf h1 hb hr hw ht hp),
      fun i x hw t2 t3 t10 hi hx => onDev_next hd (ptpProcess_inst hf h1 hb hr hw (by simp [t2, t3, t10]) hi hx)⟩,
    fun i x a hx hp hf => ?_⟩
  · subst hp hy h1
    exact onDev_next hd (ptpSync_eq hx ht hm ha ho)
  · subst hy
    rw [powerTlvs_plain plain] at h2
    obtain ⟨rfl, rfl⟩ := Prod.mk.inj h2
    exact ⟨rfl, rfl⟩
  · subst hp hy
    exact onDev_next hd (ptpAnnounce_eq hx ht hm ha h2)
  · subst hp
    exact onDev_next hd (ptpSync_acquire hx ha)
  · subst hp
    obtain ⟨d1, req, seq, que, eq⟩ := ptpDelayReq_eq hx ht hf hw p2p hs
    exact ⟨_, d1, onDev_next hd eq, withDev_otp .., req, seq, que, withDev_dev ..⟩
  · subst hp
    refine onDev_next hd (ptpPdelayReq_eq ht hf ?_)
    rw [← hq]
    cases Map.get? d.ts.pdelay (portNum p) <;> rfl
  · obtain ⟨t, eq⟩ := announceTimeout_eq hx (by rw [hp]; rfl) hf
    have waited := waitTicks_only t d
    obtain ⟨g, sl, el, le, is, time⟩ := waitTicks_time t d
    have there : inst i.val (parentLost x (setInst i.val (orphaned (inst i.val d)) (waitTicks t d))) = orphaned (inst i.val d) :=
      (inst_of_ts (parentLost_ts x _) i.val).trans (inst_setInst i.val _ _)
    refine ⟨_, onDev_next hd eq, withDev_otp .., ?_⟩
    rw [withDev_dev, there]
    refine ⟨rfl, rfl, rfl, fun src now1 locked => parentLost_locked src ?_ ?_⟩
    · have orphan := setInst_only i.val (orphaned (inst i.val d)) (waitTicks t d)
      exact (timeSourceNow_of_parts (orphan.cfg.trans waited.cfg) (orphan.twin.trans waited.twin)).trans now1
    · change (waitTicks t d).time.state = _
      rw [time]
      exact locked

end Sys2Proof.Machine
end

section
/-! The handshake of a twin (R402, R404, R405, R410). -/
namespace Sys2Proof.Machine

set_option Elab.async false

/-! ### What a handshake comes to -/

theorem not_attaching_of_canAttach {d : Dev} (h : canAttach d = true) : d.twin.state ≠ .attaching := fun same => by
  unfold canAttach at h
  rw [same, Bool.and_false] at h
  exact absurd h (by decide)

/-- The handshake of a twin that starts one. -/
def started (fails : Nat) (d : Dev) : Handshake :=
  ⟨true, le 16 (Config.freeNat d.free), [], Config.serial, 0, d.time.elapsed, fails, false, false, 0, 0⟩

theorem startAttach_parts (fails : Nat) (d : Dev) : Only [.twin, .free, .out] d (startAttach fails d) ∧
    (startAttach fails d).twin.state = .attaching ∧ (startAttach fails d).twin.hs = some (started fails d) ∧
    (startAttach fails d).out = (sayHello 1 (le 16 (Config.freeNat d.free)) [] d).out := by
  unfold startAttach
  dsimp only [freshBytes]
  by_cases h : d.twin.state = .attaching
  · rw [if_pos h]
    exact ⟨.intro rfl, h, rfl, rfl⟩
  · rw [if_neg h]
    exact ⟨.intro rfl, rfl, rfl, rfl⟩

/-- What a passed handshake leaves (R405 step 4). -/
theorem attachDone_parts (key : Bytes) (h : Handshake) (d : Dev) : Only [.twin] d (attachDone key h d) ∧
    (attachDone key h d).twin.state = .syncing ∧ (attachDone key h d).twin.role = settleRole h d ∧
    (attachDone key h d).twin.keyOut = sessionKey key (if h.initiator = true then 0 else 1) h ∧
    (attachDone key h d).twin.keyIn = sessionKey key (if h.initiator = true then 1 else 0) h ∧
    (attachDone key h d).twin.peerSerial = if h.initiator = true then h.serialR else h.serialI :=
  ⟨.intro rfl, rfl, rfl, rfl, rfl, rfl⟩

theorem twinEnd_twin (d : Dev) : (twinEnd d).twin.state = .unpaired ∧ (twinEnd d).twin.keyOut = [] ∧ (twinEnd d).twin.keyIn = [] ∧
    (twinEnd d).twin.role = 0 := ⟨rfl, rfl, rfl, rfl⟩

/-- The pair is gone: UNPAIRED, without keys and role. -/
def Parted (d : Dev) : Prop :=
  d.twin.state = .unpaired ∧ d.twin.keyOut = [] ∧ d.twin.keyIn = [] ∧ d.twin.role = 0

theorem Parted.of_twin {d e : Dev} (h : Parted d) (same : e.twin = d.twin) : Parted e := by
  unfold Parted
  rw [same]
  exact h

theorem untold_twin {s : Nat} (h : s = 4 ∨ s = 5) : Untold (cntKey .twin 0 s) := by
  rcases h with rfl | rfl
  · exact ⟨by decide, by decide⟩
  · exact ⟨by decide, by decide⟩

/-- A failed attach is counted at slot 4, and at slot 5 where the peer did not prove its key. -/
theorem attachFail_parts (st : Status) (d : Dev) :
    Parted (attachFail st d) ∧ cntGet .twin 0 4 (attachFail st d) = (cntGet .twin 0 4 d + 1) % 2 ^ 48 ∧
    (st = .authFailed → cntGet .twin 0 5 (attachFail st d) = (cntGet .twin 0 5 d + 1) % 2 ^ 48) := by
  unfold attachFail
  extract_lets h e f tw g
  change Parted (settle h none st [] g) ∧ cntGet .twin 0 4 (settle h none st [] g) = _ ∧
    (_ → cntGet .twin 0 5 (settle h none st [] g) = _)
  have told := settle_only h none st [] g
  have kept (s : Nat) (hs : s = 4 ∨ s = 5) := settle_kept (untold_twin hs) h none st [] g
  have parted : Parted g := twinEnd_twin _
  have ends (f : Dev) : Only [.twin, .prot] f (twinEnd { f with twin := { f.twin with handle := none } }) := .intro rfl
  have ended : Only [.twin, .prot] f g := ends f
  have four : cntGet .twin 0 4 f = (cntGet .twin 0 4 d + 1) % 2 ^ 48 := by
    have more : CntKept (cntKey .twin 0 4) e f :=
      .ite ((bump_kept e (by decide)).trans (record_kept (untold_twin (.inl rfl)) _ _ _ _)) (.refl _ e)
    rw [more.cntGet_eq]
    exact cntGet_bump .twin 0 4 d
  have five (hs : st = .authFailed) : cntGet .twin 0 5 f = (cntGet .twin 0 5 d + 1) % 2 ^ 48 := by
    have noted : CntKept (cntKey .twin 0 5) (bump .twin 0 5 e) f := by
      rw [show f = twinEvent 1 st (bump .twin 0 5 e) from if_pos hs]
      exact record_kept (untold_twin (.inr rfl)) _ _ _ _
    rw [noted.cntGet_eq, cntGet_bump]
    have first : CntKept (cntKey .twin 0 5) d e := bump_kept d (by decide)
    rw [first.cntGet_eq]
  clear_value g f
  refine ⟨parted.of_twin told.twin, ?_, fun hs => ?_⟩
  · rw [(kept 4 (.inl rfl)).cntGet_eq, (CntKept.of_only ended).cntGet_eq, four]
  · rw [(kept 5 (.inr rfl)).cntGet_eq, (CntKept.of_only ended).cntGet_eq, five hs]

/-! ### The steps of the handshake (R405) -/

/-- The device that has heard a HELLO. -/
def helloHeard (d : Dev) : Dev := { d with twin := { d.twin with failIn := false } }

/-- The responder's handshake with a HELLO that it answers for the first time. -/
def answering (m : TwinHello) (d : Dev) : Handshake :=
  ⟨false, m.nonce, le 16 (Config.freeNat d.free), m.serial.toNat, Config.serial, d.time.elapsed, 0, m.serving,
    m.strapHigh, m.fwVersion.toNat, m.recordVersion.toNat⟩

/-- The responder that has answered. -/
def helloAnswered (key : Bytes) (h : Handshake) (d : Dev) : Dev :=
  sayHello 2 h.nonceR (handMac key 0x52 h) { twinEnter .attaching { d with free := d.free + 1 } with
    twin := { (twinEnter .attaching { d with free := d.free + 1 }).twin with hs := some h } }

theorem helloFromInitiator_eq {m : TwinHello} {d : Dev} {key : Bytes} (hk : pairKey d = some key) (can : canAttach d = true)
    (asked : ((prm d).twinAuto || d.twin.handle.isSome) = true) (other : m.serial.toNat ≠ Config.serial) (hs : d.twin.hs = none)
    (ok : peerRefusal (answering m d) (helloAnswered key (answering m d) d) = none) :
    helloFromInitiator m d = helloAnswered key (answering m d) d := by
  have may : ¬(!(canAttach d && ((prm d).twinAuto || d.twin.handle.isSome)) && decide (d.twin.state ≠ .attaching)) = true := by
    rw [can, asked]
    exact Bool.false_ne_true
  have away := not_attaching_of_canAttach can
  unfold helloFromInitiator
  rw [hk]
  dsimp only
  rw [if_neg may, if_neg other, if_neg (fun g => away g.1)]
  have drawn : freshBytes 16 d = (le 16 (Config.freeNat d.free), { d with free := d.free + 1 }) := rfl
  generalize freshBytes 16 d = a at drawn
  obtain ⟨n, e⟩ := a
  dsimp only
  have hs' : e.twin.hs = none := by rw [(Prod.mk.inj drawn).2]; exact hs
  have away' : e.twin.state ≠ .attaching := by rw [(Prod.mk.inj drawn).2]; exact away
  rw [hs', if_neg away']
  obtain ⟨rfl, rfl⟩ := Prod.mk.inj drawn
  split
  next st refused => exact absurd (refused.symm.trans ok) nofun
  · rfl

section
variable {m : TwinHello} {d : Dev} {key : Bytes} (up : portIsUp 96 d = true) (runs : fwRuns d = true)
include up runs

theorem twinHello_asks (hm : m.mac = none) : twinHello m d = helloFromInitiator m (helloHeard d) := by
  unfold twinHello
  rw [up, runs, hm]
  rfl

theorem twinHello_answers {mac : Bytes} (hm : m.mac = some mac) : twinHello m d = helloFromResponder m mac (helloHeard d) := by
  unfold twinHello
  rw [up, runs, hm]
  rfl

end

/-- The initiator's handshake once the responder's HELLO has come. -/
def heardBack (m : TwinHello) (h : Handshake) (d : Dev) : Handshake :=
  { h with nonceR := m.nonce, serialR := m.serial.toNat, stepAt := d.time.elapsed, peerServing := m.serving,
           peerStrap := m.strapHigh, peerVersion := m.fwVersion.toNat, peerRecords := m.recordVersion.toNat }

section
variable {m : TwinHello} {mac key : Bytes} {h : Handshake} {d : Dev} (hk : pairKey d = some key) (hs : d.twin.hs = some h)
  (ha : d.twin.state = .attaching)
include hk hs ha

theorem helloFromResponder_eq (hi : h.initiator = true) : helloFromResponder m mac d =
    if mac ≠ handMac key 0x52 (heardBack m h d) ∨ (heardBack m h d).serialR = Config.serial then attachFail .authFailed d
    else (peerRefusal (heardBack m h d) d).elim
      (attachDone key (heardBack m h d) (emit (.twin 3 (handMac key 0x49 (heardBack m h d))) d)) (attachFail · d) := by
  have due : ¬(d.twin.state ≠ .attaching ∨ h.initiator = false) := fun g => g.elim (· ha) (by rw [hi]; nofun)
  unfold helloFromResponder
  rw [hk, hs]
  dsimp only
  rw [if_neg due]
  unfold heardBack
  split
  · rfl
  · split
    next refused => rw [refused]; rfl
    next ok => rw [ok]; rfl

theorem handshakeMac_eq (up : portIsUp 96 d = true) (runs : fwRuns d = true) (hi : h.initiator = false) : handshakeMac mac d =
    if mac = handMac key 0x49 h then attachDone key h d else attachFail .authFailed d := by
  have due : ¬(!(portIsUp 96 d && fwRuns d) || decide (d.twin.state ≠ .attaching) || h.initiator) = true := by
    rw [up, runs, hi, decide_eq_false (not_not_intro ha)]
    decide
  unfold handshakeMac
  rw [hk, hs]
  exact if_neg due

end

theorem handshakeTimeout_eq {h : Handshake} {d d1 : Dev} (hs : d.twin.hs = some h) (ha : d.twin.state = .attaching)
    (h1 : waitTicks (h.stepAt + ticksMs 5) d = d1) : handshakeTimeout d =
      if h.fails + 1 < 3 ∧ portIsUp 96 d1 = true then startAttach (h.fails + 1) d1 else attachFail .internalError d1 := by
  unfold handshakeTimeout
  rw [hs]
  dsimp only
  rw [if_neg (fun g => g ha), h1]

/-- Settles O58, step by step. -/
theorem twinsShakeHands : Obligations.TwinsShakeHands := by
  intro s d hd
  have quiet : d.out = [] := by rw [← hd]
  refine ⟨fun runs auto can => ?_, fun h => onDev_next hd (if_neg ?_), fun m key h up runs hm hk can asked other hs hh ok => ?_,
    fun m mac key h h' up runs hm hk hs ha hi hh => ⟨fun hmac other ok => ?_, fun hmac => ?_⟩,
    fun mac key h up runs hk hs ha hi => ⟨fun hmac => ?_, fun hmac => onDev_next hd ?_⟩,
    fun h d1 hs ha h1 => ⟨fun few up => ?_, fun many => ?_⟩⟩
  · have eq : autoAttach d = startAttach 0 d := if_pos (by rw [runs, auto, can]; rfl)
    obtain ⟨-, state, hs, out⟩ := startAttach_parts 0 d
    refine ⟨_, onDev_next hd eq, withDev_otp .., ?_⟩
    rw [withDev_dev]
    exact ⟨state, hs, out⟩
  · rcases h with h | h | h
    · rw [h]
      simp
    · rw [h]
      simp
    · rw [h]
      simp
  · subst hh
    have eq : twinHello m d = helloAnswered key (answering m d) (helloHeard d) :=
      (twinHello_asks up runs hm).trans (helloFromInitiator_eq (d := helloHeard d) hk can (Bool.or_eq_true_iff.2 asked) other hs ok)
    refine ⟨_, onDev_next hd eq, withDev_otp .., ?_⟩
    rw [withDev_dev]
    exact ⟨rfl, rfl, rfl⟩
  · have heard : heardBack m h (helloHeard d) = h' := hh
    have eq := (twinHello_answers up runs hm).trans (helloFromResponder_eq (m := m) (mac := mac) (d := helloHeard d) hk hs ha hi)
    have agreed : peerRefusal h' (helloHeard d) = none := ok
    rw [heard, if_neg (fun g => g.elim (· hmac) other), agreed] at eq
    obtain ⟨only, state, role, out, in_, -⟩ := attachDone_parts key h' (emit (.twin 3 (handMac key 0x49 h')) (helloHeard d))
    have first : h'.initiator = true := by rw [← heard]; exact hi
    refine ⟨_, onDev_next hd eq, withDev_otp .., ?_⟩
    rw [withDev_dev, Option.elim_none]
    rw [first] at out in_
    refine ⟨state, role, out, in_, only.out.trans ?_⟩
    change d.out ++ _ = _
    rw [quiet]
    rfl
  · have heard : heardBack m h (helloHeard d) = h' := hh
    have eq := (twinHello_answers up runs hm).trans (helloFromResponder_eq (m := m) (mac := mac) (d := helloHeard d) hk hs ha hi)
    rw [heard, if_pos (.inl hmac)] at eq
    obtain ⟨⟨state, out, -, -⟩, -, five⟩ := attachFail_parts .authFailed (helloHeard d)
    refine ⟨_, onDev_next hd eq, ?_⟩
    rw [withDev_dev]
    exact ⟨state, out, five rfl⟩
  · have eq := (handshakeMac_eq (mac := mac) hk hs ha up runs hi).trans (if_pos hmac)
    obtain ⟨-, state, role, out, in_, peer⟩ := attachDone_parts key h d
    rw [hi] at out in_ peer
    refine ⟨_, onDev_next hd eq, withDev_otp .., ?_⟩
    rw [withDev_dev]
    exact ⟨state, role, out, in_, peer⟩
  · exact (handshakeMac_eq hk hs ha up runs hi).trans (if_neg hmac)
  · have waited := waitTicks_only (h.stepAt + ticksMs 5) d
    rw [h1] at waited
    have up1 : portIsUp 96 d1 = true := by
      unfold portIsUp at *
      rw [waited.portSt]
      exact up
    have eq := (handshakeTimeout_eq hs ha h1).trans (if_pos ⟨by omega, up1⟩)
    obtain ⟨only, state, hs, -⟩ := startAttach_parts (h.fails + 1) d1
    refine ⟨_, started (h.fails + 1) d1, onDev_next hd eq, withDev_otp .., ?_⟩
    rw [withDev_dev]
    exact ⟨only.time, state, hs, rfl, rfl⟩
  · have waited := waitTicks_only (h.stepAt + ticksMs 5) d
    rw [h1] at waited
    have eq := (handshakeTimeout_eq hs ha h1).trans (if_neg (fun g => absurd g.1 (by omega)))
    obtain ⟨⟨state, -⟩, four, -⟩ := attachFail_parts .internalError d1
    refine ⟨_, onDev_next hd eq, withDev_otp .., ?_⟩
    rw [withDev_dev]
    refine ⟨(attachFail_only _ _).time, state, ?_⟩
    rw [four, (CntKept.of_only waited).cntGet_eq]

end Sys2Proof.Machine
end

section
/-! Records, heartbeats and takeover of a pair (R406 to R418). -/
namespace Sys2Proof.Machine

set_option Elab.async false

/-! ### Records that wait -/

/-- The twin part once the records `w` have come to those that wait. -/
def twinQueued (w : List TwinBody) (d : Dev) : Dev := { d with twin := { d.twin with waiting := d.twin.waiting ++ w } }

theorem twinQueued_nil (d : Dev) : twinQueued [] d = d := by
  unfold twinQueued
  rw [List.append_nil]

theorem twinQueued_twinQueued (v w : List TwinBody) (d : Dev) : twinQueued v (twinQueued w d) = twinQueued (w ++ v) d := by
  unfold twinQueued
  dsimp only
  rw [List.append_assoc]

theorem twinPost_eq (b : TwinBody) (d : Dev) : twinPost b d = twinQueued (if twinMirrors d then [b] else []) d := by
  unfold twinPost
  split
  · rfl
  · exact (twinQueued_nil d).symm

theorem foldl_twinPost {α : Type} (b : α → TwinBody) (l : List α) (d : Dev) :
    l.foldl (fun d e => twinPost (b e) d) d = twinQueued (if twinMirrors d then l.map b else []) d := by
  induction l generalizing d with
  | nil => rw [List.map_nil, ite_self, twinQueued_nil, List.foldl_nil]
  | cons x l ih =>
    have same (w : List TwinBody) : twinMirrors (twinQueued w d) = twinMirrors d := rfl
    rw [List.foldl_cons, twinPost_eq, ih, same, twinQueued_twinQueued]
    cases twinMirrors d <;> rfl

/-- The twin part without its waiting records. -/
def Twin.unposted (t : Twin) : Twin := { t with waiting := [] }

theorem twinPost_unposted (b : TwinBody) (d : Dev) : (twinPost b d).twin.unposted = d.twin.unposted := by
  rw [twinPost_eq]
  rfl

theorem followState_parts (d : Dev) : Only [.twin] d (followState d) ∧ ∃ l w,
    (followState d).twin = { d.twin with lastSent := l, waiting := w } := by
  unfold followState
  dsimp only
  split
  · exact ⟨.refl _ d, _, _, rfl⟩
  · exact ⟨.intro rfl, _, _, rfl⟩

/-! ### Records out (R242, R407) -/

section
variable {d d1 : Dev} {b : TwinBody} {rest : List TwinBody}

theorem recordSend_eq (shares : twinShares d = true) (up : portIsUp 96 d = true) (key : d.twin.keyOut ≠ []) (runs : fwRuns d = true)
    (h1 : followState d = d1) (hw : d1.twin.waiting = b :: rest) : recordSend d =
      emit (.twinRecord d1.twin.nextRec b) { recordQueue b d1 with twin := { (recordQueue b d1).twin with
        waiting := (recordQueue b d1).twin.waiting.erase b
        unacked := (recordQueue b d1).twin.unacked ++ [(d1.twin.nextRec, b)]
        nextRec := d1.twin.nextRec + 1
        ctrOut := (recordQueue b d1).twin.ctrOut + 1 } } := by
  have may : ¬(!(twinShares d && portIsUp 96 d && !d.twin.keyOut.isEmpty)) = true := by
    rw [shares, up, List.isEmpty_eq_false_iff.2 key]
    decide
  have next : nextRecord d1 = some b := by
    have same : fwRuns d1 = fwRuns d := by
      have only := (followState_parts d).1
      rw [h1] at only
      unfold fwRuns
      rw [only.host]
    unfold nextRecord
    rw [same, runs, if_pos rfl, hw]
    rfl
  unfold recordSend
  rw [if_neg may, if_pos runs, h1]
  dsimp only
  rw [next]

theorem recordQueue_parts (b : TwinBody) (d : Dev) : (recordQueue b d).out = d.out ∧
    d.twin.queueUntil < (recordQueue b d).time.elapsed + queueTicks ∧ (recordQueue b d).twin = { d.twin with
      queueUntil := max d.twin.queueUntil (recordQueue b d).time.elapsed + (Config.recordLength b + 3) / 4 } := by
  unfold recordQueue
  have reach := waitTicks_elapsed (d.twin.queueUntil + 1 - queueTicks) d
  have waited := waitTicks_only (d.twin.queueUntil + 1 - queueTicks) d
  generalize waitTicks (d.twin.queueUntil + 1 - queueTicks) d = e at *
  refine ⟨waited.out, ?_, ?_⟩
  · change d.twin.queueUntil < e.time.elapsed + queueTicks
    omega
  · dsimp only
    rw [waited.twin]

end

/-! ### The synchronisation ends (R410, R411) -/

theorem yieldOthers_unposted (d : Dev) : (yieldOthers d).twin.unposted = d.twin.unposted := by
  unfold yieldOthers
  dsimp only
  split
  · exact foldl_keeps (f := fun d (e : Nat × SaSlot) => twinPost (.pnReservation e.1 e.2.nextPn) d) (v := fun d => d.twin.unposted)
      (fun d e => twinPost_unposted _ d) _ _
  · rfl

theorem startReservations_unposted (d : Dev) : (startReservations d).twin.unposted = d.twin.unposted :=
  foldl_keeps (f := fun d (e : Nat × SecyPrm) => reservePn e.1 ((sa e.1 d).nextPn + pnBlock e.2.suite) d)
    (v := fun d => d.twin.unposted) (fun _ _ => twinPost_unposted _ _) _ _

theorem state_of_unposted {t u : Twin} (h : t.unposted = u.unposted) : t.state = u.state ∧ t.missed = u.missed :=
  ⟨congrArg (·.state) h, congrArg (·.missed) h⟩

theorem enterPaired_twin (d : Dev) : (enterPaired d).twin.state = .paired ∧ (enterPaired d).twin.missed = 0 := by
  unfold enterPaired
  extract_lets a u t b c e h v f g w
  have first : b.twin.state = .paired ∧ b.twin.missed = 0 := by
    refine ⟨?_, rfl⟩
    change (restoreSets (twinEnter .paired d)).twin.state = _
    unfold restoreSets
    split <;> rfl
  have second : c.twin.state = .paired ∧ c.twin.missed = 0 := by
    have same := startReservations_unposted (if (prm b).twinMode = 1 then yieldOthers b else b)
    have before : (if (prm b).twinMode = 1 then yieldOthers b else b).twin.unposted = b.twin.unposted := by
      split
      · exact yieldOthers_unposted b
      · rfl
    obtain ⟨state, missed⟩ := state_of_unposted (same.trans before)
    exact ⟨state.trans first.1, missed.trans first.2⟩
  have third : e.twin = c.twin := (notifyRecord_only _ _ _ _).twin
  clear_value c e
  have fourth : g.twin = f.twin := (settle_only h none .ok (le 1 f.twin.role ++ le 8 f.twin.peerSerial) f).twin
  clear_value g
  have last : (if g.twin.role = 2 then
      askAcquire 5 { g with time := { g.time with samples := [], lastMeas := g.time.elapsed } } else g).twin = g.twin := by
    split
    · exact (askAcquire_only 5 { g with time := { g.time with samples := [], lastMeas := g.time.elapsed } }).twin
    · rfl
  refine (congrArg (fun t : Twin => t.state = .paired ∧ t.missed = 0) (last.trans fourth)).mpr ?_
  change e.twin.state = .paired ∧ e.twin.missed = 0
  rw [third]
  exact second

section
variable {q : Nat} {b : TwinBody} {d : Dev} (hu : d.twin.unacked.find? (fun e => decide (e.1 = q)) = some (q, b))
include hu

/-- The device once record `q` has been acknowledged, `n` more in the synchronisation. -/
def heardAck (q n : Nat) (d : Dev) : Dev := { d with twin := { d.twin with
  unacked := d.twin.unacked.filter (fun e => decide (e.1 ≠ q)), ctrIn := d.twin.ctrIn + 1, acked := d.twin.acked + n } }

/-- What an acknowledged record puts in force. -/
def ackTaken (b : TwinBody) (d : Dev) : Dev := match b with | .pnReservation k r => reserveAcked k r d | _ => d

omit hu in
theorem reserveAcked_only (k r : Nat) (d : Dev) : Only [.prot] d (reserveAcked k r d) :=
  .ite (fun _ => .intro rfl) (fun _ => .refl _ d)

omit hu in
theorem ackTaken_only (b : TwinBody) (d : Dev) : Only [.prot] d (ackTaken b d) := by
  unfold ackTaken
  split
  · exact reserveAcked_only _ _ d
  · exact .refl _ d

theorem recordAck_eq : recordAck q d =
    pairCheck (ackTaken b (heardAck q (if d.twin.state = .syncing then 1 else 0) d)) := by
  unfold recordAck
  rw [hu]
  cases b <;> rfl

theorem recordAck_away (away : d.twin.state ≠ .syncing) : recordAck q d = ackTaken b (heardAck q 0 d) := by
  rw [recordAck_eq hu, if_neg away]
  refine if_neg (fun g => away ?_)
  have same := (ackTaken_only b (heardAck q 0 d)).twin
  exact (congrArg (·.state) same).symm.trans g.1

theorem recordAck_last (syncing : d.twin.state = .syncing) (none_waits : d.twin.waiting = []) (only : d.twin.unacked = [(q, b)])
    (synced : d.twin.synced = true) : recordAck q d = enterPaired (ackTaken b (heardAck q 1 d)) := by
  rw [recordAck_eq hu, if_pos syncing]
  have same := (ackTaken_only b (heardAck q 1 d)).twin
  have unacked : (heardAck q 1 d).twin.unacked = [] := by
    unfold heardAck
    dsimp only
    rw [only, List.filter_cons_of_neg (by simp)]
    rfl
  generalize ackTaken b (heardAck q 1 d) = e at same
  refine if_pos ⟨?_, ?_, ?_, ?_⟩ <;> rw [same]
  · exact syncing
  · exact List.isEmpty_iff.2 none_waits
  · exact List.isEmpty_iff.2 unacked
  · exact synced

end

/-! ### Records in (R407, R409) -/

/-- The device that acknowledges record `n`. -/
def acknowledging (n : Nat) (d : Dev) : Dev :=
  emit (.twin 5 (le 4 n)) { d with twin := { d.twin with ctrOut := d.twin.ctrOut + 1 } }

section
variable {r : TwinRecord} {d : Dev} (shares : twinShares d = true) (up : portIsUp 96 d = true) (key : d.twin.keyIn ≠ [])
  (runs : fwRuns d = true)
include shares up key runs

theorem recordReceive_eq : recordReceive r d =
    r.body.elim (if r.mustUnderstand = true then misunderstood { d with twin := { d.twin with ctrIn := d.twin.ctrIn + 1 } }
        else acknowledging r.seq (bump .twin 0 6 { d with twin := { d.twin with ctrIn := d.twin.ctrIn + 1 } }))
      (fun b => applyRecord b (acknowledging r.seq { d with twin := { d.twin with ctrIn := d.twin.ctrIn + 1 } })) := by
  have due (hw : Bool) : ¬(!(twinShares d && portIsUp 96 d && !d.twin.keyIn.isEmpty && (fwRuns d || hw))) = true := by
    rw [shares, up, runs, List.isEmpty_eq_false_iff.2 key]
    exact Bool.false_ne_true
  unfold recordReceive
  rw [if_neg (due _)]
  cases r.body <;> rfl

end

theorem sa_mirrorRx {k pn : Nat} {d : Dev} (h : (sa k d).state ≠ .empty) :
    sa k (mirrorRx k pn d) = { sa k d with nextPn := max (sa k d).nextPn pn } := by
  unfold mirrorRx
  rw [if_neg h, sa_setSa]

theorem dissolve_parted (d : Dev) : Parted (dissolve d) := twinEnd_twin _

theorem misunderstood_parted (d : Dev) : Parted (misunderstood d) := by
  unfold misunderstood
  split
  · exact (attachFail_parts _ _).1
  · exact dissolve_parted _

/-! ### Heartbeats and the loss of the twin (R410, R414) -/

theorem state_of_paired {d : Dev} (h : paired d = true) : d.twin.state = .paired ∨ d.twin.state = .suspect := by
  unfold paired at h
  generalize d.twin.state = k at h
  cases k with
  | paired => exact .inl rfl
  | suspect => exact .inr rfl
  | unpaired | attaching | syncing | lost | solo => cases h

/-- The device that hears a heartbeat. -/
def beatHeard (d : Dev) : Dev :=
  { d with twin := { d.twin with heard := d.time.elapsed, missed := 0, ctrIn := d.twin.ctrIn + 1 } }

theorem yoyoReceive_eq {m : YoyoMsg} {d : Dev} (hp : paired d = true) (up : portIsUp 96 d = true) : yoyoReceive m d =
    if m.state.val = 0 then dissolve (beatHeard d)
    else if d.twin.state = .suspect then twinEnter .paired (beatHeard d) else beatHeard d := by
  have due : ¬(!(paired d && portIsUp 96 d)) = true := by
    rw [hp, up]
    decide
  exact if_neg due

/-- The device that has missed `n` heartbeats. -/
def beatMissed (n : Nat) (d : Dev) : Dev := bump .twin 0 0 { d with twin := { d.twin with missed := n } }

theorem beatMissed_parts (n : Nat) (d : Dev) : (beatMissed n d).twin = { d.twin with missed := n } ∧ (beatMissed n d).time = d.time ∧
    cntGet .twin 0 0 (beatMissed n d) = (cntGet .twin 0 0 d + 1) % 2 ^ 48 := ⟨rfl, rfl, cntGet_bump .twin 0 0 _⟩

theorem heartbeatMiss_eq {d d1 : Dev} (hp : paired d = true)
    (h1 : waitTicks (d.twin.heard + ticksUs 10 * (d.twin.missed + 1)) d = d1) : ∃ data, heartbeatMiss d =
      if d.twin.missed + 1 = 8 ∧ d1.twin.state = .paired then
        notify 0x70 deviceTarget data (twinEnter .suspect (bump .twin 0 1 (beatMissed (d.twin.missed + 1) d1)))
      else beatMissed (d.twin.missed + 1) d1 := by
  unfold heartbeatMiss
  rw [hp, if_neg (by decide)]
  dsimp only
  rw [h1]
  exact ⟨_, rfl⟩

theorem sourceLost_parts (cause : Nat) (d : Dev) : Only [.time, .host, .obs, .cnt, .out] d (sourceLost cause d) ∧
    (sourceLost cause d).time.elapsed = d.time.elapsed := by
  have lost : Only [.time, .host, .obs, .cnt, .out] d (enterHoldover cause d) ∧ (enterHoldover cause d).time.elapsed = d.time.elapsed := by
    refine ⟨enterHoldover_only cause d, ?_⟩
    unfold enterHoldover
    rw [(bump_only _ _ _ _).time, timeEnter_time]
  unfold sourceLost
  split
  · exact lost
  · exact lost
  · exact ⟨.refl _ d, rfl⟩

theorem leaveTwinTime_parts (cause : Nat) (d : Dev) : Only [.time, .host, .obs, .cnt, .out] d (leaveTwinTime cause d) ∧
    (leaveTwinTime cause d).time.elapsed = d.time.elapsed := by
  unfold leaveTwinTime
  split
  · have emptied (d : Dev) : Only [.time] d { d with time := { d.time with samples := [] } } := .intro rfl
    obtain ⟨only, elapsed⟩ := sourceLost_parts cause { d with time := { d.time with samples := [] } }
    exact ⟨(emptied d).comp only, elapsed⟩
  · exact ⟨.refl _ d, rfl⟩

theorem limitSlots_only (d : Dev) : Only [.prot, .host, .obs, .cnt, .out] d (limitSlots d) :=
  Only.foldl (fun _ _ => .ite (fun _ => (Only.intro rfl : Only [.prot] _ _).comp (checkThreshold_only _ _)) (fun _ => .refl _ _)) _ d

/-- The device in which lost_time has passed: its time is no longer the twin's, its slots are limited. -/
def unmirrored (d : Dev) : Dev := endReservations (limitSlots (leaveTwinTime 4 (bump .twin 0 2 d)))

theorem unmirrored_parts (d : Dev) : (unmirrored d).twin = d.twin ∧ (unmirrored d).time.elapsed = d.time.elapsed := by
  unfold unmirrored
  obtain ⟨left, elapsed⟩ := leaveTwinTime_parts 4 (bump .twin 0 2 d)
  have limited := limitSlots_only (leaveTwinTime 4 (bump .twin 0 2 d))
  generalize leaveTwinTime 4 (bump .twin 0 2 d) = e at *
  generalize limitSlots e = f at *
  exact ⟨limited.twin.trans left.twin, (congrArg (·.elapsed) limited.time).trans elapsed⟩

/-- The device whose link to its twin is closed. -/
def unlinked (d : Dev) : Dev :=
  { d with twin := { d.twin with keyOut := [], keyIn := [], waiting := [], unacked := [], lastSent := [] } }

theorem lostTimeout_eq {d : Dev} (h : d.twin.state = .suspect) : ∃ data, lostTimeout d =
    notifyRecord 0x70 deviceTarget data
      (twinEnter .lost (unlinked (unmirrored (waitTicks (d.twin.heard + ticksMs (prm d).lostTime) d)))) := by
  unfold lostTimeout
  rw [if_neg (not_not_intro h)]
  exact ⟨_, rfl⟩

/-! ### Takeover (R412 to R418) -/

theorem takeover_twin (cause : Nat) (d : Dev) : (takeover cause d).twin.state = .solo ∧ (takeover cause d).twin.role = 1 ∧
    (takeover cause d).twin.serving = true ∧ (takeover cause d).twin.squelch = false ∧ (takeover cause d).twin.keyIn = [] ∧
    (takeover cause d).twin.actions = [] := by
  unfold takeover
  dsimp only
  rw [(notifyRecord_only _ _ _ _).twin, (bump_only _ _ _ _).twin]
  exact ⟨rfl, rfl, rfl, rfl, rfl, rfl⟩

theorem twfailI_takes {d : Dev} (h : d.twin.state = .paired ∨ d.twin.state = .suspect ∨ d.twin.state = .lost)
    (by_ : standsBy d = true) : ∃ cause, twfailI d = takeover cause { d with twin := { d.twin with failIn := true } } := by
  have same : standsBy { d with twin := { d.twin with failIn := true } } = true := by_
  unfold twfailI
  generalize hk : d.twin.state = k at h
  dsimp only
  rw [hk]
  rcases h with rfl | rfl | rfl <;> exact ⟨_, if_pos same⟩

theorem twfailI_stays {d : Dev} (h : d.twin.state = .unpaired ∨ d.twin.state = .attaching ∨ d.twin.state = .solo ∨ standsBy d = false)
    (away : d.twin.state ≠ .syncing) : twfailI d = { d with twin := { d.twin with failIn := true } } := by
  unfold twfailI
  generalize hk : d.twin.state = k at h away
  dsimp only
  rw [hk]
  cases k with
  | syncing => exact absurd rfl away
  | unpaired | attaching | solo => rfl
  | paired | suspect | lost =>
    have off : standsBy d = false := by simpa using h
    exact if_neg (fun g => Bool.false_ne_true (off.symm.trans g))

/-- Settles O59, event by event. -/
theorem twinsShareAndTakeOver : Obligations.TwinsShareAndTakeOver := by
  intro s d hd
  have quiet : d.out = [] := by rw [← hd]
  refine ⟨fun d1 b rest shares up key runs h1 hw => ?_, fun q b hu => ⟨fun away => ?_, fun syncing waits only synced => ?_⟩,
    fun hp => ?_, fun r shares up key runs => ⟨fun b hb => ?_, fun k pn hb full => ?_, fun hb may => ?_, fun hb must => ?_⟩,
    fun h up => onDev_next hd (if_pos ?_), fun m hp up => ?_, fun d1 hp h1 => ?_, fun hs => ?_,
    fun off excess d1 hp up few h1 => onDev_next hd ?_, fun h by_ => ?_, fun h away => onDev_next hd (twfailI_stays h away)⟩
  · have eq := recordSend_eq shares up key runs h1 hw
    obtain ⟨follows, l, w, part⟩ := followState_parts d
    rw [h1] at follows part
    obtain ⟨out, room, queue⟩ := recordQueue_parts b d1
    rw [part] at hw room queue eq
    generalize recordQueue b d1 = e at *
    subst hw
    refine ⟨_, onDev_next hd eq, withDev_otp .., ?_⟩
    rw [withDev_dev]
    change e.twin.waiting.erase b = rest ∧ e.twin.unacked ++ _ = _ ∧ _ = _ ∧ e.out ++ _ = _ ∧
      d.twin.queueUntil < e.time.elapsed + queueTicks ∧ e.twin.queueUntil = max d.twin.queueUntil e.time.elapsed + _
    rw [queue, out, follows.out, quiet]
    exact ⟨List.erase_cons_head .., rfl, rfl, rfl, room, rfl⟩
  · have eq := recordAck_away hu away
    have same := (ackTaken_only b (heardAck q 0 d)).twin
    refine ⟨_, onDev_next hd eq, withDev_otp .., ?_⟩
    rw [withDev_dev, same]
    refine ⟨rfl, rfl, fun k r hb here => ?_⟩
    subst hb
    change sa k (reserveAcked k r (heardAck q 0 d)) = _
    unfold reserveAcked
    have there : Map.has (heardAck q 0 d).prot.slots k = true := here
    rw [if_pos there, sa_setSa]
    rfl
  · obtain ⟨state, missed⟩ := enterPaired_twin (ackTaken b (heardAck q 1 d))
    refine ⟨_, onDev_next hd (recordAck_last hu syncing waits only synced), ?_⟩
    rw [withDev_dev]
    exact ⟨state, missed⟩
  · have eq : rxStateSend d = twinQueued (if twinMirrors d then
        (d.prot.slots.filter (fun e => saRx e.1 && decide (e.2.state = .inUse) && servesSlot e.1 d)).map
          (fun e => TwinBody.rxState e.1 e.2.nextPn) else []) d := by
      unfold rxStateSend
      rw [hp]
      exact foldl_twinPost _ _ d
    refine ⟨_, onDev_next hd eq, withDev_otp .., ?_⟩
    rw [withDev_dev]
    exact ⟨rfl, rfl⟩
  · exact onDev_next hd ((recordReceive_eq shares up key runs).trans (by rw [hb]; rfl))
  · have eq := recordReceive_eq (r := r) shares up key runs
    rw [hb] at eq
    refine ⟨_, onDev_next hd eq, ?_⟩
    rw [withDev_dev]
    exact sa_mirrorRx full
  · have eq := recordReceive_eq (r := r) shares up key runs
    rw [hb, may] at eq
    refine ⟨_, onDev_next hd eq, ?_⟩
    rw [withDev_dev]
    refine ⟨congrArg (· ++ _) quiet, rfl, ?_⟩
    exact cntGet_bump .twin 0 6 _
  · have eq := recordReceive_eq (r := r) shares up key runs
    rw [hb, must] at eq
    obtain ⟨state, -, in_, -⟩ := misunderstood_parted { d with twin := { d.twin with ctrIn := d.twin.ctrIn + 1 } }
    refine ⟨_, onDev_next hd eq, ?_⟩
    rw [withDev_dev]
    exact ⟨state, in_⟩
  · rw [up, Bool.and_true]
    exact Bool.or_eq_true_iff.2 (h.imp_right (fun g => decide_eq_true g))
  · have eq := yoyoReceive_eq (m := m) hp up
    refine ⟨_, onDev_next hd rfl, withDev_otp .., fun on => ?_, fun off => ?_⟩ <;> rw [withDev_dev, eq]
    · rw [if_neg on]
      by_cases suspect : d.twin.state = .suspect
      · rw [if_pos suspect]
        exact ⟨rfl, rfl, rfl⟩
      · rw [if_neg suspect]
        exact ⟨(state_of_paired hp).resolve_right suspect, rfl, rfl⟩
    · rw [if_pos off]
      obtain ⟨state, -, -, role⟩ := dissolve_parted (beatHeard d)
      exact ⟨state, role⟩
  · obtain ⟨data, eq⟩ := heartbeatMiss_eq hp h1
    have waited := waitTicks_only (d.twin.heard + ticksUs 10 * (d.twin.missed + 1)) d
    rw [h1] at waited
    obtain ⟨twin, time, missed⟩ := beatMissed_parts (d.twin.missed + 1) d1
    rw [waited.twin] at twin eq
    rw [(CntKept.of_only waited).cntGet_eq] at missed
    by_cases due : d.twin.missed + 1 = 8 ∧ d.twin.state = .paired
    · rw [if_pos due] at eq
      generalize beatMissed (d.twin.missed + 1) d1 = e at *
      have told := notify_only 0x70 deviceTarget data (twinEnter .suspect (bump .twin 0 1 e))
      have kept : CntKept (cntKey .twin 0 0) e (notify 0x70 deviceTarget data (twinEnter .suspect (bump .twin 0 1 e))) :=
        (bump_kept e (by decide)).trans (notify_kept ⟨by decide, by decide⟩ _ _ _ (twinEnter .suspect (bump .twin 0 1 e)))
      refine ⟨_, onDev_next hd eq, withDev_otp .., ?_⟩
      rw [withDev_dev, told.time, told.twin, kept.cntGet_eq]
      have seventh : d.twin.missed = 7 := by omega
      refine ⟨time, (congrArg (·.missed) twin), missed, ?_⟩
      rw [if_pos seventh]
      rfl
    · rw [if_neg due] at eq
      refine ⟨_, onDev_next hd eq, withDev_otp .., ?_⟩
      rw [withDev_dev, twin]
      refine ⟨time, rfl, missed, ?_⟩
      split
      next seventh => exact (state_of_paired hp).resolve_left (fun g => due ⟨by omega, g⟩)
      · rfl
  · obtain ⟨data, eq⟩ := lostTimeout_eq hs
    have waited := waitTicks_only (d.twin.heard + ticksMs (prm d).lostTime) d
    have reach := waitTicks_elapsed (d.twin.heard + ticksMs (prm d).lostTime) d
    generalize waitTicks (d.twin.heard + ticksMs (prm d).lostTime) d = e at *
    obtain ⟨twin, elapsed⟩ := unmirrored_parts e
    generalize unmirrored e = f at *
    have told := notifyRecord_only 0x70 deviceTarget data (twinEnter .lost (unlinked f))
    refine ⟨_, onDev_next hd eq, withDev_otp .., ?_⟩
    rw [withDev_dev, told.twin, told.time]
    refine ⟨rfl, rfl, rfl, ?_, ?_⟩
    · exact (congrArg (·.role) (twin.trans waited.twin))
    · exact reach.trans_eq elapsed.symm
  · have due : ¬(!(paired d && portIsUp 96 d) || decide (4 < excess)) = true := by
      rw [hp, up, decide_eq_false (by omega)]
      decide
    subst h1
    exact if_neg due
  · obtain ⟨cause, eq⟩ := twfailI_takes h by_
    refine ⟨_, onDev_next hd eq, withDev_otp .., ?_⟩
    rw [withDev_dev]
    exact takeover_twin _ _

end Sys2Proof.Machine
end

section
/-! Events keep to their units (R217, R220, R228, R256, R322, R326, R338, R353, R359, R378, R388, R407, R410). -/
namespace Sys2Proof.Machine

set_option Elab.async false

/-! ### Gates (R317 to R320) -/

theorem gateNotify_only (p : Nat) (g : GateSt) (t : Nat) (st : Status) (d : Dev) :
    Only [.host, .obs, .cnt, .out] d (gateNotify p g t st d) := notify_only _ _ _ d

/-- The parts that the events of a gate list may change. -/
abbrev gateParts : List Part := [.time, .obs, .act, .host, .cnt, .out]

theorem gateChange_only (p : Nat) (d : Dev) : Only gateParts d (gateChange p d) := by
  unfold gateChange
  extract_lets g0
  split
  · extract_lets e f g
    have waited : Only [.time, .obs] d e := waitPort_only p _ d
    have counted : Only [.cnt] e f := .ite (fun _ => bump_only _ _ _ e) (fun _ => .refl _ e)
    clear_value e f g
    have changed : Only [.act, .cnt] f (bump .gate p 4 (setGate p g f)) := (setGate_only p g f).comp (bump_only _ _ _ _)
    have before := (waited.comp counted (n := [.time, .obs, .act, .cnt])).andThen changed
    exact before.comp (gateNotify_only p g _ _ _)
  · exact .refl _ d

theorem gateEvent_only (p : Nat) (d : Dev) : Only [.time, .obs, .act] d (gateEvent p d) := by
  unfold gateEvent
  dsimp only
  refine .ite (fun _ => .refl _ d) fun _ => ?_
  split
  · exact .refl _ d
  next t cs e x _ =>
    have waited := waitPort_only p t d
    exact .ite (fun _ => waited.comp (setGate_only _ _ _)) (fun _ => waited.comp (setGate_only _ _ _))

theorem gateRestart_only (p : Nat) (d : Dev) : Only [.time, .obs, .act] d (gateRestart p d) := by
  unfold gateRestart
  dsimp only
  split
  next t l _ _ => exact (waitPort_only p t d).comp (setGate_only _ _ _)
  · exact .refl _ d

/-! ### Queues and fabric (R217, R220, R228, R245) -/

theorem putBack_only (die : Nat) (f : Frame) (d : Dev) :
    Only [.cnt] d (bump .fab die 2 (if f.whole then d else bump .fab die 3 d)) :=
  (Only.ite (fun _ => .refl _ d) (fun _ => bump_only _ _ _ d)).trans (bump_only _ _ _ _)

theorem gatherBlocks_only (f : Frame) (bl : List Nat) (d : Dev) : Only [.mem] d (gatherBlocks f bl d) := .intro rfl

theorem spillFrame_only {die : Nat} {f : Frame} {d : Dev} {r : Frame × Dev} (h : spillFrame die f d = some r) :
    Only [.mem, .cnt] d r.2 := by
  unfold spillFrame at h
  dsimp only at h
  split at h
  · rw [← Option.some.inj h]
    exact (putBack_only die f d).mono
  · split at h
    · exact nomatch h
    · obtain ⟨bl, -, rfl⟩ := Option.map_eq_some_iff.1 h
      exact ((gatherBlocks_only f bl d).trans (oweSpill_only _ _ _ _)).comp (putBack_only die f _)

theorem storeFrame_only {die q : Nat} {f : Frame} {x : QueuePrm} {d : Dev} {r : Frame × Dev} (h : storeFrame die q f x d = some r) :
    Only [.mem, .cnt] d r.2 := by
  have onDie {r : Frame × Dev} (h : (if poolFits die f d then some (f, d) else none) = some r) : Only [.mem, .cnt] d r.2 := by
    split at h
    · rw [← Option.some.inj h]
      exact .refl _ d
    · exact nomatch h
  unfold storeFrame at h
  dsimp only at h
  split at h
  · split at h
    next spilled => exact Option.some.inj h ▸ spillFrame_only spilled
    · split at h
      · exact nomatch h
      · exact onDie h
  · split at h
    next kept => exact Option.some.inj h ▸ onDie kept
    · exact spillFrame_only h

theorem wake_only (q : Nat) (x : QueuePrm) (d : Dev) : Only [.que] d (wake q x d) :=
  (wakeClass_only x d).trans (.ite (fun _ => setQueue_only _ _ _) (fun _ => .refl _ _))

theorem markFrame_only (q : Nat) (f : Frame) (d : Dev) : Only [.cnt] d (markFrame q f d).2 := by
  unfold markFrame
  split
  · exact .refl _ d
  · exact (bump_only _ _ _ d).trans (bump_only _ _ _ _)

theorem enqueue_only {q : Nat} {f : Frame} {x : QueuePrm} {d e : Dev} (h : enqueue q f x d = .admitted e) :
    Only [.que, .mem, .cnt] d e := by
  unfold enqueue at h
  extract_lets die at h
  split at h
  · exact nomatch h
  next g d1 stored =>
    extract_lets d2 y d3 d4 at h
    have first : Only [.mem, .cnt] d d1 := storeFrame_only stored
    have second : Only [.que, .cnt] d1 d2 := .ite (fun _ => (bump_only _ _ _ d1).mono) (fun _ => (wake_only q x d1).mono)
    have third : Only [.que] d2 d3 := setQueue_only _ _ _
    have fourth : Only [.cnt] d3 d4 := ((bump_only _ _ _ d3).trans (bump_only _ _ _ _)).trans (bumpBy_only _ _ _ _ _)
    clear_value d2 y d3 d4
    have before : Only [.que, .mem, .cnt] d d4 := ((first.comp second).andThen third).andThen fourth
    rw [← Admission.admitted.inj h]
    exact before.andThen (.ite (fun _ => (bump_only _ _ _ d4).trans (bump_only _ _ _ _)) (fun _ => .refl _ d4))

theorem admitColoured_only {retry : Bool} {q : Nat} {f : Frame} {x : QueuePrm} {c : Colour} {d e : Dev}
    (h : admitColoured retry q f x c d = .admitted e) : Only [.que, .mem, .cnt] d e := by
  have marked (h : enqueue q (markFrame q f d).1 x (markFrame q f d).2 = .admitted e) : Only [.que, .mem, .cnt] d e :=
    (markFrame_only q f d).comp (enqueue_only h)
  unfold admitColoured at h
  dsimp only at h
  split at h
  · exact nomatch h
  split at h
  · exact nomatch h
  split at h
  · split at h
    · exact marked h
    · exact nomatch h
  split at h
  · exact marked h
  · exact enqueue_only h

theorem residueEnter_only (die : Nat) (d : Dev) : Only [.que, .fab, .mem, .cnt] d (residueEnter die d) := by
  unfold residueEnter
  split
  · exact .refl _ d
  next r _ =>
    have tried : Only [.que, .mem, .cnt] d ((residueTry r d).getD d) := by
      cases h : residueTry r d with
      | none => exact .refl _ d
      | some e =>
        unfold residueTry at h
        split at h
        · exact nomatch h
        split at h
        next entered => exact Option.some.inj h ▸ admitColoured_only entered
        · exact nomatch h
    have gone (e : Dev) (l : List Residue) : Only [.fab] e { e with fab := { e.fab with residues := l } } := .intro rfl
    exact tried.comp (gone _ _)

theorem residueExpiry_only (die : Nat) (d : Dev) : Only [.time, .obs, .fab, .cnt] d (residueExpiry die d) := by
  unfold residueExpiry
  split
  · exact .refl _ d
  · extract_lets first e u f
    have waited : Only [.time, .obs] d e := waitTicks_only _ d
    clear_value e first
    have gone : Only [.fab] e f := .intro rfl
    clear_value f
    have counted : Only [.cnt] f (match frameQueue first.frame f with | some x => bump .fport x.port 1 f | none => f) := by
      split
      · exact bump_only _ _ _ f
      · exact .refl _ f
    exact (waited.comp gone (n := [.time, .obs, .fab, .cnt])).andThen (counted.trans (bump_only _ _ _ _))

theorem noteStalls_only (d : Dev) : Only [.pkg] d (noteStalls d) :=
  Only.foldl (fun d _ => (Only.ite (fun _ => .refl _ d) (fun _ => noteStall_only _ _ _ d)).trans
    (Only.foldl (fun e _ => .ite (fun _ => .refl _ e) (fun _ => noteStall_only _ _ _ e)) _ _)) _ d

theorem carryCell_only (io : Nat × Nat) (d : Dev) : Only [.fab, .obs] d (carryCell io d) := by
  unfold carryCell
  extract_lets ready top
  split
  · exact .refl _ d
  · extract_lets r e f
    have moved : Only [.fab] d e := .intro rfl
    clear_value e
    have seen : Only [.obs] e f := .ite (fun _ => .refl _ e) (fun _ => perfEvent_only _ _ _ e)
    clear_value f
    have landed (l : List Nat) := Only.foldl (f := fun d k => if k = 8 then d else perfEvent k 0x091 1 d)
      (fun d _ => .ite (fun _ => .refl _ d) (fun _ => perfEvent_only _ _ _ d)) l f
    exact moved.comp (seen.trans ((landed _).trans (perfEvent_only _ _ _ _)))

theorem whiskMatch_only (d : Dev) : Only [.pkg, .fab, .obs] d (whiskMatch d) := by
  by_cases hw : awake d = true
  · obtain ⟨n, eq⟩ := whiskMatch_eq hw
    rw [eq]
    have noted := noteStalls_only d
    generalize noteStalls d = e at *
    have pointed (m : List (Nat × Nat)) : Only [.fab] e (pointersMoved m e) := .intro rfl
    have counted (m : List (Nat × Nat)) : Only [.pkg, .fab, .obs] d (perfEvent 4 0x201 n (pointersMoved m e)) :=
      (noted.comp (pointed m)).andThen (perfEvent_only 4 0x201 n _)
    exact (counted _).andThen (Only.foldl (fun e io => carryCell_only io e) _ _)
  · exact .ite (fun _ => .refl _ d) (fun due => absurd (by simpa using hw) due)

theorem queueFlushComplete_only (h : Nat) (d : Dev) : Only [.que, .host, .obs, .cnt, .out] d (queueFlushComplete h d) := by
  unfold queueFlushComplete
  split
  · exact .refl _ d
  · have ended (l : List QFlush) : Only [.que] d { d with que := { d.que with flushes := l } } := .intro rfl
    exact (ended _).comp (complete_only _ _ _ _)

/-! ### Stockpot (R338, R353, R359) -/

/-- The parts that a write to the stockpot and a read back from it may change. -/
abbrev stockpotParts : List Part := [.time, .que, .act, .mem, .obs, .cnt, .free]

theorem prefetch_only (q n : Nat) (d : Dev) : Only [.que, .mem, .obs, .cnt, .free] d (prefetch q n d) := by
  induction n generalizing d with
  | zero => exact .refl _ d
  | succ n ih =>
    unfold prefetch
    split
    · exact .refl _ d
    next f _ =>
      have read := readFrame_only (queueDie q) f d
      generalize readFrame (queueDie q) f d = r at *
      exact (read.comp (setQueue_only _ _ _)).trans (ih _)

theorem spillReadback_only (die q : Nat) (d : Dev) : Only [.que, .mem, .obs, .cnt, .free] d (spillReadback die q d) :=
  .ite (fun _ => prefetch_only _ _ d) (fun _ => .refl _ d)

theorem eggReadback_only (die : Nat) (d : Dev) : Only [.time, .act, .mem, .obs, .cnt, .free] d (eggReadback die d) := by
  unfold eggReadback
  split
  · exact .refl _ d
  next h _ =>
    have waited := waitLane_only h.port (h.release - 20000 * unitsPerNs) d
    dsimp only
    generalize waitLane h.port (h.release - 20000 * unitsPerNs) d = e at *
    have read := readFrame_only die h.frame e
    generalize readFrame die h.frame e = r at *
    exact (waited.comp read).andThen (setHeld_only _ _)

theorem blockWrite_only (block : Nat) (data : Bytes) (d : Dev) : Only fetchParts d (blockWrite block data d) := by
  have fetched := fetchPath_only block d
  obtain ⟨written, -⟩ := blockWrite_eq block data (d := d) rfl rfl rfl
  exact fetched.trans written.mono

theorem stockpotBlockWrite_only (d : Dev) : Only fetchParts d (stockpotBlockWrite d) := by
  unfold stockpotBlockWrite
  split
  · exact .refl _ d
  next block data rest _ =>
    have taken : Only [.mem] d { d with mem := { d.mem with writes := rest } } := .intro rfl
    exact ((taken.comp (blockWrite_only block data _) (n := fetchParts))).andThen (perfEvent_only _ _ _ _)

theorem regionRebuild_only (r : Nat) (d : Dev) : Only [.mem, .free] d (regionRebuild r d) := by
  have dropped : Only [.mem, .free] d (unwrite r d) := .intro rfl
  exact .ite (fun _ => freshRegion_only _ _ d) fun _ => .ite (fun _ => .refl _ d) fun _ => .ite (fun _ => dropped) fun _ =>
    .ite (fun _ => dropped.trans (setRegion_only _ _ _).mono) fun _ =>
    .ite (fun _ => dropped) (fun _ => dropped.trans (freshRegion_only _ _ _))

theorem rekeyTrigger_only (r : Nat) (d : Dev) : Only [.mem, .free] d (rekeyTrigger r d) :=
  .ite (fun _ => .intro rfl) (fun _ => .refl _ d)

theorem rekeyStart_only (d : Dev) : Only [.mem, .free] d (rekeyStart d) := by
  unfold rekeyStart
  split
  · exact .refl _ d
  · exact .ite (fun _ => .refl _ d) (fun _ => (drawPair_only d).comp (.intro rfl : Only [.mem] _ _))

/-! ### Tables (R187 to R200) -/

theorem Engine.drain_only {α : Type} (g : Engine α) (m : Map α) {set : Map α → Dev → Dev} (h : ∀ m d, Only [.cls] d (set m d)) (d : Dev) :
    Only [.cls, .cnt] d (g.drain m set d) := by
  unfold Engine.drain
  dsimp only
  split
  · exact .refl _ d
  · have stepped (n : Map Nat) : Only [.cls] d { d with cls := { d.cls with drainAt := n } } := .intro rfl
    split
    · exact ((stepped _).trans (h _ _)).comp (countPlaced_only _ _ _)
    · exact (stepped _).mono

theorem stashDrain_only (die : Nat) (d : Dev) : Only [.cls, .cnt] d (stashDrain die d) := by
  refine .ite (fun _ => .refl _ d) fun _ => ?_
  exact ((((macEngine die d).drain_only _ (fun _ _ => .intro rfl) d).trans ((sciEngine die _).drain_only _ (fun _ _ => .intro rfl) _)).trans
    ((pfxEngine false die _).drain_only _ (fun _ _ => .intro rfl) _)).trans ((pfxEngine true die _).drain_only _ (fun _ _ => .intro rfl) _)

theorem sieveUp_only (die k : Nat) (d : Dev) : Only [.cls, .cnt] d (sieveUp die k d) := by
  have stored (m : Map Nat) : Only [.cls] d { d with cls := { d.cls with sieve := m } } := .intro rfl
  exact .ite (fun _ => .ite (fun _ => (stored _).comp (bump_only _ _ _ _)) (fun _ => (stored _).mono)) (fun _ => .refl _ d)

theorem sieveDown_only (k : Nat) (d : Dev) : Only [.cls, .cnt] d (sieveDown k d) :=
  .ite (fun _ => .refl _ d) (fun _ => .ite (fun _ => .intro rfl) (fun _ => .intro rfl))

theorem pfxApply_only (v6 : Bool) (k : Nat) (e : PfxEntry) (d : Dev) : Only [.cls, .cnt] d (pfxApply v6 k e d) := by
  have stored (m : Map PfxEntry) : Only [.cls, .cnt] d (setPfxMap v6 m d) := .intro rfl
  unfold pfxApply
  dsimp only
  split
  · exact .refl _ d
  · exact (stored _).trans (.ite (fun _ => .refl _ _) (fun _ => (sieveDown_only _ _).trans (sieveDown_only _ _)))
  · exact (stored _).trans (.ite (fun _ => .refl _ _) (fun _ => (sieveUp_only _ _ _).trans (sieveUp_only _ _ _)))
  · exact stored _

theorem prefixWriteApply_only (die : Nat) (d : Dev) : Only [.cls, .cnt] d (prefixWriteApply die d) :=
  (Only.foldl (fun d (e : Nat × PfxEntry) => pfxApply_only false e.1 e.2 d) _ d).trans
    (Only.foldl (fun d (e : Nat × PfxEntry) => pfxApply_only true e.1 e.2 d) _ _)

theorem sweeperClamp_only (die : Nat) (d : Dev) : Only [.cls, .cnt] d (sweeperClamp die d) :=
  .ite (fun _ => .refl _ d) (fun _ => .intro rfl)

theorem unifyPropagate_only (die : Nat) (d : Dev) : Only [.cls, .cnt] d (unifyPropagate die d) := by
  have emptied (l : Map (List LogEv)) : Only [.cls, .cnt] d { d with cls := { d.cls with logs := l } } := .intro rfl
  have posted (k : Nat) (ev : LearnEv) (d : Dev) : Only [.cls, .cnt] d (postEngine k ev d) := .intro rfl
  exact .ite (fun _ => .refl _ d) fun _ => (emptied _).trans (Only.foldl (fun d _ => Only.foldl (fun d k => posted k _ d) _ d) _ _)

theorem pinExpiry_only (die : Nat) (d : Dev) : Only [.cls, .time, .obs] d (pinExpiry die d) := by
  unfold pinExpiry
  refine .ite (fun _ => .refl _ d) fun _ => ?_
  split
  · exact .refl _ d
  next w _ =>
    have waited : Only [.time, .obs] d (if w = 0 then d else
        waitUntil ((d.time.grand / (1000000 * unitsPerNs) + w) * 1000000 * unitsPerNs) d) :=
      .ite (fun _ => .refl _ d) (fun _ => waitUntil_only _ d)
    have stored (m : Map MacEntry) (e : Dev) : Only [.cls] e (setMacMap m e) := .intro rfl
    exact waited.comp (stored _ _)

theorem learnTimeRebase_only (d : Dev) : Only [.cls, .time, .obs] d (learnTimeRebase d) := .intro rfl

theorem agingSweep_only (die : Nat) (d : Dev) : Only [.cls, .twin, .cnt, .time, .obs] d (agingSweep die d) := by
  refine .ite (fun _ => .refl _ d) fun _ => ?_
  have noted (m : Map Nat) (e : Dev) : Only [.cls] e { e with cls := { e.cls with sweptAt := m } } := .intro rfl
  exact ((waitLine_only (sweepDue die d) d).comp (noted _ _) (n := [.cls, .twin, .cnt, .time, .obs])).andThen
    (Only.foldl (fun d (e : Nat × MacEntry) => ageVisit_only e.1 e.2 d) _ _)

/-! ### Ports and lanes (R378, R388) -/

theorem skipStep_only (l : Nat) (w : LaneWindow) (d : Dev) : Only [.port, .cnt, .out] d (skipStep l w d) := by
  unfold skipStep
  extract_lets x fill n e
  have sent : Only [.out] d e := .ite (fun _ => emit_only _ d) (fun _ => .refl _ d)
  clear_value e
  have held (f : Int) : Only [.out, .port] d (setLaneSt l { x with fill := f } e) := sent.comp (setLaneSt_only _ _ _)
  exact .ite (fun _ => (held _).comp (bumpBy_only _ _ _ _ _)) (fun _ => (held _).comp (bumpBy_only _ _ _ _ _))

theorem elasticStep_only (l : Nat) (w : LaneWindow) (d : Dev) : Only [.port, .cnt] d (elasticStep l w d) := by
  have held (x : LaneSt) : Only [.port] d (setLaneSt l x d) := setLaneSt_only _ _ _
  exact .ite (fun _ => (held _).mono) fun _ => .ite (fun _ => (held _).mono) fun _ =>
    .ite (fun _ => (held _).comp (bumpBy_only _ _ _ _ _)) (fun _ => (held _).comp (bumpBy_only _ _ _ _ _))

theorem adaptWindow_only (l : Nat) (w : LaneWindow) (d : Dev) : Only [.port, .cnt, .out] d (adaptWindow l w d) := by
  unfold adaptWindow
  refine .ite (fun _ => .refl _ d) fun _ => ?_
  have counted : Only [.port, .cnt, .out] d
      (bumpBy .lane l 1 w.disparityErrors (bumpBy .lane l 0 w.symbolErrors (adaptStep l w.idleCodes w.codes d))) :=
    ((adaptStep_parts l w.idleCodes w.codes d).2.1.comp (bumpBy_only _ _ _ _ _)).andThen (bumpBy_only _ _ _ _ _)
  dsimp only
  generalize bumpBy .lane l 1 w.disparityErrors (bumpBy .lane l 0 w.symbolErrors (adaptStep l w.idleCodes w.codes d)) = e at *
  refine .ite (fun _ => ?_) (fun _ => counted.andThen (elasticStep_only l w e))
  have skipped := counted.trans (skipStep_only l w e)
  exact .ite (fun _ => skipped.andThen (skipLoss_only l _)) (fun _ => skipped)

theorem trainingFrame_only (l : Nat) (req : TapRequest) (trained : Bool) (d : Dev) :
    Only [.port, .free, .out] d (trainingFrame l req trained d) := by
  refine .ite (fun _ => .refl _ d) fun _ => ?_
  have set (taps : List Int) (e : Dev) (st : List (BitVec 8)) : Only [.port, .out] e (emit (.lane l st)
      (setLaneSt l { laneSt l e with taps := taps, trained := trained, signal := true, cdr := true } e)) :=
    (setLaneSt_only _ _ _).comp (emit_only _ _)
  cases req.preset with
  | none => exact (set _ d _).mono
  | some n => exact (presetTaps_only l d).comp (set _ (presetTaps l d).2 _)

theorem signalLoss_only (p cause : Nat) (d : Dev) : Only [.port, .cnt] d (signalLoss p cause d) := by
  unfold signalLoss
  extract_lets x e f
  refine .ite (fun _ => .refl _ d) fun _ => ?_
  have down : Only [.port] d f := (setPortSt_only _ _ _).trans (onLanes_only _ _ _)
  clear_value f
  exact .ite (fun _ => down.mono) (fun _ => down.comp (bumpLanes_only _ _ _))

theorem signalRestored_only (p : Nat) (d : Dev) : Only [.port, .cnt] d (signalRestored p d) :=
  .ite (fun _ => .refl _ d) fun _ => ((setPortSt_only _ _ _).trans (onLanes_only _ _ _)).mono

/-! ### Twins (R407, R410) -/

theorem yoyoSend_only (d : Dev) : Only [.twin, .out] d (yoyoSend d) := .ite (fun _ => .intro rfl) (fun _ => .refl _ d)

theorem rxStateSend_only (d : Dev) : Only [.twin, .out] d (rxStateSend d) :=
  .ite (fun _ => .refl _ d) fun _ => (Only.foldl (fun d (e : Nat × SaSlot) => twinPost_only _ d) _ d).mono

theorem recordQueue_only (b : TwinBody) (d : Dev) : Only [.twin, .time, .obs] d (recordQueue b d) :=
  (waitTicks_only _ d).comp (.intro rfl : Only [.twin] _ _)

theorem recordSend_only (d : Dev) : Only [.twin, .out, .time, .obs] d (recordSend d) := by
  unfold recordSend
  refine .ite (fun _ => .refl _ d) fun _ => ?_
  have followed : Only [.twin] d (if fwRuns d then followState d else d) :=
    .ite (fun _ => (followState_parts d).1) (fun _ => .refl _ d)
  dsimp only
  generalize (if fwRuns d then followState d else d) = e at *
  split
  · exact followed.mono
  next b _ =>
    have queued := recordQueue_only b e
    generalize recordQueue b e = f at *
    exact (followed.comp queued).andThen (.intro rfl : Only [.twin, .out] _ _)

theorem beatMissed_only (n : Nat) (d : Dev) : Only [.twin, .cnt] d (beatMissed n d) := .intro rfl

theorem heartbeatMiss_only (d : Dev) : Only [.time, .obs, .twin, .host, .cnt, .out] d (heartbeatMiss d) := by
  by_cases hp : paired d = true
  · obtain ⟨data, eq⟩ := heartbeatMiss_eq hp rfl
    rw [eq]
    have waited := waitTicks_only (d.twin.heard + ticksUs 10 * (d.twin.missed + 1)) d
    generalize waitTicks (d.twin.heard + ticksUs 10 * (d.twin.missed + 1)) d = e at *
    have missed : Only [.time, .obs, .twin, .cnt] d (beatMissed (d.twin.missed + 1) e) := waited.comp (beatMissed_only _ e)
    generalize beatMissed (d.twin.missed + 1) e = f at *
    have suspected : Only [.twin, .cnt] f (twinEnter .suspect (bump .twin 0 1 f)) :=
      (bump_only _ _ _ f).comp (.intro rfl : Only [.twin] _ _)
    generalize twinEnter .suspect (bump .twin 0 1 f) = g at *
    exact .ite (fun _ => (missed.andThen suspected).comp (notify_only _ _ _ g)) (fun _ => missed.mono)
  · exact .ite (fun _ => .refl _ d) (fun due => absurd (by simpa using hp) due)

/-- Settles O60, event by event. -/
theorem eventsKeepToTheirUnits : Obligations.EventsKeepToTheirUnits := by
  intro s d hd
  refine ⟨fun p c hc => ?_, fun die => ?_, fun die => ?_, fun die => ?_, fun die => ?_, ?_, fun h => ?_, fun die k c hc => ?_,
    fun r c hc => ?_, fun die c hc => ?_, fun die c hc => ?_, fun die => ?_, fun lane i => ?_, fun lane req b => ?_, fun p c hc => ?_,
    fun c hc => ?_, ?_, ?_⟩
  · simp only [List.mem_cons, List.not_mem_nil, or_false] at hc
    rcases hc with rfl | rfl | rfl
    · exact ⟨_, _, _, _, _, _, onDev_only hd (gateChange_only _ d)⟩
    · exact ⟨_, _, _, _, _, _, onDev_only (l := gateParts) hd (gateEvent_only _ d).mono⟩
    · exact ⟨_, _, _, _, _, _, onDev_only (l := gateParts) hd (gateRestart_only _ d).mono⟩
  · exact ⟨_, _, onDev_only hd (refillDie_parts die.val d).1⟩
  · exact ⟨_, onDev_only hd (sfqIdleSweep_parts die.val d).1⟩
  · exact ⟨_, _, _, _, onDev_only hd (residueEnter_only die.val d)⟩
  · exact ⟨_, _, _, _, onDev_only hd (residueExpiry_only die.val d)⟩
  · exact ⟨_, _, _, onDev_only hd (whiskMatch_only d)⟩
  · exact ⟨_, _, _, _, _, onDev_only hd (queueFlushComplete_only h d)⟩
  · simp only [List.mem_cons, List.not_mem_nil, or_false] at hc
    rcases hc with rfl | rfl | rfl
    · exact ⟨_, _, _, _, _, _, _, onDev_only (l := stockpotParts) hd (spillReadback_only die.val k d).mono⟩
    · exact ⟨_, _, _, _, _, _, _, onDev_only (l := stockpotParts) hd (eggReadback_only die.val d).mono⟩
    · exact ⟨_, _, _, _, _, _, _, onDev_only (l := stockpotParts) hd (stockpotBlockWrite_only d).mono⟩
  · simp only [List.mem_cons, List.not_mem_nil, or_false] at hc
    rcases hc with rfl | rfl | rfl
    · exact ⟨_, _, onDev_only hd (regionRebuild_only r.val d)⟩
    · exact ⟨_, _, onDev_only hd (rekeyTrigger_only r.val d)⟩
    · exact ⟨_, _, onDev_only hd (rekeyStart_only d)⟩
  · simp only [List.mem_cons, List.not_mem_nil, or_false] at hc
    rcases hc with rfl | rfl | rfl | rfl
    · exact ⟨_, _, onDev_only hd (stashDrain_only die.val d)⟩
    · exact ⟨_, _, onDev_only hd (prefixWriteApply_only die.val d)⟩
    · exact ⟨_, _, onDev_only hd (sweeperClamp_only die.val d)⟩
    · exact ⟨_, _, onDev_only hd (unifyPropagate_only die.val d)⟩
  · simp only [List.mem_cons, List.not_mem_nil, or_false] at hc
    rcases hc with rfl | rfl
    · exact ⟨_, _, _, onDev_only hd (pinExpiry_only die.val d)⟩
    · exact ⟨_, _, _, onDev_only hd (learnTimeRebase_only d)⟩
  · exact ⟨_, _, _, _, _, onDev_only hd (agingSweep_only die.val d)⟩
  · exact ⟨_, _, _, onDev_only hd (adaptWindow_only _ i d)⟩
  · exact ⟨_, _, _, onDev_only hd (trainingFrame_only _ req b d)⟩
  · simp only [List.mem_cons, List.not_mem_nil, or_false] at hc
    rcases hc with rfl | rfl | rfl | rfl
    · exact ⟨_, _, onDev_only hd (signalLoss_only (portNum p) 1 d)⟩
    · exact ⟨_, _, onDev_only hd (signalLoss_only (portNum p) 2 d)⟩
    · exact ⟨_, _, onDev_only hd (signalLoss_only (portNum p) 3 d)⟩
    · exact ⟨_, _, onDev_only hd (signalRestored_only (portNum p) d)⟩
  · simp only [List.mem_cons, List.not_mem_nil, or_false] at hc
    rcases hc with rfl | rfl
    · exact ⟨_, _, onDev_only hd (yoyoSend_only d)⟩
    · exact ⟨_, _, onDev_only hd (rxStateSend_only d)⟩
  · exact ⟨_, _, _, _, onDev_only hd (recordSend_only d)⟩
  · exact ⟨_, _, _, _, _, _, onDev_only hd (heartbeatMiss_only d)⟩

end Sys2Proof.Machine
end

section
/-! The queue of commands, and the state that reset leaves (R68, R140, R265, R270, R323, R390, R410, R457). -/
namespace Sys2Proof.Machine

set_option Elab.async false

theorem step_of_pending {c : Instr} {rest : List Instr} {s : State} (h : s.pending = c :: rest) :
    step s = exec c { s with pending := rest } := by
  unfold step
  rw [h]

theorem step_of_empty {s : State} (h : s.pending = []) : step s = .next (idle s) := by
  unfold step
  rw [h]

/-- Settles O1: the front command runs on the rest of the queue. -/
theorem stepRunsTheFrontCommand : Obligations.StepRunsTheFrontCommand :=
  fun _ _ _ => ⟨step_of_pending rfl, step_of_pending⟩

/-- Settles O2: the values of reset are read off, and an idle step is one tick of the block. -/
theorem resetAndIdle : Obligations.ResetAndIdle := by
  refine ⟨rfl, rfl, rfl, rfl, rfl, rfl, rfl, rfl, rfl, rfl, rfl, rfl, rfl, rfl, rfl, fun _ => rfl, fun _ => rfl, fun _ => rfl,
    fun _ => rfl, reset_memory_wf, fun s hs => ⟨idle s, step_of_empty hs, hs, rfl, ?_⟩⟩
  have ticked := elapse_only 1 { s.dev with out := [] }
  exact ⟨ticked.cnt, ticked.host, ticked.vault, ticked.prot, ticked.que, elapse_elapsed 1 { s.dev with out := [] }⟩

end Sys2Proof.Machine
end
